-- ==== Sys2Proof/Word.lean ====
section
/-! DEFINITION. The words of the ZFN-9616, its index types, and tables of a fixed number of like things. -/

namespace Sys2Proof

/-- One byte. -/
abbrev Byte := BitVec 8
/-- One dword: 32 bits, the unit of packets, descriptors and completions. -/
abbrev Dword := BitVec 32
/-- One 64-bit register. -/
abbrev Word := BitVec 64
/-- A time or a duration in ticks of the 64-bit time base (R49, R60). -/
abbrev Tick := BitVec 64
/-- A tagged address (R27). -/
abbrev Addr := BitVec 64
/-- A tenant number, 0 to 15 (R179). -/
abbrev TenantId := BitVec 4
/-- A physical channel number; the device has 0 to 95 (R181). -/
abbrev ChanId := BitVec 7
/-- A logical stagehand, SH0 to SH11 (R427). -/
abbrev ShId := BitVec 4
/-- A physical stagehand unit, 0 to 13. -/
abbrev UnitId := BitVec 4
/-- An act, ACT0 to ACT15. -/
abbrev ActId := BitVec 4
/-- A cue, 0 to 1023. -/
abbrev CueId := BitVec 10
/-- A stream endpoint, 0 to 63. -/
abbrev EpId := BitVec 6
/-- A multi-function pin; the device has MFP0 to MFP47. -/
abbrev PinId := BitVec 6
/-- A queue number local to a tenant: SQ 0 to 64, CQ 0 to 32 (R262). -/
abbrev QueueId := BitVec 7

/-- A table with one entry for every value of a `w`-bit index. -/
abbrev Tbl (w : Nat) (α : Type) := Vector α (2 ^ w)

namespace Tbl
variable {w : Nat} {α : Type}

/-- The table that holds `x` everywhere. -/
def fill (w : Nat) (x : α) : Tbl w α := Vector.replicate (2 ^ w) x

/-- The entry of index `i`. -/
def look (t : Tbl w α) (i : BitVec w) : α := t[i.toNat]'i.isLt

/-- The table with `x` at index `i`. -/
def put (t : Tbl w α) (i : BitVec w) (x : α) : Tbl w α := t.set i.toNat x i.isLt

/-- The table with the entry of index `i` changed by `f`. -/
def upd (t : Tbl w α) (i : BitVec w) (f : α → α) : Tbl w α := t.put i (f (t.look i))

end Tbl

/-- All values of a `w`-bit index below `n`, in ascending order. -/
def indices (w n : Nat) : List (BitVec w) := (List.range n).map (BitVec.ofNat w)

/-- Bit `i` of a word as a Bool. -/
def bitAt {n : Nat} (x : BitVec n) (i : Nat) : Bool := x.getLsbD i

/-- A Bool as a one-bit field value. -/
def flag (b : Bool) : Nat := if b then 1 else 0

/-- The bits [hi:lo] of a word, as a number. -/
def field {n : Nat} (x : BitVec n) (hi lo : Nat) : Nat := (x.toNat / 2 ^ lo) % 2 ^ (hi + 1 - lo)

/-- A mask of the bits [hi:lo] of an `n`-bit word. -/
def maskBits (n hi lo : Nat) : BitVec n := BitVec.ofNat n ((2 ^ (hi + 1 - lo) - 1) * 2 ^ lo)

/-- The signed value of a word. -/
def signed {n : Nat} (x : BitVec n) : Int := x.toInt

/-- A 32-bit step sign-extended to an address (R315). -/
def sext (x : Dword) : Word := x.signExtend 64

/-- The low dword of a 64-bit word. -/
def lo32 (x : Word) : Dword := x.truncate 32
/-- The high dword of a 64-bit word. -/
def hi32 (x : Word) : Dword := (x >>> 32).truncate 32
/-- A 64-bit word from its low and high dwords; the low dword comes first in memory (R135). -/
def join64 (lo hi : Dword) : Word := (hi.zeroExtend 64 <<< 32) ||| lo.zeroExtend 64

/-- The `n` little-endian bytes of a number. -/
def leBytes : Nat → Nat → List Byte
  | 0, _ => []
  | n + 1, x => BitVec.ofNat 8 x :: leBytes n (x / 256)

/-- The number that a list of little-endian bytes spells. -/
def ofLeBytes : List Byte → Nat
  | [] => 0
  | b :: bs => b.toNat + 256 * ofLeBytes bs

/-- Addition that stops at the largest value of the field (a saturating counter). -/
def satAdd {n : Nat} (x : BitVec n) (k : Nat) : BitVec n :=
  BitVec.ofNat n (min (x.toNat + k) (2 ^ n - 1))

/-- `t` is in the future of `n` by serial-number arithmetic: (t - n) mod 2^64 lies in 1 to 2^63 - 1 (R60). -/
def future (t n : Tick) : Bool := let d := (t - n).toNat; 0 < d && d < 2 ^ 63

/-- `t` is in the future of `n` by at least `k` ticks (R72, R94, R164). -/
def futureBy (k : Nat) (t n : Tick) : Bool := let d := (t - n).toNat; k ≤ d && d < 2 ^ 63 && 0 < d

/-- `t` is now or past at time `n`: an event commanded for `t` is due (R60). -/
def due (t n : Tick) : Bool := !future t n

/-- Element `i` of a list, or a default where the list is shorter. -/
def nth {α : Type} (l : List α) (i : Nat) (d : α) : α := (l[i]?).getD d

/-- Dword `i` of a list of bytes, little-endian; bytes beyond its end count as zero. -/
def dwordAt (bs : List Byte) (i : Nat) : Dword :=
  BitVec.ofNat 32 (ofLeBytes ((bs.drop (4 * i)).take 4))

/-- The bytes of a list of dwords, each little-endian. -/
def dwordBytes (l : List Dword) : List Byte := l.flatMap fun d => leBytes 4 d.toNat

/-- The first element of a list that satisfies a test, with its position. -/
def findIdx {α : Type} (p : α → Bool) : List α → Option (Nat × α)
  | [] => none
  | x :: xs => if p x then some (0, x) else (findIdx p xs).map fun q => (q.1 + 1, q.2)

end Sys2Proof
end

