-- ==== Sys2Proof/Syntax.lean ====
section
/-! DEFINITION. The commands and events of the ZFN-9616: one constructor of `Instr` per row of the table, and the operands that come with them. -/

namespace Sys2Proof

/-- A host port. -/
inductive HostPort where
  | hp0
  | hp1
  deriving DecidableEq, Repr

/-- The port through which a register access arrives (R134, R142). -/
inductive Via where
  | hp0
  | hp1
  | house
  deriving DecidableEq, Repr

/-- A register page: the page of a tenant, or the device page (R126). -/
inductive Page where
  | tenant (t : TenantId)
  | device
  deriving DecidableEq, Repr

/-- A source of commands: the admin queue of a tenant, or the House mailbox (R221). -/
inductive Source where
  | tenant (t : TenantId)
  | house
  deriving DecidableEq, Repr

/-- What a memory code finds on a read: nothing; erroneous symbols of the two codewords of a DRAM line, as device positions with their number of symbols (R533, R534); a single-bit error in a byte lane of an SRAM word; another non-zero syndrome in a lane, or in several (R528). Or what the code has to judge: the bytes of an SRAM word with their stored check bits, as the array returned them (R527); or the contents of another word (R529). -/
inductive Ecc where
  | clean
  | symbols (cw0 cw1 : List (BitVec 5 × BitVec 2))
  | single (lane : BitVec 3)
  | other (lane : BitVec 3)
  | others (lanes : BitVec 8)
  | stored (lanes : List (Byte × BitVec 5))
  | wrongWord (word : BitVec 20)
  deriving DecidableEq, Repr

/-- The cause of a failed external access, by the codes of the CAUSE table of R470. -/
inductive BusCause where
  | timeout
  | unsupported
  | abort
  | linkDown
  | lbReady
  deriving DecidableEq, Repr

/-- How an access that left the device ended. -/
inductive Ended where
  | good
  | failed (c : BusCause)
  | uncorrectable
  | poisoned
  deriving DecidableEq, Repr

/-- The bytes that a command's own read of external memory or of the mailbox brought (R197, R251). -/
structure Body where
  ended : Ended
  bytes : List Byte
  deriving DecidableEq, Repr

/-- A 64-byte command packet with its sender and the body that comes with it (R227, R229). -/
structure Packet where
  src : Source
  dw : Vector Dword 16
  body : Body
  deriving DecidableEq, Repr

/-- A register write: the port, the page, the byte offset within the 256 KiB page, the size and the value. -/
structure RegWrite where
  via : Via
  page : Page
  off : BitVec 18
  eight : Bool
  data : Word
  /-- The access has another size than 4 or 8 bytes, or byte enables that are not all set (R131). -/
  odd : Bool := false
  deriving DecidableEq, Repr

/-- A register read. -/
structure RegRead where
  via : Via
  page : Page
  off : BitVec 18
  eight : Bool
  /-- As for a write. -/
  odd : Bool := false
  deriving DecidableEq, Repr

/-- A host memory access through BAR2 or BAR4 (R654): offset within the BAR, the bytes of a write with their enables or the length of a read, and whether the TLP of a write arrived poisoned (R664). -/
structure BarAccess where
  port : HostPort
  off : BitVec 60
  write : Bool
  bytes : List Byte
  enables : List Bool
  len : Nat
  poisoned : Bool
  ecc : Ecc
  deriving DecidableEq, Repr

/-- A PCI Express configuration request (R650). -/
structure CfgRequest where
  port : HostPort
  write : Bool
  reg : BitVec 10
  data : Dword
  enables : BitVec 4
  /-- The bus, device and function number that the request addresses. -/
  dest : BitVec 16
  deriving DecidableEq, Repr

/-- Status of a completion received for a device read (R663, R471). -/
inductive CplStatus where
  | success
  | unsupported
  | completerAbort
  | poisoned
  deriving DecidableEq, Repr

/-- A target whose write arrival is proven separately (R475). -/
inductive ProofTarget where
  | wing
  | dc0
  | dc1
  | hp0
  | hp1
  | lb (cs : BitVec 2)
  deriving DecidableEq, Repr

/-- A converter link: four RX and four TX (R688). -/
inductive ConvLink where
  | rx (n : BitVec 2)
  | tx (n : BitVec 2)
  deriving DecidableEq, Repr

/-- An output whose pulse ends (R70, R72, R695, R784). -/
inductive PulseOutput where
  | pps
  | strobe (n : BitVec 3)
  | sysref
  | done (p : PinId)
  deriving DecidableEq, Repr

/-- What makes up an RX unit: the bytes of a converter frame, or what a TDM port sees on its data pin from the start of a frame on, bit by bit, at the rising and at the falling edges of the bit clock (R731, R741). -/
inductive RxUnit where
  | bytes (l : List Byte)
  | wire (rise fall : List Bool)
  deriving DecidableEq, Repr

/-- Which of the writes that are out completes: the oldest, or the oldest of a proof target or of the stream endpoints. Writes to different targets keep no mutual order (R481). -/
inductive LandAt where
  | oldest
  | target (t : ProofTarget)
  | stream
  deriving DecidableEq, Repr

/-- What a fault of a stagehand unit brings: the unit, and the occupants whose staging data the copy from it finds uncorrectable (R581). -/
structure UnitFault where
  unit : UnitId
  stale : List ChanId := []
  deriving DecidableEq, Repr

/-- A kind of write that completes at its target (R540). -/
inductive WriteKind where
  | channel (c : ChanId) (land : LandAt)
  | completion (land : LandAt)
  deriving DecidableEq, Repr

/-- What the outside and the silicon bring to a start-up step (R622): whether the step's own action succeeds, the strap levels MFP47 to MFP44, which structures of the prompt book are readable, the result of training each DRAM channel, and the failing checkers. -/
structure StartupInput where
  good : Bool
  straps : BitVec 4
  bootRecordOk : Bool
  remapOk : Bool
  calibrationOk : Bool
  imagesOk : Bool
  /-- What training finds on each channel, in the layout of MEM_GEOMn (R756): TWO_RANKS and DENSITY_16, and where a position fails a step its CAUSE and POSITION, with its rank in bit 5. -/
  geom0 : Dword
  geom1 : Dword
  /-- DEV_SELFCHECK bits [13:2] that the checker self-test sets (R563). -/
  selfCheck : BitVec 12
  deriving DecidableEq, Repr

/-- A command from outside, or an event of the block. -/
inductive Instr where
  /-- IDENTIFY (R821): Command that writes the 128-byte identity record to RESULT_ADDR. -/
  | identify (p : Packet)
  /-- GET_STATE (R822): Command that returns the device state, power state, time flags and PROT_EPOCH in its completion. -/
  | getState (p : Packet)
  /-- SET_FEATURE (R823): Command that writes a tenant feature value and returns the previous value. -/
  | setFeature (p : Packet)
  /-- GET_FEATURE (R823): Command that returns a tenant or device feature value. -/
  | getFeature (p : Packet)
  /-- ECHO (R824): Command that returns its two pattern words unchanged. -/
  | echo (p : Packet)
  /-- ABORT_COMMAND (R246): Command that aborts the oldest abortable long command in service that carries the target tag and reports the outcome. -/
  | abortCommand (p : Packet)
  /-- CREATE_CQ (R826): Command that creates a work completion queue, or re-creates a faulted one in place. -/
  | createCq (p : Packet)
  /-- CREATE_SQ (R827): Command that creates a work submission queue naming a CQ and a prefetch depth. -/
  | createSq (p : Packet)
  /-- DELETE_SQ (R828): Command that removes an unbound submission queue and discards its published entries. -/
  | deleteSq (p : Packet)
  /-- DELETE_CQ (R828): Command that removes a completion queue that no SQ names. -/
  | deleteCq (p : Packet)
  /-- BIND_CHANNEL (R829): Command that binds an UNBOUND channel in QUEUE, SCRIPT or SHADOW mode, zeroing its mode area and making it IDLE. -/
  | bindChannel (p : Packet)
  /-- UNBIND_CHANNEL (R830): Command that makes an IDLE or STOPPED channel UNBOUND and discards its context. -/
  | unbindChannel (p : Packet)
  /-- CHANNEL_CONFIG (R831): Command that writes the named groups of channel fields in both copies at one edge. -/
  | channelConfig (p : Packet)
  /-- CHANNEL_START (R833): Command that starts or resumes a channel, making it RUNNING or ARMED. -/
  | channelStart (p : Packet)
  /-- CHANNEL_STOP (R457): Command that makes a channel STOPPING until its next boundary of the stop kind. -/
  | channelStop (p : Packet)
  /-- CHANNEL_DRAIN (R457): Command that makes a channel STOPPING until its queue, script or shadow sets are drained. -/
  | channelDrain (p : Packet)
  /-- CHANNEL_RESET (R464): Command that cuts a channel at any beat, proves its writes, discards held completions and returns it to IDLE. -/
  | channelReset (p : Packet)
  /-- CHANNEL_STATUS (R837): Command that writes a 128-byte record of a channel sampled at one edge. -/
  | channelStatus (p : Packet)
  /-- CUE_ALLOC (R839): Command that allocates a cue, sets its initial count and optionally declares its signaller. -/
  | cueAlloc (p : Packet)
  /-- CUE_FREE (R840): Command that zeroes a cue, removes its declared signaller and frees it. -/
  | cueFree (p : Packet)
  /-- CUE_SET (R841): Command that sets, adds to or subtracts from a cue count at one edge and then grants waiters. -/
  | cueSet (p : Packet)
  /-- PROP_POOL_CONFIG (R448): Command that sets the prop room base, prop size and count. -/
  | propPoolConfig (p : Packet)
  /-- ACT_CONFIG (R843): Command that writes the configuration of a stopped act in both copies at once. -/
  | actConfig (p : Packet)
  /-- ACT_START (R94): Command that starts the acts of a mask at one CLK_TB edge. -/
  | actStart (p : Packet)
  /-- ACT_STOP (R845): Command that stops the running acts of a mask at one CLK_TB edge. -/
  | actStop (p : Packet)
  /-- STREAM_CONFIG (R852): Command that writes EP_CFGn or EP_SILENCEn of an endpoint in both copies. -/
  | streamConfig (p : Packet)
  /-- LINK_UP (R855): Command that checks a converter link or TDM port configuration and starts its training. -/
  | linkUp (p : Packet)
  /-- LINK_DOWN (R713): Command that takes a converter link or TDM port DOWN within 2 µs. -/
  | linkDown (p : Packet)
  /-- PIN_ASSIGN (R775): Command that writes and applies one PIN_MUX entry with its owner and completes after the settle period. -/
  | pinAssign (p : Packet)
  /-- PROTECT_PROPOSE (R196): Command that validates a protection map proposal, holds it and returns a nonce and digest. -/
  | protectPropose (p : Packet)
  /-- PROTECT_COUNTERSIGN (R202): Command that judges a countersign against the held proposal and commits it. -/
  | protectCountersign (p : Packet)
  /-- PROTECT_WITHDRAW (R208): Command that discards the held proposal whose nonce it carries. -/
  | protectWithdraw (p : Packet)
  /-- PROTECT_READ (R862): Command that returns bytes of the map in force or of the held proposal. -/
  | protectRead (p : Packet)
  /-- POWER_STATE (R602): Command that names a target power state and reports the state that is permitted. -/
  | powerState (p : Packet)
  /-- MEM_LOG_READ (R864): Command that returns records of the volatile error ring or the persistent summary. -/
  | memLogRead (p : Packet)
  /-- RETIRE_PAGE (R557): Command that starts the retirement of a DRAM page or Wing SRAM bank to a spare. -/
  | retirePage (p : Packet)
  /-- MARK_CHIP (R536): Command that marks or clears a failed DRAM device position of a rank. -/
  | markChip (p : Packet)
  /-- SCRUB_CONFIG (R867): Command that sets the DRAM scrub period and CE_LIMIT in both copies. -/
  | scrubConfig (p : Packet)
  /-- SCRUB_NOW (R553): Command that starts an immediate scrub of a DRAM or Wing SRAM range. -/
  | scrubNow (p : Packet)
  /-- RUN_BIST (R569): Command that starts a self-test of the full device, a stagehand unit, the spare bank, the checkers or the trace buffer. -/
  | runBist (p : Packet)
  /-- BIST_RESULT (R870): Command that returns the newest self-test record of a target and unit. -/
  | bistResult (p : Packet)
  /-- TRACE_CONFIG (R871): Command that writes TRACE_CTRL in both copies at one edge. -/
  | traceConfig (p : Packet)
  /-- TRACE_READ (R801): Command that returns live or persisted trace records. -/
  | traceRead (p : Packet)
  /-- TIME_SET (R62): Command that steps the time base immediately or arms a step at the next PPS_IN edge. -/
  | timeSet (p : Packet)
  /-- TIME_ADJUST (R66): Command that sets the frequency trim and/or starts a phase slew. -/
  | timeAdjust (p : Packet)
  /-- TIME_CAPTURE (R875): Command that writes the newest stamp and sequence of a capture source as one record. -/
  | timeCapture (p : Packet)
  /-- PATCH_STAGE (R637): Command that writes a patch image chunk and at FINAL checks format, signature and version. -/
  | patchStage (p : Packet)
  /-- PATCH_ACTIVATE (R639): Command that proposes a patch set for two-party activation. -/
  | patchActivate (p : Packet)
  /-- PATCH_LIST (R878): Command that writes the patch slot record with states, versions and hashes. -/
  | patchList (p : Packet)
  /-- CONFIG_SNAPSHOT (R633): Command that samples the configuration and writes it to a prompt-book snapshot slot. -/
  | configSnapshot (p : Packet)
  /-- CONFIG_RESTORE (R634): Command that judges a snapshot and installs it at one edge as the first commit. -/
  | configRestore (p : Packet)
  /-- MOVE (R315): MOVE descriptor taken by a channel, checked and run through three nested address loops. -/
  | move (c : ChanId)
  /-- RUN_SCRIPT (R309): RUN_SCRIPT descriptor that runs a script to its END as one descriptor. -/
  | runScript (c : ChanId)
  /-- FILL (R337): FILL descriptor that writes its 64-bit pattern to the destination elements. -/
  | fill (c : ChanId)
  /-- CUE (R338): CUE descriptor that proves earlier writes and signals its cue by one. -/
  | cue (c : ChanId)
  /-- CALL_CHAIN (R327): CALL_CHAIN descriptor that sends the channel into a chain of descriptors in memory. -/
  | callChain (c : ChanId)
  /-- LINK (R328): LINK chain entry that makes the next descriptor the one at its address. -/
  | link (c : ChanId)
  /-- SCRIPT_MOVE (R363): Script MOVE instruction that moves COUNT or K elements between pointer registers. -/
  | scriptMove (c : ChanId)
  /-- MOVE3 (R364): Script MOVE3 instruction that moves with counts and steps from a template. -/
  | move3 (c : ChanId)
  /-- NOP (R359): Script instruction with no effect. -/
  | nop (c : ChanId)
  /-- SETA (R368): Script instruction that loads a pointer register. -/
  | seta (c : ChanId)
  /-- ADDA (R368): Script instruction that adds an immediate or a counter to a pointer register. -/
  | adda (c : ChanId)
  /-- SETK (R368): Script instruction that loads a counter register. -/
  | setk (c : ChanId)
  /-- ADDK (R368): Script instruction that adds an immediate to a counter register. -/
  | addk (c : ChanId)
  /-- LOOP (R369): Script instruction that decrements a counter and branches while it is non-zero. -/
  | loop (c : ChanId)
  /-- BRANCH (R370): Script instruction that transfers control when its condition holds. -/
  | branch (c : ChanId)
  /-- END (R371): Script instruction that proves writes, optionally interrupts, and ends or restarts the script. -/
  | endScript (c : ChanId)
  /-- HALT (R373): Script instruction that records a code and fails the script with STOPPED. -/
  | halt (c : ChanId)
  /-- WAIT (R374): Script instruction that waits until a cue count covers COUNT and consumes it. -/
  | waitCue (c : ChanId)
  /-- WAITT (R379): Script instruction that waits until a time instant or the next period start. -/
  | waitt (c : ChanId)
  /-- SIGNAL (R381): Script instruction that proves writes and adds COUNT to a cue. -/
  | signal (c : ChanId)
  /-- FENCE (R382): Script instruction that waits until every earlier write of the channel is proven. -/
  | fence (c : ChanId)
  /-- TAKE (R383): Script instruction that allocates a prop or takes its fail target or waits. -/
  | take (c : ChanId)
  /-- GIVE (R385): Script instruction that frees a prop once its own bursts to it have completed. -/
  | give (c : ChanId)
  /-- STAMP (R386): Script instruction that writes an 8-byte time value at a pointer. -/
  | stamp (c : ChanId)
  /-- IRQ (R387): Script instruction that proves writes, records a code and sends the channel vector. -/
  | irq (c : ChanId)
  /-- WAIT_TIMEOUT (R375): Expiry of a WAIT timeout, taking its fail target or failing the script. -/
  | waitTimeout (c : ChanId)
  /-- TAKE_TIMEOUT (R384): Expiry of a blocking TAKE timeout, taking its fail target. -/
  | takeTimeout (c : ChanId)
  /-- WAITT_INSTANT (R379): Arrival of the instant a WAITT waits for, letting the script proceed. -/
  | waittInstant (c : ChanId)
  /-- SQ_TAIL_DOORBELL (R266): Write of a new SQ tail that publishes entries or faults the queue. -/
  | sqTailDoorbell (via : Via) (t : TenantId) (q : QueueId) (value : Dword)
  /-- CQ_HEAD_DOORBELL (R267): Write of a new CQ head that frees completion space or faults the queue. -/
  | cqHeadDoorbell (via : Via) (t : TenantId) (q : QueueId) (value : Dword)
  /-- SQ_ENTRY_FETCH (R272): Return of a published or speculative SQ entry read, used only when published with a matching OWN mark. -/
  | sqEntryFetch (t : TenantId) (q : QueueId) (idx : BitVec 16) (ended : Ended) (bytes : List Byte) (ecc : Ecc)
  /-- PERIOD_START (R103): Period start of an act reaching its bound channels, releasing ARMED scenes or becoming pending. -/
  | periodStart (a : ActId)
  /-- CURTAIN (R110): Fall of an armed curtain that truncates the scene, posts LATE completions and consumes the rest of the scene. -/
  | curtain (c : ChanId)
  /-- CALL_TIME (R119): Automatic wake ahead of the next period start of an act that needs the data path. -/
  | callTime
  /-- TIME_PACE_RELEASE (R446): Arrival of the PACE_TIME instant that releases a TIME-paced unit. -/
  | timePaceRelease (c : ChanId)
  /-- RATE_CREDIT (R79): Rate pacer accumulator reaching RATE_MOD and issuing one credit. -/
  | rateCredit (c : ChanId)
  /-- ADMISSION (R434): Admission of a candidate unit to a free holding slot of its stagehand. -/
  | admission (h : ShId)
  /-- BEAT (R437): Writing of one 16-byte beat for the highest-priority occupant with a ready beat. -/
  | beat (h : ShId)
  /-- READ_DATA_RETURN (R432): Arrival of source read data in an occupant's holding slot, or of its failure. -/
  | readDataReturn (c : ChanId) (ended : Ended) (bytes : List Byte) (ecc : Ecc)
  /-- RETRY (R472): Expiry of a retry backoff that reissues the failing burst or fails the unit. -/
  | retry (c : ChanId)
  /-- WRITE_ARRIVAL_READBACK (R475): Return of the read-back that proves arrival, followed by cue signal, completion and MSI-X. -/
  | writeArrivalReadback (c : ChanId) (target : Option ProofTarget) (ended : Ended) (bytes : List Byte) (ecc : Ecc)
  /-- STOP_TAKES_EFFECT (R458): A pending stop or drain reaching its boundary, making the channel STOPPED and completing the commands. -/
  | stopTakesEffect (c : ChanId)
  /-- SHADOW_SWAP (R411): Swap point of a SHADOW channel copying the armed shadow set into the active set, or underrunning. -/
  | shadowSwap (c : ChanId)
  /-- WATCHMAN_SCAN (R492): Periodic scan of the wait graph that finds minimal deadlocked sets. -/
  | watchmanScan
  /-- PROMPTER_STALL (R220): Watchdog expiry after 10 ms without a heartbeat, entering FAULTED. -/
  | prompterStall
  /-- CFG_CRC_PASS (R166): Completion of a configuration CRC pass over every scope, compared with its reference. -/
  | cfgCrcPass
  /-- PROPOSAL_EXPIRY (R209): End of a held proposal by expiry after earlier-stamped commands are processed. -/
  | proposalExpiry
  /-- UNLOCK (R141): Write to T_UNLOCK or DEV_UNLOCK that opens the page for one guarded write or counts a wrong key. -/
  | unlock (a : RegWrite)
  /-- UPDATE_STROBE (R157): T_UPDATE or DEV_UPDATE write that copies the pending copy of named groups to the active copy. -/
  | updateStrobe (a : RegWrite)
  /-- TIMED_STROBE_ARM (R162): T_UPDATE or DEV_UPDATE write with TIMED that arms a strobe at T_UPDATE_AT. -/
  | timedStrobeArm (a : RegWrite)
  /-- DISCARD (R161): T_UPDATE or DEV_UPDATE write with DISCARD that restores pending copies and disarms groups. -/
  | discard (a : RegWrite)
  /-- TIMED_STROBE_APPLY (R162): Arrival of the armed time, applying the timed update strobe. -/
  | timedStrobeApply (page : Page)
  /-- CFG_REF_WRITE (R172): Write of T_CFG_REF or DEV_CFG_REF that takes effect at once and clears FROZEN. -/
  | cfgRefWrite (a : RegWrite)
  /-- T_PROP_ALLOC (R452): Read of T_PROP_ALLOC that performs one prop request. -/
  | tPropAlloc (a : RegRead)
  /-- T_PROP_FREE (R452): Write of T_PROP_FREE that frees a prop at once. -/
  | tPropFree (a : RegWrite)
  /-- T_CUE_SET (R891): Write of T_CUE_SET that adds a count to a cue and grants waiters. -/
  | tCueSet (a : RegWrite)
  /-- TRACE_MARK (R802): Write of TRACE_MARK that raises a MARKER record. -/
  | traceMark (a : RegWrite)
  /-- SOFT_RESET (R620): House write of the key to DEV_SOFT_RESET that resets the device as RESET_N does. -/
  | softReset (a : RegWrite)
  /-- ADMIN_ENABLE (R232): Write of ENABLE 1 to T_ADMIN_SIZE that starts the admin queue pair or sets ADMIN_ERR. -/
  | adminEnable (a : RegWrite)
  /-- ADMIN_DISABLE (R233): Write of ENABLE 0 to T_ADMIN_SIZE that stops admin fetching. -/
  | adminDisable (a : RegWrite)
  /-- SHADOW_ARM (R407): Write of ARM 1 to SHADOW_CTRL that validates and arms the shadow set. -/
  | shadowArm (a : RegWrite)
  /-- SHADOW_DISARM (R408): Write of ARM 0 to SHADOW_CTRL that disarms the shadow set. -/
  | shadowDisarm (a : RegWrite)
  /-- STROBE_ARM (R72): Write of ARM to TB_STROBE_CTRLn that arms a strobe output event. -/
  | strobeArm (a : RegWrite)
  /-- PPS_OUT_CONFIG (R965): Write of TB_PPS_OUT_CTRL that enables or disables PPS_OUT with a judged WIDTH. -/
  | ppsOutConfig (a : RegWrite)
  /-- STAGE_MANAGER_DESIGNATION (R193): House write of DEV_STAGE_MANAGER that designates the first Stage Manager. -/
  | stageManagerDesignation (a : RegWrite)
  /-- MEM_BOARD_WRITE (R754): House write of MEM_BOARD stored for the next POR_N start-up. -/
  | memBoardWrite (a : RegWrite)
  /-- APERTURE_MOVE (R657): Write of PORT_APERTUREp that moves a port's DRAM aperture at one edge. -/
  | apertureMove (a : RegWrite)
  /-- SYSREF_ARM (R695): Write of CVL_SYSREF_CTRL that arms SYSREF output pulses. -/
  | sysrefArm (a : RegWrite)
  /-- PRBS_ERR_READ (R716): Read of CVL_PRBS_ERR that returns and clears the PRBS error counts. -/
  | prbsErrRead (a : RegRead)
  /-- PIN_OUT_WRITE (R782): Write of PIN_OUT or T_PIN_OUT that sets GPIO output latch bits. -/
  | pinOutWrite (a : RegWrite)
  /-- VIEW_WRITE (R130): Write through the SET, CLEAR or TOGGLE view as an indivisible read-modify-write. -/
  | viewWrite (a : RegWrite)
  /-- LOW_WORD_READ (R135): 4-byte read of a 64-bit register's low word that latches the high word into the shadow. -/
  | lowWordRead (a : RegRead)
  /-- LOW_WORD_WRITE (R136): 4-byte write of a 64-bit register's low word, held until the high word commits it. -/
  | lowWordWrite (a : RegWrite)
  /-- REARM (R149): Write of REARM or COUNT_CLEAR to an error log that clears the first capture or the fault count. -/
  | rearm (a : RegWrite)
  /-- REGISTER_WRITE (R153): Write to a register field that has no row of its own, judged for guard, write-once and access. -/
  | registerWrite (a : RegWrite)
  /-- READ (R675): House READ frame performing consecutive device-page reads with wait bytes and ready tokens: the address, none where the frame ends inside it; how many ready tokens the device sent; how many data bytes the House clocked after the last one; whether one more access was issued and the frame ended before its token. -/
  | read (addr : Option Dword) (tokens : Nat) (last : Nat) (more : Bool)
  /-- WRITE (R677): House WRITE frame whose words enter the House write buffer: the address, none where the frame ends inside it, and the data bytes. -/
  | write (addr : Option Dword) (bytes : List Byte)
  /-- HOUSE_WORD_PERFORM (R678): Performance of a held House WRITE word as a register access. -/
  | houseWordPerform
  /-- STATUS (R682): House STATUS frame that returns and clears the sticky STATUS byte: the address, none where the frame ends inside it, and whether all eight bits were delivered. -/
  | status (addr : Option Dword) (full : Bool)
  /-- MBOX_PUSH (R679): House frame that pushes one command packet and its body into the mailbox with an arrival stamp: the address, none where the frame ends inside it, and the bytes pushed. -/
  | mboxPush (addr : Option Dword) (bytes : List Byte)
  /-- MBOX_POP (R680): House frame that returns and removes the oldest outbound mailbox record: the address, none where the frame ends inside it, and how many bytes of length and record the House clocked. -/
  | mboxPop (addr : Option Dword) (bytes : Nat)
  /-- BAR2_ACCESS (R655): Host memory access to Wing SRAM through BAR2, checked against the host-window section. -/
  | bar2Access (a : BarAccess)
  /-- BAR4_ACCESS (R655): Host memory access to DRAM through the BAR4 aperture or its ordered alias. -/
  | bar4Access (a : BarAccess)
  /-- POSTED_WRITE_DRAIN (R658): Performance of a BAR4 write held in a port's posted write buffer. -/
  | postedWriteDrain (port : HostPort) (ecc : Ecc)
  /-- BAR3_ACCESS (R659): Host access to the MSI-X table or PBA, sending messages that become deliverable. -/
  | bar3Access (port : HostPort) (write : Bool) (off : BitVec 16) (size : Nat) (data : Word)
  /-- CONFIGURATION_REQUEST (R650): PCI Express configuration request served by a host port. -/
  | configurationRequest (a : CfgRequest)
  /-- RECEIVED_COMPLETION (R663): Completion received for a device read request, delivered, failed or discarded as unexpected. -/
  | receivedCompletion (port : HostPort) (tag : BitVec 8) (status : CplStatus) (bytes : List Byte)
  /-- COMPLETION_TIMEOUT (R471): Expiry of a port's Completion Timeout for a device read, a bus error. -/
  | completionTimeout (port : HostPort) (tag : BitVec 8)
  /-- LB_READY_TIMEOUT (R745): Expiry of the 10 µs ready timeout of a local-bus beat, ending the burst as a bus error. -/
  | lbReadyTimeout
  /-- PERST_N (R619): Assertion of a host port's PERST_N resetting only that port's PCI Express logic. -/
  | perstN (port : HostPort) (low : Bool)
  /-- HOT_RESET (R667): Hot Reset received on a host port acting as PERST_N. -/
  | hotReset (port : HostPort)
  /-- PCIE_LINK_DOWN (R667): Loss of a host port link ending outstanding requests and resetting the port. -/
  | pcieLinkDown (port : HostPort)
  /-- PPS_IN (R69): PPS_IN rising edge that is stamped and may perform an armed AT_PPS step. -/
  | ppsIn (vernier : BitVec 4)
  /-- AT_PPS_TIMEOUT (R64): Expiry of 2 s without a PPS_IN step, completing TIME_SET with TIMEOUT. -/
  | atPpsTimeout
  /-- SLEW_END (R67): Completion of a slew when the accumulated correction equals the offset. -/
  | slewEnd
  /-- PPS_OUT (R70): Due time of a PPS_OUT rising edge, produced when fine time is valid. -/
  | ppsOut
  /-- STROBE_EVENT (R72): Due time of an armed strobe output event, produced or marked STROBE_MISSED. -/
  | strobeEvent (n : BitVec 3)
  /-- CAPTURE_EDGE (R75): Qualifying edge on a capture pin stamped into its capture unit. -/
  | captureEdge (n : BitVec 3) (rise : Bool) (vernier : BitVec 4)
  /-- REFCLK_LOSS (R84): Detection of REFCLK absence, clearing time validity and entering FAULTED. -/
  | refclkLoss
  /-- REFCLK_RETURN (R960): Return of REFCLK, resuming counting from the held time-base value. -/
  | refclkReturn
  /-- PLL_UNLOCK (R85): Loss of root PLL lock outside a power transition, coasting the time base and entering FAULTED. -/
  | pllUnlock
  /-- DREQ (R443): Registered transition of a request line that banks a LINE credit or releases elements. -/
  | dreq (p : PinId) (level : Bool)
  /-- CUE_IN (R785): Qualifying edge on a CUE_IN pin that signals its cue by one. -/
  | cueIn (p : PinId) (rise : Bool)
  /-- WAKE (R788): Qualifying edge on a WAKE pin that wakes the device below LIT. -/
  | wake (p : PinId) (rise : Bool)
  /-- PIN_SETTLE_END (R780): End of a pin's settle period, making its new input live at the ball level. -/
  | pinSettleEnd (p : PinId)
  /-- RX_UNIT_APPEND (R726): Completion of an RX port unit, appended whole to its endpoint or discarded. -/
  | rxUnitAppend (e : EpId) (unit : RxUnit) (stamp : Tick)
  /-- TX_TAKE (R727): Take point of a TX port unit, taken whole or sent as silence; what the code of the stream memory finds in the first word read comes with it. -/
  | txTake (e : EpId) (len : Nat) (ecc : Ecc)
  /-- TDM_MASTER_FRAME (R732): Start of a master TDM frame placed on the time base. -/
  | tdmMasterFrame (n : BitVec 2)
  /-- TDM_FRAME_SYNC (R736): Frame sync seen by a slave TDM port, gaining lock or causing a slip. -/
  | tdmFrameSync (n : BitVec 2) (bit : Nat)
  /-- TDM_LOCK_LOSS (R738): Loss of a slave TDM port's lock after missing bit clock or frame syncs. -/
  | tdmLockLoss (n : BitVec 2)
  /-- SYSREF_EVENT (R694): SYSREF rising sample that is stamped and aligns or checks the LMFC. `edge` is the time of the DEVCLK edge SYSREF_DELAY cycles later, and bit `i` of `misses` says that this edge is no LMFC boundary of link `i` as it is aligned. -/
  | sysrefEvent (vernier : BitVec 4) (edge : Tick) (misses : Byte)
  /-- SYSREF_PULSE (R695): Due time of a commanded SYSREF output pulse. -/
  | sysrefPulse
  /-- DEVCLK_STAMP (R701): Stamping of the first DEVCLK edge after each microsecond of time base. -/
  | devclkStamp (vernier : BitVec 4)
  /-- DEVCLK_LOSS (R714): Loss of DEVCLK taking every converter link DOWN. -/
  | devclkLoss
  /-- CODE_GROUP_SYNC (R706): Reception of four /K/ characters on every RX lane during training. -/
  | codeGroupSync (n : BitVec 2)
  /-- ILAS (R708): Reception and check of the initial lane alignment sequence on an RX link; the index of the first mismatched octet, if any. -/
  | ilas (n : BitVec 2) (mismatch : Option Byte)
  /-- FRAME_RELEASE (R699): Release of RX frames from the elastic buffers after an LMFC boundary; whether every lane's data fell within its buffer. -/
  | frameRelease (n : BitVec 2) (fits : Bool)
  /-- SYNCIN_HIGH (R707): SYNCIN_N going high for a TX link, starting ILAS and data. -/
  | syncinHigh (n : BitVec 2)
  /-- SYNCIN_LOW (R711): SYNCIN_N low on a TX link for a number of octets, an error report or a resynchronisation. -/
  | syncinLow (n : BitVec 2) (octets : Nat)
  /-- CODE_GROUP_ERROR (R710): Code-group error on an RX lane in the data phase, possibly losing the link. -/
  | codeGroupError (lane : BitVec 3)
  /-- LANE_LOCK_LOSS (R710): Loss of clock-recovery lock on an RX lane, leaving the data phase. -/
  | laneLockLoss (lane : BitVec 3)
  /-- LINK_UP_TIMEOUT (R709): Expiry of LINK_UP's timeout before the link is UP; whether a TDM port sees its bit clock. -/
  | linkUpTimeout (l : BitVec 8) (bitClock : Bool)
  /-- IDLE_DESCENT (R603): Expiry of an idle timer allowing descent by one rung. -/
  | idleDescent
  /-- DESCENT (R604): Entry into a lower power state stopping fetches, writing SLEEP, flushing trace and stopping clocks. -/
  | descent
  /-- EXIT_TO_LIT (R607): Completion of the climb to LIT after a wake event, recording wake causes. -/
  | exitToLit (snapshotGood : Bool)
  /-- POR_N (R617): Power-on reset of the whole device. -/
  | porN
  /-- RESET_N (R618): Reset of everything except the kept state, with DRAM in self-refresh. -/
  | resetN
  /-- STARTUP_STEP (R622): Each start-up step beginning when the previous one ends. -/
  | startupStep (answer : StartupInput)
  /-- BOOT_CONFIRMATION (R642): Confirmation of a patched boot after 10 s of service. -/
  | bootConfirmation
  /-- DRAM_SCRUB_READ (R548): Periodic scrub read of a DRAM line, correcting or poisoning it. -/
  | dramScrubRead (dc : Bool) (line : BitVec 30) (ecc : Ecc)
  /-- SRAM_SCRUB (R549): Periodic scrub read of a Wing SRAM or stream FIFO word; words from 2^20 on are those of the spare bank. -/
  | sramScrub (fifo : Bool) (word : BitVec 21) (ecc : Ecc)
  /-- SCRUB_NOW_DONE (R553): Completion of an immediate scrub range with its counts; what the code found in the lines of the range that were not clean, by address. -/
  | scrubNowDone (found : List (Addr × Ecc))
  /-- RETIREMENT_SWITCH (R560): End of a retirement copy switching the mapping at one edge; what the code found in the lines copied that were not clean. -/
  | retirementSwitch (found : List (Addr × Ecc))
  /-- SUMMARY_WRITE (R555): Write of memory events into the persistent page summary. -/
  | summaryWrite
  /-- REFRESH (R760): Refresh of a DRAM rank at its average interval, issued or postponed. -/
  | refresh (rank : BitVec 2) (postpone : Bool)
  /-- DRAM_TEMPERATURE_POLL (R761): Poll of each rank's temperature status every 16 ms. -/
  | dramTemperaturePoll (hot : BitVec 4)
  /-- THERMAL_SAMPLE (R910): Sample of the junction temperature arming or raising the thermal alarm. -/
  | thermalSample (tj : BitVec 16)
  /-- THERMAL_BUDGET_UPDATE (R591): Per-second addition of consumed thermal budget to LIFE_THERMAL. -/
  | thermalBudgetUpdate
  /-- LIFE_WRITEBACK (R590): Hourly write-back of the lifetime counters to the prompt book. -/
  | lifeWriteback
  /-- HEALTH_EVALUATION (R586): Evaluation of every degraded condition, driving CURTAIN_CALL_N. -/
  | healthEvaluation
  /-- ROTATING_TEST (R579): Start of a rotating in-service test of the next stagehand unit. -/
  | rotatingTest
  /-- IN_SERVICE_FAULT (R581): Fault of a stagehand unit replaced by an understudy or losing the stagehand. -/
  | inServiceFault (f : UnitFault)
  /-- HANDOVER_SWITCH (R576): End of a handover copy running the stagehand on the understudy. -/
  | handoverSwitch
  /-- BIST_TEST_END (R570): End of a self-test comparing its signature with ROM: the target and unit, the signature, the DEV_SELFCHECK bits [13:2] of failing checkers, and for FULL_DEVICE the stagehand units that pass. -/
  | bistTestEnd (target : Byte) (unit : UnitId) (observed : Dword) (failing : BitVec 12) (passed : BitVec 14)
  /-- TRACE_EXPORT (R805): Export of one trace record as a 28-cycle frame on the trace pins. -/
  | traceExport
  /-- EXTEST (R813): JTAG instruction driving pins from the boundary register. -/
  | extest
  /-- IDCODE (R811): JTAG instruction selecting the 32-bit identification register. -/
  | idcode
  /-- SAMPLE_PRELOAD (R810): JTAG instruction sampling and preloading the boundary register. -/
  | samplePreload
  /-- HIGHZ (R813): JTAG instruction placing every output in high impedance. -/
  | highz
  /-- CLAMP (R813): JTAG instruction driving outputs from the boundary register with bypass selected. -/
  | clamp
  /-- EXTEST_PULSE (R812): IEEE 1149.6 JTAG instruction for AC-coupled lane test with pulses. -/
  | extestPulse
  /-- EXTEST_TRAIN (R812): IEEE 1149.6 JTAG instruction for AC-coupled lane test with pulse trains. -/
  | extestTrain
  /-- BYPASS (R810): JTAG instruction selecting the bypass register. -/
  | bypass
  /-- TRST_N (R810): TRST_N low resetting the TAP to Test-Logic-Reset with IDCODE selected. -/
  | trstN
  /-- FETCH_RETURN (R357): Return of a chain-entry, fragment-entry or script-instruction-block fetch, or of its failure. -/
  | fetchReturn (c : ChanId) (ended : Ended) (bytes : List Byte) (ecc : Ecc)
  /-- LONG_COMMAND_FINISH (R223): Finish of a bulk or storage long command (MEM_LOG_READ, TRACE_READ, PATCH_STAGE, CONFIG_SNAPSHOT, CONFIG_RESTORE) once its result or prompt-book writes are done, posting its completion; how a result write that left the part ended, or whether the CRC of the snapshot to restore is good. -/
  | longCommandFinish (source : Source) (ended : Ended)
  /-- RESET_PROOF_TIMEOUT (R465): Expiry of 1.5 ms from the start of a CHANNEL_RESET's service with a proof read still outstanding, leaving that target unproven so the reset completes. -/
  | resetProofTimeout (c : ChanId)
  /-- HOST_LINK_UP (R627): A host port's PCI Express link completing training and its data link layer coming up. -/
  | hostLinkUp (port : HostPort) (speed : BitVec 2) (width : BitVec 3)
  /-- UNLOCK_WINDOW_EXPIRY (R141): Closing of an open page for a port 1 µs after the unlock key reached the register bus without a guarded write. -/
  | unlockWindowExpiry (page : Page) (via : Via)
  /-- PULSE_END (R70): End of an output pulse width: PPS_OUT falling WIDTH ticks after rising, a strobe or SYSREF pulse falling, or a DONE pulse ending so that the next queued pulse may follow. -/
  | pulseEnd (o : PulseOutput)
  /-- PIN_PARK_END (R779): End of a switched pin's 2-cycle park, from which the new output function drives the pin. -/
  | pinParkEnd (p : PinId)
  /-- LB_BEAT_END (R744): End of a local-bus beat when LB_RDY is sampled 1 or WAIT_STATES run out, advancing the burst, ending it with its TURN cycles and starting the next queued burst. -/
  | lbBeatEnd (data : Dword)
  /-- WRITE_BURST_COMPLETE (R540): Completion of an issued write at its target, including a DRAM merge that lands, clears poison or is refused, and a completion write accepted by its target. -/
  | writeBurstComplete (w : WriteKind) (ended : Ended) (ecc : Ecc)
  /-- LANE_LOCK (R706): Clock-recovery lock gained on a converter RX lane during training. -/
  | laneLock (lane : BitVec 3)
  /-- MISPLACED_ALIGNMENT_CHARACTER (R710): Two consecutive alignment characters out of place on an RX lane in the data phase, making the link leave the data phase. -/
  | misplacedAlignmentCharacter (lane : BitVec 3)
  /-- DEVCLK_RETURN (R706): DEVCLK becoming present, setting DEVCLK_PRESENT and letting a waiting LINK_UP proceed and DEVCLK stamps resume. -/
  | devclkReturn
  /-- LMFC_BOUNDARY (R692): A local multiframe clock boundary of a link, at which SYNCOUT_N rises in subclass 1, TX ILAS starts, and a TX link enters UP after four multiframes of ILAS. -/
  | lmfcBoundary (l : ConvLink)
  deriving DecidableEq, Repr

end Sys2Proof
end

