-- ==== Sys2Proof/Decode.lean ====
section
/-! DEFINITION. Commands from words: no row of this part's table gives bits, so no word spells a command. -/

namespace Sys2Proof

/-- The command that a word spells by the table's bits: none, for any word. -/
def decodeTableWord (_nbits _w : Nat) : Option Instr := none

end Sys2Proof
end

