-- ==== Sys2Proof/Config.lean ====
section
/-! DEFINITION. What a part brings from its silicon and what the spec leaves open: constants without a body, of which no proof can know a value. -/

namespace Sys2Proof.Config

/-- A free byte for each use of the counter in the state. -/
opaque freeByte : Nat → Byte

/-- A free 64-bit word for each use of the counter in the state. -/
opaque freeWord : Nat → Word

/-- Revision byte of the silicon, DEV_ID [23:16] (R906). -/
opaque siliconRev : Byte

/-- Frequency of DEVCLK as the board supplies it, in hertz (R691). -/
opaque devclkHz : Nat

/-- Unique identifier of the part, DEV_SERIAL (R650). -/
opaque serial : Word

/-- Version of the microcode in ROM (IDENTIFY). -/
opaque romVersion : Dword

/-- Signature that ROM holds for a test of a target and a unit (R570). -/
opaque romSignature : Byte → UnitId → Dword

/-- Whether a patch image carries a valid signature for the key of the part (chapter 17). -/
opaque signatureGood : List Byte → Bool

/-- SHA-256 (chapter 05, chapter 17), as 32 bytes. -/
opaque sha256 : List Byte → Vector Byte 32

/-- Column of a data bit in the per-byte code of the on-chip memories (R527). -/
opaque codeColumn : BitVec 3 → BitVec 5

/-- Column of a bit of the word address in the address hash of a byte lane, for Wing SRAM or for stream FIFO memory (R527). -/
opaque hashColumn : Bool → BitVec 3 → Nat → BitVec 5

end Sys2Proof.Config
end

