-- ==== Sys2Proof/Machine/State.lean ====
section
/-! DEFINITION. The state of the ZFN-9616: every register, queue, buffer, counter, mode and pin that the spec gives the part, as plain data, and its value at power-on reset. -/

namespace Sys2Proof.Machine

/-! ### Names of modes and states -/

/-- Device states (R240). -/
inductive DevState where
  | fill
  | check
  | houseOnly
  | staged
  | faulted
  deriving DecidableEq, Repr

/-- Power states (R596). -/
inductive PowerState where
  | lit
  | hush
  | interval
  | dark
  | shuttered
  deriving DecidableEq, Repr

/-- Channel states, kind 1 of R244. -/
inductive ChanState where
  | unbound
  | idle
  | armed
  | running
  | waiting
  | stopping
  | stopped
  | halted
  deriving DecidableEq, Repr

/-- Channel modes (R829). -/
inductive ChanMode where
  | queue
  | script
  | shadow
  deriving DecidableEq, Repr

/-- Queue states, kind 2 of R244. -/
inductive QState where
  | absent
  | active
  | faulted
  deriving DecidableEq, Repr

/-- Link states, kind 5 of R244. -/
inductive LinkState where
  | down
  | training
  | up
  deriving DecidableEq, Repr

/-! ### Registers and pages -/

/-- A writable register: the active copy, which the device uses and reads return, and the pending copy, which writes of staged fields change (R154). Fields that are not staged live in the active copy. -/
structure Staged where
  act : Word := 0
  pend : Word := 0
  deriving DecidableEq, Repr

/-- The home of a place: a register of the device page, of a tenant's control block, or of a channel slot. -/
inductive Home where
  | dev (p : Nat)
  | ten (t : TenantId) (p : Nat)
  | chan (t : TenantId) (c : ChanId) (p : Nat)
  deriving DecidableEq, Repr

/-- An error log register, T_ERR_LOG or DEV_ERR_LOG (R149). -/
structure ErrLog where
  lockFaults : Byte := 0
  lockViolation : Bool := false
  pairDropped : Bool := false
  reservedHit : Bool := false
  updateLate : Bool := false
  firstKind : BitVec 3 := 0
  firstPort : BitVec 2 := 0
  firstOffset : BitVec 18 := 0
  deriving DecidableEq, Repr

/-- An armed timed strobe: its time and its groups (R162). -/
structure ArmedStrobe where
  time : Tick
  groups : BitVec 16
  deriving DecidableEq, Repr

/-- A held word of a 64-bit register, by the byte offset of the register in the view that named it (R135, R136). -/
structure HalfWord where
  off : BitVec 18
  word : Dword
  deriving DecidableEq, Repr

/-- What one port has open or held on one page (R135, R136, R141, R142). -/
structure PortView where
  /-- Time at which the page closes, while it is open for this port. -/
  openUntil : Option Tick := none
  /-- The read shadow: the register it belongs to and its high word. -/
  shadow : Option HalfWord := none
  /-- The held low word of a 64-bit write. -/
  heldLow : Option HalfWord := none
  deriving DecidableEq, Repr

/-- Everything a page has beside its registers (R141 to R172). -/
structure PageCtl where
  hp0 : PortView := {}
  hp1 : PortView := {}
  house : PortView := {}
  errLog : ErrLog := {}
  /-- Groups that hold writes not yet applied. -/
  pendingGroups : BitVec 16 := 0
  /-- Acts whose blocks hold writes not yet applied, of the device page (R160). -/
  actsPending : BitVec 16 := 0
  armed : Option ArmedStrobe := none
  crc : Dword := 0
  crcValid : Bool := false
  mismatch : Bool := false
  frozen : Bool := false
  /-- Since when MISMATCH has stayed 1 (R586 CFG_PERSIST). -/
  mismatchSince : Option Tick := none
  /-- A pass in progress was disturbed and will be discarded (R168). -/
  disturbed : Bool := false
  deriving DecidableEq, Repr

/-! ### Time base -/

/-- The reference to a command in service: its source, tag, admin-vector request and the tenant it addresses. -/
structure CmdRef where
  src : Source
  tag : BitVec 16
  irq : Bool
  /-- Tenant whose objects the command names; none for a House command without FOREIGN. -/
  addressed : Option TenantId
  /-- Head of the admin SQ after the command was taken (R230). -/
  head : BitVec 16 := 0
  deriving DecidableEq, Repr

/-- A waiting TIME_SET AT_PPS (R62, R64, R86): the value, the edge from which it is armed, and the REFCLK period at which it times out. -/
structure AtPps where
  value : Tick
  armedAt : Tick
  deadline : Nat
  deriving DecidableEq, Repr

/-- A capture unit's stamp and sequence (R75, R76). -/
structure Capture where
  stamp : Tick := 0
  seq : BitVec 31 := 0
  coarse : Bool := false
  deriving DecidableEq, Repr

/-- The time base, its steering, PPS and capture units (chapter 02). -/
structure TimeBase where
  time : Tick := 0
  acc : BitVec 40 := 0
  trim : Dword := 0
  slewRate : Dword := 0
  /-- The slew runs backwards. -/
  slewNeg : Bool := false
  /-- Slew still to apply, in units of 2^-40 tick. -/
  slewLeft : Nat := 0
  refclkPresent : Bool := false
  pllLock : Bool := false
  fineValid : Bool := false
  timeValid : Bool := false
  ppsInSeen : Bool := false
  devclkPresent : Bool := false
  refclkLost : Bool := false
  pllUnlocked : Bool := false
  ppsInStamp : Tick := 0
  ppsInSeq : BitVec 24 := 0
  ppsInIgnored : Byte := 0
  /-- REFCLK periods since POR_N: the counter behind the 2 s of R64 and the 1 ms of R69. -/
  refclkCount : Nat := 0
  /-- CLK_TB cycles since the last REFCLK edge, 0 to 23. -/
  tbPhase : Nat := 0
  /-- The time base and its accumulator as they stood at the last REFCLK edge (R960). -/
  refTime : Tick := 0
  refAcc : BitVec 40 := 0
  lastPps : Option Nat := none
  atPps : Option AtPps := none
  ppsOut : Bool := false
  ppsOutFall : Option Tick := none
  /-- A step has happened since the last trace SLEEP or WAKE record (R65). -/
  uncertain : Bool := false
  captures : Tbl 3 Capture := Tbl.fill 3 {}
  /-- Level of each strobe output and the time its pulse falls. -/
  strobeLevel : Tbl 3 Bool := Tbl.fill 3 false
  strobeFall : Tbl 3 (Option Tick) := Tbl.fill 3 none
  /-- Due time of the event of an act-relative strobe in the present period (R73). -/
  strobeDue : Tbl 3 (Option Tick) := Tbl.fill 3 none
  deriving DecidableEq, Repr

/-- The running part of an act (R91 to R98); its configuration is in the device page's registers. -/
structure Act where
  running : Bool := false
  stopCause : BitVec 2 := 0
  nextStart : Tick := 0
  /-- Index of the next period start. -/
  nextIndex : Nat := 0
  periodCount : Word := 0
  deriving DecidableEq, Repr

/-! ### Tenants and queues -/

/-- A memory window of a tenant (R183). -/
structure Window where
  valid : Bool := false
  tag : BitVec 4 := 0
  base : BitVec 60 := 0
  last : BitVec 60 := 0
  read : Bool := false
  write : Bool := false
  deriving DecidableEq, Repr

/-- A tenant's record in the protection map (R183). -/
structure TenantRecord where
  enabled : Bool := false
  port : Bool := false
  chanBase : BitVec 7 := 0
  chanCount : BitVec 7 := 0
  sqQuota : BitVec 7 := 0
  cqQuota : BitVec 6 := 0
  cueBase : BitVec 10 := 0
  cueCount : BitVec 11 := 0
  propQuota : BitVec 16 := 0
  actControl : BitVec 16 := 0
  actBind : BitVec 16 := 0
  endpoints : BitVec 64 := 0
  pins : BitVec 48 := 0
  vecBase : BitVec 8 := 0
  vecCount : BitVec 9 := 0
  windows : Tbl 3 Window := Tbl.fill 3 {}
  deriving DecidableEq, Repr

/-- The host-window section of one host port (R182). -/
structure HostWindow where
  sramFirst : BitVec 11 := 0
  sramLast : BitVec 11 := 0
  sramRead : Bool := false
  sramWrite : Bool := false
  dramFirst : BitVec 24 := 0
  dramLast : BitVec 24 := 0
  dramRead : Bool := false
  dramWrite : Bool := false
  deriving DecidableEq, Repr

/-- The protection map in force (R182, R183). -/
structure ProtMap where
  smTenant : TenantId := 0
  smPort : Bool := false
  /-- Countersign window in microseconds (R200). -/
  csWindow : Dword := 100000
  hostWin0 : HostWindow := {}
  hostWin1 : HostWindow := {}
  records : Tbl 4 TenantRecord := Tbl.fill 4 {}
  deriving DecidableEq, Repr

/-- The held proposal (R196 to R199): a map body or a patch set. -/
structure Proposal where
  byHouse : Bool
  patch : Bool
  body : List Byte
  patchSet : BitVec 16
  nonce : Dword
  digest : Dword
  stamp : Tick
  expiry : Tick
  deriving DecidableEq, Repr

/-- Protection: the map in force, the designation and the two-party commit (chapter 05). -/
structure Protection where
  map : ProtMap := {}
  designated : Bool := false
  epoch : Dword := 0
  held : Option Proposal := none
  lastExpired : Option Dword := none
  /-- Commits that changed the countersign window, oldest first: the edge, and the window before it (R199). -/
  windowsBefore : List (Tick × Dword) := []
  deriving DecidableEq, Repr

/-- A completion entry (R230, R276), without the phase bit, which the ring gives. -/
structure Completion where
  status : Byte
  sqId : Byte
  covered : BitVec 15
  tag : BitVec 16
  head : BitVec 16
  dw2 : Dword
  dw3 : Dword
  deriving DecidableEq, Repr

/-- A completion due in a ring, with the vectors that follow it (R285). -/
structure DueCompletion where
  c : Completion
  /-- Work SQ it belongs to; 0 for the admin queue. -/
  sq : QueueId
  /-- Channel that owes it, for work completions. -/
  chan : Option ChanId
  /-- Vector index sent after it. -/
  vector : Option (BitVec 8)
  /-- Bulk result of a House command that follows the completion in the mailbox (R228). -/
  result : List Byte
  /-- CLK_CORE edge at which it became due (R284). -/
  due : Tick := 0
  deriving DecidableEq, Repr

/-- An SQ entry held on chip: its index and its bytes (R272). -/
structure HeldEntry where
  index : BitVec 16
  dw : Vector Dword 16
  deriving DecidableEq, Repr

/-- A published entry whose read is being retried (R274): failures so far, and the time from which the next read may return. -/
structure EntryRetry where
  index : BitVec 16
  count : Nat
  time : Tick
  deriving DecidableEq, Repr

/-- A submission queue (R256 to R291); queue 0 is the admin SQ. -/
structure SubQueue where
  state : QState := .absent
  base : Addr := 0
  log2 : BitVec 4 := 0
  head : BitVec 16 := 0
  tail : BitVec 16 := 0
  /-- Expected OWN mark at the head. -/
  phase : Bool := false
  ownWait : Bool := false
  /-- The entry at which the queue waits while OWN_WAIT is set (R272). -/
  waitAt : BitVec 16 := 0
  cause : BitVec 4 := 0
  cq : BitVec 6 := 0
  slot : Option ChanId := none
  prefetch : BitVec 3 := 0
  entries : List HeldEntry := []
  /-- A fault completion not yet posted (R290). -/
  faultDue : Option Completion := none
  /-- Doorbells accepted and not yet consumed: the tail each gave and its arrival stamp (R199). -/
  stamps : List (BitVec 16 × Tick) := []
  /-- Entry reads being retried. -/
  retries : List EntryRetry := []
  deriving DecidableEq, Repr

/-- A completion queue (R256 to R293); queue 0 is the admin CQ. -/
structure CompQueue where
  state : QState := .absent
  base : Addr := 0
  log2 : BitVec 4 := 0
  head : BitVec 16 := 0
  tail : BitVec 16 := 0
  /-- Phase the device writes at the tail. -/
  phase : Bool := false
  stalled : Bool := false
  cause : BitVec 4 := 0
  vector : BitVec 8 := 0
  held : List DueCompletion := []
  deriving DecidableEq, Repr

/-- A command fetched or pushed and not yet taken, with its arrival stamp (R199, R221). -/
structure Untaken where
  dw : Vector Dword 16
  body : List Byte
  stamp : Tick
  deriving DecidableEq, Repr

/-- One tenant: its page, its queues, its features and its share of the prop room. -/
structure Tenant where
  regs : Tbl 9 Staged := Tbl.fill 9 {}
  ctl : PageCtl := {}
  sqs : Tbl 7 SubQueue := Tbl.fill 7 {}
  cqs : Tbl 6 CompQueue := Tbl.fill 6 {}
  adminErr : Bool := false
  /-- Commands taken from the admin queue and not yet completed (ACTIVE, R233). -/
  taken : Nat := 0
  untaken : List Untaken := []
  label : Dword := 0
  failTrace : Bool := true
  starved : BitVec 16 := 0
  deriving DecidableEq, Repr

/-! ### Channels -/

/-- A fragment of an indirect side (R322). -/
structure Fragment where
  addr : Addr
  len : Nat
  deriving DecidableEq, Repr

/-- What a move has read of the fragment tables of an indirect side (R326): its data entries so far, the next entry, entries read, and whether the stream has ended. -/
structure FragStream where
  frags : List Fragment
  next : Addr
  count : Nat
  ended : Bool
  deriving DecidableEq, Repr

/-- What a fetch of a channel is for: a chain entry, a table entry of the check stage, of the move's source or of its destination side, or a block of instructions. -/
inductive FetchFor where
  | chain
  | table
  | srcTable
  | dstTable
  | block
  deriving DecidableEq, Repr

/-- A read in flight for an occupant: where it goes and how many bytes it brings (R432). -/
structure ReadReq where
  addr : Addr
  len : Nat
  /-- Bytes taken from a stream endpoint at issue (R441). -/
  taken : List Byte
  /-- Tag of the request on its host port (R648). -/
  tag : Option Byte
  /-- What a host or local-bus read has brought back. -/
  got : Option (Ended × List Byte)
  deriving DecidableEq, Repr

/-- Where a write burst that has been closed stands: held back, since another burst of the channel awaits its retry (R473) or the part issues nothing (R242); on its way to its target; or turned back by a port that sends nothing (R44). -/
inductive WriteAt where
  | held
  | out
  | refused
  deriving DecidableEq, Repr

/-- A write burst closed and not yet landed at its target (R481): its address and bytes, the destination bytes that its unit wrote before it (R470), and the register set it belongs to, by the value of SWAP_COUNT (R412). -/
structure WriteReq where
  addr : Addr
  bytes : List Byte
  before : Nat := 0
  ord : Dword := 0
  stand : WriteAt := .out
  deriving DecidableEq, Repr

/-- How far a pointer register advances after a script move with POST: by the bytes that a side has transferred, source or destination, or by a step (R365, R386). -/
inductive Advance where
  | bytes (dst : Bool)
  | step (w : Word)
  deriving DecidableEq, Repr

/-- The transfer of one unit: both sides' geometry and its progress (R315, R432). -/
structure Xfer where
  /-- Pattern of a FILL, or value of a STAMP; none for a move. -/
  pattern : Option Word
  /-- A STAMP, which waits for no pacing (R434). -/
  stamp : Bool
  /-- A STAMP of NOW, whose value is the time at which its write is issued (R386). -/
  stampNow : Bool
  src : Addr
  dst : Addr
  inner : Nat
  middle : Nat
  outer : Nat
  element : Nat
  profile : BitVec 6
  srcInner : Word
  srcMiddle : Word
  srcOuter : Word
  dstInner : Word
  dstMiddle : Word
  dstOuter : Word
  srcInd : Option FragStream
  dstInd : Option FragStream
  verify : Bool
  /-- Pointer advances of a script move with POST, by register. -/
  post : List (BitVec 2 × Advance)
  /-- Control and mute words of the profile, latched at admission (R504). -/
  profCtrl : Word
  profMute : Word
  /-- Source bytes asked for. -/
  asked : Nat
  /-- Source bytes in the holding slot, not yet reshuffled. -/
  srcBuf : List Byte
  /-- Destination bytes ready to be written, after reshuffle. -/
  dstBuf : List Byte
  /-- Destination bytes written in beats. -/
  written : Nat
  /-- Source elements consumed. -/
  moved : Nat
  /-- The last destination bytes written, at most 8, in element order (R479). -/
  lastBytes : List Byte
  /-- Write burst being formed: its address, its bytes so far, and the length planned for it. -/
  burst : Option (Addr × List Byte × Nat)
  /-- State the reshuffle carries from one element to the next (the part group and counter of chapter 13). -/
  reshufflePos : Nat
  deriving DecidableEq, Repr

/-- A failure to be reported (R468): its status, detail, failing address where there is one, and the bytes written before it. -/
structure Failure where
  status : Byte
  detail : Dword
  addr : Option Addr
  bytes : Nat
  deriving DecidableEq, Repr

/-- What a channel does when its outstanding proofs have returned (R476). -/
inductive After where
  | startUnit
  | finish
  | unitDone
  | signal (cue : CueId) (count : BitVec 16)
  | fence
  | irq (code : BitVec 16)
  | endScript (irq restart : Bool)
  | fail (f : Failure)
  | late
  | reset (started : Tick)
  | resetWrites (started : Tick) (dropped : Nat)
  | endSet
  | sqFault
  deriving DecidableEq, Repr

/-- A descriptor the channel has taken (R266, R276): its dwords, the HEAD its completion reports, and whether it came from a chain. -/
structure Taken where
  dw : Vector Dword 16
  head : BitVec 16
  inChain : Bool
  deriving DecidableEq, Repr

/-- The position of a channel in a chain (R327 to R332): the next entry, the HEAD of its CALL_CHAIN, the entry running, and entries read ahead. -/
structure Chain where
  next : Addr
  head : BitVec 16
  running : Addr
  ahead : List (Addr × Vector Dword 16)
  deriving DecidableEq, Repr

/-- The walk of the check stage over fragment tables (R325): side, next entry, entries read, bytes summed. -/
structure Walk where
  dstSide : Bool
  next : Addr
  count : Nat
  sum : Nat
  deriving DecidableEq, Repr

/-- Descriptors finished and not yet covered by a completion (R276). -/
structure Cover where
  count : Nat
  tag : BitVec 16
  user : Dword
  bytes : Dword
  head : BitVec 16
  deriving DecidableEq, Repr

/-- The rest of a late scene being consumed (R110 steps 5 to 7, R112): whether the truncated descriptor is still to come, descriptors consumed, the last one's tag, user word and HEAD, and whether one of those covered carried IRQ. -/
structure Discard where
  first : Bool
  count : Nat
  tag : BitVec 16
  user : Dword
  head : BitVec 16
  irq : Bool
  deriving DecidableEq, Repr

/-- Kinds of wait (R374, R379, R384, R445). -/
inductive WaitKind where
  | cue (cue : CueId) (count : BitVec 16) (keep : Bool) (fail : Option (BitVec 12))
  | prop (areg : BitVec 2) (fail : BitVec 12)
  | instant (t : Tick) (setTt : Bool)
  | pace (cue : CueId)
  deriving DecidableEq, Repr

/-- A wait in progress: its kind, the edge at which it began, its place in the wait order, and its expiry. -/
structure Wait where
  kind : WaitKind
  start : Tick
  order : Nat
  expiry : Option Tick
  deriving DecidableEq, Repr

/-- Retries of a burst (R472): retries counted, the time of the next, whether it is still to be issued, the cause of the last failure, and what failed. -/
structure Retry where
  count : Nat
  time : Tick
  waiting : Bool
  cause : BusCause
  /-- 0 a data read, 1 a data write, 2 a fetch, 3 an arrival read-back. -/
  what : BitVec 2
  addr : Addr
  deriving DecidableEq, Repr

/-- The registers of a script and its status fields (R351, slot fields table). -/
structure Script where
  running : Bool := false
  base : Addr := 0
  pc : BitVec 12 := 0
  /-- The channel is ARMED at a WAITT NEXT, and its release goes on after it (R388). -/
  atNext : Bool := false
  a : Tbl 2 Word := Tbl.fill 2 0
  k : Tbl 2 Dword := Tbl.fill 2 0
  tt : Tick := 0
  lastStatus : Byte := 0
  failTaken : Bool := false
  waittPast : Bool := false
  signalSat : Bool := false
  failCause : BitVec 3 := 0
  haltCode : BitVec 16 := 0
  irqCode : BitVec 16 := 0
  detail : Dword := 0
  bytes : Dword := 0
  spin : Nat := 0
  /-- Instruction blocks held by the fetcher: the address of each aligned 256-byte block, and its bytes (R358). -/
  blocks : List (Addr × List Byte) := []
  deriving DecidableEq, Repr

/-- End-of-set steps still to be performed for a set that has been swapped out (R412, R413). -/
structure EndSet where
  ctl : Word
  user : Dword
  x : Xfer
  /-- SWAP_COUNT while the set was active: it names the set's write bursts. -/
  ord : Dword
  /-- The channel enters IDLE with UNDERRUN_SHADOW after it (R414). -/
  underrun : Bool
  /-- The channel's drain takes effect after it (R418). -/
  drained : Bool
  deriving DecidableEq, Repr

/-- The state of a SHADOW channel beside its two register sets (R404). -/
structure Shadow where
  armErrOffset : Byte := 0
  armErrKind : BitVec 4 := 0
  swapCount : Dword := 0
  lastStatus : Byte := 0
  setValid : Bool := false
  userDetail : Dword := 0
  current : Dword := 0
  last : Dword := 0
  /-- The unit of the active set is still to begin. -/
  queued : Bool := false
  /-- The active set has ended and no swap has followed yet. -/
  ended : Bool := false
  /-- The set swapped out while its unit still moves. -/
  moving : Option EndSet := none
  /-- Sets whose bytes are written and whose end-of-set steps are due, in set order. -/
  ending : List EndSet := []
  deriving DecidableEq, Repr

/-- One channel context (chapters 03 and 07 to 12). -/
structure Chan where
  state : ChanState := .unbound
  mode : ChanMode := .queue
  sq : QueueId := 0
  regs : Tbl 5 Staged := Tbl.fill 5 {}
  /-- The slot holds staged writes not yet applied (R156, T_UPDATE.PENDING). -/
  dirty : Bool := false
  -- scheduling (R427)
  stagehand : ShId := 0
  priority : BitVec 3 := 0
  lead : Bool := false
  paceSrc : BitVec 3 := 0
  effective : ShId := 0
  pace : BitVec 34 := 0
  paceTime : Tick := 0
  starved : BitVec 16 := 0
  slot : Option (BitVec 2) := none
  -- configuration (CHAN_CFG)
  actEn : Bool := false
  actSel : ActId := 0
  vector : Byte := 0
  retryLimit : BitVec 4 := 3
  -- counters and records
  lateCount : Dword := 0
  sceneSkip : Dword := 0
  rateSlip : BitVec 16 := 0
  lineSlip : BitVec 16 := 0
  rateOverrun : Bool := false
  faultAddr : Addr := 0
  lastStatus : Byte := 0
  lastTag : BitVec 16 := 0
  cqCause : BitVec 4 := 0
  -- scenes and curtains
  periodPending : Option Tick := none
  sceneStart : Tick := 0
  atBoundary : Bool := false
  curtain : Option Tick := none
  discard : Option Discard := none
  discardMark : Bool := false
  /-- Endpoints named by the truncated and the consumed descriptors of a late scene: destination endpoint flag and number (R114). -/
  lateEps : List (Bool × EpId) := []
  -- the work in hand
  armedWork : Option Taken := none
  work : Option Taken := none
  walk : Option Walk := none
  xfer : Option Xfer := none
  chain : Option Chain := none
  spin : Nat := 0
  cover : Option Cover := none
  -- bursts, proofs and retries
  reads : List ReadReq := []
  writes : List WriteReq := []
  unproven : List (ProofTarget × Addr) := []
  after : Option After := none
  /-- A proof for `after` has begun, and the read-backs it still waits for. -/
  proofOn : Bool := false
  proving : List (ProofTarget × Addr) := []
  proofFailed : Bool := false
  unprovenMask : BitVec 6 := 0
  retries : List Retry := []
  -- pacing
  released : Nat := 0
  lineCredits : Byte := 0
  lineLevel : Bool := false
  fillReq : Bool := false
  timeOpen : Bool := false
  rateAcc : BitVec 48 := 0
  rateFrac : Nat := 0
  rateBank : Byte := 0
  wait : Option Wait := none
  -- stopping
  stopPending : Bool := false
  drainPending : Bool := false
  /-- The channel enters HALTED once no completion of it is held (R305). -/
  haltDue : Bool := false
  -- modes
  script : Script := {}
  shadow : Shadow := {}
  /-- A fetch of a chain entry, table entry or block that the channel needs, outstanding. -/
  fetch : Option (Addr × FetchFor) := none
  deriving DecidableEq, Repr

/-- A cue (R374, R378): its count, its allocation and its declared signaller. -/
structure Cue where
  count : BitVec 16 := 0
  allocated : Bool := false
  owner : Option ChanId := none
  deriving DecidableEq, Repr

/-- A logical stagehand (R431 to R437): its occupants in order of admission and its round-robin pointers. -/
structure Stagehand where
  occupants : List ChanId := []
  pointers : Tbl 3 ChanId := Tbl.fill 3 0
  /-- The occupant that wrote the last beat (R438). -/
  writing : Option ChanId := none
  deriving DecidableEq, Repr

/-- A place in a stream FIFO: its byte with its arrival stamp (R115) and its integrity (R532), or a place that a channel's write burst has reserved and whose byte has not landed (R441). -/
structure StreamByte where
  byte : Byte
  stamp : Tick
  bad : Bool := false
  landed : Bool := true
  owner : Option ChanId := none
  deriving DecidableEq, Repr

/-- A stream endpoint's FIFO and status (chapter 20); its configuration is in the device page's registers. -/
structure Endpoint where
  /-- The FIFO, oldest first: bytes landed and places reserved (R441). -/
  fifo : List StreamByte := []
  /-- Stream index of the byte at the head, counted from the last emptying (R728). -/
  index : Nat := 0
  underrun : BitVec 16 := 0
  overflow : BitVec 16 := 0
  /-- Silence bytes still owed (R114). -/
  deficit : Nat := 0
  /-- Bytes appended by channels in the present period (R729). -/
  appended : Nat := 0
  /-- Discard cut: bytes stamped before it are discarded (R115). -/
  cut : Option Tick := none
  /-- The link of a TX endpoint has left UP: no space until it is UP again (R712). -/
  noSpace : Bool := false
  deriving DecidableEq, Repr

/-- A prop that is held: its index, its tenant and the requester that took it (R450, R490). -/
structure HeldProp where
  index : BitVec 16
  tenant : TenantId
  /-- Physical channel, or 96 for HP0 and 97 for HP1. -/
  taker : Nat
  deriving DecidableEq, Repr

/-- The prop room (R448 to R454). -/
structure PropRoom where
  basePage : BitVec 11 := 0
  sizeLog2 : BitVec 4 := 0
  count : BitVec 16 := 0
  held : List HeldProp := []
  pointer : Nat := 0
  /-- The CLK_CORE edge of the last request, the arbiter's pointer at its beginning, and how far from there the last requester granted lies (R450). -/
  edge : Tick := 0
  first : Nat := 0
  reach : Option Nat := none
  deriving DecidableEq, Repr

/-! ### Memory and its integrity (chapter 14) -/

/-- An error log record (R554). -/
structure LogRecord where
  stamp : Tick
  address : Addr
  kind : BitVec 4
  memory : BitVec 4
  source : Byte
  rank : BitVec 2
  position : BitVec 5
  erasure : Bool
  posValid : Bool
  symbols : Byte
  seq : Dword
  deriving DecidableEq, Repr

/-- A page record of the persistent summary (R555). -/
structure PageRecord where
  page : Addr
  ce : Dword := 0
  ue : Dword := 0
  first : Tick := 0
  last : Tick := 0
  positions : BitVec 18 := 0
  retired : Bool := false
  poisoned : Bool := false
  hard : Bool := false
  spare : BitVec 9 := 0
  boot : Dword := 0
  /-- CE_LIMIT has been reported for this record (R552). -/
  told : Bool := false
  deriving DecidableEq, Repr

/-- A SCRUB_NOW in service (R553): its range. -/
structure ScrubJob where
  first : Addr
  len : Nat
  cmd : CmdRef
  deriving DecidableEq, Repr

/-- A RETIRE_PAGE in service (R557 to R561): the tagged address and the spare it is mapped to. -/
structure Retirement where
  addr : Addr
  spare : BitVec 9
  cmd : CmdRef
  deriving DecidableEq, Repr

/-- The memories the part owns: bytes of Wing SRAM and of DRAM by offset, in canonical form. -/
structure Memory where
  wing : List Host.Cell := []
  dram : List Host.Cell := []
  deriving DecidableEq, Repr

/-- Integrity of the memories (chapter 14). -/
structure MemGuard where
  /-- Wing SRAM bytes that are uncorrectable until they are written (R532). -/
  wingBad : List Nat := []
  /-- Poison maps of DC0 and DC1: tagged offsets of lines (R543). -/
  poison0 : List Nat := []
  poison1 : List Nat := []
  poisonOverflow : Bool := false
  log : List LogRecord := []
  logSeq : Dword := 0
  summary : List PageRecord := []
  summaryFull : Bool := false
  /-- Events not yet written into the summary (R555). -/
  unsummarised : List LogRecord := []
  /-- Marked position of each rank (R536): DC0 rank 0, DC0 rank 1, DC1 rank 0, DC1 rank 1. -/
  marks : Tbl 2 (Option (BitVec 5)) := Tbl.fill 2 none
  /-- Retired pages by tagged offset of the page, with the spare in use (R557). -/
  remaps : List (Nat × BitVec 9) := []
  /-- Next unused spare page of DC0 and of DC1, 0 to 256 (R557, R558). -/
  spares0 : Nat := 0
  spares1 : Nat := 0
  spareBank : Option (BitVec 5) := none
  /-- Banks with a hard error: 0 to 31, and 32 the spare bank (R551). -/
  hardBanks : BitVec 33 := 0
  /-- Bytes corrected in the scrub pass before this one and in this one: memory and offset (R551). -/
  lastPass : List (Bool × Nat) := []
  thisPass : List (Bool × Nat) := []
  /-- Lines the DRAM scrubber has read in the pass in progress, on DC0 and DC1 (R548, R912). -/
  dramRead0 : Nat := 0
  dramRead1 : Nat := 0
  sramRead : Nat := 0
  dramPasses : Dword := 0
  sramPasses : Dword := 0
  scrubNow : Option ScrubJob := none
  retiring : Option Retirement := none
  selfCheck : Dword := 0
  deriving DecidableEq, Repr

/-! ### Self-test and health (chapter 15) -/

/-- The newest result of a self-test target (R570). -/
structure BistRecord where
  target : Byte
  unit : UnitId
  observed : Dword
  expected : Dword
  pass : Bool
  aborted : Bool
  deriving DecidableEq, Repr

/-- A self-test in service: its target, its unit, the command that asked for it (none for the rotating test), whether RETEST was set, and the understudy place that its handover left empty, true for US1 (R569, R574, R579, R580). -/
structure TestJob where
  target : Byte
  unit : UnitId
  cmd : Option CmdRef
  retest : Bool
  place : Option Bool := none
  deriving DecidableEq, Repr

/-- A handover in progress (R576): the stagehand, the understudy's unit and place, the freeze edge, whether the unit left is failed, and the test to begin on it afterwards. -/
structure Handover where
  sh : ShId
  unit : UnitId
  place : Bool
  start : Tick
  sourceFailed : Bool
  test : Option TestJob
  /-- The understudy has failed during the copy: the source resumes at the switch (R578). -/
  dropped : Bool := false
  /-- Occupants whose staging data the copy from a faulty source finds uncorrectable (R581). -/
  stale : List ChanId := []
  deriving DecidableEq, Repr

/-- The health block (chapter 15) with the temperature and lifetime counters of chapter 27. -/
structure Health where
  /-- Physical unit of each logical stagehand, none when it is lost. -/
  map : Tbl 4 (Option UnitId) := Tbl.fill 4 none
  us0 : Option UnitId := none
  us1 : Option UnitId := none
  failed : BitVec 14 := 0
  tests : List TestJob := []
  handovers : List Handover := []
  results : List BistRecord := []
  lastResult : Option BistRecord := none
  lastTested : UnitId := 13
  /-- Start of the present rotating interval (R579). -/
  rotSince : Tick := 0
  /-- Survivor assigned last for each lost stagehand (R582). -/
  lastSurvivor : Tbl 4 (Option ShId) := Tbl.fill 4 none
  present : Byte := 0
  seen : Byte := 0
  spareBankBad : Bool := false
  mramSpareRows : Byte := 255
  curtainCall : Bool := false
  tj : BitVec 16 := 0
  tjValid : Bool := false
  highSeen : Bool := false
  thermalArmed : Bool := true
  lifeBoots : Dword := 0
  lifePowerHours : Dword := 0
  lifeThermal : Dword := 0
  /-- Fraction of a millionth not yet counted in LIFE_THERMAL (R591). -/
  lifeThermalFrac : Nat := 0
  lifeTjMax : BitVec 16 := 0
  lifeRotTests : Dword := 0
  lifeFaultHandovers : Dword := 0
  lifeUnitFails : Byte := 0
  /-- REFCLK count at which the present power hour began (R590). -/
  hourSince : Nat := 0
  deriving DecidableEq, Repr

/-! ### Power ladder (chapter 16) -/

/-- A doorbell held while the device sleeps (R39). -/
structure HeldDoorbell where
  cq : Bool
  tenant : TenantId
  queue : QueueId
  value : Dword
  deriving DecidableEq, Repr

/-- The power ladder. -/
structure Power where
  state : PowerState := .lit
  /-- State that an accepted POWER_STATE or an idle timer lets the device enter (R602, R603). -/
  target : Option PowerState := none
  /-- A wake event has arrived and the climb to LIT is not complete (R605). -/
  waking : Bool := false
  restoreFailed : Bool := false
  wakeCause : BitVec 6 := 0
  /-- CLK_REG cycle of the first wake event of the climb, by its REFCLK edge (R607). -/
  wakeAt : Nat := 0
  wakeAct : ActId := 0
  wakePin : PinId := 0
  deepest : PowerState := .lit
  /-- Entry into the present rung, and since when the next rung's condition holds (R603). -/
  entered : Tick := 0
  quietSince : Option Tick := none
  suppressed : BitVec 16 := 0
  held : List HeldDoorbell := []
  deriving DecidableEq, Repr

/-! ### Start-up, the prompt book and field upgrade (chapter 17) -/

/-- State of a patch slot (R637, R878). -/
inductive PatchState where
  | empty
  | writing
  | staged
  deriving DecidableEq, Repr

/-- A patch slot of the prompt book: its image and the byte ranges written so far. -/
structure PatchSlot where
  state : PatchState := .empty
  image : List Host.Cell := []
  written : List (Nat × Nat) := []
  version : Dword := 0
  length : Dword := 0
  hash : List Byte := []
  deriving DecidableEq, Repr

/-- A configuration snapshot (R633): registers, map, queue and channel definitions, cue allocations and the pool, with running state cleared. -/
structure Snapshot where
  stamp : Tick
  boots : Dword
  label : Dword
  dev : Tbl 11 Staged
  prot : Protection
  tenants : Tbl 4 Tenant
  chans : Tbl 7 Chan
  cues : Tbl 10 Cue
  props : PropRoom
  deriving DecidableEq, Repr

/-- An entry of the fault log (R220): its cause and stamp. -/
structure FaultEntry where
  cause : Byte
  stamp : Tick
  deriving DecidableEq, Repr

/-- Start-up and the prompt book. -/
structure Boot where
  /-- Start-up step in progress, 1 to 10; 11 when start-up is over. -/
  step : BitVec 4 := 1
  straps : BitVec 4 := 0
  resetCause : BitVec 3 := 0
  romOnly : Bool := false
  romCause : BitVec 2 := 0
  failedBoots : BitVec 2 := 0
  confirmed : Bool := false
  dramFail : BitVec 2 := 0
  calDefault : Bool := false
  bootRecord : Bool := false
  restoreStatus : Byte := 0
  restoreSlotUsed : BitVec 2 := 0
  activeSet : BitVec 16 := 0
  pendingSet : Option (BitVec 16) := none
  rollback : Dword := 0
  /-- Since when Heline has served commands in this boot (R642). -/
  servingSince : Option Tick := none
  patches : Tbl 4 PatchSlot := Tbl.fill 4 {}
  snapshots : Tbl 2 (Option Snapshot) := Tbl.fill 2 none
  faultLog : List FaultEntry := []
  boardRecord : Option Dword := none
  /-- The snapshot that a CONFIG_SNAPSHOT in service has sampled, with its slot (R633, R879). -/
  taking : Option (BitVec 2 × Snapshot) := none
  /-- A FULL_DEVICE test has ended: its command, status and signatures await the return to HOUSE_ONLY (R574). -/
  bistDue : Option (CmdRef × Byte × Dword × Dword) := none
  deriving DecidableEq, Repr

/-! ### Host ports and the House port (chapter 18) -/

/-- An MSI-X table entry (R659). -/
structure MsixEntry where
  addr : Word := 0
  data : Dword := 0
  masked : Bool := true
  deriving DecidableEq, Repr

/-- A write held in a port's posted write buffer, translated on entry (R657, R658). -/
structure PostedWrite where
  off : Nat
  bytes : List Byte
  enables : List Bool
  deriving DecidableEq, Repr

/-- A read request that the device has outstanding on a port: its tag, the channel it serves, the REFCLK period it was sent in, and the bytes received so far (R648, R651, R663). -/
structure PortRead where
  tag : Byte
  chan : ChanId
  sent : Nat
  len : Nat
  got : List Byte
  deriving DecidableEq, Repr

/-- The first header that AER logged (R664): BAR and offset of the access. -/
structure AerHeader where
  bar : BitVec 3
  off : BitVec 60
  deriving DecidableEq, Repr

/-- The writable bits of configuration space after a reset of the port: Max Read Request Size 512 B, the AER severities, the mask of the Advisory Non-Fatal Error and the target link speed, as the PCI Express Base Specification prescribes (R650; log entry 9). -/
def cfgReset : Tbl 10 Dword :=
  [(0x022, 0x2000), (0x02C, 3), (0x043, 0x00062010), (0x045, 0x2000)].foldl
    (fun (t : Tbl 10 Dword) (p : BitVec 10 × Dword) => t.put p.1 p.2) (Tbl.fill 10 0)

/-- A host port (R648 to R669). -/
structure Port where
  linkUp : Bool := false
  speed : BitVec 3 := 0
  width : BitVec 3 := 0
  /-- PERST_N is held low (R619). -/
  perst : Bool := false
  /-- SRIS as the last link training found it (R649). -/
  sris : Bool := false
  /-- The writable bits of configuration space, by dword number (R650). -/
  cfg : Tbl 10 Dword := cfgReset
  /-- Requester ID of the port's function, as the last configuration write to it gave the bus and device (R34). -/
  requester : BitVec 16 := 0
  msix : Tbl 8 MsixEntry := Tbl.fill 8 {}
  pba : BitVec 256 := 0
  posted : List PostedWrite := []
  reads : List PortRead := []
  aerHeader : Option AerHeader := none
  deriving DecidableEq, Repr

/-- A word of House WRITE data not yet performed (R677, R678). -/
structure HouseWord where
  off : BitVec 18
  data : Word
  eight : Bool
  deriving DecidableEq, Repr

/-- The House port and its mailbox (R235 to R238, R670 to R683). -/
structure House where
  /-- QUAD as the present frame uses it (R672). -/
  quad : Bool := false
  writes : List HouseWord := []
  mboxFull : Bool := false
  mboxEmpty : Bool := false
  accessErr : Bool := false
  frameErr : Bool := false
  inbound : List Untaken := []
  /-- Outbound records: a completion and its inline result (R236). -/
  outbound : List (Completion × List Byte) := []
  /-- Records that wait for space (R237). -/
  waiting : List (Completion × List Byte) := []
  deriving DecidableEq, Repr

/-! ### Converter links, TDM ports and the local bus (chapters 19 and 20) -/

/-- One converter link (R689 to R715). -/
structure ConvLinkState where
  state : LinkState := .down
  /-- Step of a TRAINING link. RX, by R706: 1 to 5, and 6 where the bring-up has failed by ELASTIC_ERR. TX, by R707: 1 before the first boundary, 2 after it, 3 in the ILAS. -/
  step : BitVec 3 := 1
  broughtBy : Option Source := none
  aligned : Bool := false
  lmfcStamp : Tick := 0
  /-- SYNCOUT_N is high (RX), or SYNCIN_N was last seen high (TX). -/
  syncHigh : Bool := false
  /-- Multiframes of ILAS still to send (R707). -/
  ilasLeft : Nat := 4
  /-- An ILAS of the present bring-up differed (R709). -/
  mismatched : Bool := false
  errCount : BitVec 16 := 0
  resyncCount : Byte := 0
  ilasMismatch : Bool := false
  firstMismatch : Byte := 0
  elasticErr : Bool := false
  linkLost : Bool := false
  deriving DecidableEq, Repr

/-- The converter link block: links 0 to 3 are RX and 4 to 7 are TX (R689). -/
structure Converter where
  links : Tbl 3 ConvLinkState := Tbl.fill 3 {}
  /-- RX lanes with clock-recovery lock, and RX lanes that have received four /K/ characters (R706). -/
  laneLocked : Byte := 0
  laneSync : Byte := 0
  /-- Code-group errors of each RX lane in the present multiframe (R710). -/
  laneErrors : Tbl 3 Nat := Tbl.fill 3 0
  sysrefStamp : Tick := 0
  sysrefSeq : Dword := 0
  sysrefNext : Option Tick := none
  /-- Pulses still to come; none while the pattern is continuous. -/
  sysrefLeft : Option Nat := none
  sysrefLevel : Bool := false
  sysrefFall : Option Tick := none
  lmfcStamp : Tick := 0
  devclkStamp : Tick := 0
  devclkSeq : Dword := 0
  prbsErr : Word := 0
  deriving DecidableEq, Repr

/-- One TDM port (R730 to R742). -/
structure TdmPort where
  state : LinkState := .down
  broughtBy : Option Source := none
  /-- Start time S of a master port, moved by each restart (R733). -/
  start : Tick := 0
  /-- Next frame to start, counted from `start`. -/
  frame : Nat := 0
  /-- The port restarts at the period starts of START_ACT (R733, R748). -/
  awaitAct : Bool := false
  /-- Start of the frame in progress. -/
  lastStart : Option Tick := none
  /-- Start of the frame before it, where the port was UP and no slip came between (R737). -/
  prevStart : Option Tick := none
  /-- TX groups whose take point, and RX groups whose last bit, the frame in progress has passed (R741). -/
  taken : BitVec 16 := 0
  given : BitVec 16 := 0
  slipCount : BitVec 16 := 0
  resyncCount : Byte := 0
  linkLost : Bool := false
  deriving DecidableEq, Repr

/-- A burst on the local bus: its channel, its direction, the beats still to run, and the bytes that a read has brought (R744). -/
structure LbBurst where
  chan : ChanId
  write : Bool
  addr : Addr
  bytes : List Byte
  len : Nat
  done : Nat := 0
  got : List Byte := []
  abandoned : Bool := false
  /-- Abandoned while no beat was presented: it ends without one (R746). -/
  beatless : Bool := false
  /-- First cycle of the beat that is presented (R744). -/
  since : Tick := 0
  deriving DecidableEq, Repr

/-! ### DRAM ports and pins (chapters 21 and 22) -/

/-- What the DRAM ports hold beside MEM_BOARD, MEM_GEOM and the memory itself (R760 to R767); ranks in the order of MEM_REFRESH. -/
structure DramPorts where
  selfRefresh : Bool := false
  postponed : Tbl 2 Nat := Tbl.fill 2 0
  hot : BitVec 4 := 0
  deriving DecidableEq, Repr

/-- A multi-function pin beside its PIN_MUX entry (R772 to R793). -/
structure Pin where
  /-- Level at the ball, as the board drives it or the weak pull holds it. -/
  ball : Bool := false
  /-- Ends of the park and of the settle period (R779, R780). -/
  parkEnd : Option Tick := none
  settleEnd : Option Tick := none
  /-- Level from which the function's next edge counts (R780). -/
  seen : Bool := false
  /-- End of the DONE pulse in progress, and pulses queued (R784). -/
  pulseEnd : Option Tick := none
  queued : Nat := 0
  /-- Edge held below HUSH (R789). -/
  heldEdge : Option Bool := none
  deriving DecidableEq, Repr

/-! ### Trace and JTAG (chapter 23) -/

/-- A Glovix record (R794). -/
structure TraceRecord where
  stamp : Tick
  event : Byte
  cls : BitVec 4
  uncertain : Bool
  coarse : Bool
  lostBefore : Bool
  tenant : Option TenantId
  chan : Option ChanId
  data : Dword
  deriving DecidableEq, Repr

/-- The trace-persist region of the prompt book (R808). -/
structure TraceImage where
  newest : Dword
  boots : Dword
  trigger : Byte
  records : List TraceRecord
  deriving DecidableEq, Repr

/-- The trace block (R794 to R809). -/
structure Trace where
  staging : List TraceRecord := []
  /-- The ring, oldest first. -/
  ring : List TraceRecord := []
  /-- Records written since the buffer was last emptied (R797). -/
  written : Nat := 0
  lost : BitVec 16 := 0
  /-- The next record written carries LOST_BEFORE. -/
  lostMark : Bool := false
  /-- Sequence number of the next record to export. -/
  exported : Nat := 0
  stopped : Bool := false
  persist : Option TraceImage := none
  deriving DecidableEq, Repr

/-- JTAG instructions (R810). -/
inductive JtagInstr where
  | extest
  | idcode
  | samplePreload
  | highz
  | clamp
  | extestPulse
  | extestTrain
  | bypass
  deriving DecidableEq, Repr

/-- The TAP (R810 to R813): its instruction, and the cells of MFP0 to MFP47 in the boundary register, as SAMPLE/PRELOAD captured them. -/
structure Jtag where
  instr : JtagInstr := .idcode
  sampled : BitVec 48 := 0
  deriving DecidableEq, Repr

/-! ### The prompter (chapter 06) -/

/-- A long command in service (R223, R246): its reference, its packet, its body or the result it has sampled, its order of taking and the time its service began. -/
structure LongCmd where
  ref : CmdRef
  dw : Vector Dword 16
  body : List Byte
  order : Nat
  started : Tick
  /-- ABORT_COMMANDs that wait for this command to finish, with their outcomes (R248). -/
  aborts : List (CmdRef × Dword) := []
  deriving DecidableEq, Repr

/-- A PIN_ASSIGN in service, which holds the prompter until its pin has settled (R223, R775): the entry as applied. -/
structure PinJob where
  pin : PinId
  entry : Word
  ref : CmdRef
  deriving DecidableEq, Repr

/-- A completion write issued and not yet accepted by its target, with the vectors that follow it (R38). -/
structure CplWrite where
  tenant : TenantId
  cq : QueueId
  addr : Addr
  bytes : List Byte
  vectors : List Byte
  chan : Option ChanId
  retries : Nat := 0
  /-- The write is on its way to its target; one that is not waits behind an earlier one of its CQ, or for its retry (R44, R279, R474). -/
  sent : Bool := true
  /-- Time of the retry that the write waits for. -/
  retryAt : Option Tick := none
  deriving DecidableEq, Repr

/-! ### What leaves the part -/

/-- Something the part sends to the world outside it. -/
inductive Emit where
  /-- A memory write TLP on a host port, with its Requester ID and PCI Express address (R34, R661). -/
  | hostWrite (p : HostPort) (requester : BitVec 16) (addr : Addr) (bytes : List Byte)
  /-- A memory read request on a host port for the data of a unit, with its tag (R34, R648). -/
  | hostRead (p : HostPort) (requester : BitVec 16) (tag : Byte) (addr : Addr) (len : Nat)
  /-- A memory read request on a host port for a ring entry, chain, table or script memory, or an arrival read-back; its length may be 0 (R34, R260, R357, R477). -/
  | hostFetch (p : HostPort) (requester : BitVec 16) (addr : Addr) (len : Nat)
  /-- A read of chain, table or script memory on the local bus (R357). -/
  | lbFetch (addr : Addr) (len : Nat)
  /-- SYNCOUT_N of an RX link is low for two frame cycles: the report of a code-group error (R710). -/
  | syncReport (link : BitVec 2)
  /-- A beat of a local-bus read-back: the word's address and the byte enables (R477). -/
  | lbProof (addr : Addr) (enables : BitVec 4)
  /-- The MSI-X message of a table entry (R660). -/
  | msix (p : HostPort) (entry : Byte) (addr : Word) (data : Dword)
  /-- The value that a register read returns (R131). -/
  | regData (via : Via) (eight : Bool) (data : Word)
  /-- A register access that ends in a bus error (R151, R152). -/
  | busError (via : Via)
  /-- Data of a BAR2, BAR3 or BAR4 read, or of a configuration read. -/
  | barData (p : HostPort) (bytes : List Byte)
  /-- A request that ends in Unsupported Request or Completer Abort (R664). -/
  | unsupported (p : HostPort)
  | completerAbort (p : HostPort)
  /-- AER messages (R664). -/
  | errCor (p : HostPort)
  | errNonfatal (p : HostPort)
  | errFatal (p : HostPort)
  /-- Bytes that the part sends on the House port (R674). -/
  | spi (quad : Bool) (bytes : List Byte)
  /-- A local-bus beat: chip select, direction, word address and write data (R744). -/
  | lbBeat (cs : BitVec 2) (write : Bool) (addr : Addr) (data : List Byte)
  /-- A unit that a TX port sends (R727). -/
  | unit (e : EpId) (bytes : List Byte)
  /-- The bits of a unit on the transmit data pin of a TDM port, by their positions in the frame, driven at rising or at falling edges (R731, R740). -/
  | tdmBits (n : BitVec 2) (falling : Bool) (bits : List (Nat × Bool))
  /-- Slots of a frame that no TX group names and that are driven 0 (R731). -/
  | tdmUnused (n : BitVec 2) (slots : List Nat)
  /-- A frame sync of a master TDM port: when it becomes active and inactive, and whether it is active low (R732). -/
  | frameSync (n : BitVec 2) (time endTime : Tick) (low : Bool)
  /-- A change of an output pin or strobe (R70, R72, R784, R695). -/
  | pulse (o : PulseOutput) (high : Bool) (time : Tick)
  /-- A trace frame: the bytes between its start symbol and its two closing bits (R805). -/
  | traceFrame (bytes : List Byte)
  /-- A value shifted out of the TAP (R811). -/
  | jtag (data : Dword)
  deriving DecidableEq, Repr

/-! ### Stops -/

/-- Why a step ends in a fault. -/
inductive Fault where
  /-- Raised by events whose operands cannot come from the hardware (a pin above MFP47, a unit above 13, byte enables that do not fit the bytes). Safe: no such event exists. -/
  | malformedEvent
  deriving DecidableEq, Repr

/-- Why a command is refused. -/
inductive Refusal where
  /-- Raised by no meaning: the arm of a command that the model does not cover. Safe. -/
  | notModelled (mnemonic : String)
  deriving DecidableEq, Repr

/-! ### The whole -/

/-- The device page: its registers, by offset divided by 8, and what the page holds beside them. -/
structure DevPage where
  regs : Tbl 11 Staged
  ctl : PageCtl := {}
  deriving DecidableEq, Repr

/-- The state of the part. -/
structure State where
  tb : TimeBase := {}
  acts : Tbl 4 Act := Tbl.fill 4 {}
  dev : DevPage
  tenants : Tbl 4 Tenant
  chans : Tbl 7 Chan
  cues : Tbl 10 Cue := Tbl.fill 10 {}
  sh : Tbl 4 Stagehand := Tbl.fill 4 {}
  eps : Tbl 6 Endpoint := Tbl.fill 6 {}
  props : PropRoom := {}
  prot : Protection := {}
  devState : DevState := .fill
  /-- Long commands in service, oldest first (R223). -/
  long : List LongCmd := []
  pinJob : Option PinJob := none
  /-- Completion writes not yet accepted, oldest first (R38, R279). -/
  cplWrites : List CplWrite := []
  /-- Counter that orders commands, waits and waits for a slot. -/
  order : Nat := 0
  hp0 : Port := {}
  hp1 : Port := {}
  house : House := {}
  mem : Memory := {}
  guard : MemGuard := {}
  health : Health := {}
  power : Power := {}
  boot : Boot := {}
  /-- The snapshot of slot 3, kept over INTERMISSION states (R610). -/
  intermission : Option Snapshot := none
  conv : Converter := {}
  tdm : Tbl 2 TdmPort := Tbl.fill 2 {}
  /-- Bursts on the local bus, the first in progress (R744). -/
  lb : List LbBurst := []
  /-- End of the TURN cycles of the last burst, while no other has begun (R743, R744). -/
  lbTurn : Option Tick := none
  /-- A strobe of the local bus's fields waits for the bus to be free (R743). -/
  lbDue : Bool := false
  dram : DramPorts := {}
  pins : Tbl 6 Pin
  trace : Trace := {}
  jtag : Jtag := {}
  /-- Signals that have reached cues at the present CLK_CORE edge and wait there: a CUE_SET or CUE_ALLOC of that edge keeps them (R839, R846). -/
  edgeSignals : List (CueId × Nat) := []
  /-- What the W1C bits that events set read at the last CLK_REG edge: an event of the present cycle wins over a clear (R18). -/
  edgeBits : List (Home × Word) := []
  /-- The model's own: how many free values have been used. -/
  fresh : Nat := 0
  /-- What has left the part, newest first. -/
  out : List Emit := []
  /-- Commands waiting, first in, first out. -/
  pending : List Instr := []
  deriving DecidableEq, Repr

/-! ### Reset -/

/-- Reset values of the device page's registers that are not 0, by offset divided by 8 (chapter 27 and the chapters it names). DEV_CTRL; HOUSE_IRQ_ENABLE in the high half; HEALTH_CFG in the high half; THERMAL; MEM_BOARD as a prompt book without a board record gives it (R754); SCRUB_CFG; POWER_CTRL; TRACE_CTRL; CVL_CLK_CFG; LB_CFG. -/
def devResets : List (BitVec 11 × Word) :=
  [(0x002, 1), (0x004, 0x00003FFF00000000), (0x142, 0x00000A0100000000), (0x144, 0x0000000000D20000),
   (0x161, 0x18), (0x164, 0x00000000001005A0), (0x170, 0x03E8006400641009), (0x178, 0x0000FFFF000FFF00),
   (0x308, 0x12), (0x400, 8)]

/-- Both copies of a register at one value (R154). -/
def Staged.both (x : Word) : Staged := { act := x, pend := x }

/-- The device page after reset. -/
def DevPage.reset : DevPage :=
  { regs := devResets.foldl (fun t r => t.put r.1 (Staged.both r.2)) (Tbl.fill 11 {}) }

/-- The registers of a channel slot after reset: SLOT_GROUP 1 (CHAN_CFG [27:24]). -/
def Chan.resetRegs : Tbl 5 Staged := (Tbl.fill 5 {}).put 4 (Staged.both 0x01000000)

/-- A channel after reset. -/
def Chan.reset : Chan := { regs := Chan.resetRegs }

/-- A tenant after reset: T_CTRL has EVENT_IRQ_EN and CUE_SET_EN set. -/
def Tenant.reset : Tenant := { regs := (Tbl.fill 9 {}).put 2 (Staged.both 3) }

/-- A pin after reset: MFP44 to MFP47 idle high and the others low (R771, R772). -/
def Pin.reset (p : PinId) : Pin := { ball := decide (44 ≤ p.toNat), seen := decide (44 ≤ p.toNat) }

/-- All pins after reset. -/
def resetPins : Tbl 6 Pin := Vector.ofFn fun i => Pin.reset (BitVec.ofFin i)

/-- The physical unit of each logical stagehand in a part none of whose units has failed: SHn on unit n (chapter 15). -/
def Health.factoryMap : Tbl 4 (Option UnitId) :=
  Vector.ofFn fun i => if i.val < 12 then some (BitVec.ofFin i) else none

/-- Health with all units good: understudies on units 12 and 13. -/
def Health.factory : Health := { map := Health.factoryMap, us0 := some 12, us1 := some 13 }

/-- The part right after POR_N (R617): start-up step 1 in progress, no command waiting. -/
def State.reset : State :=
  { dev := DevPage.reset
    tenants := Tbl.fill 4 Tenant.reset
    chans := Tbl.fill 7 Chan.reset
    pins := resetPins
    health := Health.factory }

end Sys2Proof.Machine
end

