-- ==== Sys2Proof/Machine/Ops.lean ====
section
/-! DEFINITION. Operations that many meanings share: registers, memory, protection checks, interrupts, trace, messages and completions. -/

namespace Sys2Proof.Machine

/-- The outcome of a command. -/
abbrev Result := Host.Outcome State Fault Refusal

/-! ### Reading the state -/

/-- The time base (R55). -/
def State.now (s : State) : Tick := s.tb.time

/-- The CLK_CORE edge at or after now: three CLK_TB cycles make a CLK_CORE cycle (R47). -/
def State.coreEdge (s : State) : Tick := s.tb.time + BitVec.ofNat 64 (16 * ((3 - s.tb.tbPhase % 3) % 3))

/-- The REFCLK edge at or after now (R47). -/
def State.refEdge (s : State) : Tick := s.tb.time + BitVec.ofNat 64 (16 * ((24 - s.tb.tbPhase % 24) % 24))

/-- Active copy of the device-page register at a byte offset (R154). -/
def State.devReg (s : State) (off : Nat) : Word := (s.dev.regs.look (BitVec.ofNat 11 (off / 8))).act

/-- Active copy of a 32-bit device-page register. -/
def State.devReg32 (s : State) (off : Nat) : Dword :=
  if off % 8 = 4 then hi32 (s.devReg off) else lo32 (s.devReg off)

/-- The state with a device-page register changed in its active copy. -/
def State.setDevReg (s : State) (off : Nat) (x : Word) : State :=
  { s with dev := { s.dev with regs := s.dev.regs.upd (BitVec.ofNat 11 (off / 8)) fun r => { r with act := x } } }

/-- The state with both copies of a device-page register written. -/
def State.setDevBoth (s : State) (off : Nat) (x : Word) : State :=
  { s with dev := { s.dev with regs := s.dev.regs.put (BitVec.ofNat 11 (off / 8)) (Staged.both x) } }

/-- One half of a 64-bit word replaced. -/
def putHalf (w : Word) (high : Bool) (x : Dword) : Word :=
  if high then join64 (lo32 w) x else join64 x (hi32 w)

/-- The state with a 32-bit device-page register changed in its active copy. -/
def State.setDevReg32 (s : State) (off : Nat) (x : Dword) : State :=
  s.setDevReg off (putHalf (s.devReg off) (off % 8 == 4) x)

/-- The state with one tenant changed. -/
def State.updTenant (s : State) (t : TenantId) (f : Tenant → Tenant) : State :=
  { s with tenants := s.tenants.upd t f }

/-- Active copy of a register of a tenant's control block. -/
def State.tenReg (s : State) (t : TenantId) (off : Nat) : Word :=
  ((s.tenants.look t).regs.look (BitVec.ofNat 9 (off / 8))).act

/-- The state with a register of a tenant's control block changed in its active copy. -/
def State.setTenReg (s : State) (t : TenantId) (off : Nat) (x : Word) : State :=
  s.updTenant t fun n => { n with regs := n.regs.upd (BitVec.ofNat 9 (off / 8)) fun r => { r with act := x } }

/-- The channel of a physical number. -/
def State.chan (s : State) (c : ChanId) : Chan := s.chans.look c

/-- The state with one channel changed. -/
def State.updChan (s : State) (c : ChanId) (f : Chan → Chan) : State :=
  { s with chans := s.chans.upd c f }

/-- Active copy of a register of a channel slot. -/
def Chan.reg (c : Chan) (off : Nat) : Word := (c.regs.look (BitVec.ofNat 5 (off / 8))).act

/-- Both copies of a channel-slot register written. -/
def Chan.setReg (c : Chan) (off : Nat) (x : Word) : Chan :=
  { c with regs := c.regs.put (BitVec.ofNat 5 (off / 8)) (Staged.both x) }

/-- Active copy alone of a channel-slot register written. -/
def Chan.setAct (c : Chan) (off : Nat) (x : Word) : Chan :=
  { c with regs := c.regs.upd (BitVec.ofNat 5 (off / 8)) fun r => { r with act := x } }

/-- A tenant's record in the map in force. -/
def State.record (s : State) (t : TenantId) : TenantRecord := s.prot.map.records.look t

/-- A host port of the part. -/
def State.port (s : State) : HostPort → Port
  | .hp0 => s.hp0
  | .hp1 => s.hp1

/-- The state with one host port changed. -/
def State.updPort (s : State) (p : HostPort) (f : Port → Port) : State :=
  match p with
  | .hp0 => { s with hp0 := f s.hp0 }
  | .hp1 => { s with hp1 := f s.hp1 }

/-- The port that a PORT bit names: 0 HP0, 1 HP1. -/
def portOf (b : Bool) : HostPort := if b then .hp1 else .hp0

/-- The host port of a tenant (R179). -/
def State.portOfTenant (s : State) (t : TenantId) : HostPort := portOf (s.record t).port

/-- The sixteen tenants in ascending order. -/
def allTenants : List TenantId := indices 4 16

/-- The ninety-six physical channels in ascending order (R181). -/
def allChans : List ChanId := indices 7 96

/-- The sixteen acts. -/
def allActs : List ActId := indices 4 16

/-- The 64 stream endpoints. -/
def allEps : List EpId := indices 6 64

/-- The 48 multi-function pins. -/
def allPins : List PinId := indices 6 48

/-- The twelve logical stagehands (R427). -/
def allSh : List ShId := indices 4 12

/-- The channel range of a tenant's record holds a physical channel (R181). -/
def TenantRecord.holdsChan (r : TenantRecord) (c : ChanId) : Bool :=
  r.enabled && decide (r.chanBase.toNat ≤ c.toNat) && decide (c.toNat < r.chanBase.toNat + r.chanCount.toNat)

/-- The tenant that a physical channel belongs to (R181). -/
def State.chanTenant (s : State) (c : ChanId) : Option TenantId :=
  allTenants.find? fun t => (s.record t).holdsChan c

/-- The local slot number of a physical channel of a tenant. -/
def State.slotOf (s : State) (t : TenantId) (c : ChanId) : Nat := c.toNat - (s.record t).chanBase.toNat

/-- The physical channel of a tenant's local slot, where the map assigns one (R181). -/
def State.physical (s : State) (t : TenantId) (slot : Nat) : Option ChanId :=
  let r := s.record t
  if r.enabled = true ∧ slot < r.chanCount.toNat ∧ r.chanBase.toNat + slot < 96 then
    some (BitVec.ofNat 7 (r.chanBase.toNat + slot))
  else none

/-- The source is the Stage Manager (R190). -/
def State.isSm (s : State) (t : TenantId) : Bool := s.prot.designated && s.prot.map.smTenant == t

/-- A tenant's cue range holds a cue (R185). -/
def TenantRecord.holdsCue (r : TenantRecord) (q : Nat) : Bool :=
  decide (r.cueBase.toNat ≤ q) && decide (q < r.cueBase.toNat + r.cueCount.toNat)

/-- The state with the next free value used up. -/
def State.bump (s : State) : State := { s with fresh := s.fresh + 1 }

/-- The state with something sent out. -/
def State.emit (s : State) (e : Emit) : State := { s with out := e :: s.out }

/-- Folds a list over a state. -/
def State.forAll {α : Type} (s : State) (l : List α) (f : α → State → State) : State :=
  l.foldl (fun st x => f x st) s

/-- A wake event below LIT begins the climb; its cause is recorded when it arrives in the CLK_REG cycle of the first one (R605, R607). An entry not yet made is abandoned (R616). -/
def State.wakeBy (s : State) (bit : Nat) : State :=
  if s.power.state = .lit then { s with power := { s.power with target := none } }
  else if !s.power.waking then { s with power := { s.power with waking := true, wakeAt := s.tb.refclkCount, wakeCause := 1 <<< bit } }
  else if s.tb.refclkCount = s.power.wakeAt then
    { s with power := { s.power with wakeCause := s.power.wakeCause ||| (1 <<< bit) } }
  else s

/-! ### Memory -/

/-- The byte at an offset: an offset that is not listed reads 0, as power-on fill leaves it (R562). -/
def cellsRead : List Host.Cell → Nat → Byte
  | [], _ => 0
  | c :: cs, a => if c.1 = a then c.2 else cellsRead cs a

/-- A byte written, in canonical form: offsets rise and no listed byte is 0. -/
def cellsWrite : List Host.Cell → Nat → Byte → List Host.Cell
  | [], a, b => if b = 0 then [] else [(a, b)]
  | c :: cs, a, b =>
    if a < c.1 then (if b = 0 then c :: cs else (a, b) :: c :: cs)
    else if a = c.1 then (if b = 0 then cs else (a, b) :: cs)
    else c :: cellsWrite cs a b

/-- Consecutive bytes read. -/
def cellsReadN (m : List Host.Cell) (a : Nat) : Nat → List Byte
  | 0 => []
  | n + 1 => cellsRead m a :: cellsReadN m (a + 1) n

/-- Consecutive bytes written. -/
def cellsWriteN : List Host.Cell → Nat → List Byte → List Host.Cell
  | m, _, [] => m
  | m, a, b :: bs => cellsWriteN (cellsWrite m a b) (a + 1) bs

/-- Canonical form of a list of cells: every offset is above `lo`'s bound, offsets rise, and no byte is 0. -/
def cellsWf : Nat → List Host.Cell → Bool
  | _, [] => true
  | lo, c :: cs => decide (lo ≤ c.1) && !(c.2 == 0) && cellsWf (c.1 + 1) cs

/-- Both memories are in canonical form. -/
def Memory.wf (m : Memory) : Bool := cellsWf 0 m.wing && cellsWf 0 m.dram

/-- Wing SRAM bytes written; the bytes written carry good check bits again (R532). -/
def State.wingWrite (s : State) (off : Nat) (bs : List Byte) : State :=
  { s with
    mem := { s.mem with wing := cellsWriteN s.mem.wing off bs }
    guard := { s.guard with
      wingBad := s.guard.wingBad.filter fun a => decide (a < off) || decide (off + bs.length ≤ a) } }

/-- DRAM bytes written. -/
def State.dramWrite (s : State) (off : Nat) (bs : List Byte) : State :=
  { s with mem := { s.mem with dram := cellsWriteN s.mem.dram off bs } }

/-! ### DRAM geometry (R32, R33, R750, R764) -/

/-- Interleaved mode is in force (MEM_GEOM0 [4] or MEM_GEOM1 [4]). -/
def State.interleaved (s : State) : Bool := bitAt (s.devReg 0x0B10) 4 || bitAt (s.devReg 0x0B10) 36

/-- Installed capacity of DC0 or DC1 in bytes (MEM_GEOM [15:8]); 0 for a channel that is not present. -/
def State.dramCapacity (s : State) (dc1 : Bool) : Nat :=
  let g := s.devReg32 (if dc1 then 0x0B14 else 0x0B10)
  if bitAt g 0 then field g 15 8 * 2 ^ 30 else 0

/-- What an offset of the DRAM is. -/
inductive DramPlace where
  | memory
  | spare
  | absent
  deriving DecidableEq, Repr

/-- Judges an offset against an installed size and the spare bytes at its top (R33). -/
def placeIn (off size spare : Nat) : DramPlace :=
  if size ≤ off then .absent else if size - spare ≤ off then .spare else .memory

/-- What a DRAM offset reaches (R28, R32, R33). -/
def State.dramPlace (s : State) (off : Nat) : DramPlace :=
  if s.interleaved then placeIn off (s.dramCapacity false + s.dramCapacity true) (2 * 2 ^ 20)
  else if off < 2 ^ 35 then placeIn off (s.dramCapacity false) (2 ^ 20)
  else placeIn (off - 2 ^ 35) (s.dramCapacity true) (2 ^ 20)

/-- First offset at or after `off` that is not addressable, where `off` is addressable: the end of its region. -/
def State.dramEnd (s : State) (off : Nat) : Nat :=
  if s.interleaved then s.dramCapacity false + s.dramCapacity true - 2 * 2 ^ 20
  else if off < 2 ^ 35 then s.dramCapacity false - 2 ^ 20
  else 2 ^ 35 + s.dramCapacity true - 2 ^ 20

/-- The DRAM channel of an offset: true for DC1 (R32). -/
def State.dramChannel (s : State) (off : Nat) : Bool :=
  if s.interleaved then off.testBit 12 else decide (2 ^ 35 ≤ off)

/-- The poison map of the channel that holds a line (R543). -/
def State.poisonMap (s : State) (dc1 : Bool) : List Nat := if dc1 then s.guard.poison1 else s.guard.poison0

/-- A line of 64 bytes, by its offset, is poisoned (R543). -/
def State.poisoned (s : State) (line : Nat) : Bool := (s.poisonMap (s.dramChannel line)).contains line

/-- Offsets of the 64-byte lines that a range of bytes touches. -/
def linesOf (off len : Nat) : List Nat :=
  if len = 0 then [] else (List.range ((off + len - 1) / 64 - off / 64 + 1)).map fun i => (off / 64 + i) * 64

/-! ### Tagged addresses (R27) -/

/-- The tag of a tagged address. -/
def tagOf (a : Addr) : Nat := field a 63 60

/-- The offset field of a tagged address: bits [59:0]. -/
def offOf (a : Addr) : Nat := field a 59 0

/-- The endpoint of a tag 0x5 address. -/
def epOf (a : Addr) : EpId := a.extractLsb' 16 6

/-- The chip select of a tag 0x4 address. -/
def csOf (a : Addr) : BitVec 2 := a.extractLsb' 32 2

/-- The address is that of a host port; which one. -/
def hostOf (a : Addr) : Option HostPort :=
  if tagOf a = 2 then some .hp0 else if tagOf a = 3 then some .hp1 else none

/-- The address lies in Wing SRAM or DRAM. -/
def isInternal (a : Addr) : Bool := decide (tagOf a < 2)

/-- The proof target of an address (R475); none for a stream endpoint. -/
def State.proofTarget (s : State) (a : Addr) : Option ProofTarget :=
  match tagOf a with
  | 0 => some .wing
  | 1 => some (if s.dramChannel (offOf a) then .dc1 else .dc0)
  | 2 => some .hp0
  | 3 => some .hp1
  | 4 => some (.lb (csOf a))
  | _ => none

/-- Some bit in the must-be-zero range of the address's tag is 1, or the tag is reserved (R27, R28). -/
def badTag (a : Addr) : Bool :=
  match tagOf a with
  | 0 => decide (2 ^ 23 ≤ offOf a)
  | 1 => decide (2 ^ 36 ≤ offOf a)
  | 2 => false
  | 3 => false
  | 4 => decide (2 ^ 34 ≤ offOf a)
  | 5 => decide (2 ^ 22 ≤ offOf a)
  | _ => true

/-- The address with the bits that a stream address ignores taken as zero (R36). -/
def judgedAddr (a : Addr) : Addr := if tagOf a = 5 then a &&& ~~~(0xFFFF : Word) else a

/-- EP_CFGn of an endpoint. -/
def State.epCfg (s : State) (e : EpId) : Word := s.devReg (0x1000 + 8 * e.toNat)

/-- EP_SILENCEn of an endpoint. -/
def State.epSilence (s : State) (e : EpId) : Word := s.devReg (0x1200 + 8 * e.toNat)

/-- LB_CSn of a chip select. -/
def State.lbCs (s : State) (cs : BitVec 2) : Dword := s.devReg32 (0x2010 + 4 * cs.toNat)

/-- The second judgement of R959: the range of the target, as a CHECK code. -/
def State.checkRange (s : State) (a : Addr) (len : Nat) : Option Nat :=
  let off := offOf a
  match tagOf a with
  | 0 => if 2 ^ 23 < off + len then some 2 else none
  | 1 =>
    match s.dramPlace off with
    | .spare => some 9
    | .absent => some 2
    | .memory => if s.dramEnd off < off + len then some 9 else none
  | 4 => if !(bitAt (s.lbCs (csOf a)) 0) then some 2 else if 2 ^ 34 < off + len then some 2 else none
  | 5 => none
  | _ => if 2 ^ 60 < off + len then some 2 else none

/-- A window covers a byte of a target (R183). -/
def Window.covers (w : Window) (tag off : Nat) : Bool :=
  w.valid && w.tag.toNat == tag && decide (w.base.toNat ≤ off) && decide (off ≤ w.last.toNat)

/-- A window grants the right of an access. -/
def Window.grants (w : Window) (write : Bool) : Bool := if write then w.write else w.read

/-- The windows of a tenant's record. -/
def TenantRecord.windowList (r : TenantRecord) : List Window := r.windows.toList

/-- The fourth judgement of R959: the windows, from the first byte, as a CHECK code. -/
def TenantRecord.checkWindows (r : TenantRecord) (a : Addr) (len : Nat) (write : Bool) : Option Nat :=
  let tag := tagOf a
  let off := offOf a
  let cover := r.windowList.filter fun w => w.covers tag off
  let granted := cover.filter fun w => w.grants write
  if cover.isEmpty then some 3
  else if granted.isEmpty then some 4
  else if granted.any fun w => decide (off + len ≤ w.last.toNat + 1) then none
  else some 6

/-- The endpoint right, and the state of the endpoint: disabled, or against its DIR while PORT is not 0 (R186, R724). -/
def State.checkEndpoint (s : State) (t : TenantId) (e : EpId) (write : Bool) : Option Nat :=
  let cfg := s.epCfg e
  if !(bitAt (s.record t).endpoints e.toNat) then some 5
  else if !(bitAt cfg 0) then some 5
  else if field cfg 3 2 ≠ 0 ∧ bitAt cfg 1 ≠ write then some 5
  else none

/-- The checks of one burst or fetch, in the order of R959; the CHECK code of the first that fails. -/
def State.checkAccess (s : State) (t : TenantId) (addr : Addr) (len : Nat) (write : Bool) : Option Nat :=
  let a := judgedAddr addr
  let n := if tagOf a = 5 then 1 else len
  if badTag a then some 1
  else match s.checkRange a n with
    | some k => some k
    | none =>
      if tagOf a = 4 ∧ (offOf a + n - 1) / 2 ^ 32 ≠ offOf a / 2 ^ 32 then some 7
      else match (s.record t).checkWindows a n write with
        | some k => some k
        | none => if tagOf a = 5 then s.checkEndpoint t (epOf a) write else none

/-- Fault detail in DW3 of a PROTECTION_FAULT completion (R188). -/
def faultDetail (check : Nat) (write fetch : Bool) : Dword :=
  BitVec.ofNat 32 (check + 16 * flag write + 32 * flag fetch)

/-! ### Host ports: what the device may send (R660, R662) -/

/-- Dword numbers of the writable configuration registers: Command, PMCSR, Device Control, Link Control, Device Control 2, MSI-X Message Control, and the AER status, mask and severity registers. The spec places none of them (log entry 9). -/
def cfgCommand : BitVec 10 := 0x001
def cfgPmcsr : BitVec 10 := 0x011
def cfgDevCtl : BitVec 10 := 0x022
def cfgLinkCtl : BitVec 10 := 0x024
def cfgDevCtl2 : BitVec 10 := 0x02A
def cfgMsix : BitVec 10 := 0x030
def cfgAerUncor : BitVec 10 := 0x041
def cfgAerMask : BitVec 10 := 0x042
def cfgAerSeverity : BitVec 10 := 0x043
def cfgAerCor : BitVec 10 := 0x044
def cfgAerCorMask : BitVec 10 := 0x045

/-- Bus Master Enable of a port. -/
def Port.bme (p : Port) : Bool := bitAt (p.cfg.look cfgCommand) 2

/-- The function is in D3hot. -/
def Port.d3hot (p : Port) : Bool := decide (field (p.cfg.look cfgPmcsr) 1 0 = 3)

/-- The device may send requests on the port (R44, R662). -/
def Port.usable (p : Port) : Bool := p.linkUp && p.bme && !p.d3hot

/-- MSI-X Enable is 1 and Function Mask 0. -/
def Port.msixOn (p : Port) : Bool := bitAt (p.cfg.look cfgMsix) 31 && !(bitAt (p.cfg.look cfgMsix) 30)

/-- Sends the message of a table entry, or sets its pending bit (R660). -/
def State.sendEntry (s : State) (p : HostPort) (i : BitVec 8) : State :=
  let q := s.port p
  let e := q.msix.look i
  if q.usable && q.msixOn && !e.masked then s.emit (.msix p i e.addr e.data)
  else s.updPort p fun q => { q with pba := q.pba ||| (1 <<< i.toNat) }

/-- Sends the message of a tenant's vector index: table entry VEC_BASE + index on its port (R285). -/
def State.sendVector (s : State) (t : TenantId) (index : Nat) : State :=
  let r := s.record t
  if index < r.vecCount.toNat then
    s.sendEntry (s.portOfTenant t) (BitVec.ofNat 8 (r.vecBase.toNat + index))
  else s

/-- The PCI Express address of a tagged address of a host port: bits [63:60] are sent as zero (R34). -/
def busAddr (a : Addr) : Addr := a &&& 0x0FFFFFFFFFFFFFFF#64

/-- A memory write request leaves on a host port (R34, R661). -/
def State.sendHostWrite (s : State) (p : HostPort) (a : Addr) (bytes : List Byte) : State :=
  s.emit (.hostWrite p (s.port p).requester (busAddr a) bytes)

/-- A memory read request for a fetch or a read-back leaves on a host port (R34). -/
def State.sendHostFetch (s : State) (p : HostPort) (a : Addr) (len : Nat) : State :=
  s.emit (.hostFetch p (s.port p).requester (busAddr a) len)

/-! ### Events (R287, R889, R909, R908) -/

/-- The admin vector index of a tenant, T_ADMIN_SIZE.VECTOR. -/
def State.adminVector (s : State) (t : TenantId) : Nat := field (s.tenReg t 0x110) 15 8

/-- Sets a bit of T_IRQ_STATUS; its change from 0 to 1 while enabled is signalled on the admin vector (R287, R887). -/
def State.raiseTenant (s : State) (t : TenantId) (bit : Nat) : State :=
  let old := s.tenReg t 0x18
  let s1 := s.setTenReg t 0x18 (old ||| (1 <<< bit))
  if !(bitAt old bit) && bitAt (s.tenReg t 0x20) bit && bitAt (s.tenReg t 0x10) 0 then
    s1.sendVector t (s.adminVector t)
  else s1

/-- Sets a bit of T_IRQ_STATUS in the page of the Stage Manager (R889). -/
def State.raiseSm (s : State) (bit : Nat) : State :=
  if s.prot.designated then s.raiseTenant s.prot.map.smTenant bit else s

/-- Sets a bit of HOUSE_IRQ_STATUS. -/
def State.raiseHouse (s : State) (bit : Nat) : State :=
  s.setDevReg 0x20 (s.devReg 0x20 ||| (1 <<< bit))

/-- Sets a bit of DEV_ALERT; its change from 0 to 1 sets HOUSE_IRQ_STATUS.ALERT (R908). -/
def State.raiseAlert (s : State) (bit : Nat) : State :=
  if bitAt (s.devReg 0x18) bit then s
  else (s.setDevReg 0x18 (s.devReg 0x18 ||| (1 <<< bit))).raiseHouse 11

/-! ### Trace (R794 to R800) -/

/-- TRACE_CTRL records a class and a tenant (R795). -/
def State.traced (s : State) (cls : Nat) (t : Option TenantId) : Bool :=
  let ctrl := s.devReg 0x0BC0
  cls == 0 || cls == 5 || cls == 7 ||
    (bitAt ctrl (8 + cls) && match t with | some t => bitAt ctrl (32 + t.toNat) | none => true)

/-- A record lost: LOST increments and the next record written carries LOST_BEFORE (R796, R797). -/
def Trace.lose (t : Trace) : Trace := { t with lost := satAdd t.lost 1, lostMark := true }

/-- Place of a record among those raised at its edge: CLASS, then CHANNEL (R796). -/
def TraceRecord.rank (r : TraceRecord) : Nat := 128 * r.cls.toNat + (r.chan.getD 0x7F).toNat

/-- A record enters the queue: behind those of earlier edges, and in its place among those of its own (R796). -/
def enqueue (r : TraceRecord) : List TraceRecord → List TraceRecord
  | [] => [r]
  | x :: rest => if x.stamp = r.stamp ∧ r.rank < x.rank then r :: x :: rest else x :: enqueue r rest

/-- A record put into the staging queue, which holds 64 (R796). -/
def Trace.stage (t : Trace) (r : TraceRecord) : Trace :=
  if t.stopped || 64 ≤ t.staging.length then t.lose else { t with staging := enqueue r t.staging }

/-- The device is below HUSH, where its clocks stand (R598). -/
def State.belowHush (s : State) : Bool :=
  s.power.state == .interval || s.power.state == .dark || s.power.state == .shuttered

/-- Raises a trace event; below HUSH it is counted and not recorded (R610). -/
def State.traceAs (s : State) (cls event : Nat) (t : Option TenantId) (c : Option ChanId) (data : Dword)
    (stamp : Tick) (uncertain : Bool) : State :=
  let r : TraceRecord :=
    { stamp := stamp, event := BitVec.ofNat 8 event, cls := BitVec.ofNat 4 cls,
      uncertain := uncertain || s.tb.uncertain || !s.tb.timeValid,
      coarse := !s.tb.fineValid, lostBefore := false, tenant := t, chan := c, data := data }
  if !(s.traced cls t) then s
  else if s.belowHush then { s with power := { s.power with suppressed := satAdd s.power.suppressed 1 } }
  else { s with trace := s.trace.stage r }

/-- Stamp of an event that is decided now: the CLK_CORE edge, or the REFCLK edge while TB_FINE_VALID is 0 (R799). -/
def State.traceStamp (s : State) : Tick := if s.tb.fineValid then s.coreEdge else s.refEdge

/-- Raises a trace event stamped now. -/
def State.note (s : State) (cls event : Nat) (t : Option TenantId) (c : Option ChanId) (data : Dword) : State :=
  s.traceAs cls event t c data s.traceStamp false

/-- Raises a trace event about a channel. -/
def State.noteChan (s : State) (cls event : Nat) (c : ChanId) (data : Dword) : State :=
  s.note cls event (s.chanTenant c) (some c) data

/-- One staged record is written into the ring of 16,384 (R796, R797). -/
def Trace.drainOne (t : Trace) (stopWhenFull : Bool) : Trace :=
  match t.staging with
  | [] => t
  | r :: rest =>
    let mandatory := r.cls == 0 || r.cls == 5 || r.cls == 7
    let t := { t with staging := rest }
    if stopWhenFull && (if mandatory then decide (16384 ≤ t.ring.length) else decide (16384 ≤ t.ring.length + 64)) then
      t.lose
    else
      { t with
        ring := (if 16384 ≤ t.ring.length then t.ring.drop 1 else t.ring) ++ [{ r with lostBefore := t.lostMark }]
        written := t.written + 1
        lostMark := false }

/-- All staged records are written. -/
def Trace.drainAll (t : Trace) (stopWhenFull : Bool) : Trace :=
  (List.range 64).foldl (fun t _ => t.drainOne stopWhenFull) t

/-- The staging queue runs empty. -/
def State.flushTrace (s : State) : State :=
  { s with trace := s.trace.drainAll (bitAt (s.devReg 0x0BC0) 1) }

/-- The trace-persist region is written: the newest 4,095 records (R808). -/
def State.persistTrace (s : State) (trigger : Byte) : State :=
  let s := s.flushTrace
  let image : TraceImage :=
    { newest := BitVec.ofNat 32 (s.trace.written - 1), boots := s.health.lifeBoots, trigger := trigger,
      records := s.trace.ring.drop (s.trace.ring.length - 4095) }
  { s with trace := { s.trace with persist := some image } }

/-! ### Completions -/

/-- The four dwords of a completion with its phase bit (R230, R276). -/
def Completion.dwords (c : Completion) (phase : Bool) : List Dword :=
  [BitVec.ofNat 32 (c.status.toNat + 256 * c.sqId.toNat + 65536 * c.covered.toNat + 2 ^ 31 * flag phase),
   BitVec.ofNat 32 (c.tag.toNat + 65536 * c.head.toNat), c.dw2, c.dw3]

/-- Entries of a ring. -/
def ringSize (log2 : BitVec 4) : Nat := 2 ^ log2.toNat

/-- The index after `i` in a ring. -/
def ringNext (log2 : BitVec 4) (i : BitVec 16) : BitVec 16 := BitVec.ofNat 16 ((i.toNat + 1) % ringSize log2)

/-- (a - b) mod N in a ring. -/
def ringDiff (log2 : BitVec 4) (a b : BitVec 16) : Nat :=
  (a.toNat + ringSize log2 - b.toNat % ringSize log2) % ringSize log2

/-- Arrival stamp of an admin entry: that of the doorbell that published it (R199). -/
def SubQueue.stampAt (x : SubQueue) (i : BitVec 16) (now : Tick) : Tick :=
  ((x.stamps.find? fun p => decide (ringDiff x.log2 i x.head < ringDiff x.log2 p.1 x.head)).map fun p => p.2).getD now

/-- A CQ of a tenant. -/
def State.cq (s : State) (t : TenantId) (q : QueueId) : CompQueue := (s.tenants.look t).cqs.look (q.truncate 6)

/-- The state with one CQ changed. -/
def State.updCq (s : State) (t : TenantId) (q : QueueId) (f : CompQueue → CompQueue) : State :=
  s.updTenant t fun n => { n with cqs := n.cqs.upd (q.truncate 6) f }

/-- An SQ of a tenant. -/
def State.sq (s : State) (t : TenantId) (q : QueueId) : SubQueue := (s.tenants.look t).sqs.look q

/-- The state with one SQ changed. -/
def State.updSq (s : State) (t : TenantId) (q : QueueId) (f : SubQueue → SubQueue) : State :=
  s.updTenant t fun n => { n with sqs := n.sqs.upd q f }

/-- A CQ holds N - 1 completions (R281). -/
def CompQueue.full (q : CompQueue) : Bool := decide (ringSize q.log2 - 1 ≤ ringDiff q.log2 q.tail q.head)

/-- A CQ faults: nothing more is written to it; the event and the record follow (R268, R289, R292). Completions held for it are dropped, and a channel that held them goes on until its next completion is due: DEDUCED, the spec does not say what becomes of them (log entry 64). -/
def State.faultCq (s : State) (t : TenantId) (q : QueueId) (cause : Nat) : State :=
  let s := { s with cplWrites := s.cplWrites.filter fun w => !(w.tenant == t && w.cq == q) }
  ((s.updCq t q fun c => { c with state := .faulted, cause := BitVec.ofNat 4 cause, held := [], stalled := false }).raiseTenant t 0).note
    4 0x41 (some t) none (BitVec.ofNat 32 (q.toNat + 256 * cause))

/-- Messages of a list of a tenant's vector indices, in order. -/
def State.sendVectors (s : State) (t : TenantId) (vs : List Byte) : State :=
  s.forAll vs fun v s => s.sendVector t v.toNat

/-- Backoff before retry `n`, in ticks: min(256 ns × 2^(n-1), 64 µs), 38.4 ticks to the nanosecond (R472). -/
def backoff (n : Nat) : Nat := min ((98304 * 2 ^ (n - 1) + 9) / 10) 2457600

/-- Retries of a completion write: those of the bound channel, and three for an admin completion (R474, log entry 51). -/
def State.cplLimit (s : State) (w : CplWrite) : Nat :=
  match w.chan with | some c => (s.chan c).retryLimit.toNat | none => 3

/-- A bus error of a completion write: it waits for its next retry, or faults its CQ (R474, R289). -/
def State.cplFails (s : State) (w : CplWrite) : State × Option CplWrite :=
  if w.retries < s.cplLimit w then
    (s, some { w with sent := false, retries := w.retries + 1, retryAt := some (s.now + BitVec.ofNat 64 (backoff (w.retries + 1))) })
  else (s.faultCq w.tenant w.cq 11, none)

/-- A completion write is issued. It reaches Wing SRAM or the tenant's own port at once; any other target accepts it later, and a port that sends nothing is a bus error (R38, R44, log entry 12). What still waits is the second part. -/
def State.issueCpl (s : State) (w : CplWrite) : State × Option CplWrite :=
  match hostOf w.addr with
  | some p =>
    if (s.port p).usable then
      let s1 := s.sendHostWrite p w.addr w.bytes
      if p = s.portOfTenant w.tenant then (s1.sendVectors w.tenant w.vectors, none)
      else (s1, some { w with sent := true, retryAt := none })
    else s.cplFails w
  | none =>
    if tagOf w.addr = 0 then ((s.wingWrite (offOf w.addr) w.bytes).sendVectors w.tenant w.vectors, none)
    else (s, some { w with sent := true, retryAt := none })

/-- A completion write is due: it is issued behind those of its CQ, and waits where one of them has not been issued (R279). -/
def State.writeCompletion (s : State) (t : TenantId) (q : QueueId) (addr : Addr) (bytes : List Byte)
    (vectors : List Byte) (chan : Option ChanId) : State :=
  let w : CplWrite := { tenant := t, cq := q, addr := addr, bytes := bytes, vectors := vectors, chan := chan }
  if s.cplWrites.any fun x => x.tenant == t && x.cq == q && !x.sent then
    { s with cplWrites := s.cplWrites ++ [{ w with sent := false }] }
  else
    match s.issueCpl w with
    | (s1, some w1) => { s1 with cplWrites := s1.cplWrites ++ [w1] }
    | (s1, none) => s1

/-- Writes one completion at the tail of an active CQ that has space; a write that the map refuses faults the CQ (R31, R259, R281). -/
def State.putCompletion (s : State) (t : TenantId) (q : QueueId) (d : DueCompletion) : State :=
  let c := s.cq t q
  let addr := c.base + BitVec.ofNat 64 (16 * c.tail.toNat)
  match s.checkAccess t addr 16 true with
  | some _ => s.faultCq t q 10
  | none =>
    let bytes := dwordBytes (d.c.dwords c.phase)
    let wrap := decide (c.tail.toNat + 1 = ringSize c.log2)
    let s := s.updCq t q fun c => { c with tail := ringNext c.log2 c.tail, phase := c.phase ^^ wrap }
    let cqv : List Byte := if q ≠ 0 ∧ d.c.status ≠ 0 ∧ d.c.status ≠ 0x14 then [c.vector] else []
    s.writeCompletion t q addr bytes (cqv ++ d.vector.toList) d.chan

/-- A completion takes its place among those held: after all that became due before it, and at one edge before those of higher SQ numbers (R284). -/
def insertDue (d : DueCompletion) (l : List DueCompletion) : List DueCompletion :=
  let later (x : DueCompletion) : Bool := x.due == d.due && decide (d.sq.toNat < x.sq.toNat)
  l.takeWhile (fun x => !(later x)) ++ d :: l.dropWhile fun x => !(later x)

/-- Posts a completion in an active CQ: written, or held behind others or for space (R281, R282). A stall of CQ 0, which no CREATE_CQ gave a vector, sends the admin vector: DEDUCED (log entry 64). -/
def State.postCq (s : State) (t : TenantId) (q : QueueId) (d : DueCompletion) : State :=
  let c := s.cq t q
  if c.state ≠ .active then s
  else if c.held.isEmpty && !c.full then s.putCompletion t q d
  else
    let s1 := s.updCq t q fun c => { c with held := insertDue { d with due := s.coreEdge } c.held, stalled := true }
    if c.stalled then s1
    else ((s1.sendVector t (if q = 0 then s.adminVector t else c.vector.toNat)).raiseTenant t 1).note 4 0x42 (some t) none
      (BitVec.ofNat 32 q.toNat)

/-- Bytes of a list padded with zeros to a multiple of 16 (R236). -/
def pad16 (bs : List Byte) : List Byte := bs ++ List.replicate ((16 - bs.length % 16) % 16) 0

/-- Bytes of the 4 KiB mailbox in use (R235). -/
def House.used (h : House) : Nat :=
  (h.inbound.map fun u => 64 + u.body.length).sum + (h.outbound.map fun r => 16 + (pad16 r.2).length).sum

/-- An outbound record is placed, with the free space that its HEAD field reports (R236, R681). -/
def House.place (h : House) (r : Completion × List Byte) : House :=
  let free := 4096 - (h.used + 16 + (pad16 r.2).length)
  { h with outbound := h.outbound ++ [({ r.1 with head := BitVec.ofNat 16 (free / 16) }, r.2)] }

/-- An outbound record is placed when space allows, and waits otherwise (R236, R237). -/
def House.deliver (h : House) (r : Completion × List Byte) : House :=
  if h.waiting.isEmpty && decide (h.used + 16 + (pad16 r.2).length ≤ 4096) then h.place r
  else { h with waiting := h.waiting ++ [r] }

/-- Records that wait are placed while space allows, at most `n` of them (R237). -/
def House.settle : Nat → House → House
  | 0, h => h
  | n + 1, h =>
    match h.waiting with
    | [] => h
    | r :: rest =>
      if h.used + 16 + (pad16 r.2).length ≤ 4096 then House.settle n { h.place r with waiting := rest } else h

/-- A command's answer: its status and two result words (R230). -/
structure Reply where
  status : Byte := 0
  dw2 : Dword := 0
  dw3 : Dword := 0
  deriving DecidableEq, Repr

/-- The fault completion of an admin SQ is posted once every command taken from it has completed (R290, R294). -/
def State.adminFault (s : State) (t : TenantId) : State :=
  match (s.sq t 0).faultDue with
  | none => s
  | some c =>
    if 0 < (s.tenants.look t).taken then s
    else
      (s.updSq t 0 fun q => { q with faultDue := none }).postCq t 0
        { c := { c with head := (s.sq t 0).head }, sq := 0, chan := none, vector := none, result := [] }

/-- A command completes: one completion to its source, with its bulk result for the House, and the trace record of a failure (R230, R224, R794 class 11, FAIL_TRACE of R823). -/
def State.complete (s : State) (r : CmdRef) (opcode : Byte) (a : Reply) (result : List Byte) : State :=
  let s1 :=
    if a.status = 0 ∨ a.status = 2 then s
    else if (r.addressed.map fun t => (s.tenants.look t).failTrace) = some false then s
    else s.note 11 0xB0 (match r.src with | .tenant t => some t | .house => none) none
      (BitVec.ofNat 32 (opcode.toNat + 256 * a.status.toNat +
        65536 * (match r.src with | .tenant t => t.toNat | .house => 16)))
  match r.src with
  | .house =>
    let c : Completion :=
      { status := a.status, sqId := 0xFF, covered := 1, tag := r.tag, head := 0, dw2 := a.dw2, dw3 := a.dw3 }
    { s1 with house := s1.house.deliver (c, result) }
  | .tenant t =>
    let s2 := s1.updTenant t fun n => { n with taken := n.taken - 1 }
    (s2.postCq t 0
      { c := { status := a.status, sqId := 0, covered := 1, tag := r.tag, head := r.head,
               dw2 := a.dw2, dw3 := a.dw3 },
        sq := 0, chan := none,
        vector := if r.irq then some (BitVec.ofNat 8 (s.adminVector t)) else none, result := [] }).adminFault t

/-! ### Device states (R240, R242) -/

/-- A long command in service completes and leaves the list. -/
def State.finishLong (s : State) (l : LongCmd) (a : Reply) (result : List Byte) : State :=
  let s1 := { s with long := s.long.filter fun x => x.order != l.order }
  let s2 := s1.complete l.ref ((nth l.dw.toList 0 0).truncate 8) a result
  s2.forAll l.aborts fun x s => s.complete x.1 0x7E { dw2 := x.2 } []

/-- The device state changes; the record of class DEVICE follows. -/
def State.enterDev (s : State) (d : DevState) : State :=
  let code : Nat := match d with | .fill => 0 | .check => 1 | .houseOnly => 2 | .staged => 3 | .faulted => 4
  ({ s with devState := d }).note 0 0x04 none none
    (BitVec.ofNat 32 (code + 8 * flag (s.health.present != 0)))

/-- The part enters FAULTED: every long command completes with STOPPED and DW3 1, the fault log takes the cause, and the trace persists when PERSIST_FAULT is set (R220, R242, R808). -/
def State.enterFaulted (s : State) (cause : Byte) : State :=
  let s1 := s.forAll s.long fun l s => s.finishLong l { status := 0x15, dw3 := 1 } []
  let e : FaultEntry := { cause := cause, stamp := s.now }
  let s2 : State := { s1 with boot := { s1.boot with faultLog := s1.boot.faultLog ++ [e] }, tb := { s1.tb with atPps := none } }
  let s3 := s2.enterDev .faulted
  if bitAt (s.devReg 0x0BC0) 4 then s3.persistTrace 2 else s3

/-- Acts that run. -/
def State.runningActs (s : State) : List ActId := allActs.filter fun a => (s.acts.look a).running

/-- A TDM port whose port is UP and follows an act that stops makes no further restarts, and an act-relative strobe output waits for a period start again (R88, R748). -/
def State.unfollow (s : State) (acts : List ActId) : State :=
  let one (n : BitVec 2) (p : TdmPort) : TdmPort :=
    if p.state = .up ∧ acts.contains (BitVec.ofNat 4 (field (s.devReg (0x1C08 + 0x100 * n.toNat)) 47 44)) then { p with awaitAct := false } else p
  let dueOf (n : BitVec 3) : Option Tick :=
    if acts.contains (BitVec.ofNat 4 (field (s.devReg (0x0140 + 8 * n.toNat)) 7 4)) then none else s.tb.strobeDue.look n
  { s with
    tdm := Vector.ofFn fun i => one (BitVec.ofFin i) (s.tdm.look (BitVec.ofFin i))
    tb := { s.tb with strobeDue := Vector.ofFn fun i => dueOf (BitVec.ofFin i) } }

/-- TIME_VALID falls: every running act stops with cause 2, and the event is raised (R53, R97). -/
def State.loseTime (s : State) : State :=
  let ran := !s.runningActs.isEmpty
  let stop (a : Act) : Act := if a.running then { a with running := false, stopCause := 2, nextStart := 0 } else a
  let s0 := s.unfollow s.runningActs
  let s1 := { s0 with
    tb := { s0.tb with timeValid := false }
    acts := s.acts.map stop }
  if ran then (s1.raiseSm 24).raiseHouse 8 else s1

/-- The state code of a channel state, kind 1 of R244. -/
def ChanState.code : ChanState → Nat
  | .unbound => 0
  | .idle => 1
  | .armed => 2
  | .running => 3
  | .waiting => 4
  | .stopping => 5
  | .stopped => 6
  | .halted => 7

/-- The code of a device state (R240). -/
def DevState.code : DevState → Nat
  | .fill => 0
  | .check => 1
  | .houseOnly => 2
  | .staged => 3
  | .faulted => 4

/-- The code of a queue state, kind 2 of R244. -/
def QState.code : QState → Nat
  | .absent => 0
  | .active => 1
  | .faulted => 2

/-- The code of a link state, kind 5 of R244. -/
def LinkState.code : LinkState → Nat
  | .down => 0
  | .training => 1
  | .up => 2

/-- The code of a power state (R596). -/
def PowerState.code : PowerState → Nat
  | .lit => 0
  | .hush => 1
  | .interval => 2
  | .dark => 3
  | .shuttered => 4

/-- The code of a channel mode. -/
def ChanMode.code : ChanMode → Nat
  | .queue => 0
  | .script => 1
  | .shadow => 2

end Sys2Proof.Machine
end

