-- ==== Sys2Proof/Machine/MemOps.lean ====
section
/-! DEFINITION. The memories as requesters see them: codes, poison, merges, the error log, and the checksums of the part (chapter 14). -/

namespace Sys2Proof.Machine

/-! ### Checksums -/

/-- One bit of a reflected CRC-32C: polynomial 0x1EDC6F41, reversed 0x82F63B78 (R167). -/
def crcBit (c : Dword) : Dword := if bitAt c 0 then (c >>> 1) ^^^ 0x82F63B78 else c >>> 1

/-- One byte of CRC-32C. -/
def crcByte (c : Dword) (b : Byte) : Dword :=
  crcBit (crcBit (crcBit (crcBit (crcBit (crcBit (crcBit (crcBit (c ^^^ b.zeroExtend 32))))))))

/-- CRC-32C of bytes: initial value and final XOR all ones (R167). -/
def crc32c (bs : List Byte) : Dword := (bs.foldl crcByte 0xFFFFFFFF) ^^^ 0xFFFFFFFF

/-- One bit of the trace frame's CRC: polynomial 0x1021, not reflected (R805). -/
def crc16Bit (c : BitVec 16) : BitVec 16 := if bitAt c 15 then (c <<< 1) ^^^ 0x1021 else c <<< 1

/-- One byte of the trace frame's CRC. -/
def crc16Byte (c : BitVec 16) (b : Byte) : BitVec 16 :=
  crc16Bit (crc16Bit (crc16Bit (crc16Bit (crc16Bit (crc16Bit (crc16Bit (crc16Bit (c ^^^ (b.zeroExtend 16 <<< 8)))))))))

/-- The trace frame's CRC: initial value 0xFFFF, no final XOR (R805). -/
def crc16 (bs : List Byte) : BitVec 16 := bs.foldl crc16Byte 0xFFFF

/-! ### What a code finds -/

/-! ### The per-byte code of the on-chip memories (R527 to R529) -/

/-- The columns of the bits of a number that are 1, added. -/
def columnSum (column : Nat → BitVec 5) (x n : Nat) : BitVec 5 :=
  (List.range n).foldl (fun c i => if x.testBit i then c ^^^ column i else c) 0

/-- Check bits of a byte. -/
def checkBits (b : Byte) : BitVec 5 := columnSum (fun i => Config.codeColumn (BitVec.ofNat 3 i)) b.toNat 8

/-- The address hash of a byte lane of a word: over 20 address bits for Wing SRAM, and 17 for stream FIFO memory. -/
def addressHash (fifo : Bool) (lane : BitVec 3) (word : Nat) : BitVec 5 :=
  columnSum (Config.hashColumn fifo lane) word (if fifo then 17 else 20)

/-- The check bits that a write stores with a byte (R527, R530). -/
def storedCheck (fifo : Bool) (word : Nat) (lane : BitVec 3) (b : Byte) : BitVec 5 := checkBits b ^^^ addressHash fifo lane word

/-- The syndrome of a byte that a read of a word returns, by the hash of the address requested (R528). -/
def syndrome (fifo : Bool) (word : Nat) (lane : BitVec 3) (x : Byte × BitVec 5) : BitVec 5 := storedCheck fifo word lane x.1 ^^^ x.2

/-- The byte that a syndrome leaves: the byte itself, or with its wrong bit corrected; none for an uncorrectable one (R528). A column of weight one is that of a check bit. -/
def decodeByte (syn : BitVec 5) (b : Byte) : Option Byte :=
  if syn = 0 then some b
  else match (List.range 8).find? fun i => Config.codeColumn (BitVec.ofNat 3 i) == syn with
    | some i => some (b ^^^ (1 <<< i))
    | none => if (List.range 5).any fun i => syn == (1 : BitVec 5) <<< i then some b else none

/-- Lanes of a list for which a test holds. -/
def laneMask (l : List (BitVec 3)) : BitVec 8 := l.foldl (fun m i => m ||| (1 <<< i.toNat)) 0

/-- The eight byte lanes. -/
def allLanes : List (BitVec 3) := indices 3 8

/-- The lane of a word as the array returned it. -/
def storedLane (l : List (Byte × BitVec 5)) (i : BitVec 3) : Byte × BitVec 5 := nth l i.toNat (0, 0)

/-- What the code makes of an SRAM word's contents. The contents of another word are uncorrectable in each lane whose hash of the two addresses differs, and in at least one (R529). -/
def eccAt (e : Ecc) (fifo : Bool) (word : Nat) : Ecc :=
  match e with
  | .stored l =>
    let syn (i : BitVec 3) : BitVec 5 := syndrome fifo word i (storedLane l i)
    let bad := laneMask (allLanes.filter fun i => (decodeByte (syn i) (storedLane l i).1).isNone)
    if bad ≠ 0 then .others bad
    else match allLanes.find? fun i => syn i != 0 with | some i => .single i | none => .clean
  | .wrongWord w =>
    if w.toNat = word then .clean
    else
      let bad := laneMask (allLanes.filter fun i => addressHash fifo i word != addressHash fifo i w.toNat)
      .others (if bad = 0 then 1 else bad)
  | x => x

/-- The judgement of a decoder: good, corrected (position or lane, symbols), or uncorrectable. -/
inductive CodeResult where
  | good
  | corrected (position : BitVec 5) (symbols : Nat)
  | bad
  deriving DecidableEq, Repr

/-- Symbols in error outside a marked position. -/
def otherSymbols (mark : BitVec 5) (l : List (BitVec 5 × BitVec 2)) : Nat :=
  ((l.filter fun x => x.1 != mark).map fun x => x.2.toNat).sum

/-- All erroneous symbols of a codeword lie in one device position (R534 step 1). -/
def oneDevice : List (BitVec 5 × BitVec 2) → Bool
  | [] => true
  | x :: xs => xs.all fun y => y.1 == x.1

/-- Judges a DRAM line by R534, or for a rank with a mark by R536. -/
def judgeLine (mark : Option (BitVec 5)) (e : Ecc) : CodeResult :=
  match e with
  | .clean => .good
  | .symbols a b =>
    let all := a ++ b
    let total := (all.map fun x => x.2.toNat).sum
    let pos := (all.head?.map fun x => x.1).getD 0
    if total = 0 then .good
    else
      match mark with
      | none => if oneDevice all then .corrected pos total else .bad
      | some m =>
        if otherSymbols m a ≤ 1 ∧ otherSymbols m b ≤ 1 then
          .corrected (((all.filter fun x => x.1 != m).head?.map fun x => x.1).getD m) total
        else .bad
  | _ => .bad

/-- Judges an SRAM byte by R528. -/
def judgeByte (e : Ecc) : CodeResult :=
  match e with
  | .clean => .good
  | .single lane => .corrected (lane.zeroExtend 5) 1
  | .others lanes => if lanes = 0 then .good else .bad
  | _ => .bad

/-- The lanes that a finding names. -/
def eccLanes (e : Ecc) : List Nat :=
  match e with
  | .single lane => [lane.toNat]
  | .other lane => [lane.toNat]
  | .others lanes => (List.range 8).filter fun i => bitAt lanes i
  | _ => [0]

/-- The first of them. -/
def eccLane (e : Ecc) : Nat := (eccLanes e).headD 0

/-! ### The error log (R554) and events (R542) -/

/-- Kinds of error-log records (R554). -/
def kCorrected : Nat := 1
def kUncorrectable : Nat := 2
def kPoisonHit : Nat := 3
def kMergeRefused : Nat := 4
def kHard : Nat := 5
def kRetired : Nat := 6
def kChipMarked : Nat := 7
def kPoisonCleared : Nat := 8

/-- SOURCE codes of error-log records that are no channel (R554). -/
def srcHp0 : Nat := 0x60
def srcHp1 : Nat := 0x61
def srcPrompter : Nat := 0x62
def srcQueue : Nat := 0x63
def srcScrub : Nat := 0x64
def srcTx : Nat := 0x65

/-- The source code of a host port. -/
def srcPort : HostPort → Nat
  | .hp0 => srcHp0
  | .hp1 => srcHp1

/-- Channel address of a DRAM offset (R32). -/
def State.channelAddr (s : State) (off : Nat) : Nat :=
  if s.interleaved then off / 2 ^ 13 * 2 ^ 12 + off % 2 ^ 12 else off % 2 ^ 35

/-- Rank of a DRAM offset: two ranks of 8 Gb devices take channel address bit 34 (R755). -/
def State.dramRank (s : State) (off : Nat) : Nat :=
  let g := s.devReg32 (if s.dramChannel off then 0x0B14 else 0x0B10)
  if bitAt g 1 && !(bitAt g 2) then (s.channelAddr off / 2 ^ 34) % 2 else 0

/-- Index of a rank in the order of MARKED: DC0 rank 0, DC0 rank 1, DC1 rank 0, DC1 rank 1. -/
def State.rankIndex (s : State) (off : Nat) : BitVec 2 :=
  BitVec.ofNat 2 (2 * flag (s.dramChannel off) + s.dramRank off)

/-- The marked position of the rank that holds a DRAM offset (R536). -/
def State.markOf (s : State) (off : Nat) : Option (BitVec 5) := s.guard.marks.look (s.rankIndex off)

/-- One record into the error log, which keeps the newest 1,024; the record waits for the summary, and some kinds are traced (R554, R555, R794 class 6). -/
def State.logMem (s : State) (kind memory : Nat) (addr : Addr) (source : Nat) (res : CodeResult) : State :=
  let dram := decide (2 ≤ memory)
  let decoded := !([kRetired, kChipMarked, kPoisonCleared].contains kind)
  let marked := dram && decoded && (s.markOf (offOf addr)).isSome
  let r : LogRecord :=
    { stamp := s.now, address := addr, kind := BitVec.ofNat 4 kind, memory := BitVec.ofNat 4 memory,
      source := BitVec.ofNat 8 source,
      rank := if dram then BitVec.ofNat 2 (s.dramRank (offOf addr)) else 0,
      position := (match res with | .corrected p _ => p | _ => 0),
      erasure := marked,
      posValid := (match res with | .corrected _ _ => true | _ => false),
      symbols := (match res with | .corrected _ n => BitVec.ofNat 8 n | _ => 0),
      seq := s.guard.logSeq }
  let s1 : State := { s with guard := { s.guard with
    log := (s.guard.log ++ [r]).drop ((s.guard.log.length + 1) - 1024)
    logSeq := s.guard.logSeq + 1
    unsummarised := s.guard.unsummarised ++ [r] } }
  let event : Option Nat :=
    if kind = kUncorrectable ∨ kind = kPoisonHit ∨ kind = kMergeRefused then some 0x60
    else if kind = kRetired then some 0x61
    else if kind = kChipMarked then some 0x62
    else if kind = kPoisonCleared then some 0x63
    else none
  match event with
  | some e => s1.note 6 e none (if source < 96 then some (BitVec.ofNat 7 source) else none) s.guard.logSeq
  | none => s1

/-- MEM_UE to the Stage Manager and the House (R542). -/
def State.memUe (s : State) : State := (s.raiseSm 19).raiseHouse 3

/-- The MEMORY code of a DRAM offset. -/
def State.dramCode (s : State) (off : Nat) : Nat := if s.dramChannel off then 3 else 2

/-- The tagged address of a DRAM offset. -/
def dramAddr (off : Nat) : Addr := BitVec.ofNat 64 (2 ^ 60 + off)

/-- A line enters the poison map of its channel, which holds 512, once (R543, R546). -/
def State.poisonLine (s : State) (line : Nat) : State :=
  let dc1 := s.dramChannel line
  if s.poisoned line then s
  else if 512 ≤ (s.poisonMap dc1).length then { s with guard := { s.guard with poisonOverflow := true } }
  else if dc1 then { s with guard := { s.guard with poison1 := s.guard.poison1 ++ [line] } }
  else { s with guard := { s.guard with poison0 := s.guard.poison0 ++ [line] } }

/-- A line leaves its poison map because a write covered it; the removal is logged (R545). -/
def State.cleanLine (s : State) (source : Nat) (line : Nat) : State :=
  if s.poisoned line then
    let s1 : State := { s with guard := { s.guard with
      poison0 := s.guard.poison0.filter fun l => l != line
      poison1 := s.guard.poison1.filter fun l => l != line } }
    s1.logMem kPoisonCleared (s.dramCode line) (dramAddr line) source .good
  else s

/-- A reporting access finds a DRAM line uncorrectable (R542, R543). -/
def State.foundBadLine (s : State) (kind line source : Nat) : State :=
  ((s.logMem kind (s.dramCode line) (dramAddr line) source .bad).memUe).poisonLine line

/-! ### Reads and writes of the part's own memory -/

/-- The bytes at a tagged address of Wing SRAM or DRAM. -/
def State.peek (s : State) (a : Addr) (len : Nat) : List Byte :=
  if tagOf a = 0 then cellsReadN s.mem.wing (offOf a) len else cellsReadN s.mem.dram (offOf a) len

/-- The bytes of a Wing SRAM word as a reporting read found them: what decodes is what the word holds, corrected bytes being written back; a byte known to be uncorrectable stays so (R531, R532). -/
def State.takeStored (s : State) (word : Nat) (e : Ecc) : State :=
  match e with
  | .stored l =>
    s.forAll allLanes fun i s =>
      let a := 8 * word + i.toNat
      match decodeByte (syndrome false word i (storedLane l i)) (storedLane l i).1 with
      | some b => if s.guard.wingBad.contains a then s else s.wingWrite a [b]
      | none => s
  | _ => s

/-- What a read of Wing SRAM or DRAM finds: CAUSE 6 or 7 where it is refused (R542, R544). A read that discards its result unreported makes no record and no poison entry (R543); an uncorrectable SRAM byte stays so all the same (R532). -/
def State.load (s0 : State) (a : Addr) (len : Nat) (ecc : Ecc) (source : Nat) (report : Bool) : State × Option Nat :=
  let off := offOf a
  if tagOf a = 0 then
    let s := if report then s0.takeStored (off / 8) ecc else s0
    let e := eccAt ecc false (off / 8)
    let hits := (eccLanes e).map fun i => off / 8 * 8 + i
    let hit := off / 8 * 8 + eccLane e
    let wasBad := s.guard.wingBad.any fun b => decide (off ≤ b) && decide (b < off + len)
    match judgeByte e with
    | .bad =>
      let s1 : State := { s with guard := { s.guard with wingBad := s.guard.wingBad ++ hits } }
      (if report then (s1.logMem kUncorrectable 0 (BitVec.ofNat 64 hit) source .bad).memUe else s1, some 6)
    | r =>
      if wasBad then
        (if report then (s.logMem kUncorrectable 0 a source .bad).memUe else s, some 6)
      else if r = .good then (s, none)
      else (if report then s.logMem kCorrected 0 (BitVec.ofNat 64 hit) source r else s, none)
  else
    let s := s0
    let line := off / 64 * 64
    match (linesOf off len).find? fun l => s.poisoned l with
    | some l =>
      (if report then (s.logMem kPoisonHit (s.dramCode l) (dramAddr l) source .bad).memUe else s, some 7)
    | none =>
      match judgeLine (s.markOf line) ecc with
      | .good => (s, none)
      | .bad => (if report then s.foundBadLine kUncorrectable line source else s, some 6)
      | r => (if report then s.logMem kCorrected (s.dramCode line) (dramAddr line) source r else s, none)

/-- A line of 64 bytes lies wholly inside a range. -/
def coversLine (off len line : Nat) : Bool := decide (off ≤ line) && decide (line + 64 ≤ off + len)

/-- A write to Wing SRAM or DRAM lands, or its merge is refused and no byte of it lands: CAUSE 6 for a merge read that is uncorrectable, 7 for a poisoned line (R540, R541, R545). -/
def State.store (s : State) (a : Addr) (bs : List Byte) (ecc : Ecc) (source : Nat) : State × Option Nat :=
  let off := offOf a
  if tagOf a = 0 then (s.wingWrite off bs, none)
  else
    let lines := linesOf off bs.length
    let partly := lines.filter fun l => !(coversLine off bs.length l)
    match partly.find? fun l => s.poisoned l with
    | some l => ((s.logMem kMergeRefused (s.dramCode l) (dramAddr l) source .bad).memUe, some 7)
    | none =>
      match partly.head? with
      | some l =>
        match judgeLine (s.markOf l) ecc with
        | .bad => (s.foundBadLine kMergeRefused l source, some 6)
        | .good => (((s.forAll lines fun l s => if coversLine off bs.length l then s.cleanLine source l else s).dramWrite off bs), none)
        | r =>
          let s1 := s.logMem kCorrected (s.dramCode l) (dramAddr l) source r
          (((s1.forAll lines fun l s => if coversLine off bs.length l then s.cleanLine source l else s).dramWrite off bs), none)
      | none =>
        (((s.forAll lines fun l s => s.cleanLine source l).dramWrite off bs), none)

/-- DW3 detail of BUS_ERROR_SOURCE, BUS_ERROR_DEST, FETCH_FAULT and UNCORRECTABLE (R470). -/
def accessDetail (cause tag : Nat) (write fetch readback proofFailed : Bool) (retries : Nat) : Dword :=
  BitVec.ofNat 32 (cause + 16 * tag + 256 * flag write + 512 * flag fetch + 1024 * flag readback +
    2048 * flag proofFailed + 4096 * retries)

/-- The CAUSE code of a bus error (R470, R471). -/
def causeCode : BusCause → Nat
  | .timeout => 1
  | .unsupported => 2
  | .abort => 3
  | .linkDown => 4
  | .lbReady => 5

end Sys2Proof.Machine
end

