-- ==== Sys2Proof/Machine/Command.lean ====
section
/-! DEFINITION. How the prompter takes a command, judges it and answers it: the order of checks of R243, the device states of R240, result writes of R228 and long commands of R223. -/

namespace Sys2Proof.Machine

/-- A command in service: its packet, the reference for its completion, its arrival stamp and its opcode. -/
structure Cmd where
  p : Packet
  ref : CmdRef
  stamp : Tick
  opcode : Byte

/-- Dword `i` of a packet. -/
def packetDw (dw : Vector Dword 16) (i : Nat) : Dword := nth dw.toList i 0

/-- Dword `i` of the packet. -/
def Cmd.dw (c : Cmd) (i : Nat) : Dword := packetDw c.p.dw i

/-- Bits [hi:lo] of dword `i`. -/
def Cmd.f (c : Cmd) (i hi lo : Nat) : Nat := field (c.dw i) hi lo

/-- The 64-bit value in dwords `i` and `i + 1`. -/
def Cmd.q (c : Cmd) (i : Nat) : Word := join64 (c.dw i) (c.dw (i + 1))

/-- OBJECT of the packet header. -/
def Cmd.object (c : Cmd) : Nat := c.f 1 31 16

/-- FOREIGN of the packet header (R227). -/
def Cmd.foreign (c : Cmd) : Bool := bitAt (c.dw 0) 9

/-- The command comes from the House. -/
def Cmd.isHouse (c : Cmd) : Bool := decide (c.p.src = .house)

/-- The issuing tenant; 0 for the House. -/
def Cmd.issuer (c : Cmd) : TenantId := match c.p.src with | .tenant t => t | .house => 0

/-- The command comes from the Stage Manager (R190). -/
def Cmd.fromSm (c : Cmd) (s : State) : Bool := match c.p.src with | .tenant t => s.isSm t | .house => false

/-- The command comes from the Stage Manager or the House, which hold every right (R190). -/
def Cmd.privileged (c : Cmd) (s : State) : Bool := c.isHouse || c.fromSm s

/-- The tenant whose objects the command names; tenant 0 stands in where a House command names none. -/
def Cmd.target (c : Cmd) : TenantId := c.ref.addressed.getD 0

/-- The record against which rights, ranges and quotas are judged (R820). -/
def Cmd.record (c : Cmd) (s : State) : TenantRecord := s.record c.target

/-! ### Taking a command (R221, R234, R236, R237) -/

/-- The admin pair of a tenant is enabled. -/
def State.adminOn (s : State) (t : TenantId) : Bool := bitAt (s.tenReg t 0x110) 31

/-- The prompter has left reset: start-up step 9 has begun (R25, R622). -/
def State.prompterUp (s : State) : Bool := decide (9 ≤ s.boot.step.toNat)

/-- The prompter takes commands from a source at present (R25, R233, R234, R237, R240). -/
def State.serves (s : State) (src : Source) : Bool :=
  s.devState != .fill && s.devState != .check && s.prompterUp &&
    match src with
    | .house => s.house.waiting.isEmpty
    | .tenant t => s.adminOn t && (s.cq t 0).held.isEmpty && !(s.cq t 0).full

/-- Commands of a source that have arrived and are not yet taken, oldest first. -/
def State.untakenOf (s : State) : Source → List Untaken
  | .house => s.house.inbound
  | .tenant t => (s.tenants.look t).untaken

/-- Sources in the order of equal stamps: House, then the tenants of HP0, then those of HP1 (R221). -/
def State.sources (s : State) : List Source :=
  .house :: ((allTenants.filter fun t => !(s.record t).port) ++ (allTenants.filter fun t => (s.record t).port)).map .tenant

/-- The first command of a source that is not yet taken: one in the mailbox or fetched, or the entry at the head of the admin SQ, published and not yet fetched; by its arrival stamp (R199, R221). -/
def State.firstStamp (s : State) (src : Source) : Option Tick :=
  match (s.untakenOf src).head? with
  | some u => some u.stamp
  | none =>
    match src with
    | .house => none
    | .tenant t =>
      let q := s.sq t 0
      if q.state = .active ∧ q.head ≠ q.tail ∧ q.ownWait = false then some (q.stampAt q.head s.now) else none

/-- Arrival stamp of the packet that a row brings; a packet that nothing announced arrives with its row (log entry 44). -/
def State.stampOf (s : State) (p : Packet) : Tick := (s.firstStamp p.src).getD s.now

/-- The source whose first command the prompter takes next, where the row's packet is its source's first: the oldest stamp, and at equal stamps the order of the sources (R221). -/
def State.nextSource (s : State) (p : Packet) : Option Source :=
  ((s.sources.filter s.serves).foldl
    (fun (best : Option (Source × Tick)) src =>
      match if src = p.src then some (s.stampOf p) else s.firstStamp src with
      | none => best
      | some t =>
        match best with
        | none => some (src, t)
        | some b => if future b.2 t then some (src, t) else some b)
    none).map fun b => b.1

/-- The packet is the first command of its source. -/
def State.isFirst (s : State) (p : Packet) : Bool := match (s.untakenOf p.src).head? with | some u => u.dw == p.dw | none => true

/-- The prompter may take this packet now: no quick command holds it, the source is served, and it is the command that R221 names. -/
def State.mayTake (s : State) (p : Packet) : Bool :=
  s.pinJob.isNone && s.serves p.src && s.isFirst p && decide (s.nextSource p = some p.src)

/-- The admin SQ head moves past a taken entry (R230, R259). -/
def SubQueue.advance (q : SubQueue) : SubQueue :=
  let h := ringNext q.log2 q.head
  { q with
    head := h
    phase := q.phase ^^ decide (q.head.toNat + 1 = ringSize q.log2)
    tail := if q.tail = q.head then h else q.tail
    stamps := q.stamps.filter fun p => p.1 != h }

/-- The command leaves its source (R230, R236). -/
def State.takeOff (s : State) (p : Packet) : State :=
  match p.src with
  | .house => { s with house := House.settle 64 { s.house with inbound := s.house.inbound.eraseP fun u => u.dw == p.dw } }
  | .tenant t =>
    (s.updSq t 0 SubQueue.advance).updTenant t fun n =>
      { n with taken := n.taken + 1, untaken := n.untaken.eraseP fun u => u.dw == p.dw }

/-- The packet with the body that came in its mailbox push (R197). -/
def State.withBody (s : State) (p : Packet) : Packet :=
  match p.src, s.house.inbound.head? with
  | .house, some u => { p with body := { ended := .good, bytes := u.body } }
  | _, _ => p

/-- The command that a packet is, seen from the state in which it is taken. -/
def State.cmdOf (s : State) (p : Packet) : Cmd :=
  let d0 := packetDw p.dw 0
  { p := s.withBody p
    ref :=
      { src := p.src
        tag := (packetDw p.dw 1).truncate 16
        irq := bitAt d0 8
        addressed :=
          if bitAt d0 9 then some ((packetDw p.dw 15).truncate 4)
          else match p.src with | .tenant t => some t | .house => none
        head := match p.src with | .tenant t => ringNext (s.sq t 0).log2 (s.sq t 0).head | .house => 0 }
    stamp := s.stampOf p
    opcode := d0.truncate 8 }

/-! ### The checks (R243) -/

/-- Opcodes assigned in HCS-1. -/
def assignedOpcodes : List Nat :=
  [0x01, 0x02, 0x03, 0x04, 0x7F, 0x7E, 0x10, 0x11, 0x12, 0x13, 0x18, 0x19, 0x1A, 0x1B, 0x1C, 0x1D, 0x1E, 0x1F,
   0x20, 0x21, 0x22, 0x24, 0x28, 0x29, 0x2A, 0x30, 0x31, 0x32, 0x38, 0x40, 0x41, 0x42, 0x43, 0x48,
   0x50, 0x51, 0x52, 0x53, 0x54, 0x58, 0x59, 0x60, 0x61, 0x68, 0x69, 0x6A, 0x70, 0x71, 0x72, 0x78, 0x79]

/-- Which sources may issue a command (R239). -/
inductive Who where
  | any
  | smHouse
  | house
  deriving DecidableEq, Repr

/-- In which device states a command is served, and to whom (R240, R850). -/
inductive Served where
  /-- HOUSE_ONLY to the House and the Stage Manager, STAGED, FAULTED. -/
  | always
  /-- HOUSE_ONLY to the House and the Stage Manager, STAGED. -/
  | general
  /-- HOUSE_ONLY to the House, STAGED. -/
  | houseFirst
  /-- STAGED. -/
  | staged
  /-- HOUSE_ONLY and FAULTED to the House, STAGED. -/
  | faultRead
  /-- HOUSE_ONLY to the House. -/
  | houseOnly
  deriving DecidableEq, Repr

/-- What the packet table and the summary table say of a command. -/
structure CmdSpec where
  opcode : Nat
  /-- OBJECT is named by the packet table. -/
  object : Bool := false
  /-- Listed bits of DW2 to DW14. -/
  used : List (Nat × Dword) := []
  /-- Names tenant objects: a House packet must set FOREIGN (R227). -/
  tenantObjects : Bool := false

/-- What a command finds when it is judged: its issuers and states, fields out of range with their byte offsets, a missing right, a refusing state, a missing resource. -/
structure Checks where
  who : Who := .any
  served : Served := .staged
  ranges : List (Nat × Bool) := []
  denied : Bool := false
  state : Option Reply := none
  resource : Option Reply := none
  /-- Its fields name a tenant object: a House packet must set FOREIGN (R227). -/
  ofTenant : Bool := false
  /-- The command is long (R223, R225). -/
  long : Bool := false

/-- The source may issue the command (R239). -/
def Cmd.mayIssue (c : Cmd) (s : State) : Who → Bool
  | .any => true
  | .smHouse => c.privileged s
  | .house => c.isHouse

/-- The device state serves the command to this source (R240). -/
def Cmd.servedIn (c : Cmd) (s : State) (k : Served) : Bool :=
  match s.devState with
  | .fill => false
  | .check => false
  | .houseOnly =>
    match k with
    | .always => c.privileged s
    | .general => c.privileged s
    | .houseFirst => c.isHouse
    | .faultRead => c.isHouse
    | .houseOnly => c.isHouse
    | .staged => false
  | .staged => k != .houseOnly
  | .faulted =>
    match k with
    | .always => true
    | .faultRead => c.isHouse
    | _ => false

/-- First bit of the unbroken run of unlisted bits that ends below bit `i`. -/
def runStart (used : Dword) : Nat → Nat
  | 0 => 0
  | i + 1 => if bitAt used i then i + 1 else runStart used i

/-- Bit at which the lowest reserved field of a dword that is not zero begins. -/
def reservedAt (used w : Dword) : Option Nat :=
  ((List.range 32).find? fun i => bitAt w i && !(bitAt used i)).map (runStart used)

/-- Listed bits of each dword of a packet (R816). -/
def CmdSpec.mask (spec : CmdSpec) (i : Nat) : Dword :=
  if i = 0 then 0x800003FF
  else if i = 1 then (if spec.object then 0xFFFFFFFF else 0x0000FFFF)
  else if i = 15 then 0x0000000F
  else ((spec.used.find? fun u => u.1 == i).map fun u => u.2).getD 0

/-- Byte offsets of the fields that break R13: reserved fields that are not zero, and fields out of range. -/
def Cmd.offending (c : Cmd) (spec : CmdSpec) (ranges : List (Nat × Bool)) : List Nat :=
  ((List.range 16).filterMap fun i => (reservedAt (spec.mask i) (c.dw i)).map fun b => 4 * i + b / 8) ++
    (ranges.filter fun r => r.2).map fun r => r.1

/-- The least of a list of numbers. -/
def least : List Nat → Option Nat
  | [] => none
  | x :: xs => match least xs with | none => some x | some y => some (min x y)

/-- WRONG_STATE with the report of R244. -/
def wrongState (kind state object : Nat) : Reply :=
  { status := 0x0C, dw2 := BitVec.ofNat 32 (state + 256 * kind + 65536 * object) }

/-- A refusing object, or none. -/
def refuseIf (b : Bool) (r : Reply) : Option Reply := if b then some r else none

/-- Long commands of a source in service (R225). -/
def State.longOf (s : State) (src : Source) : List LongCmd := s.long.filter fun l => decide (l.ref.src = src)

/-- The first failure of the checks 2 to 6 of R243. -/
def Cmd.judge (c : Cmd) (spec : CmdSpec) (k : Checks) (s : State) : Option Reply :=
  if !(c.mayIssue s k.who) || (c.foreign && !c.privileged s) || ((spec.tenantObjects || k.ofTenant) && c.isHouse && !c.foreign) then some { status := 0x0A }
  else match least (c.offending spec k.ranges) with
    | some off => some { status := 0x09, dw3 := BitVec.ofNat 32 off }
    | none =>
      if k.denied then some { status := 0x0A }
      else if !(c.servedIn s k.served) then some (wrongState 0 s.devState.code 0)
      else match k.state with
        | some r => some r
        | none =>
          if k.long && decide (4 ≤ (s.longOf c.p.src).length) then some { status := 0x0D }
          else k.resource

/-- A command completes. -/
def State.answer (s : State) (c : Cmd) (r : Reply) : State := s.complete c.ref c.opcode r []

/-- A command row: nothing happens while the prompter cannot take this packet or the packet is another command's; otherwise the command is taken, judged and, if no check fails, run (R221, R243). -/
def serve (spec : CmdSpec) (checks : Cmd → State → Checks) (run : Cmd → State → State) (p : Packet) (s : State) : Result :=
  if !(s.mayTake p) then .next s
  else
    let c := s.cmdOf p
    let s1 := s.takeOff p
    if c.opcode.toNat ≠ spec.opcode then
      (if assignedOpcodes.contains c.opcode.toNat then .next s else .next (s1.answer c { status := 0x08 }))
    else match c.judge spec (checks c s1) s1 with
      | some r => .next (s1.answer c r)
      | none => .next (run c s1)

/-- A long command enters service; its completion comes later (R223). -/
def State.startLong (s : State) (c : Cmd) : State :=
  let l : LongCmd := { ref := c.ref, dw := c.p.dw, body := c.p.body.bytes, order := s.order, started := s.now }
  { s with long := s.long ++ [l], order := s.order + 1 }

/-! ### Results (R228, R231, R251, R818) -/

/-- RESULT_ADDR in DW2 and DW3 is out of range: zero for the House, and tag 0x0 to 0x3 with bits [2:0] zero for a tenant. -/
def Cmd.badResultAddr (c : Cmd) : Bool :=
  let a := c.q 2
  if c.isHouse then a != 0 else decide (3 < tagOf a) || decide (offOf a % 8 ≠ 0)

/-- The command's own access as it ended outside the part, with its detail: BUS_ERROR_DEST or UNCORRECTABLE (R251, R470). -/
def accessFailure (e : Ended) (tag : Nat) (write : Bool) : Option Reply :=
  match e with
  | .good => none
  | .failed c => some { status := 0x11, dw3 := accessDetail (causeCode c) tag write false false false 0 }
  | .uncorrectable => some { status := 0x13, dw3 := accessDetail 6 tag write false false false 0 }
  | .poisoned => some { status := 0x13, dw3 := accessDetail 7 tag write false false false 0 }

/-- A result is written for a tenant under its windows; the reply of the access where it fails (R30, R228, R251). -/
def State.writeResult (s : State) (t : TenantId) (a : Addr) (bytes : List Byte) (e : Ended) : State × Option Reply :=
  match s.checkAccess t a bytes.length true with
  | some k => (s, some { status := 0x18, dw3 := faultDetail k true false })
  | none =>
    match hostOf a with
    | some p =>
      match accessFailure e (tagOf a) true with
      | some r => (s, some r)
      | none =>
        if (s.port p).usable then (s.sendHostWrite p a bytes, none)
        else (s, some { status := 0x11, dw3 := accessDetail 4 (tagOf a) true false false false 0 })
    | none =>
      match e with
      | .uncorrectable => (s, accessFailure e (tagOf a) true)
      | .poisoned => (s, accessFailure e (tagOf a) true)
      | _ =>
        match s.store a bytes .clean srcPrompter with
        | (s1, none) => (s1, none)
        | (s1, some k) => (s1, some { status := 0x13, dw3 := accessDetail k (tagOf a) true false false false 0 })

/-- A command's own read of memory, judged by the tenant's windows (R30, R251): the bytes, or the reply of the access. -/
def State.readBody (s : State) (c : Cmd) (a : Addr) (len : Nat) : State × List Byte × Option Reply :=
  match c.p.src with
  | .house => (s, c.p.body.bytes, none)
  | .tenant t =>
    match s.checkAccess t a len false with
    | some k => (s, [], some { status := 0x18, dw3 := faultDetail k false false })
    | none =>
      if isInternal a then
        match s.load a len .clean srcPrompter true with
        | (s1, none) => (s1, s1.peek a len, none)
        | (s1, some k) => (s1, [], some { status := 0x13, dw3 := accessDetail k (tagOf a) false false false false 0 })
      else
        let down := match hostOf a with | some p => !(s.port p).usable | none => false
        match accessFailure (if down then .failed .linkDown else c.p.body.ended) (tagOf a) false with
        | some r => (s, [], some r)
        | none => (s, (c.p.body.bytes ++ List.replicate (len - c.p.body.bytes.length) 0).take len, none)

/-- A command with a result address completes: the result is written, or follows the completion in the mailbox, and DW2 and DW3 carry `words` (R818, R851). -/
def State.respond (s : State) (c : Cmd) (bytes : List Byte) (words : Dword × Dword) : State :=
  let ok : Reply := { dw2 := words.1, dw3 := words.2 }
  match c.p.src with
  | .house => s.complete c.ref c.opcode ok bytes
  | .tenant t =>
    if bytes.isEmpty then s.answer c ok
    else match s.writeResult t (c.q 2) bytes c.p.body.ended with
      | (s1, none) => s1.answer c ok
      | (s1, some r) => s1.answer c r

/-- DW2 and DW3 repeat the first two result dwords (R818). -/
def firstWords (bytes : List Byte) : Dword × Dword := (dwordAt bytes 0, dwordAt bytes 1)

end Sys2Proof.Machine
end

