-- ==== Sys2Proof/Machine/Operands.lean ====
section
/-! DEFINITION. Operand forms: descriptors, script instructions and register sets as words; element sizes, sample formats, profiles, address generation and the reshuffle pipeline (chapters 08, 09, 10 and 13). -/

namespace Sys2Proof.Machine

/-! ### Elements and formats (R311 to R313, R508) -/

/-- Element codes that are assigned (R311). -/
def elementOk (e : Nat) : Bool := decide (e ≤ 4) || decide (e = 8)

/-- Bits per sample of a sample format: P12, L16, J16, J32 (R508). -/
def fmtBits : Nat → Nat
  | 0 => 12
  | 3 => 32
  | _ => 16

/-- SRC_FMT of a profile. -/
def srcFmt (ctrl : Word) : Nat := field ctrl 2 1
/-- DST_FMT of a profile. -/
def dstFmt (ctrl : Word) : Nat := field ctrl 4 3
/-- REORDER of a profile. -/
def reorderOf (ctrl : Word) : Nat := field ctrl 6 5
/-- IQ_SWAP of a profile. -/
def iqSwapOf (ctrl : Word) : Bool := bitAt ctrl 7
/-- Lanes per frame of a profile. -/
def lanesOf (ctrl : Word) : Nat := field ctrl 13 8 + 1
/-- TRANSPOSE of a profile. -/
def transposeOf (ctrl : Word) : Nat := field ctrl 15 14
/-- Swap unit of a profile in bytes; 1 for none. -/
def swapUnit (ctrl : Word) : Nat := 2 ^ field ctrl 17 16
/-- BSWAP_SRC of a profile. -/
def swapSrc (ctrl : Word) : Bool := bitAt ctrl 18
/-- MUTE_EN of a profile. -/
def muteEn (ctrl : Word) : Bool := bitAt ctrl 19
/-- SILENCE of a profile. -/
def silenceOf (ctrl : Word) : BitVec 16 := ctrl.extractLsb' 32 16

/-- Bytes of `n` elements of a code on a side, the format of the side being `fmt` (R311, R313). -/
def bytesOf (element fmt n : Nat) : Nat := if element = 8 then n * fmtBits fmt / 8 else n * 2 ^ element

/-- The words of a profile of a tenant; PROFILE 0 is the empty profile (R502). -/
def State.profile (s : State) (t : TenantId) (p : Nat) : Word × Word :=
  if p = 0 then (0, 0) else (s.tenReg t (0x0C00 + 16 * p), s.tenReg t (0x0C08 + 16 * p))

/-! ### Geometry of a unit -/

/-- Source bytes of one inner loop. -/
def Xfer.rowSrc (x : Xfer) : Nat := bytesOf x.element (srcFmt x.profCtrl) x.inner

/-- Destination bytes of one inner loop (R516). -/
def Xfer.rowDst (x : Xfer) : Nat := bytesOf x.element (dstFmt x.profCtrl) x.inner

/-- Inner loops of the unit. -/
def Xfer.rows (x : Xfer) : Nat := x.middle * x.outer

/-- Elements of the unit. -/
def Xfer.total (x : Xfer) : Nat := x.inner * x.rows

/-- Source bytes of the unit; a FILL or STAMP reads none. -/
def Xfer.srcTotal (x : Xfer) : Nat := if x.pattern.isSome then 0 else x.rowSrc * x.rows

/-- Destination bytes of the unit. -/
def Xfer.dstTotal (x : Xfer) : Nat := x.rowDst * x.rows

/-- All destination bytes are written. -/
def Xfer.done (x : Xfer) : Bool := decide (x.dstTotal ≤ x.written)

/-- A stream on the source side. -/
def Xfer.srcStream (x : Xfer) : Bool := x.pattern.isNone && x.srcInd.isNone && decide (tagOf x.src = 5)

/-- A stream on the destination side. -/
def Xfer.dstStream (x : Xfer) : Bool := x.dstInd.isNone && decide (tagOf x.dst = 5)

/-- A side of a unit: its base (0 for a logical stream), steps, bytes per inner loop and per element. -/
structure Side where
  base : Addr
  inner : Word
  middle : Word
  outer : Word
  row : Nat
  esize : Nat
  deriving DecidableEq, Repr

/-- The source side. -/
def Xfer.srcSide (x : Xfer) : Side :=
  { base := if x.srcInd.isSome then 0 else x.src, inner := x.srcInner, middle := x.srcMiddle, outer := x.srcOuter,
    row := x.rowSrc, esize := if x.element = 8 then x.rowSrc else 2 ^ x.element }

/-- The destination side. -/
def Xfer.dstSide (x : Xfer) : Side :=
  { base := if x.dstInd.isSome then 0 else x.dst, inner := x.dstInner, middle := x.dstMiddle, outer := x.dstOuter,
    row := x.rowDst, esize := if x.element = 8 then x.rowDst else 2 ^ x.element }

/-- Address, or logical offset, of byte `p` of a side in element order (R315). -/
def Side.at (d : Side) (middles : Nat) (p : Nat) : Addr :=
  let r := p / d.row
  let i := p % d.row / d.esize
  d.base + BitVec.ofNat 64 i * d.inner + BitVec.ofNat 64 (r % middles) * d.middle +
    BitVec.ofNat 64 (r / middles) * d.outer + BitVec.ofNat 64 (p % d.row % d.esize)

/-- Bytes from `p` on, at most `n`, that lie at consecutive addresses (R321). -/
def Side.run (d : Side) (middles p : Nat) : Nat → Nat
  | 0 => 0
  | n + 1 => if d.at middles (p + 1) = d.at middles p + 1 then 1 + d.run middles (p + 1) n else 1

/-- Tagged address of a logical offset in a fragment stream, with the bytes left in its fragment (R324). -/
def locate : List Fragment → Nat → Option (Addr × Nat)
  | [], _ => none
  | f :: fs, off => if off < f.len then some (f.addr + BitVec.ofNat 64 off, f.len - off) else locate fs (off - f.len)

/-- The fragment that holds a logical offset of a fragment stream, with the bytes left in it (R324). -/
def fragAt : List Fragment → Nat → Option (Fragment × Nat)
  | [], _ => none
  | f :: fs, off => if off < f.len then some (f, f.len - off) else fragAt fs (off - f.len)

/-- The stream endpoint that a side reaches at byte `p`, with the bytes that it takes there at once: a direct side with tag 0x5, or a fragment with it (R36, R323). -/
def sideStream (ind : Option FragStream) (base : Addr) (d : Side) (middles p left : Nat) : Option (EpId × Nat) :=
  match ind with
  | none => if tagOf base = 5 then some (epOf base, left) else none
  | some t => (fragAt t.frags (d.at middles p).toNat).bind fun q => if tagOf q.1.addr = 5 then some (epOf q.1.addr, min left q.2) else none

/-- The endpoint that the next source bytes come from. -/
def Xfer.srcEp (x : Xfer) : Option (EpId × Nat) :=
  if x.pattern.isSome then none else sideStream x.srcInd x.src x.srcSide x.middle x.asked (x.srcTotal - x.asked)

/-- The endpoint that the next destination bytes go to. -/
def Xfer.dstEp (x : Xfer) : Option (EpId × Nat) := sideStream x.dstInd x.dst x.dstSide x.middle x.written (x.dstTotal - x.written)

/-- The address of a burst to or from an endpoint: that of the side, or of the endpoint of a fragment (R36). -/
def streamAddr (ind : Option FragStream) (base : Addr) (e : EpId) : Addr :=
  if ind.isNone then base else BitVec.ofNat 64 (5 * 2 ^ 60 + e.toNat * 2 ^ 16)

/-- Highest logical offset the loops touch on a side, plus one (R325). -/
def Side.extent (d : Side) (inner middle outer : Nat) : Nat :=
  (if d.esize = d.row then d.row else (inner - 1) * d.inner.toNat + d.esize) + (middle - 1) * d.middle.toNat +
    (outer - 1) * d.outer.toNat

/-! ### Consistency of a unit (R311 to R314, R324, R505) -/

/-- A profile is consistent with a unit of an element code and inner count (R505). -/
def profileOk (ctrl mute : Word) (element inner : Nat) : Bool :=
  let rowS := bytesOf element (srcFmt ctrl) inner
  let rowD := bytesOf element (dstFmt ctrl) inner
  bitAt ctrl 0 && decide (field ctrl 31 20 = 0) && decide (field ctrl 63 48 = 0) && decide (reorderOf ctrl ≠ 3) &&
    decide (transposeOf ctrl ≠ 3) && decide (mute.toNat / 2 ^ lanesOf ctrl = 0) &&
    (decide (element = 8) || (decide (srcFmt ctrl = 0) && decide (dstFmt ctrl = 0) && decide (transposeOf ctrl = 0))) &&
    (decide (reorderOf ctrl = 0) || (decide (inner % lanesOf ctrl = 0) && decide (rowS ≤ 2048))) &&
    (!(iqSwapOf ctrl) || decide (inner % 2 = 0)) &&
    (decide (transposeOf ctrl = 0) ||
      (decide (element = 8) && decide (inner % 16 = 0) && decide (reorderOf ctrl = 0) && !(iqSwapOf ctrl) && !(muteEn ctrl) &&
        (if transposeOf ctrl = 1 then decide (dstFmt ctrl = 0) else decide (srcFmt ctrl = 0)))) &&
    decide ((if swapSrc ctrl then rowS else rowD) % swapUnit ctrl = 0)

/-- Some side in P12 has an odd inner count (R313). -/
def p12Odd (ctrl : Word) (element inner : Nat) : Bool :=
  decide (element = 8) && decide (inner % 2 = 1) && (decide (srcFmt ctrl = 0) || decide (dstFmt ctrl = 0))

/-- Offsets at which the steps of an indirect side break R324; `off` is the offset of its inner step; a packed side is one with ELEMENT 8 (R313). -/
def badSteps (packed : Bool) (d : Side) (inner middle off : Nat) : List Nat :=
  let row := if packed then d.row else (inner - 1) * d.inner.toNat
  (if bitAt d.inner 63 then [off] else []) ++
    (if bitAt d.middle 63 || decide (d.middle.toNat < row) then [off + 4] else []) ++
    (if bitAt d.outer 63 || decide (d.outer.toNat < (middle - 1) * d.middle.toNat + row) then [off + 8] else [])

/-- A number of bytes is not below 2^32 (R311). -/
def tooMany (x : Xfer) : Bool := decide (2 ^ 32 ≤ x.srcTotal) || decide (2 ^ 32 ≤ x.dstTotal)

/-- A unit that has not begun: a shape without progress. -/
def Xfer.fresh : Xfer :=
  { pattern := none, stamp := false, stampNow := false, src := 0, dst := 0, inner := 0, middle := 1, outer := 1, element := 0, profile := 0,
    srcInner := 0, srcMiddle := 0, srcOuter := 0, dstInner := 0, dstMiddle := 0, dstOuter := 0,
    srcInd := none, dstInd := none, verify := false, post := [], profCtrl := 0, profMute := 0,
    asked := 0, srcBuf := [], dstBuf := [], written := 0, moved := 0, lastBytes := [], burst := none, reshufflePos := 0 }

/-! ### Descriptors (R306 to R314) -/

/-- A descriptor's type. -/
inductive DescType where
  | move
  | runScript
  | fill
  | cue
  | callChain
  | link
  deriving DecidableEq, Repr

/-- The 16 dwords of a descriptor. -/
abbrev Desc := Vector Dword 16

/-- The type that a TYPE code names (R308). -/
def descType (d : Desc) : Option DescType :=
  match field (packetDw d 0) 7 0 with
  | 1 => some .move
  | 3 => some .runScript
  | 4 => some .fill
  | 5 => some .cue
  | 6 => some .callChain
  | 7 => some .link
  | _ => none

/-- A flag of DW0. -/
def descFlag (d : Desc) (bit : Nat) : Bool := bitAt (packetDw d 0) bit

/-- Flag positions in DW0. -/
def fIrq : Nat := 8
def fCqe : Nat := 9
def fSceneEnd : Nat := 10
def fVerify : Nat := 11
def fFence : Nat := 12
def fSig : Nat := 13
def fCurtain : Nat := 14
def fEnd : Nat := 15

/-- TAG of a descriptor. -/
def descTag (d : Desc) : BitVec 16 := (packetDw d 1).truncate 16
/-- CUE of a descriptor. -/
def descCue (d : Desc) : CueId := (packetDw d 1).extractLsb' 16 10
/-- USER of a descriptor. -/
def descUser (d : Desc) : Dword := packetDw d 15
/-- The 64-bit value in DW2 and DW3. -/
def descSrc (d : Desc) : Addr := join64 (packetDw d 2) (packetDw d 3)
/-- The 64-bit value in DW4 and DW5. -/
def descDst (d : Desc) : Addr := join64 (packetDw d 4) (packetDw d 5)

/-- A table that begins at an address. -/
def tableAt (a : Addr) : FragStream := { frags := [], next := a, count := 0, ended := false }

/-- The unit of a MOVE or FILL descriptor, with the words of its profile. -/
def descXfer (d : Desc) (prof : Word × Word) : Xfer :=
  let w6 := packetDw d 6
  let w7 := packetDw d 7
  let isFill := descType d = some .fill
  { Xfer.fresh with
    pattern := if isFill then some (descSrc d) else none
    src := if isFill then 0 else descSrc d
    dst := descDst d
    inner := field w6 23 0
    middle := field w7 15 0
    outer := field w7 31 16
    element := field w6 27 24
    profile := BitVec.ofNat 6 (field (packetDw d 0) 23 16)
    srcInner := sext (packetDw d 8), srcMiddle := sext (packetDw d 9), srcOuter := sext (packetDw d 10)
    dstInner := sext (packetDw d 11), dstMiddle := sext (packetDw d 12), dstOuter := sext (packetDw d 13)
    srcInd := if bitAt w6 29 && !isFill then some (tableAt (descSrc d)) else none
    dstInd := if bitAt w6 30 then some (tableAt (descDst d)) else none
    verify := descFlag d fVerify
    profCtrl := prof.1
    profMute := prof.2 }

/-- Byte offset of the field that holds bit `b` of dword `i`, by the MOVE layout. -/
def descField (i b : Nat) : Nat :=
  match i with
  | 0 => if b < 8 then 0 else if b < 16 then 1 else if b < 24 then 2 else 3
  | 1 => if b < 16 then 4 else if b < 26 then 6 else 7
  | 3 => 8
  | 5 => 16
  | 6 => if b < 24 then 24 else 27
  | 7 => if b < 16 then 28 else 30
  | _ => 4 * i

/-- Bits of a dword that a type uses (the table of types, R306). -/
def descMask (t : DescType) (d : Desc) (i : Nat) : Dword :=
  let all : Dword := 0xFFFFFFFF
  let moves := t = .move ∨ t = .fill
  let jumps := t = .callChain ∨ t = .link
  match i with
  | 0 => (match t with
    | .move => 0x80FFFFFF
    | .fill => 0x8000FFFF
    | .runScript => 0x8000F7FF
    | .cue => 0x8000F7FF
    | _ => 0x800000FF)
  | 1 => if jumps then 0x0000FFFF else if descFlag d fSig ∨ t = .cue then 0x03FFFFFF else 0x0000FFFF
  | 2 => if t = .cue then 0 else all
  | 3 => if t = .cue then 0 else all
  | 4 => if moves then all else 0
  | 5 => if moves then all else 0
  | 6 => if t = .move then 0x6FFFFFFF else if t = .fill then 0x4FFFFFFF else 0
  | 7 => if moves then all else 0
  | 8 => if t = .move then all else 0
  | 9 => if t = .move then all else 0
  | 10 => if t = .move then all else 0
  | 11 => if moves then all else 0
  | 12 => if moves then all else 0
  | 13 => if moves then all else 0
  | 14 => if descFlag d fCurtain ∧ ¬jumps then all else 0
  | _ => if jumps then 0 else all

/-- Offset of the first reserved field of a dword that is not zero. -/
def descReserved (t : DescType) (d : Desc) (i : Nat) : Option Nat :=
  ((List.range 32).find? fun b => bitAt (packetDw d i) b && !(bitAt (descMask t d i) b)).map (descField i)

/-- An offset that counts when a condition holds. -/
def offIf (c : Bool) (o : Nat) : List Nat := if c then [o] else []

/-- Offsets at which a unit's shape breaks R311 to R314, R322, R324, R339 and R505, in the layout of a descriptor. -/
def Xfer.descOffsets (x : Xfer) : List Nat :=
  let ok := elementOk x.element
  offIf (!ok || (x.pattern.isSome && decide (x.element = 8))) 27 ++
    offIf (decide (x.inner = 0)) 24 ++ offIf (decide (x.middle = 0)) 28 ++ offIf (decide (x.outer = 0)) 30 ++
    offIf (ok && (tooMany x || (x.pattern.isNone && p12Odd x.profCtrl x.element x.inner))) 24 ++
    offIf (decide (x.element = 8) && x.pattern.isNone && !x.srcStream && x.srcInner != 0) 32 ++
    offIf (decide (x.element = 8) && !x.dstStream && x.dstInner != 0) 44 ++
    offIf (x.srcInd.isSome && (decide (4 < tagOf x.src) || decide (x.src.toNat % 16 ≠ 0))) 8 ++
    offIf (x.dstInd.isSome && (decide (4 < tagOf x.dst) || decide (x.dst.toNat % 16 ≠ 0))) 16 ++
    (if ok && x.srcInd.isSome then badSteps (x.element == 8) x.srcSide x.inner x.middle 32 else []) ++
    (if ok && x.dstInd.isSome then badSteps (x.element == 8) x.dstSide x.inner x.middle 44 else []) ++
    offIf (x.verify && x.dstStream) 1 ++
    offIf (ok && x.profile != 0 && !(profileOk x.profCtrl x.profMute x.element x.inner)) 2

/-- An address of a script or a chain keeps its tag and alignment (R309, R327). -/
def badCodeAddr (a : Addr) (align : Nat) : Bool := decide (4 < tagOf a) || decide (a.toNat % align ≠ 0)

/-- Offsets at which a descriptor breaks step 2 of R340, with the words of its profile and whether its channel is bound to an act. -/
def descOffsets (t : DescType) (d : Desc) (actBound : Bool) (prof : Word × Word) : List Nat :=
  (List.range 16).filterMap (descReserved t d) ++
    (match t with
      | .move => offIf (decide (64 ≤ field (packetDw d 0) 23 16)) 2 ++ (descXfer d prof).descOffsets
      | .fill => (descXfer d prof).descOffsets
      | .runScript => offIf (badCodeAddr (descSrc d) 16) 8
      | .cue => []
      | _ => offIf (badCodeAddr (descSrc d) 64) 8) ++
    (if t = .callChain ∨ t = .link then []
     else offIf (descFlag d fCurtain && !actBound) 1 ++ offIf (descFlag d fCurtain && packetDw d 14 == 0) 56)

/-- The descriptor names a cue (R306). -/
def usesCue (t : DescType) (d : Desc) : Bool :=
  decide (t = .cue) || (descFlag d fSig && (decide (t = .move) || decide (t = .fill) || decide (t = .runScript)))

/-! ### Fragment entries (R322, R323) -/

/-- A fragment entry: address, length, LAST, LINK. -/
structure FragEntry where
  addr : Addr
  len : Nat
  flags : Dword
  deriving DecidableEq, Repr

/-- A fragment entry from its 16 bytes. -/
def fragEntry (bs : List Byte) : FragEntry :=
  { addr := join64 (dwordAt bs 0) (dwordAt bs 1), len := (dwordAt bs 2).toNat, flags := dwordAt bs 3 }

def FragEntry.last (e : FragEntry) : Bool := bitAt e.flags 0
def FragEntry.link (e : FragEntry) : Bool := bitAt e.flags 1

/-- Offsets at which an entry breaks R322, R323 or, on a destination under VERIFY, R339. -/
def FragEntry.offsets (e : FragEntry) (verifyDst : Bool) : List Nat :=
  offIf (decide (4 ≤ e.flags.toNat) || (e.last && e.link)) 12 ++
    (if e.link then offIf (decide (e.len ≠ 0)) 8 ++ offIf (badCodeAddr e.addr 16) 0
     else offIf (decide (e.len = 0)) 8 ++ offIf (badTag e.addr || (verifyDst && decide (tagOf e.addr = 5))) 0)

/-- The bytes of a data entry lie in one target (R323): inside the Wing SRAM, the DRAM of a region as installed, a host port's addresses or one chip select. -/
def State.oneTarget (s : State) (a : Addr) (len : Nat) : Bool :=
  let off := offOf a
  match tagOf a with
  | 0 => decide (off + len ≤ 2 ^ 23)
  | 1 =>
    s.dramPlace off != .absent && s.dramPlace (off + len - 1) != .absent &&
      (s.interleaved || decide (off / 2 ^ 35 = (off + len - 1) / 2 ^ 35))
  | 4 => decide (off / 2 ^ 32 = (off + len - 1) / 2 ^ 32)
  | 5 => true
  | _ => decide (off + len ≤ 2 ^ 60)

/-- Offsets at which an entry breaks its rules, the place of its bytes included (R323). -/
def State.entryOffsets (s : State) (e : FragEntry) (verifyDst : Bool) : List Nat :=
  e.offsets verifyDst ++ offIf (!e.link && !(badTag e.addr) && !(s.oneTarget e.addr e.len)) 8

/-! ### Reshuffle (R507 to R515) -/

/-- A list cut into pieces of `n`, with fuel for its length. -/
def pieces {α : Type} (n : Nat) : Nat → List α → List (List α)
  | 0, _ => []
  | k + 1, l => if l.isEmpty then [] else l.take n :: pieces n k (l.drop n)

/-- Reverses the bytes of each swap unit (R515). -/
def byteSwap (u : Nat) (bs : List Byte) : List Byte :=
  if u ≤ 1 then bs else (pieces u bs.length bs).flatMap List.reverse

/-- The samples of a packed list of bytes (R508, R509). -/
def unpack (fmt n : Nat) (bs : List Byte) : List (BitVec 12) :=
  let v := ofLeBytes bs
  (List.range n).map fun i => BitVec.ofNat 12 (v / 2 ^ (i * fmtBits fmt + if fmt = 1 then 4 else 0))

/-- One sample in its field of a format. -/
def packOne (fmt : Nat) (x : BitVec 12) : Nat :=
  match fmt with
  | 0 => x.toNat
  | 1 => x.toNat * 16
  | 2 => (x.signExtend 16).toNat
  | _ => (x.signExtend 32).toNat

/-- Samples packed into bytes (R508, R509). -/
def pack (fmt : Nat) (xs : List (BitVec 12)) : List Byte :=
  leBytes (xs.length * fmtBits fmt / 8) ((xs.map (packOne fmt)).foldr (fun x acc => x + 2 ^ fmtBits fmt * acc) 0)

/-- Forward transpose of one group of 16 samples into 12 plane words (R514). -/
def planes (xs : List (BitVec 12)) : List Byte :=
  (List.range 12).flatMap fun p =>
    leBytes 2 (((List.range 16).map fun j => if bitAt (nth xs j 0) p then 2 ^ j else 0).sum)

/-- Inverse transpose of 24 bytes into 16 samples (R514). -/
def unplanes (bs : List Byte) : List (BitVec 12) :=
  (List.range 16).map fun j =>
    BitVec.ofNat 12 (((List.range 12).map fun p => if bitAt (dwordAt ((bs.drop (2 * p)).take 2) 0) j then 2 ^ p else 0).sum)

/-- Exchanges elements 2k and 2k + 1 (R511). -/
def iqSwap {α : Type} : List α → List α
  | a :: b :: l => b :: a :: iqSwap l
  | l => l

/-- Lane of the element at an input position (R512). -/
def laneOf (ctrl : Word) (inner i : Nat) : Nat :=
  if reorderOf ctrl = 2 then i / (inner / lanesOf ctrl) else i % lanesOf ctrl

/-- Replaces the elements of muted lanes (R512). -/
def muteLanes {α : Type} (ctrl mute : Word) (inner first : Nat) (silence : α) (l : List α) : List α :=
  if muteEn ctrl then
    (List.range l.length).map fun k =>
      if bitAt mute (laneOf ctrl inner (first + k)) then silence else nth l k silence
  else l

/-- De-interleave and interleave of a whole inner loop (R513). -/
def reorder {α : Type} (ctrl : Word) (d : α) (l : List α) : List α :=
  let lanes := lanesOf ctrl
  let f := l.length / lanes
  match reorderOf ctrl with
  | 1 => (List.range l.length).map fun i => nth l (i % f * lanes + i / f) d
  | 2 => (List.range l.length).map fun i => nth l (i % lanes * f + i / lanes) d
  | _ => l

/-- Silence of an element of ELEMENT 0 to 4 (R512). -/
def silenceBytes (ctrl : Word) (n : Nat) : List Byte :=
  (List.range n).map fun i => if i % 2 = 0 then (silenceOf ctrl).truncate 8 else (silenceOf ctrl).extractLsb' 8 8

/-- The pipeline over `n` elements, from position `first` of their inner loop on (R507). -/
def reshuffle (ctrl mute : Word) (element inner first n : Nat) (bs : List Byte) : List Byte :=
  let u := swapUnit ctrl
  let bs1 := if swapSrc ctrl then byteSwap u bs else bs
  let out :=
    if element = 8 then
      let xs := if transposeOf ctrl = 2 then (pieces 24 bs1.length bs1).flatMap unplanes else unpack (srcFmt ctrl) n bs1
      let ys := if iqSwapOf ctrl then iqSwap xs else xs
      let zs := reorder ctrl 0 (muteLanes ctrl mute inner first ((silenceOf ctrl).truncate 12) ys)
      if transposeOf ctrl = 1 then (pieces 16 zs.length zs).flatMap planes else pack (dstFmt ctrl) zs
    else
      let size := 2 ^ element
      let es := pieces size bs1.length bs1
      let ys := if iqSwapOf ctrl then iqSwap es else es
      (reorder ctrl [] (muteLanes ctrl mute inner first (silenceBytes ctrl size) ys)).flatten
  if swapSrc ctrl then out else byteSwap u out

/-- Elements that the pipeline takes together: a whole inner loop when it reorders; otherwise the least number that fills a pair, a group and a swap unit (R518, R521). -/
def Xfer.granule (x : Xfer) : Nat :=
  if x.profile = 0 then (if x.element = 8 then 2 else 1)
  else if reorderOf x.profCtrl ≠ 0 then x.inner
  else if transposeOf x.profCtrl ≠ 0 then 16
  else
    let pair := if iqSwapOf x.profCtrl || (decide (x.element = 8) && (decide (srcFmt x.profCtrl = 0) || decide (dstFmt x.profCtrl = 0)))
      then 2 else 1
    let per := bytesOf x.element (if swapSrc x.profCtrl then srcFmt x.profCtrl else dstFmt x.profCtrl) pair
    let unit := swapUnit x.profCtrl
    pair * (unit / Nat.gcd unit per)

/-- Elements taken together at element position `k`: a granule, or what is left of the inner loop. -/
def Xfer.chunkAt (x : Xfer) (k : Nat) : Nat := min x.granule (x.inner - k % x.inner)

/-- Destination bytes of the first `k` elements of the unit. -/
def Xfer.dstBytesOf (x : Xfer) (k : Nat) : Nat :=
  k / x.inner * x.rowDst + bytesOf x.element (dstFmt x.profCtrl) (k % x.inner)

/-- Source bytes of the first `k` elements of the unit. -/
def Xfer.srcBytesOf (x : Xfer) (k : Nat) : Nat :=
  k / x.inner * x.rowSrc + bytesOf x.element (srcFmt x.profCtrl) (k % x.inner)

/-- Source elements that need no further output: those whose granule is written. -/
def Xfer.movedAt (x : Xfer) (written : Nat) : Nat :=
  if x.rowDst = 0 then 0
  else
    let r := written / x.rowDst
    let g := x.granule
    let gb := bytesOf x.element (dstFmt x.profCtrl) g
    let w := written % x.rowDst
    r * x.inner + (if gb = 0 then 0 else min x.inner (w / gb * g))

/-- Elements of the unit whose output may go out when `k` elements are released: whole granules, or the end of an inner loop. -/
def Xfer.outputFor (x : Xfer) (k : Nat) : Nat :=
  let k := min k x.total
  if x.inner = 0 then 0 else x.dstBytesOf (k / x.inner * x.inner + k % x.inner / x.granule * x.granule)

/-- Source bytes in the slot pass the pipeline, granule by granule, with fuel. -/
def Xfer.convert : Nat → Xfer → Xfer
  | 0, x => x
  | n + 1, x =>
    let k := x.chunkAt x.reshufflePos
    let need := x.srcBytesOf (x.reshufflePos + k) - x.srcBytesOf x.reshufflePos
    if need = 0 ∨ x.srcBuf.length < need then x
    else
      let out := if x.profile = 0 then x.srcBuf.take need
        else reshuffle x.profCtrl x.profMute x.element x.inner (x.reshufflePos % x.inner) k (x.srcBuf.take need)
      Xfer.convert n
        { x with srcBuf := x.srcBuf.drop need, dstBuf := x.dstBuf ++ out, reshufflePos := x.reshufflePos + k }

/-- Bytes `p` to `p + n` of a FILL, or of a STAMP's value: byte j of each element takes pattern byte j mod 8 (R337, R386). -/
def patternBytes (w : Word) (esize p n : Nat) : List Byte :=
  (List.range n).map fun i => BitVec.ofNat 8 (w.toNat / 256 ^ ((p + i) % esize % 8))

/-! ### Script instructions (R362) -/

/-- The four dwords of an instruction, from its 16 bytes. -/
structure Insn where
  d0 : Dword
  d1 : Dword
  d2 : Dword
  d3 : Dword
  deriving DecidableEq, Repr

/-- An instruction from its bytes. -/
def insnOf (bs : List Byte) : Insn :=
  { d0 := dwordAt bs 0, d1 := dwordAt bs 1, d2 := dwordAt bs 2, d3 := dwordAt bs 3 }

/-- The kinds of instructions (R362). -/
inductive ScriptOp where
  | nop | move | move3 | seta | adda | setk | addk | loop | branch | endScript | halt
  | waitCue | waitt | signal | fence | take | give | stamp | irq
  deriving DecidableEq, Repr

/-- The instruction that an OPCODE names (R362). -/
def scriptOp (d0 : Dword) : Option ScriptOp :=
  match field d0 7 0 with
  | 0x00 => some .nop
  | 0x01 => some .move
  | 0x02 => some .move3
  | 0x08 => some .seta
  | 0x09 => some .adda
  | 0x0A => some .setk
  | 0x0B => some .addk
  | 0x10 => some .loop
  | 0x11 => some .branch
  | 0x12 => some .endScript
  | 0x13 => some .halt
  | 0x18 => some .waitCue
  | 0x19 => some .waitt
  | 0x1A => some .signal
  | 0x1B => some .fence
  | 0x20 => some .take
  | 0x21 => some .give
  | 0x28 => some .stamp
  | 0x29 => some .irq
  | _ => none

/-- Assigned bits of the dwords of an instruction (R362). -/
def scriptMask : ScriptOp → List Dword
  | .nop => [0xFF, 0, 0, 0]
  | .move => [0x07FFFFFF, 0x00FFFFFF, 0, 0]
  | .move3 => [0x07FFFFFF, 0x0FFFFFFF, 0, 0]
  | .seta => [0x3FF, 0xFFFFFFFF, 0xFFFFFFFF, 0]
  | .adda => [0x1FFF, 0xFFFFFFFF, 0, 0]
  | .setk => [0x3FF, 0xFFFFFFFF, 0, 0]
  | .addk => [0x3FF, 0xFFFFFFFF, 0, 0]
  | .loop => [0x3FF, 0xFFF, 0, 0]
  | .branch => [0x03FF3FFF, 0xFFF, 0xFFFF003F, 0]
  | .endScript => [0x3FF, 0, 0, 0]
  | .halt => [0xFF, 0xFFFF, 0, 0]
  | .waitCue => [0xFFFFF, 0xFFFFFFFF, 0xFFF, 0xFFFF]
  | .waitt => [0x7FF, 0xFFFFFFFF, 0x7FFFFFFF, 0]
  | .signal => [0x3FFFF, 0xFFFF, 0, 0]
  | .fence => [0xFF, 0, 0, 0]
  | .take => [0x7FF, 0xFFFFFFFF, 0xFFF, 0]
  | .give => [0x3FF, 0, 0, 0]
  | .stamp => [0x1FFF, 0, 0, 0]
  | .irq => [0xFF, 0xFFFF, 0, 0]

/-- Offsets of reserved fields of an instruction that are not zero. -/
def Insn.reserved (i : Insn) (op : ScriptOp) : List Nat :=
  let m := scriptMask op
  [(0, i.d0), (1, i.d1), (2, i.d2), (3, i.d3)].filterMap fun x =>
    (reservedAt (nth m x.1 0) x.2).map fun b => 4 * x.1 + b / 8

/-- A register pointer of a script. -/
def Script.ptr (s : Script) (d0 : Dword) (lo : Nat) : Addr := s.a.look (BitVec.ofNat 2 (field d0 (lo + 1) lo))

/-- A counter of a script. -/
def Script.ctr (s : Script) (d0 : Dword) (lo : Nat) : Dword := s.k.look (BitVec.ofNat 2 (field d0 (lo + 1) lo))

/-- A sign-extended 16-bit template step times 2^shift (R364). -/
def tmplStep (w : Word) (lo shift : Nat) : Word := ((w.extractLsb' lo 16).signExtend 64) <<< shift

/-- Advance of a pointer after a MOVE or MOVE3 with POST: a pointer to a stream keeps its value (R365). -/
def postStep (a : Addr) (d0 : Dword) (lo : Nat) (step : Advance) : List (BitVec 2 × Advance) :=
  if tagOf a = 5 then [] else [(BitVec.ofNat 2 (field d0 (lo + 1) lo), step)]

/-- The unit of a script MOVE (R363). -/
def scriptMoveXfer (s : Script) (i : Insn) (prof : Word × Word) : Xfer :=
  let e := field i.d0 15 12
  let step : Word := if e = 8 then 0 else BitVec.ofNat 64 (2 ^ e)
  let x : Xfer := { Xfer.fresh with
    src := s.ptr i.d0 8
    dst := s.ptr i.d0 10
    inner := if bitAt i.d0 22 then (s.ctr i.d0 23).toNat else field i.d1 23 0
    element := e
    profile := BitVec.ofNat 6 (field i.d0 21 16)
    srcInner := step
    dstInner := step
    verify := bitAt i.d0 26
    profCtrl := prof.1
    profMute := prof.2 }
  if bitAt i.d0 25 then
    { x with post := postStep x.src i.d0 8 (.bytes false) ++ postStep x.dst i.d0 10 (.bytes true) }
  else x

/-- The unit of a script MOVE3, with the two words of its template (R364). -/
def move3Xfer (s : Script) (i : Insn) (tmpl prof : Word × Word) : Xfer :=
  let sh := field i.d1 27 24
  let x : Xfer := { Xfer.fresh with
    src := s.ptr i.d0 8
    dst := s.ptr i.d0 10
    inner := field i.d1 23 0
    middle := field tmpl.1 15 0
    outer := field tmpl.1 31 16
    element := field i.d0 15 12
    profile := BitVec.ofNat 6 (field i.d0 21 16)
    srcInner := tmplStep tmpl.1 32 sh
    dstInner := tmplStep tmpl.1 48 sh
    srcMiddle := tmplStep tmpl.2 0 sh
    dstMiddle := tmplStep tmpl.2 16 sh
    srcOuter := tmplStep tmpl.2 32 sh
    dstOuter := tmplStep tmpl.2 48 sh
    verify := bitAt i.d0 26
    profCtrl := prof.1
    profMute := prof.2 }
  if bitAt i.d0 25 then
    { x with
      post := postStep x.src i.d0 8 (.step (BitVec.ofNat 64 x.outer * x.srcOuter)) ++
        postStep x.dst i.d0 10 (.step (BitVec.ofNat 64 x.outer * x.dstOuter)) }
  else x

/-- Offsets at which the unit of a MOVE or MOVE3 breaks R311 to R313, R363, R364, R366 or R505: the profile at byte 2, VERIFY at byte 3, counts that a register or template gives at DW0, the others at DW1. -/
def Xfer.scriptOffsets (x : Xfer) (i : Insn) (op : ScriptOp) : List Nat :=
  let fromReg := decide (op = .move) && bitAt i.d0 22
  let at_ := if fromReg then 0 else 4
  let ok := elementOk x.element
  offIf (!ok) 1 ++ offIf (fromReg && decide (field i.d1 23 0 ≠ 0)) 4 ++
    offIf (decide (x.inner = 0) || decide (2 ^ 24 ≤ x.inner)) at_ ++
    offIf (decide (x.middle = 0) || decide (x.outer = 0)) 0 ++
    offIf (ok && (tooMany x || p12Odd x.profCtrl x.element x.inner)) at_ ++
    offIf (decide (x.element = 8) && ((!x.srcStream && x.srcInner != 0) || (!x.dstStream && x.dstInner != 0))) 0 ++
    offIf (x.verify && x.dstStream) 3 ++
    offIf (ok && x.profile != 0 && !(profileOk x.profCtrl x.profMute x.element x.inner)) 2

/-! ### Register sets (R404, R405) -/

/-- Word `i` of the active set (true) or the shadow set of a channel slot. -/
def Chan.setWord (c : Chan) (active : Bool) (i : Nat) : Word := c.reg ((if active then 0x80 else 0xC0) + 8 * i)

/-- The control word of a set: CURTAIN_OFFSET, PROFILE and the flags. -/
def Chan.setCtl (c : Chan) (active : Bool) : Word := c.setWord active 6

/-- The unit that a set describes. -/
def Chan.setXfer (c : Chan) (active : Bool) (prof : Word × Word) : Xfer :=
  let w (i : Nat) := c.setWord active i
  { Xfer.fresh with
    src := w 0
    dst := w 1
    inner := field (w 2) 23 0
    element := field (w 2) 27 24
    middle := field (w 2) 47 32
    outer := field (w 2) 63 48
    srcInner := sext (lo32 (w 3)), dstInner := sext (hi32 (w 3))
    srcMiddle := sext (lo32 (w 4)), dstMiddle := sext (hi32 (w 4))
    srcOuter := sext (lo32 (w 5)), dstOuter := sext (hi32 (w 5))
    profile := BitVec.ofNat 6 (field (w 6) 37 32)
    verify := bitAt (w 6) 40
    profCtrl := prof.1
    profMute := prof.2 }

/-- Offsets within a set at which its unit breaks R311 to R314, R339 or R505 (R405, R506). -/
def Xfer.setOffsets (x : Xfer) : List Nat :=
  let ok := elementOk x.element
  offIf (!ok) 0x13 ++ offIf (decide (x.inner = 0)) 0x10 ++ offIf (decide (x.middle = 0)) 0x14 ++
    offIf (decide (x.outer = 0)) 0x16 ++
    offIf (ok && (tooMany x || p12Odd x.profCtrl x.element x.inner)) 0x10 ++
    offIf (decide (x.element = 8) && !x.srcStream && x.srcInner != 0) 0x18 ++
    offIf (decide (x.element = 8) && !x.dstStream && x.dstInner != 0) 0x1C ++
    offIf (x.verify && x.dstStream) 0x35 ++
    offIf (ok && x.profile != 0 && !(profileOk x.profCtrl x.profMute x.element x.inner)) 0x34

/-! ### Bursts (R321) -/

/-- Largest burst that may begin at an address: its target's limit, its boundary, and the beats left on the local bus (R321, R743). -/
def State.burstLimit (s : State) (a : Addr) (write : Bool) : Nat :=
  let off := offOf a
  match tagOf a with
  | 0 => 256
  | 1 => 64 - off % 64
  | 2 =>
    let ctl := s.hp0.cfg.look cfgDevCtl
    min (if write then 128 * 2 ^ min 2 (field ctl 7 5) else 128 * 2 ^ min 5 (field ctl 14 12)) (4096 - off % 4096)
  | 3 =>
    let ctl := s.hp1.cfg.look cfgDevCtl
    min (if write then 128 * 2 ^ min 2 (field ctl 7 5) else 128 * 2 ^ min 5 (field ctl 14 12)) (4096 - off % 4096)
  | 4 => 4 * 2 ^ min 4 (field (s.lbCs (csOf a)) 3 1) - off % 4
  | 5 => 64
  | _ => 64

end Sys2Proof.Machine
end

