-- ==== Sys2Proof/Machine/Channel.lean ====
section
/-! DEFINITION. What a channel has beside its work: its tenant, its slot, its completions, its streams, its retries and the beginning of every failure (chapters 07, 11 and 12). -/

namespace Sys2Proof.Machine

/-- A CLK_CORE cycle in ticks (R47). -/
def clkCore : Nat := 48
/-- A CLK_REG cycle in ticks (R47). -/
def clkReg : Nat := 384

/-- The data path moves data: LIT or HUSH, and not FAULTED (R39, R242). -/
def State.dataOn (s : State) : Bool :=
  (s.power.state == .lit || s.power.state == .hush) && s.devState == .staged

/-- The channel is started: ARMED, RUNNING or WAITING, a pending stop aside. -/
def Chan.live (n : Chan) : Bool := n.state == .armed || n.state == .running || n.state == .waiting

/-- A stop or a drain is pending. -/
def Chan.stopping (n : Chan) : Bool := n.stopPending || n.drainPending

/-- The channel waits for a proof before anything else: end-of-set steps let the next set move (R412). -/
def Chan.held (n : Chan) : Bool :=
  match n.after with
  | none => false
  | some .endSet => false
  | some _ => true

/-- The state that the channel reports: STOPPING while a stop is pending (R457). -/
def Chan.shown (n : Chan) : ChanState := if n.live && n.stopping then .stopping else n.state

/-- The tenant of a channel; tenant 0 stands in for a channel of none. -/
def State.tenantOf (s : State) (c : ChanId) : TenantId := (s.chanTenant c).getD 0

/-- The SQ bound to a channel. -/
def State.sqOf (s : State) (c : ChanId) : SubQueue := s.sq (s.tenantOf c) (s.chan c).sq

/-- The number of the CQ of a channel's SQ. -/
def State.cqIdOf (s : State) (c : ChanId) : QueueId := (s.sqOf c).cq.zeroExtend 7

/-- Completions of a channel held for CQ space (R281). -/
def State.heldOf (s : State) (c : ChanId) : List DueCompletion :=
  (s.cq (s.tenantOf c) (s.cqIdOf c)).held.filter fun d => d.chan == some c

/-- Completion writes of a channel that their target has not accepted (R38). -/
def State.cplOut (s : State) (c : ChanId) : Bool := s.cplWrites.any fun w => w.chan == some c

/-- A completion due from the channel is not yet written: it is held for CQ space, or its write has not been accepted (R281, R458). -/
def State.owes (s : State) (c : ChanId) : Bool := !(s.heldOf c).isEmpty || s.cplOut c

/-- Sends the channel vector (R285). -/
def State.chanVector (s : State) (c : ChanId) : State := s.sendVector (s.tenantOf c) (s.chan c).vector.toNat

/-- Fields of CHAN_PACE (R427). -/
def Chan.paceEp (n : Chan) : EpId := n.pace.extractLsb' 0 6
def Chan.paceDir (n : Chan) : Bool := bitAt n.pace 6
def Chan.paceLine (n : Chan) : BitVec 5 := n.pace.extractLsb' 8 5
def Chan.lineEdge (n : Chan) : Bool := bitAt n.pace 13
def Chan.lineLow (n : Chan) : Bool := bitAt n.pace 14
def Chan.quantum (n : Chan) : Nat := field n.pace 23 16 + 1
def Chan.paceCue (n : Chan) : CueId := n.pace.extractLsb' 24 10

/-! ### Done events (R784) -/

/-- PIN_MUX entry of a pin. -/
def State.pinMux (s : State) (p : PinId) : Word := s.devReg (0x0800 + 8 * p.toNat)

/-- FUNC of a pin. -/
def State.pinFunc (s : State) (p : PinId) : Nat := field (s.pinMux p) 4 0

/-- The state with one pin changed. -/
def State.updPin (s : State) (p : PinId) (f : Pin → Pin) : State := { s with pins := s.pins.upd p f }

/-- One done event at a DONE pin: a pulse begins, or is queued, or is lost. -/
def State.donePulse (s : State) (p : PinId) : State :=
  let q := s.pins.look p
  if q.pulseEnd.isNone then
    (s.updPin p fun q => { q with pulseEnd := some (s.now + BitVec.ofNat 64 (clkReg * (field (s.pinMux p) 11 8 + 1))) }).emit
      (.pulse (.done p) true s.now)
  else if q.queued < 15 then s.updPin p fun q => { q with queued := q.queued + 1 }
  else s.setDevReg 0x09A0 (s.devReg 0x09A0 ||| (1 <<< p.toNat))

/-- DONE pins that carry a channel and drive (R784). -/
def State.donePins (s : State) (c : ChanId) : List PinId :=
  let t := s.tenantOf c
  let slot := s.slotOf t c
  allPins.filter fun p => decide (s.pinFunc p = 4) && decide (field (s.pinMux p) 35 32 = t.toNat) &&
    decide (field (s.pinMux p) 25 16 = slot)

/-- A done event of a channel. -/
def State.doneEvent (s : State) (c : ChanId) : State :=
  s.forAll ((s.donePins c).filter fun p => (s.pins.look p).parkEnd.isNone) fun p s => s.donePulse p

/-! ### Stream endpoints (R441, R442, R722 to R729) -/

/-- The state with one endpoint changed. -/
def State.updEp (s : State) (e : EpId) (f : Endpoint → Endpoint) : State := { s with eps := s.eps.upd e f }

/-- Size of an endpoint's FIFO in bytes. -/
def State.epSize (s : State) (e : EpId) : Nat := (field (s.epCfg e) 19 14 + 1) * 1024

/-- Bytes at the head of the FIFO that have landed (R441). -/
def Endpoint.landed (p : Endpoint) : Nat := (p.fifo.takeWhile fun b => b.landed).length

/-- Space for writers: none until a deficit has been reserved in full (R729), nor while the endpoint's link is lost (R712). -/
def State.epSpace (s : State) (e : EpId) : Nat :=
  if (s.eps.look e).deficit = 0 ∧ (s.eps.look e).noSpace = false then s.epSize e - (s.eps.look e).fifo.length else 0

/-- Silence byte of stream index `i` (R728). -/
def State.silenceByte (s : State) (e : EpId) (i : Nat) : Byte :=
  let w := s.epSilence e
  BitVec.ofNat 8 (w.toNat / 256 ^ (i % (field w 33 32 + 1)))

/-- The fill request of a channel is judged at a level (R442). -/
def fillJudge (dir : Bool) (high low fill : Nat) (old : Bool) : Bool :=
  let set := if dir then decide (fill ≤ 64 * low) else decide (64 * high ≤ fill)
  let clear := if dir then decide (64 * high ≤ fill) else decide (fill ≤ 64 * low)
  if set && clear then old else if set then true else if clear then false else old

/-- The fill or the marks of an endpoint changed: the requests of the channels that watch it are judged (R442). -/
def State.judgeFill (s : State) (e : EpId) : State :=
  let cfg := s.epCfg e
  let fill := (s.eps.look e).fifo.length
  s.forAll (allChans.filter fun c => let n := s.chan c; n.paceSrc == 1 && n.paceEp == e && n.state != .unbound) fun c s =>
    s.updChan c fun n => { n with fillReq := fillJudge n.paceDir (field cfg 30 20) (field cfg 41 31) fill n.fillReq }

/-- Offset within the 1 MiB of stream FIFO memory of the byte of stream index `i` of an endpoint (R554). The FIFO is a ring that begins at its last emptying (log entry 21). -/
def State.fifoOffset (s : State) (e : EpId) (i : Nat) : Nat := field (s.epCfg e) 13 4 * 1024 + i % s.epSize e

/-- An uncorrectable byte of stream FIFO memory is reported (R532, R542). -/
def State.fifoBad (s : State) (off source : Nat) : State := (s.logMem kUncorrectable 1 (BitVec.ofNat 64 off) source .bad).memUe

/-- What the code finds in the word that a read of stream bytes begins with (R528, R531, R542). -/
def State.fifoCheck (s : State) (off : Nat) (ecc : Ecc) (source : Nat) : State :=
  let e := eccAt ecc true (off / 8)
  match judgeByte e with
  | .good => s
  | .bad => s.fifoBad (off / 8 * 8 + eccLane e) source
  | r => s.logMem kCorrected 1 (BitVec.ofNat 64 (off / 8 * 8 + eccLane e)) source r

/-- As much of a deficit as fits is appended as silence (R114, R729). -/
def State.placeDeficit (s : State) (e : EpId) : State :=
  let p := s.eps.look e
  let k := min p.deficit (s.epSize e - p.fifo.length)
  if k = 0 then s
  else
    let first := p.index + p.fifo.length
    let bs : List StreamByte := (List.range k).map fun i => { byte := s.silenceByte e (first + i), stamp := s.now }
    s.updEp e fun p => { p with fifo := p.fifo ++ bs, deficit := p.deficit - k }

/-- Bytes leave the head of a FIFO (R441): the level is judged again and a waiting deficit takes the space. -/
def State.epTake (s : State) (e : EpId) (n : Nat) : State :=
  ((s.updEp e fun p => { p with fifo := p.fifo.drop n, index := p.index + n }).placeDeficit e).judgeFill e

/-- Bytes enter the tail of a FIFO. -/
def State.epAppend (s : State) (e : EpId) (bs : List StreamByte) : State :=
  (s.updEp e fun p => { p with fifo := p.fifo ++ bs }).judgeFill e

/-- The first `n` unlanded places of a channel land; the others keep their places. -/
def landPlaces (c : ChanId) : Nat → List StreamByte → List StreamByte
  | 0, l => l
  | _, [] => []
  | n + 1, b :: l =>
    if !b.landed && b.owner == some c then { b with landed := true, owner := none } :: landPlaces c n l
    else b :: landPlaces c (n + 1) l

/-! ### Holding slots (R431, R433) -/

/-- A channel leaves its holding slot. -/
def State.freeSlot (s : State) (c : ChanId) : State :=
  let drop (h : Stagehand) : Stagehand :=
    { h with occupants := h.occupants.filter fun x => x != c, writing := if h.writing = some c then none else h.writing }
  ({ s with sh := s.sh.upd (s.chan c).effective drop }).updChan c fun n => { n with slot := none }

/-! ### Bursts out (R438, R475, R481) -/

/-- An LB_CLK cycle in ticks: CLK_DIV cycles of CLK_CORE. -/
def State.lbPeriod (s : State) : Nat := clkCore * field (s.devReg 0x2000) 4 0

/-- A burst begins at an edge: its first beat follows the address cycle, and in a read the turnaround (R744). -/
def LbBurst.begin (b : LbBurst) (edge : Tick) (period : Nat) : LbBurst :=
  { b with since := edge + BitVec.ofNat 64 ((if b.write then 1 else 2) * period) }

/-- The edge from which the next burst may begin: after the TURN cycles of the last. -/
def State.lbStart (s : State) : Tick :=
  match s.lbTurn with
  | some t => if future t s.coreEdge then t else s.coreEdge
  | none => s.coreEdge

/-- Bytes of a local-bus burst for a channel are queued (R744). -/
def State.lbQueue (s : State) (c : ChanId) (write : Bool) (a : Addr) (bs : List Byte) (len : Nat) : State :=
  let b : LbBurst := { chan := c, write := write, addr := a, bytes := bs, len := len }
  { s with lb := if s.lb.isEmpty then [b.begin s.lbStart s.lbPeriod] else s.lb ++ [b] }

/-- The first burst leaves the local bus; the next begins after its TURN cycles (R744). -/
def State.lbPop (s : State) : State :=
  match s.lb with
  | b :: rest =>
    let free := s.coreEdge + BitVec.ofNat 64 ((field (s.lbCs (csOf b.addr)) 10 9 + 1) * s.lbPeriod)
    match rest with
    | d :: more => { s with lb := d.begin free s.lbPeriod :: more }
    | [] => { s with lb := [], lbTurn := some free }
  | [] => s

/-- The write bursts that a test names stand elsewhere. -/
def Chan.restand (n : Chan) (which : WriteReq → Bool) (stand : WriteAt) : Chan :=
  { n with writes := n.writes.map fun w => if which w then { w with stand := stand } else w }

/-- A write burst is sent to its target, where it waits until it has landed; a port that sends nothing turns it back, which is a bus error (R44). -/
def State.sendWrite (s : State) (c : ChanId) (w : WriteReq) : State :=
  let moved (st : WriteAt) : State := s.updChan c fun n => n.restand (fun x => x = w) st
  match hostOf w.addr with
  | some p => if (s.port p).usable then (moved .out).sendHostWrite p w.addr w.bytes else moved .refused
  | none => if tagOf w.addr = 4 then (moved .out).lbQueue c true w.addr w.bytes w.bytes.length else moved .out

/-- The register set whose unit writes now, by the value of SWAP_COUNT while it was active (R412). -/
def Chan.setOrd (n : Chan) : Dword := match n.shadow.moving with | some e => e.ord | none => n.shadow.swapCount

/-- A burst of the channel waits for its retry, or one behind it has not been issued. -/
def Chan.holdsBack (n : Chan) : Bool := !n.retries.isEmpty || n.writes.any fun w => w.stand == .held

/-- A burst may be issued: not in FAULTED (R242). -/
def State.mayIssue (s : State) : Bool := s.devState != .faulted

/-- The write burst being formed is closed at the last beat written, and issued (R438); it is held while a burst of the channel awaits its retry (R473). -/
def State.closeBurst (s : State) (c : ChanId) : State :=
  let n := s.chan c
  match n.xfer with
  | none => s
  | some x =>
    match x.burst with
    | none => s
    | some (a, bs, _) =>
      let w : WriteReq := { addr := a, bytes := bs, before := x.written - bs.length, ord := n.setOrd, stand := .held }
      let s1 := s.updChan c fun n => { n with writes := n.writes ++ [w], xfer := some { x with burst := none } }
      if n.holdsBack || !s.mayIssue then s1 else s1.sendWrite c w

/-- Bursts on the local bus of a channel that issues nothing more (R746): the one in progress is abandoned, a write burst that is queued is performed, and a read that is queued leaves. -/
def State.abandonLb (s : State) (c : ChanId) : State :=
  let keep : List LbBurst := match s.lb with
    | [] => []
    | b :: rest => (if b.chan = c then { b with abandoned := true, beatless := future b.since s.coreEdge } else b) :: rest.filter fun b => b.chan != c || b.write
  { s with lb := keep }

/-- A read in progress on the local bus is abandoned and its queued reads leave; write bursts go on (R468). -/
def State.abandonReads (s : State) (c : ChanId) : State :=
  let keep : List LbBurst := match s.lb with
    | [] => []
    | b :: rest => (if b.chan = c ∧ b.write = false then { b with abandoned := true, beatless := future b.since s.coreEdge } else b) :: rest.filter fun b => b.chan != c || b.write
  { s with lb := keep }

/-- A write burst that waits for its retry. -/
def Chan.stuck (n : Chan) (w : WriteReq) : Bool := n.retries.any fun r => r.waiting && r.what == 1 && r.addr == w.addr

/-- Write bursts that a channel may no longer issue leave it: those held, those turned back, and one that waits for its retry; nothing that they held is written (R468, R474, R485). -/
def State.dropStuck (s : State) (c : ChanId) : State :=
  let n := s.chan c
  let gone (w : WriteReq) : Bool := w.stand != .out || n.stuck w
  match n.writes.find? gone with
  | none => s
  | some w =>
    s.updChan c fun n =>
      { n with
        writes := n.writes.filter fun x => !(gone x)
        xfer := if w.ord = n.setOrd then n.xfer.map fun x => { x with burst := none, written := w.before } else n.xfer }

/-! ### Completions of work (R276 to R292) -/

/-- A work completion: its status, count, tag, HEAD, result words and whether the channel vector follows. -/
structure WorkCpl where
  status : Byte
  covered : Nat
  tag : BitVec 16
  head : BitVec 16
  dw2 : Dword
  dw3 : Dword
  vector : Bool
  deriving DecidableEq, Repr

/-- A completion due from a channel is posted; on a faulted CQ it is discarded and the channel halts (R292). -/
def State.postWork (s : State) (c : ChanId) (w : WorkCpl) : State :=
  let t := s.tenantOf c
  let q := s.cqIdOf c
  let cq := s.cq t q
  let s1 := if w.status = 0 then s
    else s.updChan c fun n => { n with lastStatus := w.status, lastTag := w.tag }
  if cq.state ≠ .active then s1.updChan c fun n => { n with cqCause := cq.cause, haltDue := true }
  else
    let d : DueCompletion :=
      { c := { status := w.status, sqId := ((s.chan c).sq.zeroExtend 8), covered := BitVec.ofNat 15 (min w.covered 0x7FFF),
               tag := w.tag, head := w.head, dw2 := w.dw2, dw3 := w.dw3 }
        sq := (s.chan c).sq
        chan := some c
        vector := if w.vector then some (s.chan c).vector else none
        result := [] }
    s1.postCq t q d

/-- Finished descriptors not yet covered are covered with status OK (R110, R278). -/
def State.coverOk (s : State) (c : ChanId) : State :=
  match (s.chan c).cover with
  | none => s
  | some v =>
    (s.updChan c fun n => { n with cover := none }).postWork c
      { status := 0, covered := v.count, tag := v.tag, head := v.head, dw2 := v.bytes, dw3 := v.user, vector := false }

/-! ### Stop commands (R459 to R463) -/

/-- The channel that a long command names, when it names one of the tenant it addresses. -/
def State.longChan (s : State) (l : LongCmd) : Option ChanId :=
  match l.ref.addressed with
  | some t => s.physical t (field (packetDw l.dw 1) 31 16)
  | none => none

/-- Long commands of an opcode in service on a channel, in the order in which they were taken. -/
def State.longOn (s : State) (c : ChanId) (opcodes : List Nat) : List LongCmd :=
  s.long.filter fun l => opcodes.contains (field (packetDw l.dw 0) 7 0) && s.longChan l == some c

/-- Report of a channel's state in DW2 (R244, R459). -/
def State.chanReport (s : State) (c : ChanId) : Dword :=
  (wrongState 1 (s.chan c).shown.code (s.slotOf (s.tenantOf c) c)).dw2

/-- The stop commands on a channel complete with OK: CHANNEL_DRAINs wait for the channel's held completions (R461). -/
def State.finishStops (s : State) (c : ChanId) : State :=
  s.forAll (s.longOn c [0x1C, 0x1D]) fun l s =>
    if field (packetDw l.dw 0) 7 0 = 0x1D ∧ s.owes c = true then s
    else s.finishLong l { dw2 := s.chanReport c } []

/-- A stop takes effect (R105, R116, R461, R462): the pending period start goes, a scene ends and keeps its curtain's offset, and the commands complete. -/
def State.takeStop (s : State) (c : ChanId) : State :=
  ((s.updChan c fun n =>
    { n with
      state := .stopped, stopPending := false, drainPending := false, periodPending := none, wait := none, fetch := none, retries := []
      atBoundary := n.actEn, lateEps := [], discardMark := n.discard.isSome, chain := n.chain.map fun h => { h with ahead := [] } }).noteChan 2 0x21 c (BitVec.ofNat 32 (s.chan c).mode.code)).finishStops c

/-- The channel halts: what it had read ahead is discarded, and pending stop commands complete (R275, R463, R468). -/
def State.enterHalted (s : State) (c : ChanId) : State :=
  let n := s.chan c
  let s1 := s.updChan c fun n =>
    { n with
      state := .halted, haltDue := false, stopPending := false, drainPending := false, periodPending := none,
      curtain := none, discard := none, discardMark := false, work := none, cover := none }
  let s2 := if n.mode = .queue then s1.updSq (s.tenantOf c) n.sq fun q => { q with entries := [] } else s1
  s2.finishStops c

/-! ### Failures (R468) -/

/-- A channel's work fails: no further burst or fetch, the slot freed; the proof and the report follow. -/
def State.failWork (s : State) (c : ChanId) (f : Failure) : State :=
  let s1 := (s.closeBurst c).dropStuck c
  let n := s1.chan c
  let bytes := match n.mode, n.xfer with
    | .shadow, _ => f.bytes
    | _, some x => min f.bytes x.written
    | _, none => f.bytes
  let total := if n.script.running then n.script.bytes.toNat + bytes else bytes
  let s2 := (s1.freeSlot c).abandonReads c
  s2.updChan c fun n =>
    { n with
      reads := [], fetch := none, walk := none, retries := [], wait := none, xfer := none,
      unproven := n.proving.filter (fun p => !(n.unproven.any fun q => q.1 == p.1)) ++ n.unproven, proving := [], proofOn := false,
      script := if n.script.running then { n.script with bytes := BitVec.ofNat 32 total } else n.script,
      after := some (.fail { f with bytes := total }) }

/-- Destination bytes that the present unit has written. -/
def Chan.unitBytes (n : Chan) : Nat := match n.xfer with | some x => x.written | none => 0

/-- A failure with no access of its own. -/
def State.failPlain (s : State) (c : ChanId) (status : Byte) (detail : Nat) : State :=
  s.failWork c { status := status, detail := BitVec.ofNat 32 detail, addr := none, bytes := (s.chan c).unitBytes }

/-- A burst or fetch that the map refuses (R188, R343). -/
def State.failCheck (s : State) (c : ChanId) (check : Nat) (a : Addr) (write fetch : Bool) : State :=
  s.failWork c { status := 0x18, detail := faultDetail check write fetch, addr := some a, bytes := (s.chan c).unitBytes }

/-- What a retry is for: a data read, a data write, a fetch, an arrival read-back. -/
def rRead : BitVec 2 := 0
def rWrite : BitVec 2 := 1
def rFetch : BitVec 2 := 2
def rProof : BitVec 2 := 3

/-- Retries counted for a burst. -/
def Chan.retried (n : Chan) (what : BitVec 2) (a : Addr) : Nat :=
  ((n.retries.find? fun r => r.what == what && r.addr == a).map fun r => r.count).getD 0

/-- A burst succeeded: its retries are forgotten. -/
def State.retryDone (s : State) (c : ChanId) (what : BitVec 2) (a : Addr) : State :=
  s.updChan c fun n => { n with retries := n.retries.filter fun r => !(r.what == what && r.addr == a) }

/-- A bus error of a channel's burst: another retry, or the failure when the retries are spent (R471, R472, R480). -/
def State.busFail (s : State) (c : ChanId) (what : BitVec 2) (a : Addr) (bytes : Nat) (cause : BusCause) : State :=
  let n := s.chan c
  let k := n.retried what a
  if k < n.retryLimit.toNat then
    let r : Retry :=
      { count := k + 1, time := s.now + BitVec.ofNat 64 (backoff (k + 1)), waiting := true, cause := cause, what := what, addr := a }
    s.updChan c fun n => { n with retries := r :: n.retries.filter fun r => !(r.what == what && r.addr == a) }
  else
    let status : Byte := if what = rRead then 0x10 else if what = rFetch then 0x12 else 0x11
    let d := accessDetail (causeCode cause) (tagOf a) (what == rWrite) (what == rFetch) (what == rProof) false k
    s.failWork c { status := status, detail := d, addr := some a, bytes := bytes }

/-- Uncorrectable or poisoned data: the failure at once (R343, R471, R479). -/
def State.failData (s : State) (c : ChanId) (what : BitVec 2) (a : Addr) (bytes cause : Nat) : State :=
  let d := accessDetail cause (tagOf a) (what == rWrite) (what == rFetch) (what == rProof) false ((s.chan c).retried what a)
  s.failWork c { status := 0x13, detail := d, addr := some a, bytes := bytes }

/-! ### Fetches (R330, R342, R343, R357) -/

/-- Bytes of a fetch. -/
def FetchFor.size : FetchFor → Nat
  | .chain => 64
  | .block => 256
  | _ => 16

/-- A fetch is sent out, or meets a port that sends nothing (R44). -/
def State.sendFetch (s : State) (c : ChanId) (a : Addr) (k : FetchFor) : State :=
  match hostOf a with
  | some p => if (s.port p).usable then s.sendHostFetch p a k.size else s.busFail c rFetch a (s.chan c).unitBytes .linkDown
  | none => if isInternal a then s else s.emit (.lbFetch a k.size)

/-- A channel needs a fetch: it is judged, and fails at once where the map refuses it (R343). -/
def State.requestFetch (s : State) (c : ChanId) (a : Addr) (k : FetchFor) : State :=
  let s1 := if k = .chain then s.updChan c fun n => { n with chain := n.chain.map fun h => { h with running := a } } else s
  match if 4 < tagOf a then some 1 else s1.checkAccess (s1.tenantOf c) a k.size false with
  | some e => s1.failCheck c e a false true
  | none => (s1.updChan c fun n => { n with fetch := some (a, k) }).sendFetch c a k

/-! ### Late scenes at streams (R114, R115) -/

/-- Period start `k` of an act (R91). -/
def State.periodAt (s : State) (a : ActId) (k : Nat) : Tick :=
  let b := 0x0400 + 0x40 * a.toNat
  s.devReg b + (s.devReg (b + 0x10) &&& 0xFFFFFFFFFFFF) + BitVec.ofNat 64 (k * (s.devReg (b + 0x08)).toNat / 2 ^ 16)

/-- First period start of an act after a given period start. -/
def State.periodAfter (s : State) (a : ActId) (p : Tick) : Tick :=
  let q := (s.devReg (0x0408 + 0x40 * a.toNat)).toNat
  let d := (p - s.periodAt a 0).toNat
  s.periodAt a (if q = 0 then 0 else (d * 2 ^ 16 + q - 1) / q + 1)

/-- A TX endpoint of a late scene: the deficit of its period (R114, R729). -/
def State.lateTx (s : State) (e : EpId) : State :=
  let bytes := field (s.epSilence e) 63 40
  if field (s.epCfg e) 3 2 ≠ 0 ∧ bitAt (s.epCfg e) 1 ∧ bytes ≠ 0 then
    ((s.updEp e fun p => { p with deficit := p.deficit + (bytes - p.appended) }).placeDeficit e).judgeFill e
  else s

/-- An RX endpoint of a late scene: bytes stamped before the next period start are discarded (R115). -/
def State.lateRx (s : State) (e : EpId) (t : Tick) : State :=
  if field (s.epCfg e) 3 2 ≠ 0 ∧ !(bitAt (s.epCfg e) 1) then
    let old := (s.eps.look e).fifo.takeWhile fun b => future t b.stamp
    let s1 := s.epTake e old.length
    s1.updEp e fun p => { p with cut := if p.fifo.isEmpty then some t else none }
  else s

/-- The stream endpoints among the fragments that a side has read. -/
def fragStreams (ind : Option FragStream) (dst : Bool) : List (Bool × EpId) :=
  match ind with
  | none => []
  | some t => (t.frags.filter fun f => tagOf f.addr == 5).map fun f => (dst, epOf f.addr)

/-- The stream endpoints that a unit names: destination flag and endpoint. -/
def Xfer.endpoints (x : Xfer) : List (Bool × EpId) :=
  (if x.dstStream then [(true, epOf x.dst)] else []) ++ (if x.srcStream then [(false, epOf x.src)] else []) ++
    fragStreams x.dstInd true ++ fragStreams x.srcInd false

/-- Endpoints named by a late scene are treated, each once (R114, R115). -/
def State.lateStreams (s : State) (c : ChanId) (l : List (Bool × EpId)) : State :=
  let n := s.chan c
  let fresh := l.filter fun e => !(n.lateEps.contains e)
  let s1 := s.updChan c fun n => { n with lateEps := n.lateEps ++ fresh }
  s1.forAll fresh fun e s => if e.1 then s.lateTx e.2 else s.lateRx e.2 (s.periodAfter n.actSel n.sceneStart)

end Sys2Proof.Machine
end

