-- ==== Sys2Proof/Machine/General.lean ====
section
/-! DEFINITION. General commands: IDENTIFY, GET_STATE, SET_FEATURE, GET_FEATURE and ECHO (R821 to R824). -/

namespace Sys2Proof.Machine

/-- The degraded flag of DEV_STATE (R240, R586). -/
def State.degraded (s : State) : Bool := s.health.present != 0

/-- Patch slots that run in this boot (R821). -/
def State.runningSet (s : State) : BitVec 16 := if s.boot.romOnly then 0 else s.boot.activeSet

/-- VERSION of the patch running from a slot; 0 otherwise (R821). -/
def State.patchVersion (s : State) (n : Nat) : Dword :=
  if bitAt s.runningSet n then (s.boot.patches.look (BitVec.ofNat 4 n)).version else 0

/-- The 128-byte identity record (R821). -/
def State.identity (s : State) (c : Cmd) : List Byte :=
  dwordBytes
    ([BitVec.ofNat 32 (1 + 65536 * Config.siliconRev.toNat), Config.romVersion, lo32 Config.serial, hi32 Config.serial,
      BitVec.ofNat 32 (s.runningSet.toNat + 65536 * flag s.boot.romOnly),
      BitVec.ofNat 32 (c.issuer.toNat + 16 * flag (c.fromSm s) + 32 * flag c.isHouse), 0, 0] ++
      (List.range 16).map s.patchVersion ++ List.replicate 8 0)

/-- The packet of IDENTIFY (R821). -/
def specIdentify : CmdSpec :=
  { opcode := 0x01, used := [(2, 0xFFFFFFFF), (3, 0xFFFFFFFF)] }

/-- What IDENTIFY judges (R821). -/
def checksIdentify : Cmd → State → Checks :=
  fun c _ => { served := .always, ranges := [(8, c.badResultAddr)] }

/-- The effect of IDENTIFY once it has passed its checks (R821). -/
def runIdentify : Cmd → State → State :=
  fun c s => let r := s.identity c; s.respond c r (firstWords r)

/-- IDENTIFY (R821). -/
def execIdentify (p : Packet) (s : State) : Result :=
  serve specIdentify checksIdentify runIdentify p s

/-- DW2 of a GET_STATE completion (R822). -/
def State.stateWord (s : State) : Dword :=
  BitVec.ofNat 32 (s.devState.code + 16 * flag s.degraded + 32 * s.power.state.code + 256 * flag s.tb.timeValid +
    512 * flag s.tb.fineValid + 1024 * flag s.prot.held.isSome)

/-- The packet of GET_STATE (R822). -/
def specGetState : CmdSpec :=
  { opcode := 0x02 }

/-- What GET_STATE judges (R822). -/
def checksGetState : Cmd → State → Checks :=
  fun _ _ => { served := .always }

/-- The effect of GET_STATE once it has passed its checks (R822). -/
def runGetState : Cmd → State → State :=
  fun c s => s.answer c { dw2 := s.stateWord, dw3 := s.prot.epoch }

/-- GET_STATE (R822). -/
def execGetState (p : Packet) (s : State) : Result :=
  serve specGetState checksGetState runGetState p s

/-- Work SQs that a tenant holds. -/
def Tenant.sqsHeld (n : Tenant) : Nat := ((indices 7 65).filter fun q => q != 0 && (n.sqs.look q).state != .absent).length

/-- Work CQs that a tenant holds. -/
def Tenant.cqsHeld (n : Tenant) : Nat := ((indices 6 33).filter fun q => q != 0 && (n.cqs.look q).state != .absent).length

/-- Allocated cues in a tenant's range. -/
def State.cuesAllocated (s : State) (t : TenantId) : Nat :=
  ((indices 10 1024).filter fun q => (s.record t).holdsCue q.toNat && (s.cues.look q).allocated).length

/-- Props that a tenant holds. -/
def State.propsHeld (s : State) (t : TenantId) : Nat := (s.props.held.filter fun h => h.tenant == t).length

/-- The two words of a feature; none for an unassigned code (R823). -/
def State.feature (s : State) (t : TenantId) (code : Nat) : Option (Dword × Dword) :=
  let n := s.tenants.look t
  let r := s.record t
  if code = 0x01 then some (n.label, 0)
  else if code = 0x02 then some (BitVec.ofNat 32 (flag n.failTrace), 0)
  else if code = 0x10 then
    some (BitVec.ofNat 32 (n.sqsHeld + 65536 * n.cqsHeld), BitVec.ofNat 32 (s.cuesAllocated t + 65536 * s.propsHeld t))
  else if code = 0x11 then
    some (BitVec.ofNat 32 (r.sqQuota.toNat + 65536 * r.cqQuota.toNat), BitVec.ofNat 32 (r.cueCount.toNat + 65536 * r.propQuota.toNat))
  else if code = 0x20 then some (s.prot.map.csWindow, 0)
  else none

/-- The command names a device feature. -/
def Cmd.deviceFeature (c : Cmd) : Bool := decide (c.f 2 7 0 = 0x20)

/-- Fields of a feature command that are out of range: the code, and FOREIGN with a device feature (R823). -/
def featureRanges (c : Cmd) (known : Bool) : List (Nat × Bool) := [(8, !known), (1, c.deviceFeature && c.foreign)]

/-- The packet of SET_FEATURE (R823). -/
def specSetFeature : CmdSpec :=
  { opcode := 0x03, used := [(2, 0xFF), (3, 0xFFFFFFFF)] }

/-- What SET_FEATURE judges (R227, R823). -/
def checksSetFeature : Cmd → State → Checks :=
  fun c _ =>
      let code := c.f 2 7 0
      { served := .general
        ofTenant := code == 1 || code == 2
        ranges := featureRanges c (code == 1 || code == 2) ++ [(12, code == 2 && decide (1 < (c.dw 3).toNat))] }

/-- The effect of SET_FEATURE once it has passed its checks (R823). -/
def runSetFeature : Cmd → State → State :=
  fun c s =>
      let old := ((s.feature c.target (c.f 2 7 0)).map fun v => v.1).getD 0
      let set (n : Tenant) : Tenant :=
        if c.f 2 7 0 = 1 then { n with label := c.dw 3 } else { n with failTrace := bitAt (c.dw 3) 0 }
      (s.updTenant c.target set).answer c { dw2 := old }

/-- SET_FEATURE (R823). -/
def execSetFeature (p : Packet) (s : State) : Result :=
  serve specSetFeature checksSetFeature runSetFeature p s

/-- The packet of GET_FEATURE (R823). -/
def specGetFeature : CmdSpec :=
  { opcode := 0x04, used := [(2, 0xFF)] }

/-- What GET_FEATURE judges (R227, R823). -/
def checksGetFeature : Cmd → State → Checks :=
  fun c s =>
    let known := (s.feature c.target (c.f 2 7 0)).isSome
    { served := .always, ofTenant := known && !c.deviceFeature, ranges := featureRanges c known }

/-- The effect of GET_FEATURE once it has passed its checks (R823). -/
def runGetFeature : Cmd → State → State :=
  fun c s => let v := (s.feature c.target (c.f 2 7 0)).getD (0, 0); s.answer c { dw2 := v.1, dw3 := v.2 }

/-- GET_FEATURE (R823). -/
def execGetFeature (p : Packet) (s : State) : Result :=
  serve specGetFeature checksGetFeature runGetFeature p s

/-- The packet of ECHO (R824). -/
def specEcho : CmdSpec :=
  { opcode := 0x7F, used := [(2, 0xFFFFFFFF), (3, 0xFFFFFFFF)] }

/-- What ECHO judges (R824). -/
def checksEcho : Cmd → State → Checks :=
  fun _ _ => { served := .always }

/-- The effect of ECHO once it has passed its checks (R824). -/
def runEcho : Cmd → State → State :=
  fun c s => s.answer c { dw2 := c.dw 2, dw3 := c.dw 3 }

/-- ECHO (R824). -/
def execEcho (p : Packet) (s : State) : Result :=
  serve specEcho checksEcho runEcho p s

end Sys2Proof.Machine
end

