-- ==== Sys2Proof/Machine/Queues.lean ====
section
/-! DEFINITION. Queue commands: CREATE_CQ, CREATE_SQ, DELETE_SQ and DELETE_CQ (R826 to R828, R295 to R298). -/

namespace Sys2Proof.Machine

/-- A ring base keeps R257: its tag and alignment, and one window of the tenant that holds the whole ring with the right. -/
def TenantRecord.ringOk (r : TenantRecord) (base : Addr) (bytes : Nat) (write : Bool) : Bool :=
  r.enabled && decide (tagOf base < 4) && decide (offOf base % 4096 = 0) &&
    r.windowList.any fun w => w.covers (tagOf base) (offOf base) && w.grants write && decide (offOf base + bytes ≤ w.last.toNat + 1)

/-- SIZE_LOG2 of DW4 is out of range: 4 to 12 (R256). -/
def Cmd.badSize (c : Cmd) : Bool := decide (c.f 4 3 0 < 4) || decide (12 < c.f 4 3 0)

/-- The packet of CREATE_CQ (R826, R293, R295). -/
def specCreateCq : CmdSpec :=
  { opcode := 0x12, object := true, used := [(2, 0xFFFFFFFF), (3, 0xFFFFFFFF), (4, 0xFF0F)], tenantObjects := true }

/-- What CREATE_CQ judges (R826, R293, R295). -/
def checksCreateCq : Cmd → State → Checks :=
  fun c s =>
      let q := s.cq c.target (BitVec.ofNat 7 c.object)
      let r := c.record s
      { ranges := [(6, decide (c.object = 0) || decide (32 < c.object)), (16, c.badSize)]
        denied := !(r.ringOk (c.q 2) (16 * 2 ^ c.f 4 3 0) true) || decide (r.vecCount.toNat ≤ c.f 4 15 8)
        state := refuseIf (q.state == .active) (wrongState 2 1 c.object)
        resource := refuseIf (q.state == .absent && decide (r.cqQuota.toNat ≤ (s.tenants.look c.target).cqsHeld)) { status := 0x0B } }

/-- The effect of CREATE_CQ once it has passed its checks (R826, R293, R295). -/
def runCreateCq : Cmd → State → State :=
  fun c s =>
      let q : CompQueue :=
        { state := .active, base := c.q 2, log2 := BitVec.ofNat 4 (c.f 4 3 0), phase := true, vector := BitVec.ofNat 8 (c.f 4 15 8) }
      (s.updCq c.target (BitVec.ofNat 7 c.object) fun _ => q).answer c {}

/-- CREATE_CQ (R826, R293, R295). -/
def execCreateCq (p : Packet) (s : State) : Result :=
  serve specCreateCq checksCreateCq runCreateCq p s

/-- The state that refuses CREATE_SQ: an SQ that exists, or a CQ that is absent or faulted; the lower number first (R244, R827). -/
def createSqState (c : Cmd) (s : State) : Option Reply :=
  let sq := s.sq c.target (BitVec.ofNat 7 c.object)
  let n := c.f 4 13 8
  let cq := s.cq c.target (BitVec.ofNat 7 n)
  let a := refuseIf (sq.state != .absent) (wrongState 2 sq.state.code c.object)
  let b := refuseIf (cq.state != .active) (wrongState 2 cq.state.code n)
  if c.object ≤ n then a <|> b else b <|> a

/-- The packet of CREATE_SQ (R827, R296). -/
def specCreateSq : CmdSpec :=
  { opcode := 0x10, object := true, used := [(2, 0xFFFFFFFF), (3, 0xFFFFFFFF), (4, 0x33F0F)], tenantObjects := true }

/-- What CREATE_SQ judges (R827, R296). -/
def checksCreateSq : Cmd → State → Checks :=
  fun c s =>
      let r := c.record s
      { ranges := [(6, decide (c.object = 0) || decide (64 < c.object)), (16, c.badSize),
          (17, decide (c.f 4 13 8 = 0) || decide (32 < c.f 4 13 8))]
        denied := !(r.ringOk (c.q 2) (64 * 2 ^ c.f 4 3 0) false)
        state := createSqState c s
        resource := refuseIf (decide (r.sqQuota.toNat ≤ (s.tenants.look c.target).sqsHeld)) { status := 0x0B } }

/-- The effect of CREATE_SQ once it has passed its checks (R827, R296). -/
def runCreateSq : Cmd → State → State :=
  fun c s =>
      let q : SubQueue :=
        { state := .active, base := c.q 2, log2 := BitVec.ofNat 4 (c.f 4 3 0), phase := true,
          cq := BitVec.ofNat 6 (c.f 4 13 8), prefetch := BitVec.ofNat 3 (c.f 4 17 16) }
      (s.updSq c.target (BitVec.ofNat 7 c.object) fun _ => q).answer c {}

/-- CREATE_SQ (R827, R296). -/
def execCreateSq (p : Packet) (s : State) : Result :=
  serve specCreateSq checksCreateSq runCreateSq p s

/-- The packet of DELETE_SQ (R828, R297). -/
def specDeleteSq : CmdSpec :=
  { opcode := 0x11, object := true, tenantObjects := true }

/-- What DELETE_SQ judges (R828, R297). -/
def checksDeleteSq : Cmd → State → Checks :=
  fun c s =>
      let q := s.sq c.target (BitVec.ofNat 7 c.object)
      { ranges := [(6, decide (c.object = 0) || decide (64 < c.object))]
        state := match q.slot with
          | some ch => some (wrongState 1 (s.chan ch).shown.code (s.slotOf c.target ch))
          | none => refuseIf (q.state == .absent) (wrongState 2 0 c.object) }

/-- The effect of DELETE_SQ once it has passed its checks (R828, R297). -/
def runDeleteSq : Cmd → State → State :=
  fun c s => (s.updSq c.target (BitVec.ofNat 7 c.object) fun _ => {}).answer c {}

/-- DELETE_SQ (R828, R297). -/
def execDeleteSq (p : Packet) (s : State) : Result :=
  serve specDeleteSq checksDeleteSq runDeleteSq p s

/-- The lowest work SQ of a tenant that names a CQ. -/
def Tenant.namedBy (n : Tenant) (cq : Nat) : Option QueueId :=
  (indices 7 65).find? fun q => q != 0 && (n.sqs.look q).state != .absent && decide ((n.sqs.look q).cq.toNat = cq)

/-- The packet of DELETE_CQ (R828, R297). -/
def specDeleteCq : CmdSpec :=
  { opcode := 0x13, object := true, tenantObjects := true }

/-- What DELETE_CQ judges (R828, R297). -/
def checksDeleteCq : Cmd → State → Checks :=
  fun c s =>
      let n := s.tenants.look c.target
      { ranges := [(6, decide (c.object = 0) || decide (32 < c.object))]
        state := if (s.cq c.target (BitVec.ofNat 7 c.object)).state = .absent then some (wrongState 2 0 c.object)
          else (n.namedBy c.object).map fun q => wrongState 2 (n.sqs.look q).state.code q.toNat }

/-- Completion writes still on their way to a ring are accepted before it is deleted, and those not issued are dropped (R298; log entry 56). -/
def State.settleRing (s : State) (t : TenantId) (q : QueueId) : State :=
  let mine := s.cplWrites.filter fun w => w.tenant == t && w.cq == q
  let s1 : State := { s with cplWrites := s.cplWrites.filter fun w => !(w.tenant == t && w.cq == q) }
  s1.forAll (mine.filter fun w => w.sent) fun w s =>
    (if isInternal w.addr then (s.store w.addr w.bytes .clean srcQueue).1 else s).sendVectors t w.vectors

/-- The effect of DELETE_CQ once it has passed its checks (R828, R297, R298). -/
def runDeleteCq : Cmd → State → State :=
  fun c s =>
    let q : QueueId := BitVec.ofNat 7 c.object
    ((s.settleRing c.target q).updCq c.target q fun _ => {}).answer c {}

/-- DELETE_CQ (R828, R297). -/
def execDeleteCq (p : Packet) (s : State) : Result :=
  serve specDeleteCq checksDeleteCq runDeleteCq p s

end Sys2Proof.Machine
end

