-- ==== Sys2Proof/Machine/RegMap.lean ====
section
/-! DEFINITION. The register maps of the tenant page and of the device page: which places are assigned, how wide they are, and which bits software may change in which way (chapters 04, 26 and 27). -/

namespace Sys2Proof.Machine

/-- What the register references say of one 8-byte place of a normal view: its width, the assigned words where it is no 64-bit register, its bits by access code (R14), and its update group. -/
structure RegSpec where
  /-- One 64-bit register. -/
  wide : Bool := false
  lo : Bool := true
  hi : Bool := false
  /-- RW bits that take effect at once. -/
  imm : Word := 0
  /-- RW STG bits. -/
  stg : Word := 0
  /-- GUARD bits. -/
  guarded : Word := 0
  /-- WONCE bits. -/
  once : Word := 0
  w1c : Word := 0
  /-- WO bits whose write has an effect of its own. -/
  wo : Word := 0
  group : Option Nat := none
  /-- The place holds a register that accepts only 4-byte accesses (R963). -/
  only4 : Bool := false
  /-- Words that the House alone reaches (R904). -/
  houseLo : Bool := false
  houseHi : Bool := false
  deriving DecidableEq, Repr

/-- RW bits. -/
def RegSpec.rw (r : RegSpec) : Word := r.imm ||| r.stg ||| r.once

/-- The bits [hi:lo] of a register. -/
def bits (hi lo : Nat) : Word := maskBits 64 hi lo

/-- All 64 bits. -/
def allBits : Word := BitVec.allOnes 64

/-- A read-only 64-bit register. -/
def ro64 : RegSpec := { wide := true }
/-- A read-only 32-bit register in the low word. -/
def ro32 : RegSpec := {}
/-- Two read-only 32-bit registers. -/
def ro32x2 : RegSpec := { hi := true }
/-- A 64-bit register whose bits take effect at once. -/
def imm64 (m : Word) : RegSpec := { wide := true, imm := m }
/-- A staged 64-bit register of a group. -/
def stg64 (m : Word) (g : Nat) : RegSpec := { wide := true, stg := m, group := some g }

/-! ### The device page (R903) -/

/-- Bits of PIN_MUX (chapter 22). -/
def pinMuxBits : Word := bits 11 0 ||| bits 25 16 ||| bits 35 32

/-- Bits of CVL_RX_CFG, and of CVL_TX_CFG without its reserved ones (chapter 19). -/
def cvlRxBits : Word := bits 40 0 ||| bits 58 42
def cvlTxBits : Word := cvlRxBits &&& ~~~(bits 7 7 ||| bits 29 24)

/-- The first part of the device page: identity, control and protection. -/
def devSpecLow (p : Nat) : Option RegSpec :=
  match p with
  | 0x000 => some ro64
  | 0x008 => some ro32
  | 0x010 => some { stg := 1, group := some 0 }
  | 0x018 => some { w1c := bits 7 0 }
  | 0x020 => some { hi := true, w1c := bits 13 0, imm := bits 45 32, houseLo := true, houseHi := true }
  | 0x028 => some { wide := true, w1c := bits 11 8, wo := bits 13 12 }
  | 0x030 => some ro64
  | 0x040 => some { wo := bits 31 0, only4 := true }
  | 0x048 => some { wo := bits 31 0 }
  | 0x050 => some (imm64 allBits)
  | 0x058 => some ro64
  | 0x060 => some { wide := true, stg := bits 33 0, guarded := bits 33 0 }
  | 0x068 => some { hi := true, once := bits 4 0, wo := bits 63 32, guarded := bits 63 32, only4 := true, houseHi := true }
  | 0x070 => some ro64
  | 0x078 => some { hi := true, imm := bits 32 32, houseHi := true }
  | 0x080 => some { wide := true, stg := 3, guarded := 1, group := some 0 }
  | 0x088 => some { wide := true, stg := 3, guarded := 1, group := some 0 }
  | 0x090 => some (imm64 (bits 35 20))
  | 0x098 => some (imm64 (bits 35 20))
  | 0x0A0 => some ro64
  | 0x0A8 => some ro64
  | 0x0B0 => some ro32
  | 0x0C0 => some ro64
  | _ => none

/-- The time base (chapter 02). -/
def devSpecTime (p : Nat) : Option RegSpec :=
  if p = 0x100 then some { w1c := bits 9 8 }
  else if p = 0x108 then some ro64
  else if p = 0x110 then some ro32x2
  else if p = 0x118 ∨ p = 0x120 then some ro64
  else if p = 0x128 then some ro32
  else if p = 0x130 then some (imm64 (bits 0 0 ||| bits 35 4))
  else if p = 0x138 then some (imm64 allBits)
  else if 0x140 ≤ p ∧ p < 0x180 then some { wide := true, imm := bits 7 0 ||| bits 47 16, w1c := bits 8 8 }
  else if 0x180 ≤ p ∧ p < 0x1C0 then some (imm64 allBits)
  else if 0x1C0 ≤ p ∧ p < 0x1E0 then some { hi := true, imm := bits 2 0 ||| bits 34 32 }
  else if 0x1E0 ≤ p ∧ p < 0x200 then some ro32x2
  else if 0x200 ≤ p ∧ p < 0x240 then some ro64
  else none

/-- Acts and pins (chapters 03 and 22). -/
def devSpecActs (p : Nat) : Option RegSpec :=
  if 0x400 ≤ p ∧ p < 0x800 then
    (match p % 64 with
      | 0x00 => some (stg64 allBits 1)
      | 0x08 => some (stg64 allBits 1)
      | 0x10 => some (stg64 (bits 47 0) 1)
      | 0x18 => some (stg64 (bits 10 0) 1)
      | _ => some ro64)
  else if 0x800 ≤ p ∧ p < 0x980 then some (stg64 pinMuxBits 2)
  else if p = 0x980 then some ro64
  else if p = 0x988 then some (imm64 (bits 47 0))
  else if p = 0x990 then some ro64
  else if p = 0x998 then some { wide := true, w1c := bits 47 0 }
  else if p = 0x9A0 then some ro64
  else none

/-- Health, memory, power and trace. -/
def devSpecCare (p : Nat) : Option RegSpec :=
  match p with
  | 0xA00 => some ro64
  | 0xA08 => some ro32x2
  | 0xA10 => some { hi := true, w1c := bits 23 16, stg := bits 37 32 ||| bits 51 40, group := some 7 }
  | 0xA18 => some (stg64 allBits 7)
  | 0xA20 => some { wide := true, stg := bits 31 16, w1c := bits 33 33, group := some 7 }
  | 0xA40 => some ro32x2
  | 0xA48 => some ro32x2
  | 0xA50 => some ro32x2
  | 0xA58 => some ro32
  | 0xA60 => some ro32
  | 0xA68 => some ro64
  | 0xB00 => some { wide := true, w1c := bits 44 44 }
  | 0xB08 => some { hi := true, imm := bits 4 0, guarded := bits 4 0, houseLo := true }
  | 0xB10 => some
      { hi := true
        once := bits 4 0 ||| bits 19 8 ||| bits 28 24 ||| bits 36 32 ||| bits 51 40 ||| bits 60 56 }
  | 0xB18 => some ro32
  | 0xB20 => some (stg64 (bits 13 0 ||| bits 31 16) 4)
  | 0xB28 => some ro64
  | 0xB80 => some (stg64 (bits 3 0 ||| bits 63 8) 5)
  | 0xB88 => some { wide := true, w1c := bits 4 4 }
  | 0xBC0 => some (stg64 (bits 4 1 ||| bits 19 8 ||| bits 47 32) 6)
  | 0xBC8 => some ro64
  | 0xBD0 => some { wo := bits 31 0, only4 := true }
  | _ => none

/-- Endpoints, converter links, TDM ports and the local bus. -/
def devSpecPorts (p : Nat) : Option RegSpec :=
  if 0x1000 ≤ p ∧ p < 0x1200 then some (stg64 (bits 41 0) 3)
  else if 0x1200 ≤ p ∧ p < 0x1400 then some (stg64 (bits 33 0 ||| bits 63 36) 3)
  else if 0x1400 ≤ p ∧ p < 0x1600 then some ro64
  else if 0x1800 ≤ p ∧ p < 0x1820 then some (stg64 cvlRxBits 3)
  else if 0x1820 ≤ p ∧ p < 0x1840 then some (stg64 cvlTxBits 3)
  else if p = 0x1840 then some (stg64 (bits 5 0 ||| bits 24 8 ||| bits 41 32) 3)
  else if p = 0x1848 then some ro32
  else if p = 0x1850 then some { wide := true, imm := bits 7 0 ||| bits 47 16, w1c := bits 9 8 }
  else if p = 0x1858 ∨ p = 0x1860 then some (imm64 allBits)
  else if p = 0x1868 then some ro64
  else if p = 0x1870 then some ro32
  else if p = 0x1878 ∨ p = 0x1880 then some ro64
  else if p = 0x1888 then some ro32
  else if p = 0x1890 then some (imm64 (bits 5 0))
  else if p = 0x1898 then some ro64
  else if 0x18A0 ≤ p ∧ p < 0x18C0 then some { hi := true, w1c := bits 26 24 ||| bits 58 56 }
  else if 0x1C00 ≤ p ∧ p < 0x2000 then
    (let q := p % 0x100
     if q = 0x00 then some (stg64 (bits 47 0) 3)
     else if q = 0x08 then some (stg64 (bits 49 0) 3)
     else if q = 0x10 then some (stg64 allBits 3)
     else if q = 0x18 then some { w1c := bits 24 24 }
     else if 0x80 ≤ q then some (stg64 (bits 39 0) 3)
     else none)
  else if p = 0x2000 then some { stg := bits 4 0, group := some 3 }
  else if p = 0x2010 ∨ p = 0x2018 then some { hi := true, stg := bits 10 0 ||| bits 42 32, group := some 3 }
  else none

/-- The device page at a place of its normal view. -/
def devSpec (p : Nat) : Option RegSpec :=
  if p < 0x100 then devSpecLow p
  else if p < 0x400 then devSpecTime p
  else if p < 0xA00 then devSpecActs p
  else if p < 0x1000 then devSpecCare p
  else devSpecPorts p

/-! ### The tenant page (R884, R893) -/

/-- The control block of a tenant page. -/
def tenSpec (p : Nat) : Option RegSpec :=
  if 0x400 ≤ p ∧ p < 0x608 then some ro64
  else if 0x800 ≤ p ∧ p < 0x908 then some ro64
  else if 0xC10 ≤ p ∧ p < 0x1000 then
    some (stg64 (if p % 16 = 0 then bits 19 0 ||| bits 47 32 else allBits) 0)
  else match p with
    | 0x00 => some ro64
    | 0x08 => some ro64
    | 0x10 => some { imm := 1, stg := 2, guarded := 2, group := some 0 }
    | 0x18 => some { w1c := bits 5 0 ||| bits 25 16 }
    | 0x20 => some { imm := bits 5 0 ||| bits 25 16 }
    | 0x28 => some { wide := true, w1c := bits 11 8, wo := bits 13 12 }
    | 0x40 => some { wo := bits 31 0, only4 := true }
    | 0x48 => some { wo := bits 31 0 }
    | 0x50 => some (imm64 allBits)
    | 0x58 => some ro64
    | 0x60 => some { wide := true, stg := bits 33 0, guarded := bits 33 0 }
    | 0x68 => some ro64
    | 0x70 => some { only4 := true }
    | 0x78 => some { wo := bits 31 0, only4 := true }
    | 0x80 => some { wo := bits 31 0, only4 := true }
    | 0x88 => some { wide := true, w1c := bits 48 48 }
    | 0x90 => some ro64
    | 0x98 => some (imm64 (bits 47 0))
    | 0x100 => some (imm64 allBits)
    | 0x108 => some (imm64 allBits)
    | 0x110 => some { imm := bits 15 0 ||| bits 31 31 }
    | 0x200 => some ro64
    | 0x208 => some ro64
    | 0x210 => some ro64
    | _ => none

/-- The mode area of a slot, from +0x50 (R893, R894). -/
def modeSpec (m : ChanMode) (p : Nat) : Option RegSpec :=
  match m with
  | .shadow =>
    if p = 0x50 then some { wide := true, imm := 1, w1c := 2 }
    else if p = 0x58 ∨ p = 0x60 then some ro64
    else if 0x80 ≤ p ∧ p < 0xC0 then some ro64
    else if p = 0xD0 then some (imm64 (bits 27 0 ||| bits 63 32))
    else if p = 0xF0 then some (imm64 (bits 51 0))
    else if p = 0xF8 then some (imm64 (bits 31 0))
    else if 0xC0 ≤ p then some (imm64 allBits)
    else none
  | _ =>
    if p = 0x50 then some (if m = .script then { wide := true, stg := allBits } else ro64)
    else if p = 0x58 then some (if m = .script then { wide := true, stg := bits 43 0 } else ro64)
    else if p = 0x60 then some { wide := true, w1c := bits 26 24 }
    else if p = 0x68 then some ro32x2
    else if 0x80 ≤ p then some { wide := true, stg := allBits }
    else none

/-- A channel slot at a place of it (R893); its staged fields belong to the group that SLOT_GROUP names (R156). -/
def Chan.spec (n : Chan) (p : Nat) : Option RegSpec :=
  if p < 0x50 then
    match p with
    | 0x00 => some { wide := true, w1c := bits 28 28 }
    | 0x20 => some { hi := true, imm := bits 27 24 }
    | 0x28 => some { wide := true, stg := bits 47 0 }
    | 0x30 => some { wide := true, stg := bits 47 0 }
    | 0x38 => some { wide := true, stg := bits 47 0 }
    | 0x40 => some { hi := true, stg := 3 }
    | _ => some ro64
  else if n.state = .unbound then none
  else modeSpec n.mode p

/-- Update group of a slot's staged fields. -/
def Chan.group (n : Chan) : Nat := field (n.reg 0x20) 27 24

/-! ### Where a place lies -/

/-- The home of the place at an offset of a page's normal view, where it is assigned. -/
def State.home (s : State) (page : Page) (base : Nat) : Option Home :=
  let p := base / 8 * 8
  match page with
  | .device => if p < 0x4000 then some (.dev p) else none
  | .tenant t =>
    if p < 0x1000 then some (.ten t p)
    else if 0x2000 ≤ p ∧ p < 0x8000 then
      (s.physical t ((p - 0x2000) / 0x100)).map fun c => .chan t c (p % 0x100)
    else none

/-- The assignment of a home. -/
def State.specAt (s : State) : Home → Option RegSpec
  | .dev p => devSpec p
  | .ten _ p => tenSpec p
  | .chan _ c p => (s.chan c).spec p

/-- The doorbell at a word of a tenant page, and its queue (R265). -/
def doorbellAt (base : Nat) : Option (Bool × QueueId) :=
  if 0x1000 ≤ base ∧ base < 0x1208 ∧ base % 8 = 0 then some (false, BitVec.ofNat 7 ((base - 0x1000) / 8))
  else if 0x1400 ≤ base ∧ base < 0x1508 ∧ base % 8 = 0 then some (true, BitVec.ofNat 7 ((base - 0x1400) / 8))
  else none

/-- Both copies of the register at a home. -/
def State.staged (s : State) : Home → Staged
  | .dev p => s.dev.regs.look (BitVec.ofNat 11 (p / 8))
  | .ten t p => (s.tenants.look t).regs.look (BitVec.ofNat 9 (p / 8))
  | .chan _ c p => (s.chan c).regs.look (BitVec.ofNat 5 (p / 8))

/-- The state with the register at a home changed. -/
def State.updStaged (s : State) (h : Home) (f : Staged → Staged) : State :=
  match h with
  | .dev p => { s with dev := { s.dev with regs := s.dev.regs.upd (BitVec.ofNat 11 (p / 8)) f } }
  | .ten t p => s.updTenant t fun n => { n with regs := n.regs.upd (BitVec.ofNat 9 (p / 8)) f }
  | .chan _ c p => s.updChan c fun n => { n with regs := n.regs.upd (BitVec.ofNat 5 (p / 8)) f }

/-- What a page holds beside its registers. -/
def State.ctl (s : State) : Page → PageCtl
  | .device => s.dev.ctl
  | .tenant t => (s.tenants.look t).ctl

/-- The state with it changed. -/
def State.updCtl (s : State) (page : Page) (f : PageCtl → PageCtl) : State :=
  match page with
  | .device => { s with dev := { s.dev with ctl := f s.dev.ctl } }
  | .tenant t => s.updTenant t fun n => { n with ctl := f n.ctl }

/-- What a port has open or held on a page. -/
def PageCtl.view (c : PageCtl) : Via → PortView
  | .hp0 => c.hp0
  | .hp1 => c.hp1
  | .house => c.house

/-- The page with a port's view of it changed. -/
def PageCtl.updView (c : PageCtl) (via : Via) (f : PortView → PortView) : PageCtl :=
  match via with
  | .hp0 => { c with hp0 := f c.hp0 }
  | .hp1 => { c with hp1 := f c.hp1 }
  | .house => { c with house := f c.house }

/-- The page with the views of every port forgotten (R206, R207, R613). -/
def PageCtl.forget (c : PageCtl) : PageCtl := { c with hp0 := {}, hp1 := {}, house := {} }

/-- Offset of an access in its page's normal view. -/
def baseOf (off : BitVec 18) : Nat := off.toNat % 0x10000

end Sys2Proof.Machine
end

