-- ==== Sys2Proof/Machine/Work.lean ====
section
/-! DEFINITION. What channels do of themselves between two events: cues and their waiters, props, the beginning and the end of units, proofs and what follows them, and fetches (chapters 08 to 12). -/

namespace Sys2Proof.Machine

/-! ### Cues (R374 to R381) -/

/-- A channel waits for a cue: its count and whether it keeps it. -/
def Chan.cueWait (n : Chan) (q : CueId) : Option (BitVec 16 × Bool) :=
  match n.wait with
  | some w => (match w.kind with
    | .cue p k keep _ => if p = q then some (k, keep) else none
    | .pace p => if p = q then some (1, false) else none
    | _ => none)
  | none => none

/-- The order of two waits: the edge at which each began, then the channel number at one edge (R376). -/
def waitBefore (s : State) (a b : ChanId) : Bool :=
  match (s.chan a).wait, (s.chan b).wait with
  | some x, some y => if x.start = y.start then decide (a.toNat < b.toNat) else decide (x.order < y.order)
  | _, _ => false

/-- A channel put in its place in a list of waiters. -/
def insertWait (s : State) (c : ChanId) : List ChanId → List ChanId
  | [] => [c]
  | d :: l => if waitBefore s c d then c :: d :: l else d :: insertWait s c l

/-- The waiters of a cue in the order in which they are considered (R376). -/
def State.waitersOf (s : State) (q : CueId) : List ChanId :=
  ((allChans.filter fun c => ((s.chan c).cueWait q).isSome)).foldl (fun l c => insertWait s c l) []

/-- The state with one cue changed. -/
def State.updCue (s : State) (q : CueId) (f : Cue → Cue) : State := { s with cues := s.cues.upd q f }

/-- Signals of the present edge that wait at a cue (R846). -/
def State.signalsNow (s : State) (q : CueId) : Nat := ((s.edgeSignals.find? fun x => x.1 == q).map fun x => x.2).getD 0

/-- The signals of the present edge at a cue become a number. -/
def State.putSignals (s : State) (q : CueId) (n : Nat) : State :=
  { s with edgeSignals := (q, n) :: s.edgeSignals.filter fun x => x.1 != q }

/-- A waiter consumes a count of a cue, that of signals of the present edge first. -/
def State.consumeCue (s : State) (q : CueId) (k : BitVec 16) : State :=
  (s.putSignals q (s.signalsNow q - k.toNat)).updCue q fun x => { x with count := x.count - k }

/-- A count is added to a cue, which stops at 0xFFFF (R381); the waiters are then considered. -/
def State.addCue (s : State) (q : CueId) (n : Nat) : State × List ChanId :=
  let s1 := (s.putSignals q (s.signalsNow q + n)).updCue q fun x => { x with count := satAdd x.count n }
  (s1, s1.waitersOf q)

/-- A count added to a cue would exceed 0xFFFF. -/
def State.cueSaturates (s : State) (q : CueId) (n : Nat) : Bool := decide (0xFFFF < (s.cues.look q).count.toNat + n)

/-! ### Props (R448 to R451) -/

/-- Offset of a prop in Wing SRAM (R449). -/
def State.propOffset (s : State) (i : Nat) : Nat := s.props.basePage.toNat * 4096 + i * 2 ^ s.props.sizeLog2.toNat

/-- The lowest-numbered free prop. -/
def State.freeProp (s : State) : Option Nat :=
  (List.range s.props.count.toNat).find? fun i => !(s.props.held.any fun h => h.index.toNat == i)

/-- Props that a tenant may still take. -/
def State.propsLeft (s : State) (t : TenantId) : Bool :=
  decide ((s.props.held.filter fun h => h.tenant == t).length < (s.record t).propQuota.toNat)

/-- A prop for a tenant, taken by a requester: its index where one is granted (R450). -/
def State.grantProp (s : State) (t : TenantId) (taker : Nat) : State × Option Nat :=
  match s.propsLeft t, s.freeProp with
  | true, some i =>
    ({ s with props := { s.props with held := { index := BitVec.ofNat 16 i, tenant := t, taker := taker } :: s.props.held } }, some i)
  | _, _ => (s, none)

/-- Distance of a requester from a place of the arbiter's pointer (R450). -/
def takerAfter (first taker : Nat) : Nat := (taker + 98 - first % 98) % 98

/-- Requests in round-robin order from a place (R450, R453). -/
def insertTaker (first : Nat) (r : TenantId × Nat) : List (TenantId × Nat) → List (TenantId × Nat)
  | [] => [r]
  | x :: l => if takerAfter first r.2 < takerAfter first x.2 then r :: x :: l else x :: insertTaker first r l

/-- The arbiter at an edge: on a new edge, its round begins at its pointer (R450). -/
def PropRoom.atEdge (p : PropRoom) (edge : Tick) : PropRoom :=
  if p.edge = edge then p else { p with edge := edge, first := p.pointer, reach := none }

/-- What a requester is granted when the requests of its edge are taken in round-robin order (R450 step 3). -/
def State.propFor (s : State) (t : TenantId) (taker : Nat) (others : List (TenantId × Nat)) : Option Nat :=
  let order := others.foldl (fun l r => insertTaker s.props.first r l) [(t, taker)]
  let before := order.takeWhile fun r => r.2 != taker
  ((before.foldl (fun (st : State) r => (st.grantProp r.1 r.2).1) s).grantProp t taker).2

/-- One request to the arbiter, with the other requests of the same edge that still wait for their rows: a grant moves the pointer past the last requester granted (R450, R453). -/
def State.askProp (s : State) (t : TenantId) (taker : Nat) (others : List (TenantId × Nat)) : State × Option Nat :=
  let s1 : State := { s with props := s.props.atEdge s.coreEdge }
  match s1.propFor t taker others with
  | none => (s1, none)
  | some i =>
    let p := s1.props
    let held : HeldProp := { index := BitVec.ofNat 16 i, tenant := t, taker := taker }
    let far := takerAfter p.first taker
    if (p.reach.map fun d => decide (far < d)) = some true then ({ s1 with props := { p with held := held :: p.held } }, some i)
    else ({ s1 with props := { p with held := held :: p.held, pointer := (taker + 1) % 98, reach := some far } }, some i)

/-- Channels of a tenant in a blocking TAKE, oldest wait first (R450). -/
def State.propWaiters (s : State) (t : TenantId) : List ChanId :=
  (allChans.filter fun c =>
    s.chanTenant c == some t && (match (s.chan c).wait with | some w => (match w.kind with | .prop _ _ => true | _ => false) | none => false)).foldl
      (fun l c => insertWait s c l) []

/-- A prop is freed; the tenant's blocked TAKEs are then considered. -/
def State.freePropAt (s : State) (t : TenantId) (i : Nat) : State × List ChanId :=
  let s1 : State := { s with props := { s.props with held := s.props.held.filter fun h => !(h.tenant == t && h.index.toNat == i) } }
  (s1, s1.propWaiters t)

/-! ### Pacing (R440 to R447) -/

/-- A wait of a channel begins now. -/
def State.beginWait (s : State) (c : ChanId) (k : WaitKind) (timeout : Nat) : State :=
  let w : Wait :=
    { kind := k, start := s.coreEdge, order := s.order,
      expiry := if timeout = 0 then none else some (s.coreEdge + BitVec.ofNat 64 (256 * timeout)) }
  { s.updChan c fun n => { n with wait := some w } with order := s.order + 1 }

/-- Whole elements in `bytes` of a side whose inner loop occupies `row` bytes. -/
def elementsIn (x : Xfer) (row bytes : Nat) : Nat :=
  if row = 0 then x.total else bytes / row * x.inner + bytes % row * x.inner / row

/-- Elements of a unit that its pacing source has released, those moved included (R440). What has left a stream endpoint was
released, and stays so when the fill request clears (R442, DEDUCED). -/
def Chan.releasedBy (n : Chan) (x : Xfer) : Nat :=
  match n.paceSrc.toNat with
  | 0 => x.total
  | 1 => if n.fillReq then x.total else if x.srcEp.isSome then max x.moved (elementsIn x x.rowSrc x.asked) else x.moved
  | 5 => if n.timeOpen then x.total else x.moved
  | _ => min x.total (x.moved + n.released)

/-- Elements released that can also complete at their stream endpoints (R441). A side whose burst the map refuses is not held back. -/
def State.releasedUpTo (s : State) (c : ChanId) (x : Xfer) : Nat :=
  let n := s.chan c
  let t := s.tenantOf c
  let k := if x.stamp then x.total else n.releasedBy x
  let src := match x.srcEp with
    | some (e, _) =>
      if (s.checkAccess t (streamAddr x.srcInd x.src e) 1 false).isNone then elementsIn x x.rowSrc (x.asked + (s.eps.look e).landed) else x.total
    | none => x.total
  let dst := match x.dstEp with
    | some (e, _) =>
      if (s.checkAccess t (streamAddr x.dstInd x.dst e) 1 true).isNone then elementsIn x x.rowDst (x.written + s.epSpace e) else x.total
    | none => x.total
  min k (min src dst)

/-- The pacing of a unit that begins: banked credits release elements, a TIME hold ends where its instant is not in the future (R83, R440, R446). -/
def State.paceUnit (s : State) (c : ChanId) (x : Xfer) : State :=
  let n := s.chan c
  match n.paceSrc.toNat with
  | 3 =>
    let k := min n.rateBank.toNat (x.total - min n.released x.total)
    s.updChan c fun n => { n with released := n.released + k, rateBank := n.rateBank - BitVec.ofNat 8 k }
  | 5 =>
    let i := if n.actEn then n.sceneStart + n.paceTime else n.paceTime
    if n.timeOpen || future i s.now then s else s.updChan c fun n => { n with timeOpen := true }
  | _ => s

/-- A unit begins. -/
def State.startUnit (s : State) (c : ChanId) (x : Xfer) : State := (s.updChan c fun n => { n with xfer := some x }).paceUnit c x

/-! ### Scripts (R351 to R397) -/

/-- Tagged address of the instruction at PC. -/
def Script.addr (p : Script) : Addr := p.base + BitVec.ofNat 64 (16 * p.pc.toNat)

/-- The aligned block that holds an address (R358). -/
def blockOf (a : Addr) : Addr := a &&& ~~~(0xFF : Word)

/-- The instruction at PC, when its block is held. -/
def Script.held (p : Script) : Option Insn :=
  (p.blocks.find? fun b => b.1 == blockOf p.addr).map fun b => insnOf ((b.2.drop (p.addr.toNat % 256)).take 16)

/-- The state with the script registers of a channel changed. -/
def State.updScript (s : State) (c : ChanId) (f : Script → Script) : State := s.updChan c fun n => { n with script := f n.script }

/-- PC goes to an instruction; blocks that are neither its own nor the one after it are dropped (R358). -/
def Script.goto (p : Script) (i : Nat) : Script :=
  let q := { p with pc := BitVec.ofNat 12 i }
  let b := blockOf q.addr
  { q with blocks := q.blocks.filter fun x => x.1 == b || x.1 == b + 256 }

/-- Control passes to the instruction after PC; beyond 4095 the script fails (R360). -/
def State.nextPc (s : State) (c : ChanId) : State :=
  let p := (s.chan c).script
  if p.pc = 4095 then s.failPlain c 0x09 0 else s.updScript c fun p => p.goto (p.pc.toNat + 1)

/-- A fail target is taken (R375, R378, R383, R384). -/
def State.failTarget (s : State) (c : ChanId) (cause : Nat) (target : BitVec 12) : State :=
  s.updChan c fun n =>
    { n with
      wait := none, state := .running,
      script := { (n.script.goto target.toNat) with
        failTaken := true, failCause := BitVec.ofNat 3 cause, detail := n.script.pc.zeroExtend 32 } }

/-- A script begins at instruction 0 with its pointers and counters 0 (R352, R354). -/
def Script.begin (p : Script) (base : Addr) (tt : Tick) : Script :=
  { p with running := true, base := base, pc := 0, atNext := false, a := Tbl.fill 2 0, k := Tbl.fill 2 0, tt := tt, bytes := 0, spin := 0, blocks := [] }

/-! ### The end of units and of descriptors -/

/-- The scene of a channel ends (R102). -/
def Chan.endScene (n : Chan) : Chan := { n with atBoundary := true, curtain := none, lateEps := [] }

/-- Flag `b` of the descriptor in hand. -/
def Chan.workFlag (n : Chan) (b : Nat) : Bool := match n.work with | some w => descFlag w.dw b | none => false

/-- A descriptor leaves the channel: the chain ends at END, the scene at SCENE_END (R101, R328). -/
def Chan.leave (n : Chan) (w : Taken) : Chan :=
  let m := { n with
    work := none, xfer := none, walk := none
    script := { n.script with running := false }
    chain := if w.inChain && descFlag w.dw fEnd then none else n.chain }
  if n.actEn && descFlag w.dw fSceneEnd then m.endScene else m

/-- Destination bytes that the descriptor in hand has written (R276, R372). -/
def Chan.workBytes (n : Chan) : Nat := if n.script.running then n.script.bytes.toNat + n.unitBytes else n.unitBytes

/-- Steps 2 to 4 of R37: the cue signal, the completion, the vector. -/
def State.finishWork (s : State) (c : ChanId) (w : Taken) : State × List ChanId :=
  let n := s.chan c
  let bytes : Dword := BitVec.ofNat 32 n.workBytes
  let moves := descType w.dw = some .move ∨ descType w.dw = some .fill
  let s0 := if moves then s.doneEvent c else s
  let s0 := if descType w.dw = some .runScript then s0.updScript c fun p => { p with lastStatus := 0 } else s0
  let (s1, l) := if usesCue ((descType w.dw).getD .cue) w.dw then s0.addCue (descCue w.dw) 1 else (s0, [])
  let count := ((n.cover.map fun v => v.count).getD 0) + 1
  let s2 :=
    if descFlag w.dw fCqe then
      (s1.updChan c fun n => { n with cover := none }).postWork c
        { status := 0, covered := count, tag := descTag w.dw, head := w.head, dw2 := bytes, dw3 := descUser w.dw,
          vector := descFlag w.dw fIrq }
    else
      let v : Cover := { count := count, tag := descTag w.dw, user := descUser w.dw, bytes := bytes, head := w.head }
      let s2 := s1.updChan c fun n => { n with cover := some v }
      if descFlag w.dw fIrq then s2.chanVector c else s2
  (s2.updChan c fun n => n.leave w, l)

/-- A SHADOW channel underruns (R414): it enters IDLE with UNDERRUN_SHADOW and sends one vector; pending stop commands complete. -/
def State.underrun (s : State) (c : ChanId) : State :=
  ((s.updChan c fun n =>
    { n with
      state := .idle, periodPending := none, stopPending := false, drainPending := false
      shadow := { n.shadow with lastStatus := 0x1B, setValid := false, ended := false } }).chanVector c).finishStops c

/-- A drain of a SHADOW channel ends at a swap point with nothing armed (R418). -/
def State.endDrain (s : State) (c : ChanId) : State :=
  (s.updChan c fun n => { n with shadow := { n.shadow with lastStatus := 0, setValid := false, ended := false } }).takeStop c

/-- End-of-set steps of the oldest set that has ended (R412, R414, R418). -/
def State.finishSet (s : State) (c : ChanId) : State × List ChanId :=
  match (s.chan c).shadow.ending with
  | [] => (s, [])
  | e :: rest =>
    let s0 := s.updChan c fun n => { n with shadow := { n.shadow with ending := rest } }
    let q : CueId := e.ctl.extractLsb' 42 10
    if bitAt e.ctl 39 && !((s.record (s.tenantOf c)).holdsCue q.toNat) then
      ((s0.failWork c { status := 0x18, detail := faultDetail 8 false false, addr := none, bytes := e.x.written }), [c])
    else
      let s1 := s0.doneEvent c
      let (s2, l) := if bitAt e.ctl 39 then s1.addCue q 1 else (s1, [])
      let s3 := s2.updChan c fun n =>
        { n with shadow := { n.shadow with lastStatus := 0, userDetail := e.user, last := BitVec.ofNat 32 e.x.written } }
      if e.underrun then (s3.underrun c, l)
      else if e.drained then ((if bitAt e.ctl 38 then s3.chanVector c else s3).endDrain c, l)
      else
        (if bitAt e.ctl 38 then s3.chanVector c else s3, l)

/-- An advance of a pointer in bytes: what a side of a finished MOVE transferred is its row under the profile that its admission latched (R365, R504). -/
def Xfer.advance (x : Xfer) : Advance → Word
  | .bytes false => BitVec.ofNat 64 x.rowSrc
  | .bytes true => BitVec.ofNat 64 x.rowDst
  | .step w => w

/-- A unit of a script has ended: its pointers advance, the next instruction follows (R365). -/
def State.scriptUnitDone (s : State) (c : ChanId) : State :=
  match (s.chan c).xfer with
  | none => s
  | some x =>
    let add (a : Tbl 2 Word) (p : BitVec 2 × Advance) : Tbl 2 Word := a.upd p.1 fun v => v + x.advance p.2
    (s.updChan c fun n =>
      { n with
        xfer := none
        script := { n.script with
          a := x.post.foldl add n.script.a, spin := if x.stamp then n.script.spin else 0,
          bytes := n.script.bytes + BitVec.ofNat 32 x.written } }).nextPc c

/-! ### Late scenes (R110, R113, R391, R422) -/

/-- Counts one late scene, with its trace record. -/
def State.countLate (s : State) (c : ChanId) (bytes : Nat) : State :=
  (s.updChan c fun n => { n with lateCount := satAdd n.lateCount 1, lastStatus := 0x14 }).noteChan 3 0x31 c (BitVec.ofNat 32 bytes)

/-- A LATE completion of one or more descriptors. -/
def lateCpl (count : Nat) (tag head : BitVec 16) (bytes user : Dword) (vector : Bool) : WorkCpl :=
  { status := 0x14, covered := count, tag := tag, head := head, dw2 := bytes, dw3 := user, vector := vector }

/-- Descriptors consumed so far in step 5 of R110 are reported by one LATE completion. -/
def State.reportConsumed (s : State) (c : ChanId) (vector : Bool) : State :=
  match (s.chan c).discard with
  | none => s
  | some d =>
    if d.count = 0 then (if vector then s.chanVector c else s)
    else s.postWork c (lateCpl d.count d.tag d.head 0 d.user vector)

/-- Steps 6 and 7 of R110: the rest of a late scene is consumed. -/
def State.endDiscard (s : State) (c : ChanId) : State :=
  match (s.chan c).discard with
  | none => s
  | some d => ((s.reportConsumed c d.irq).updChan c fun n => { n with discard := none, discardMark := false }.endScene)

/-- Steps 3 and 4 of R110 in QUEUE mode, and what follows them; steps 6 and 7 where the truncated descriptor carried SCENE_END. -/
def State.lateQueue (s : State) (c : ChanId) (w : Taken) : State :=
  let n := s.chan c
  let bytes := n.workBytes
  let last := descFlag w.dw fSceneEnd
  let s1 := ((s.coverOk c).countLate c bytes).postWork c
    (lateCpl 1 (descTag w.dw) w.head (BitVec.ofNat 32 bytes) (descUser w.dw) (last && descFlag w.dw fIrq))
  let d : Discard := { first := false, count := 0, tag := 0, user := 0, head := 0, irq := descFlag w.dw fIrq }
  s1.updChan c fun n =>
    let m := n.leave w
    if last then m else { m with discard := some d, state := .waiting }

/-- End-of-set steps of every set that has ended. -/
def State.flushSets (s : State) (c : ChanId) : State × List ChanId :=
  (s.chan c).shadow.ending.foldl (fun r _ => let q := r.1.finishSet c; (q.1, r.2 ++ q.2)) (s, [])

/-- What follows the proofs of a late scene, by mode. -/
def State.runLate (s : State) (c : ChanId) : State :=
  let n := s.chan c
  match n.mode with
  | .queue => (match n.work with | some w => s.lateQueue c w | none => s)
  | .script =>
    let bytes := n.workBytes
    let s1 := s.countLate c bytes
    (s1.updChan c fun n =>
      { n.endScene with
        state := .armed, xfer := none
        script := { (n.script.goto (field (n.reg 0x58) 43 32)) with
          lastStatus := 0x14, detail := n.script.pc.zeroExtend 32, bytes := BitVec.ofNat 32 bytes, atNext := false } }).chanVector c
  | .shadow =>
    let bytes := n.unitBytes
    let s1 := s.countLate c bytes
    (s1.updChan c fun n =>
      { n.endScene with
        state := .armed, xfer := none
        shadow := { n.shadow with
          lastStatus := 0x14, userDetail := BitVec.ofNat 32 bytes, last := BitVec.ofNat 32 bytes, setValid := false,
          ended := true, queued := false } }).chanVector c

/-- Stream endpoints of a scene that a curtain has cut: those of its unit, of its descriptor, or of the set that had not begun (R114, R391, R422). -/
def State.lateEndpoints (s : State) (c : ChanId) : List (Bool × EpId) :=
  let n := s.chan c
  let unit := match n.xfer, n.mode with
    | some x, _ => x.endpoints
    | none, .shadow => (n.setXfer true (0, 0)).endpoints
    | none, _ => []
  unit ++ (match n.work with
    | some w => if descType w.dw = some .move ∨ descType w.dw = some .fill then (descXfer w.dw (0, 0)).endpoints else []
    | none => [])

/-- A scene is cut at its curtain (R108, R110 step 1): no further burst, and the slot freed. Its endpoints are treated once the bursts issued have landed (R115); the proofs of step 2 follow. -/
def State.startLate (s : State) (c : ChanId) : State :=
  let s1 := (s.closeBurst c).dropStuck c
  let s2 := (s1.freeSlot c).abandonLb c
  s2.updChan c fun n =>
    { n with
      reads := [], fetch := none, walk := none, retries := [], wait := none
      unproven := n.proving.filter (fun p => !(n.unproven.any fun q => q.1 == p.1)) ++ n.unproven, proving := [], proofOn := false
      after := some .late }

/-! ### Scenes (R102 to R110) -/

/-- The curtain of a channel has fallen: the next CLK_CORE edge is at or after it (R108). -/
def State.curtainDue (s : State) (c : ChanId) : Bool :=
  match (s.chan c).curtain with
  | some t => !(s.chan c).atBoundary && due t s.coreEdge
  | none => false

/-- A descriptor begins: it is truncated where the curtain has fallen, that of an earlier descriptor or the one it arms itself, and waits for a proof where it carries FENCE (R106, R109, R124). -/
def State.beginWork (s : State) (c : ChanId) (w : Taken) : State :=
  let s1 := s.updChan c fun n => { n with work := some w, armedWork := none, state := .running }
  if s1.curtainDue c then s1.startLate c
  else
    let own (n : Chan) : Option Tick :=
      if descFlag w.dw fCurtain then some (n.sceneStart + BitVec.ofNat 64 (256 * (packetDw w.dw 14).toNat)) else n.curtain
    let s2 := s1.updChan c fun n => { n with curtain := own n }
    if s2.curtainDue c then s2.startLate c else s2.updChan c fun n => { n with after := some .startUnit }

/-- The channel's tenant may follow its act, and no configuration freeze holds the channel (R125, R171). -/
def State.actMay (s : State) (c : ChanId) : Bool :=
  let t := s.tenantOf c
  (s.isSm t || bitAt (s.record t).actBind (s.chan c).actSel.toNat) && !(s.dev.ctl.frozen) && !((s.tenants.look t).ctl.frozen)

/-- The shadow set becomes the active set (R411). -/
def State.swapSets (s : State) (c : ChanId) : State :=
  s.updChan c fun n =>
    let copy (m : Chan) (i : Nat) : Chan := m.setReg (0x80 + 8 * i) (n.reg (0xC0 + 8 * i))
    let m := (List.range 8).foldl copy n
    let m := m.setAct 0x50 (m.reg 0x50 &&& ~~~(1 : Word))
    { m with shadow := { m.shadow with swapCount := m.shadow.swapCount + 1, setValid := true, current := 0, queued := true, ended := false } }

/-- The last of the ended sets whose end-of-set steps are due, changed. -/
def markLast (f : EndSet → EndSet) : List EndSet → List EndSet
  | [] => []
  | [e] => [f e]
  | e :: l => e :: markLast f l

/-- What a swap point with nothing armed leaves to the end-of-set steps of the set before it; `none` where they are done (R414, R418). -/
def Chan.endAfter (n : Chan) (old : Option EndSet) (f : EndSet → EndSet) : Option Chan :=
  let m : Chan := { n with shadow := { n.shadow with setValid := false, ended := false } }
  match old with
  | some e => some { m with shadow := { m.shadow with moving := some (f e) } }
  | none =>
    if n.shadow.ending.isEmpty then none else some { m with shadow := { m.shadow with ending := markLast f n.shadow.ending } }

/-- A swap point (R411, R414, R418): the armed set becomes active; with nothing armed, the channel underruns or its drain takes effect once the end-of-set steps are done. -/
def State.swapPoint (s : State) (c : ChanId) : State :=
  let n := s.chan c
  let old : Option EndSet := n.xfer.map fun x =>
    { ctl := n.setCtl true, user := lo32 (n.setWord true 7), x := x, ord := n.shadow.swapCount, underrun := false, drained := false }
  if bitAt (n.reg 0x50) 0 then
    (s.swapSets c).updChan c fun n => { n with state := .running, shadow := { n.shadow with moving := old } }
  else if n.drainPending then
    (match n.endAfter old fun e => { e with drained := true } with
    | some m => s.updChan c fun _ => m
    | none => s.endDrain c)
  else
    match n.endAfter old fun e => { e with underrun := true } with
    | some m => s.updChan c fun _ => m
    | none => s.underrun c

/-- A scene is released by a period start (R103, R355, R388, R389, R392, R421). -/
def State.release (s : State) (c : ChanId) (p : Tick) : State :=
  let s1 := (s.updChan c fun n =>
    { n with
      periodPending := none, sceneStart := p, state := .running, atBoundary := false, timeOpen := false, lateEps := []
      curtain := n.curtain.map fun t => p + (t - n.sceneStart)
      script := { n.script with tt := p } }).noteChan 3 0x30 c ((s.chan c).actSel.zeroExtend 32)
  let n := s1.chan c
  match n.mode with
  | .queue => (match n.armedWork with | some w => s1.beginWork c w | none => s1)
  | .script =>
    let off := field (n.reg 0x58) 31 0
    let s2 := s1.updChan c fun n =>
      { n with
        curtain := if off = 0 then none else some (p + BitVec.ofNat 64 (256 * off))
        script := { n.script with running := true, bytes := 0, spin := 0, blocks := [], atNext := false } }
    let s3 := if n.script.atNext then s2.nextPc c else s2
    if s3.curtainDue c && !(s3.chan c).held then s3.startLate c else s3
  | .shadow =>
    let off := field (n.setCtl false) 31 0
    let s2 := s1.swapPoint c
    if bitAt (n.reg 0x50) 0 && decide (off ≠ 0) then
      let s3 := s2.updChan c fun n => { n with curtain := some (p + BitVec.ofNat 64 (256 * off)) }
      if s3.curtainDue c then (s3.updChan c fun n => { n with shadow := { n.shadow with queued := false } }).startLate c else s3
    else s2

/-- An ARMED channel that a period start can release: it holds a scene, and no stop that takes effect at a scene boundary is pending (R102, R394, R410, R458). -/
def Chan.holdsScene (n : Chan) : Bool :=
  n.state == .armed && n.actEn && !n.stopPending && !n.held && !n.haltDue &&
    (match n.mode with
      | .queue => n.armedWork.isSome
      | .script => !n.drainPending
      | .shadow => true)

/-- The period start that releases a channel which has become ARMED (R104). -/
def State.startWaiting (s : State) (c : ChanId) : Option Tick :=
  if (s.chan c).holdsScene && s.actMay c && s.dataOn then (s.chan c).periodPending else none

/-- A pending period start releases a channel that has become ARMED (R104). -/
def State.releasePending (s : State) (c : ChanId) : State :=
  match s.startWaiting c with
  | some p => s.release c p
  | none => s

/-! ### Writes that fail (R44, R471, R472, R485) -/

/-- Bit of a proof target in DW3 of a CHANNEL_RESET completion (R465). -/
def proofBit : ProofTarget → Nat
  | .wing => 0
  | .dc0 => 1
  | .dc1 => 2
  | .hp0 => 3
  | .hp1 => 4
  | .lb _ => 5

/-- A write burst leaves the channel's list. -/
def Chan.without (n : Chan) (w : WriteReq) : Chan := { n with writes := n.writes.filter fun x => x != w }

/-- Nothing after a failing write burst is written (R485). -/
def State.dropFrom (s : State) (c : ChanId) (w : WriteReq) : State :=
  s.updChan c fun n =>
    { n with
      writes := n.writes.takeWhile fun x => x != w
      xfer := if w.ord = n.setOrd then n.xfer.map fun x => { x with burst := none, written := w.before } else n.xfer }

/-- A bus error of a write burst (R471, R472). Past the curtain its retry is not issued (R474). On the error path and in a reset its target counts as unproven (R465, R468); in a late scene its bytes do not count as written. -/
def State.writeBusFail (s : State) (c : ChanId) (w : WriteReq) (k : BusCause) : State :=
  let n := s.chan c
  match n.after with
  | some (.fail _) => s.updChan c fun n => { n.without w with proofFailed := true }
  | some .late => s.updChan c fun n => { n.without w with xfer := n.xfer.map fun x => { x with written := x.written - w.bytes.length } }
  | some (.reset _) =>
    let bit : BitVec 6 := match s.proofTarget w.addr with | some t => 1 <<< proofBit t | none => 0
    s.updChan c fun n => { n.without w with unprovenMask := n.unprovenMask ||| bit }
  | _ =>
    if s.curtainDue c && w.ord == n.setOrd then (s.dropFrom c w).startLate c
    else if n.retried rWrite w.addr < n.retryLimit.toNat then s.busFail c rWrite w.addr w.before k
    else (s.dropFrom c w).busFail c rWrite w.addr w.before k

/-! ### The report of a failure (R468 steps 3 to 5) -/

/-- Statuses whose detail has PROOF_FAILED. -/
def hasProofBit (st : Byte) : Bool := st == 0x10 || st == 0x11 || st == 0x12 || st == 0x13 || st == 0x19

/-- A failure is reported, by mode. -/
def State.runFail (s : State) (c : ChanId) (f : Failure) : State :=
  let n := s.chan c
  let detail := if n.proofFailed && hasProofBit f.status then f.detail ||| 0x800 else f.detail
  let s1 := s.updChan c fun n => { n with faultAddr := f.addr.getD n.faultAddr, proofFailed := false, lastStatus := f.status }
  let s1 := s1.noteChan 2 0x22 c (BitVec.ofNat 32 (f.status.toNat + 256 * (detail.toNat % 2 ^ 24)))
  let s1 := if n.script.running then
      s1.updScript c fun p => { p with lastStatus := f.status, detail := detail, running := false } else s1
  match n.mode with
  | .queue =>
    let s2 := if n.discard.isSome then s1.reportConsumed c false else s1.coverOk c
    let (tag, head) := match n.work with
      | some w => (descTag w.dw, w.head)
      | none => (0, (n.chain.map fun h => h.head).getD (s.sqOf c).head)
    (s2.postWork c { status := f.status, covered := 1, tag := tag, head := head, dw2 := BitVec.ofNat 32 f.bytes, dw3 := detail,
                     vector := false }).updChan c fun n => { n with haltDue := true }
  | .script => (s1.enterHalted c).chanVector c
  | .shadow =>
    ((s1.updChan c fun n =>
      { n with shadow := { n.shadow with
          lastStatus := f.status, userDetail := detail, last := BitVec.ofNat 32 f.bytes, setValid := false, queued := false, ended := false,
          moving := none, ending := [] } }).enterHalted c).chanVector c

/-! ### CHANNEL_RESET (R464 to R467) -/

/-- The channel is IDLE with what each mode discards (R464 step 4). -/
def Chan.toIdle (n : Chan) : Chan :=
  let m : Chan :=
    { n with
      state := .idle, periodPending := none, discard := none, discardMark := false, atBoundary := n.actEn, curtain := none,
      work := none, armedWork := none, xfer := none, walk := none, chain := none, spin := 0, cover := none,
      reads := [], writes := [], unproven := [], proving := [], proofOn := false, after := none, proofFailed := false, unprovenMask := 0,
      retries := [], released := 0, lineCredits := 0, rateBank := 0, timeOpen := false, wait := none, fetch := none,
      stopPending := false, drainPending := false, haltDue := false, lateEps := [] }
  match n.mode with
  | .queue => { m with script := { n.script with running := false, blocks := [] } }
  | .script =>
    { m with script := { n.script with
      running := false, pc := 0, atNext := false, a := Tbl.fill 2 0, k := Tbl.fill 2 0, tt := 0, bytes := 0, spin := 0, blocks := [] } }
  | .shadow => { (m.setAct 0x50 (m.reg 0x50 &&& ~~~(3 : Word))) with shadow := {} }

/-- Held completions of the channel for which its CQ has space are written, and the rest discarded (R464 step 3): the number discarded. -/
def State.dropHeld (s : State) (c : ChanId) : State × Nat :=
  let t := s.tenantOf c
  let q := s.cqIdOf c
  let mine := (s.cq t q).held.filter fun d => d.chan == some c
  let others := (s.cq t q).held.filter fun d => d.chan != some c
  if mine.isEmpty then (s, 0)
  else
    let s1 := s.updCq t q fun x => { x with held := others, stalled := !others.isEmpty }
    mine.foldl (fun r d =>
      let x := r.1.cq t q
      if x.state = .active ∧ !x.full ∧ r.2 = 0 then (r.1.putCompletion t q d, 0) else (r.1, r.2 + 1)) (s1, 0)

/-- Steps 4 and 5 of R464, with the pending stop commands between them (R836), and the queued DONE pulses (R793). -/
def State.finishReset (s : State) (c : ChanId) (dropped : Nat) : State :=
  let n := s.chan c
  let t := s.tenantOf c
  let s2 := if n.mode = .queue then
      s.updSq t n.sq fun q =>
        { q with tail := q.head, entries := [], faultDue := none, ownWait := false, retries := [],
                 state := if q.state = .faulted then .active else q.state, cause := 0 }
    else s
  let s3 := (s2.updChan c Chan.toIdle).noteChan 2 0x23 c (BitVec.ofNat 32 n.mode.code)
  let s4 := s3.forAll (s3.donePins c) fun p s => s.updPin p fun q => { q with queued := 0 }
  let s5 := s4.forAll (s4.longOn c [0x1C, 0x1D]) fun l s => s.finishLong l { status := 0x15, dw2 := s.chanReport c, dw3 := 2 } []
  let head := if n.mode = .queue then (s5.sq t n.sq).head.toNat else 0
  let r : Reply := { dw2 := BitVec.ofNat 32 (head + 65536 * min dropped 65535), dw3 := n.unprovenMask.zeroExtend 32 }
  s5.forAll (s5.longOn c [0x1E]) fun l s => s.finishLong l r []

/-! ### What follows a proof -/

/-- A descriptor's finishing steps need the proof of R37. -/
def Chan.proves (n : Chan) : Bool :=
  n.workFlag fSig || n.workFlag fCqe || n.workFlag fIrq || n.workFlag fVerify ||
    (match n.work with | some w => decide (descType w.dw = some .cue) | none => false)

/-- What follows waits for a proof of arrival (R476). -/
def Chan.needsProof (n : Chan) (a : After) : Bool :=
  match a with
  | .finish => n.proves
  | .unitDone => (match n.xfer with | some x => x.verify | none => false)
  | .startUnit => (match n.mode with | .shadow => bitAt (n.setCtl true) 41 | _ => n.workFlag fFence)
  | .resetWrites _ _ => false
  | _ => true

/-- The unit that FENCE has held back, or the descriptor without FENCE, begins. -/
def State.startWork (s : State) (c : ChanId) : State :=
  let n := s.chan c
  match n.mode, n.work with
  | .queue, some w =>
    (match descType w.dw with
    | some .runScript =>
      let tt := if n.actEn then n.script.tt else s.coreEdge
      s.updChan c fun n => { n with script := n.script.begin (descSrc w.dw) tt }
    | some .cue => s.updChan c fun n => { n with after := some .finish }
    | _ => s.startUnit c (descXfer w.dw (s.profile (s.tenantOf c) (field (packetDw w.dw 0) 23 16))))
  | .shadow, _ => s.startUnit c (n.setXfer true (s.profile (s.tenantOf c) (field (n.setCtl true) 37 32)))
  | _, _ => s

/-- The fault completion of an SQ is posted once every descriptor taken before it is finished and proven, behind the LATE completion of those consumed in a late scene (R290, R476). -/
def State.queueFault (s : State) (c : ChanId) (f : Completion) : State :=
  let s1 := (s.reportConsumed c (match (s.chan c).discard with | some d => d.irq | none => false)).updSq (s.tenantOf c) (s.chan c).sq
    fun q => { q with faultDue := none }
  (s1.postWork c { status := f.status, covered := 0, tag := 0, head := (s.sqOf c).head, dw2 := 0, dw3 := f.dw3, vector := false }).updChan c
    fun n => { n with haltDue := true, discard := none }

/-- What follows the proof, and the channels it may have woken. -/
def State.runAfter (s0 : State) (c : ChanId) (a : After) : State × List ChanId :=
  let s := s0.updChan c fun n => { n with after := none, proofOn := false }
  let n := s.chan c
  match a with
  | .startUnit => (s.startWork c, [c])
  | .finish => (match n.work with
    | some w => let r := s.finishWork c w; (r.1, r.2 ++ [c])
    | none => (s, []))
  | .unitDone => (s.scriptUnitDone c, [c])
  | .signal q k =>
    let sat := s.cueSaturates q k.toNat
    let r := s.addCue q k.toNat
    let s2 := r.1.updScript c fun p => { p with signalSat := p.signalSat || sat }
    let s3 := if n.mode = .script then s2.doneEvent c else s2
    (s3.nextPc c, r.2 ++ [c])
  | .fence => (s.nextPc c, [c])
  | .irq code =>
    let s2 := (s.updScript c fun p => { p with irqCode := code }).chanVector c
    let s3 := (if n.mode = .script then s2.doneEvent c else s2).noteChan 2 0x24 c (code.zeroExtend 32)
    (s3.nextPc c, [c])
  | .endScript irq restart =>
    let s1 := (s.doneEvent c).updScript c fun p => { p with lastStatus := 0 }
    let s2 := if irq then s1.chanVector c else s1
    if restart then
      (s2.updChan c fun n => { n.endScene with state := .armed, script := { (n.script.goto 0) with atNext := false, blocks := [] } }, [c])
    else if n.stopping then ((s2.updChan c fun n => { n with curtain := none }).takeStop c, [c])
    else
      (s2.updChan c fun n => { n with state := .idle, periodPending := none, curtain := none, script := { n.script with running := false } }, [c])
  | .fail f => (s.runFail c f, [c])
  | .late => let r := s.flushSets c; (r.1.runLate c, r.2 ++ [c])
  | .reset t =>
    let r := s.dropHeld c
    (r.1.updChan c fun n => { n with after := some (.resetWrites t r.2) }, [c])
  | .resetWrites _ dropped => (s.finishReset c dropped, [])
  | .endSet => let r := s.finishSet c; (r.1, r.2 ++ [c])
  | .sqFault => (match (s.sqOf c).faultDue with
    | some f => (s.queueFault c f, [c])
    | none => (s, [c]))

/-- Address of byte `p` of a side, and the bytes from it on, at most `n`, at consecutive addresses within its fragment (R315, R321, R324). -/
def sidePlace (ind : Option FragStream) (d : Side) (middles p n : Nat) : Option (Addr × Nat) :=
  match ind with
  | none => some (d.at middles p, d.run middles p n)
  | some t => (locate t.frags (d.at middles p).toNat).map fun q => (q.1, min q.2 (d.run middles p n))

/-- Addresses and values of the last bytes that a unit wrote, in element order (R479). -/
def Xfer.lastPlaces (x : Xfer) : List (Addr × Byte) :=
  let first := x.written - x.lastBytes.length
  ((List.range x.lastBytes.length).filterMap fun j =>
    (sidePlace x.dstInd x.dstSide x.middle (first + j) 1).map fun p => (p.1, nth x.lastBytes j 0))

/-- The unit whose last bytes the present proof compares (R339, R366, R479). -/
def Chan.verified (n : Chan) : Option Xfer :=
  let x := match n.after with
    | some .finish => n.xfer
    | some .unitDone => n.xfer
    | some .endSet => n.shadow.ending.head?.map EndSet.x
    | _ => none
  x.bind fun x => if x.verify then some x else none

/-- The last bytes that the unit whose proof begins wrote, where VERIFY compares them (R479). -/
def Chan.compared (n : Chan) : List (Addr × Byte) := match n.verified with | some x => x.lastPlaces | none => []

/-- A read-back leaves for its target (R477): on a host port a zero-length read at the last dword, or with VERIFY a read of the compared bytes; on the local bus a beat at the last word with no byte enabled, or with VERIFY the beats of the compared bytes with theirs enabled. -/
def State.askProof (s : State) (c : ChanId) (t : ProofTarget) (a : Addr) : State :=
  let places := ((s.chan c).compared.filter fun p => s.proofTarget p.1 == some t).map fun p => p.1
  match hostOf a with
  | some p =>
    if !(s.port p).usable then s
    else if places.isEmpty then s.sendHostFetch p (a &&& ~~~(3 : Word)) 0
    else
      let lo := places.foldl (fun (m : Addr) x => if x.toNat < m.toNat then x else m) a
      let hi := places.foldl (fun (m : Addr) x => if m.toNat < x.toNat then x else m) lo
      s.sendHostFetch p lo (hi.toNat - lo.toNat + 1)
  | none =>
    if tagOf a ≠ 4 then s
    else if places.isEmpty then s.emit (.lbProof (a &&& ~~~(3 : Word)) 0)
    else
      let words := (places.map fun x => x &&& ~~~(3 : Word)).eraseDups
      let enables (w : Addr) : BitVec 4 :=
        places.foldl (fun (m : BitVec 4) x => if x &&& ~~~(3 : Word) = w then m ||| (1 <<< (x.toNat % 4)) else m) 0
      s.forAll words fun w s => s.emit (.lbProof w (enables w))

/-- A proof begins: each target written and not yet proven is read back once (R475, R477). -/
def State.beginProof (s : State) (c : ChanId) : State :=
  let n := s.chan c
  let s1 := s.updChan c fun n => { n with proofOn := true, proving := n.unproven, unproven := [] }
  s1.forAll n.unproven fun p s => s.askProof c p.1 p.2

/-! ### The next entry of a channel -/

/-- A channel may take its next entry: the completions and messages of the one before are out, which is its descriptor boundary, its CQ holds none of them, and the part is awake (R37, R281, R458, R604). Chain entries wait too (DEDUCED from R458, log entry 52). -/
def State.mayTakeEntry (s : State) (c : ChanId) : Bool := s.dataOn && !(s.owes c)

/-- A QUEUE channel has nothing in hand: no unit, walk, script, step or held scene. -/
def Chan.free (n : Chan) : Bool :=
  n.work.isNone && n.armedWork.isNone && n.after.isNone && n.walk.isNone && n.fetch.isNone && n.retries.isEmpty && !n.haltDue

/-- A pending stop holds the next descriptor back: a stop at once, a drain at the end of the queue outside a chain (R457, R458). -/
def State.stopHolds (s : State) (c : ChanId) : Bool :=
  let n := s.chan c
  let q := s.sqOf c
  n.discard.isNone && (n.stopPending || (n.drainPending && n.chain.isNone && q.head == q.tail))

/-- The entry that the channel takes next: the chain entry read ahead, or the SQ entry at H whose mark matches (R272, R330). -/
def State.nextEntry (s : State) (c : ChanId) : Option Taken :=
  let n := s.chan c
  match n.chain with
  | some h => (h.ahead.find? fun e => e.1 == h.next).map fun e => { dw := e.2, head := h.head, inChain := true }
  | none =>
    let q := s.sqOf c
    if q.state ≠ .active ∨ q.head = q.tail then none
    else (q.entries.find? fun e => e.index == q.head).map fun e =>
      { dw := e.dw, head := ringNext q.log2 q.head, inChain := false }

/-- The state in which a started QUEUE channel without a unit waits: ARMED at a boundary or without an act, WAITING inside a scene. -/
def Chan.restState (n : Chan) : ChanState :=
  if n.armedWork.isSome then .armed
  else if n.discard.isSome then .waiting
  else if n.actEn && !n.atBoundary then .waiting
  else .armed

/-! ### One automatic action of a channel -/

/-- A wait whose condition holds is granted, where no curtain has fallen first (R374, R376, R384, R445, R487). -/
def State.tryGrant (s : State) (c : ChanId) (w : Wait) : Option (State × List ChanId) :=
  if s.curtainDue c then none
  else match w.kind with
  | .cue q k keep _ =>
    if k.toNat ≤ (s.cues.look q).count.toNat then
      let s1 := if keep then s else s.consumeCue q k
      some (((s1.updChan c fun n => { n with wait := none, state := .running, script := { n.script with spin := 0 } }).nextPc c), [c])
    else none
  | .pace q =>
    if 0 < (s.cues.look q).count.toNat then
      let s1 := s.consumeCue q 1
      some (s1.updChan c fun n => { n with wait := none, released := n.released + n.quantum }, [c])
    else none
  | .prop r _ =>
    match s.grantProp (s.tenantOf c) c.toNat with
    | (s1, some i) =>
      some (((s1.updChan c fun n =>
        { n with wait := none, state := .running,
                 script := { n.script with a := n.script.a.put r (BitVec.ofNat 64 (s.propOffset i)) } }).nextPc c), [c])
    | (_, none) => none
  | .instant _ _ => none

/-- A wait that goes on makes the channel WAITING (R374, R384); a pacing wait leaves it RUNNING. -/
def State.showWait (s : State) (c : ChanId) (w : Wait) : Option (State × List ChanId) :=
  match w.kind with
  | .pace _ => none
  | _ => if (s.chan c).state = .running then some (s.updChan c fun n => { n with state := .waiting }, []) else none

/-- An indirect side needs its next table entry: its logical offset lies beyond what has been read (R326). -/
def needsEntry (f : Option FragStream) (d : Side) (middles p total : Nat) : Option Addr :=
  match f with
  | none => none
  | some t =>
    if total ≤ p ∨ t.ended = true then none
    else if (locate t.frags (d.at middles p).toNat).isSome then none else some t.next

/-- The table entry that a unit needs next. -/
def Xfer.wants (x : Xfer) : Option (Addr × FetchFor) :=
  match needsEntry x.srcInd x.srcSide x.middle x.asked x.srcTotal with
  | some a => some (a, .srcTable)
  | none => (needsEntry x.dstInd x.dstSide x.middle x.written x.dstTotal).map fun a => (a, .dstTable)

/-- A LINE or CUE paced unit other than a STAMP (R367) with elements left needs a release: a banked edge or an active level releases at once, a cue count is waited for (R443, R445). -/
def State.paceNeed (s : State) (c : ChanId) (x : Xfer) : Option (State × List ChanId) :=
  let n := s.chan c
  if x.stamp = true ∨ n.released ≠ 0 ∨ x.total ≤ x.moved ∨ n.wait.isSome = true then none
  else if n.paceSrc = 2 ∧ n.lineEdge = true ∧ n.lineCredits ≠ 0 then
    some (s.updChan c fun n => { n with lineCredits := n.lineCredits - 1, released := n.quantum }, [c])
  else if n.paceSrc = 2 ∧ n.lineEdge = false ∧ n.lineLevel = true then
    some (s.updChan c fun n => { n with released := n.quantum }, [c])
  else if n.paceSrc = 4 then some (s.beginWait c (.pace n.paceCue) 0, [c])
  else none

/-- A unit whose beats are all written has ended (R412, R458). -/
def State.unitEnded (s : State) (c : ChanId) : State :=
  let n := s.chan c
  match n.mode, n.xfer with
  | .shadow, some x =>
    let e : EndSet := n.shadow.moving.getD
      { ctl := n.setCtl true, user := lo32 (n.setWord true 7), x := x, ord := n.shadow.swapCount, underrun := false, drained := false }
    let own := n.shadow.moving.isNone
    s.updChan c fun n =>
      let m := if own && n.actEn then { n.endScene with state := .armed } else n
      { m with
        xfer := none
        shadow := { n.shadow with
          moving := none, ending := n.shadow.ending ++ [{ e with x := x }],
          setValid := if own then false else n.shadow.setValid, ended := own && !e.underrun && !e.drained } }
  | .queue, _ => s.updChan c fun n => { n with after := some (if n.script.running then .unitDone else .finish) }
  | _, _ => s.updChan c fun n => { n with after := some .unitDone }

/-- The table of an indirect side has ended and does not hold the byte that the loops need next: the address of its last entry (R326). -/
def tableShort (f : Option FragStream) (d : Side) (middles p total : Nat) : Option Addr :=
  match f with
  | none => none
  | some t =>
    if p < total ∧ t.ended = true ∧ (locate t.frags (d.at middles p).toNat).isNone = true then some t.next else none

/-- A unit whose fragment tables end before its loops do fails once the bytes before that point are written (R326). -/
def State.streamShort (s : State) (c : ChanId) (x : Xfer) : Option Addr :=
  let src := tableShort x.srcInd x.srcSide x.middle x.asked x.srcTotal
  if src.isSome ∧ (s.chan c).reads.isEmpty = true ∧ x.dstBuf.isEmpty = true ∧ x.burst.isNone = true then src
  else tableShort x.dstInd x.dstSide x.middle x.written x.dstTotal

/-- A write burst of a register set has not landed. -/
def Chan.writesOf (n : Chan) (ord : Dword) : Bool := n.writes.any fun w => w.ord == ord

/-- What a unit does of itself. The unit of a set that has been swapped out leaves with its last beat, and any other once its bursts have landed (R411, R458). -/
def State.unitOnce (s : State) (c : ChanId) (x : Xfer) : Option (State × List ChanId) :=
  let n := s.chan c
  if x.done && x.burst.isNone && (n.shadow.moving.isSome || !(n.writesOf n.setOrd)) then some (s.unitEnded c, [c])
  else if n.fetch.isNone && n.retries.isEmpty && s.dataOn then
    match s.streamShort c x with
    | some a =>
      some (s.failWork c { status := 0x12, detail := accessDetail 0 (tagOf a) false true false false 0, addr := some a, bytes := x.written }, [c])
    | none =>
      match x.wants with
      | some (a, k) => some (s.requestFetch c a k, [c])
      | none => s.paceNeed c x
  else s.paceNeed c x

/-- A fetch that the channel needs, when nothing holds it back. -/
def State.fetchOnce (s : State) (c : ChanId) (a : Addr) (k : FetchFor) : Option (State × List ChanId) :=
  let n := s.chan c
  if n.fetch.isNone && n.retries.isEmpty && s.dataOn then some (s.requestFetch c a k, [c]) else none

/-- A running script whose block is not held fetches it; a SCRIPT channel reads SCRIPT_BASE then (R358, R899). -/
def State.scriptOnce (s : State) (c : ChanId) : Option (State × List ChanId) :=
  let n := s.chan c
  if n.state ≠ .running ∨ n.script.held.isSome = true then none
  else if n.mode = .script then
    let s1 := s.updScript c fun p => { p with base := n.reg 0x50 }
    s1.fetchOnce c (blockOf (s1.chan c).script.addr) .block
  else s.fetchOnce c (blockOf n.script.addr) .block

/-- What a QUEUE channel with nothing in hand does of itself: it fetches its chain's next entry, reports a fault of its SQ, or rests. -/
def State.queueOnce (s : State) (c : ChanId) : Option (State × List ChanId) :=
  let n := s.chan c
  let rest := if n.state = n.restState ∨ (n.state = .running ∧ (s.nextEntry c).isSome = true) then none
    else some (s.updChan c fun n => { n with state := n.restState }, [])
  if (s.sqOf c).faultDue.isSome && n.armedWork.isNone then some (s.updChan c fun n => { n with after := some .sqFault }, [c])
  else match n.chain with
  | some h =>
    if (s.nextEntry c).isSome ∨ s.stopHolds c = true ∨ n.armedWork.isSome = true then rest
    else (if s.mayTakeEntry c then s.fetchOnce c h.next .chain else none) <|> rest
  | none => rest

/-- A curtain that has fallen ends what would follow a proof: an instruction or a unit that has not begun or not had its effect (R109, R390), or anything of a script of a descriptor (R110). -/
def Chan.curtainCuts (n : Chan) (a : After) : Bool :=
  match a with
  | .signal _ _ => true
  | .fence => true
  | .startUnit => true
  | .irq _ => decide (n.mode = .queue)
  | .unitDone => decide (n.mode = .queue)
  | _ => false

/-- What follows a proof waits for bursts of the channel to land, those of its set at the end of a set, or for its completion writes at the end of a reset (R412, R464, R466). -/
def State.afterWaits (s : State) (c : ChanId) (a : After) : Bool :=
  let n := s.chan c
  match a with
  | .endSet => (n.shadow.ending.head?.map fun e => n.writesOf e.ord) = some true
  | .resetWrites _ _ => s.cplOut c
  | _ => !n.writes.isEmpty

/-- What follows a proof, when its bursts have landed and its read-backs have returned. The endpoints of a late scene are treated as its bursts have landed (R115). -/
def State.afterOnce (s : State) (c : ChanId) (a : After) : Option (State × List ChanId) :=
  let n := s.chan c
  if n.curtainCuts a && s.curtainDue c then none
  else if n.proofOn then (if n.proving.isEmpty then some (s.runAfter c a) else none)
  else if s.afterWaits c a then none
  else
    let s1 := if a = .late then s.lateStreams c (s.lateEndpoints c) else s
    if n.needsProof a && !n.unproven.isEmpty then (if s.mayIssue then some (s1.beginProof c, [c]) else none)
    else some (s1.runAfter c a)

/-- The set that a swap has made active begins: at once, or after the proof that FENCE asks for (R411, R412). -/
def State.setOnce (s : State) (c : ChanId) : Option (State × List ChanId) :=
  let n := s.chan c
  let s1 := s.updChan c fun n => { n with shadow := { n.shadow with queued := false } }
  if n.needsProof .startUnit then
    (if n.after.isNone then some (s1.updChan c fun n => { n with after := some .startUnit }, [c]) else none)
  else some (s1.startWork c, [c])

/-- What a channel does that waits for no proof of its own. -/
def State.workOnce (s : State) (c : ChanId) : Option (State × List ChanId) :=
  let n := s.chan c
  match n.wait with
  | some w => s.tryGrant c w <|> s.showWait c w
  | none =>
    match n.xfer, n.walk with
    | some x, _ => s.unitOnce c x
    | none, some w => s.fetchOnce c w.next .table
    | none, none =>
      if n.script.running then s.scriptOnce c
      else if n.mode = .shadow ∧ n.shadow.queued = true then s.setOnce c
      else if n.mode = .queue ∧ n.live = true ∧ n.work.isNone = true ∧ n.fetch.isNone = true ∧ n.retries.isEmpty = true then s.queueOnce c
      else none

/-- What the write bursts of a channel do of themselves: one turned back by its port is a bus error, and one held back is issued once no burst awaits its retry (R44, R473). -/
def State.burstOnce (s : State) (c : ChanId) : Option (State × List ChanId) :=
  let n := s.chan c
  match n.writes.find? fun w => w.stand == .refused && !(n.stuck w) with
  | some w => some (s.writeBusFail c w .linkDown, [c])
  | none =>
    if n.retries.isEmpty && s.mayIssue then (n.writes.find? fun w => w.stand == .held).map fun w => (s.sendWrite c w, [c])
    else none

/-- The first action that a channel can take, and the channels it may wake; none when there is nothing to do. -/
def State.actOnce (s : State) (c : ChanId) : Option (State × List ChanId) :=
  let n := s.chan c
  match s.burstOnce c, s.startWaiting c, n.after with
  | some r, _, _ => some r
  | none, some p, _ => some (s.release c p, [c])
  | none, none, some a => s.afterOnce c a <|> (if n.held then none else s.workOnce c)
  | none, none, none =>
    if n.haltDue then (if s.owes c then none else some (s.enterHalted c, []))
    else if !n.shadow.ending.isEmpty then some (s.updChan c fun n => { n with after := some .endSet }, [c])
    else if n.state = .stopped ∧ s.owes c = false ∧ (s.longOn c [0x1D]).isEmpty = false then some (s.finishStops c, [])
    else s.workOnce c

/-- Channels act until none of the list has anything left to do. -/
def State.run : Nat → List ChanId → State → State
  | 0, _, s => s
  | _ + 1, [], s => s
  | k + 1, c :: l, s =>
    match s.actOnce c with
    | some (s1, more) => State.run k (more ++ l) s1
    | none => State.run k l s

/-- The channels of a list act, and those they wake. -/
def State.go (s : State) (l : List ChanId) : State := State.run 4096 l s

/-- A count is added to a cue and its waiters are granted (R376, R381). -/
def State.signal (s : State) (q : CueId) (n : Nat) : State := let r := s.addCue q n; r.1.go r.2

end Sys2Proof.Machine
end

