-- ==== Sys2Proof/Machine/Descriptors.lean ====
section
/-! DEFINITION. Scenes and their releases, the taking of descriptors, the check stage, and the descriptor rows MOVE, RUN_SCRIPT, FILL, CUE, CALL_CHAIN and LINK (chapters 03 and 08). -/

namespace Sys2Proof.Machine

/-- A descriptor that has passed its check reaches the gate: at a scene boundary it is held in ARMED, and otherwise it begins (R102). -/
def State.passGate (s : State) (c : ChanId) (w : Taken) : State :=
  let n := s.chan c
  if n.actEn && n.atBoundary then
    (s.updChan c fun n => { n with work := none, armedWork := some w, state := .armed }).releasePending c
  else s.beginWork c w

/-! ### The check stage (R340) -/

/-- The walk of one side begins. -/
def walkFrom (a : Addr) (dst : Bool) : Walk := { dstSide := dst, next := a, count := 0, sum := 0 }

/-- The check stage is over but for the tables, which are walked source first (R325). -/
def State.checkTables (s : State) (c : ChanId) (w : Taken) (srcDone : Bool) : State :=
  let x := descXfer w.dw (0, 0)
  let moves := descType w.dw = some .move ∨ descType w.dw = some .fill
  if moves ∧ x.srcInd.isSome = true ∧ srcDone = false then s.updChan c fun n => { n with walk := some (walkFrom x.src false) }
  else if moves ∧ x.dstInd.isSome = true then s.updChan c fun n => { n with walk := some (walkFrom x.dst true) }
  else s.passGate c w

/-- Fault detail of a cue outside the tenant's range: CHECK 8. -/
def cueCheck : Nat := 8

/-- A chain begins at an address (R327, R334). -/
def Chan.call (n : Chan) (a : Addr) (head : BitVec 16) : Chan :=
  { n with spin := 0, chain := some { next := a, head := head, running := 0, ahead := [] }, work := none }

/-- A LINK makes its address the next entry (R328). -/
def Chan.jump (n : Chan) (a : Addr) : Chan :=
  { n with chain := n.chain.map fun h => { h with next := a, ahead := [] }, work := none }

/-- A CALL_CHAIN or LINK that keeps its rules acts; a LINK to itself spins (R327, R328, R335). -/
def State.jumpEntry (s : State) (c : ChanId) (w : Taken) (t : DescType) : State :=
  let a := descSrc w.dw
  if t = .callChain then s.updChan c fun n => n.call a w.head
  else if ((s.chan c).chain.map fun h => h.running) = some a then s.failPlain c 0x17 2
  else s.updChan c fun n => n.jump a

/-- The check stage of a descriptor in hand (R340, steps 1 to 4), and what follows it. -/
def State.checkStage (s : State) (c : ChanId) (w : Taken) : State :=
  let n := s.chan c
  let t := s.tenantOf c
  match descType w.dw with
  | none => s.failPlain c 0x08 0
  | some ty =>
    match least (descOffsets ty w.dw n.actEn (s.profile t (field (packetDw w.dw 0) 23 16 % 64))) with
    | some off => s.failPlain c 0x09 off
    | none =>
      if (ty = .link ∧ w.inChain = false) ∨ (ty = .callChain ∧ w.inChain = true) then s.failPlain c 0x09 0
      else if usesCue ty w.dw && !((s.record t).holdsCue (descCue w.dw).toNat) then
        s.failPlain c 0x18 cueCheck
      else if ty = .callChain ∨ ty = .link then s.jumpEntry c w ty
      else s.checkTables c w false

/-! ### Taking an entry -/

/-- A descriptor of a late scene is consumed without moving data (R110 step 5). The one that was to begin when the curtain fell with none in hand counts as the truncated one, and steps 1 to 4 wait for it (DESIGN CHOICE, log entry 53). -/
def State.consume (s : State) (c : ChanId) (w : Taken) (d : Discard) : State :=
  let s0 := s.updChan c fun n => { n with work := some w }
  match descType w.dw with
  | some .callChain =>
    if w.inChain || badCodeAddr (descSrc w.dw) 64 then s0.failPlain c 0x09 (if w.inChain then 0 else 8) else s0.jumpEntry c w .callChain
  | some .link =>
    if !w.inChain || badCodeAddr (descSrc w.dw) 64 then s0.failPlain c 0x09 (if w.inChain then 8 else 0) else s0.jumpEntry c w .link
  | ty =>
    let eps := if ty = some .move ∨ ty = some .fill then (descXfer w.dw (0, 0)).endpoints else []
    if d.first then (s0.updChan c fun n => { n with discard := none }).startLate c
    else
      let s1 := s0.lateStreams c eps
      let e : Discard :=
        { first := false, count := d.count + 1, tag := descTag w.dw, user := descUser w.dw, head := w.head,
          irq := d.irq || descFlag w.dw fIrq }
      let s2 := s1.updChan c fun n =>
        { n with discard := some e, work := none, chain := if w.inChain && descFlag w.dw fEnd then none else n.chain }
      if descFlag w.dw fSceneEnd then s2.endDiscard c else s2

/-- The head passes an SQ entry, or the chain its entry (R259, R266, R331). -/
def State.passEntry (s : State) (c : ChanId) (w : Taken) : State :=
  if w.inChain then
    s.updChan c fun n => { n with chain := n.chain.map fun h =>
      { h with running := h.next, next := h.next + 64, ahead := h.ahead.filter fun e => e.1 != h.next } }
  else
    s.updSq (s.tenantOf c) (s.chan c).sq fun q =>
      { q with
        head := w.head, phase := q.phase ^^ decide (q.head.toNat + 1 = ringSize q.log2)
        retries := q.retries.filter fun r => r.index != q.head
        entries := q.entries.filter fun e => e.index != q.head }

/-- A channel takes an entry: the spin rule, then its check, or its consumption in a late scene (R334, R340). -/
def State.takeEntry (s : State) (c : ChanId) (w : Taken) : State :=
  let s1 := s.passEntry c w
  if w.inChain && decide (256 ≤ (s.chan c).spin) then
    (s1.updChan c fun n => { n with work := some w }).failPlain c 0x17 1
  else
    let s2 := if w.inChain then s1.updChan c fun n => { n with spin := n.spin + 1 } else s1
    match (s2.chan c).discard with
    | some d => s2.consume c w d
    | none => (s2.updChan c fun n => { n with work := some w }).checkStage c w

/-- A QUEUE channel may take its next entry now. -/
def State.readyToTake (s : State) (c : ChanId) : Bool :=
  let n := s.chan c
  decide (n.mode = .queue) && n.live && n.free && s.mayTakeEntry c && !(s.stopHolds c)

/-- A descriptor row: the channel takes its next entry when it is of the row's type, or of no assigned type; otherwise nothing happens. -/
def State.takeRow (s : State) (c : ChanId) (t : DescType) : State :=
  if s.readyToTake c then
    match s.nextEntry c with
    | none => s
    | some w => if descType w.dw = some t ∨ descType w.dw = none then (s.takeEntry c w).go [c] else s
  else s

/-- MOVE (R315, R340). -/
def execMove (c : ChanId) (s : State) : Result := .next (s.takeRow c .move)

/-- RUN_SCRIPT (R309). -/
def execRunScript (c : ChanId) (s : State) : Result := .next (s.takeRow c .runScript)

/-- FILL (R337). -/
def execFill (c : ChanId) (s : State) : Result := .next (s.takeRow c .fill)

/-- CUE (R338). -/
def execCue (c : ChanId) (s : State) : Result := .next (s.takeRow c .cue)

/-- CALL_CHAIN (R327). -/
def execCallChain (c : ChanId) (s : State) : Result := .next (s.takeRow c .callChain)

/-- LINK (R328). -/
def execLink (c : ChanId) (s : State) : Result := .next (s.takeRow c .link)

end Sys2Proof.Machine
end

