-- ==== Sys2Proof/Machine/Stagehand.lean ====
section
/-! DEFINITION. Stagehands: admission, beats, read bursts, write bursts, retries and the proof of arrival (chapters 11 and 12, R540). -/

namespace Sys2Proof.Machine

/-! ### Where a unit reads and writes next -/

/-- A stagehand is frozen by a handover (R576). -/
def State.shFrozen (s : State) (h : ShId) : Bool := s.health.handovers.any fun j => j.sh == h

/-- The handover of a stagehand holds its occupants: a curtain is applied at the switch, and no burst is issued before it (R576, R577). -/
def State.frozenUnit (s : State) (c : ChanId) : Bool := (s.chan c).slot.isSome && s.shFrozen (s.chan c).effective

/-- Address of the next destination byte, with the run of bytes planned from it (R321). -/
def State.nextWrite (s : State) (x : Xfer) : Option (Addr × Nat) :=
  let left := x.dstTotal - x.written
  if left = 0 then none
  else match x.dstEp with
  | some (e, run) => some (streamAddr x.dstInd x.dst e, min 16 (min left run))
  | none =>
    match sidePlace x.dstInd x.dstSide x.middle x.written 1 with
      | none => none
      | some (a, _) => sidePlace x.dstInd x.dstSide x.middle x.written (min left (s.burstLimit a true))

/-- Bytes of output that may be written now: those of released elements whose source bytes are in the slot (R437, R441, R517). -/
def State.outputReady (s : State) (c : ChanId) (x : Xfer) : Nat :=
  let k := x.outputFor (s.releasedUpTo c x) - x.written
  if x.pattern.isSome then k else min k x.dstBuf.length

/-- The next beat of an occupant: its bytes, or none. A profiled unit waits for a whole beat, but for the last bytes of a source table that ends early (R326, R437, R518). -/
def State.readyBeat (s : State) (c : ChanId) : Option Nat :=
  let n := s.chan c
  match n.xfer with
  | none => none
  | some x =>
    if n.slot.isNone ∨ n.held = true ∨ n.retries.isEmpty = false ∨ s.curtainDue c = true then none
    else
      let room := match x.burst with
        | some (_, bs, planned) => planned - bs.length
        | none => ((s.nextWrite x).map fun w => w.2).getD 0
      let m := min 16 (min room (s.outputReady c x))
      let short := (tableShort x.srcInd x.srcSide x.middle x.asked x.srcTotal).isSome && n.reads.isEmpty
      if m = 0 ∨ (x.profile ≠ 0 ∧ m < min 16 room ∧ short = false) then none else some m

/-! ### Admission (R431 to R436) -/

/-- A unit has a released element that is not yet written (R434). -/
def State.hasReleased (s : State) (c : ChanId) : Bool :=
  match (s.chan c).xfer with
  | some x => !x.done && decide (x.movedAt x.written < s.releasedUpTo c x)
  | none => false

/-- A channel is a candidate of a stagehand: its unit is eligible and holds no slot (R434). -/
def State.candidate (s : State) (h : ShId) (c : ChanId) : Bool :=
  let n := s.chan c
  decide (n.effective = h) && n.state != .unbound && n.slot.isNone && !n.held && n.retries.isEmpty && !(s.curtainDue c) &&
    s.hasReleased c

/-- A candidate qualifies by pre-emption. -/
def State.preempts (s : State) (occ : List ChanId) (c : ChanId) : Bool :=
  (s.chan c).lead && occ.all fun o => !(s.hasReleased o) || decide ((s.chan o).priority.toNat < (s.chan c).priority.toNat)

/-- A candidate qualifies by idle admission, the number of occupied slots aside. -/
def State.idles (s : State) (occ : List ChanId) (c : ChanId) : Bool :=
  (occ.all fun o => !(s.hasReleased o)) &&
    ((s.chan c).lead || occ.all fun o => (s.chan o).lead || decide ((s.chan o).priority.toNat < (s.chan c).priority.toNat))

/-- A candidate qualifies and a slot is free for it (R434). -/
def State.qualifies (s : State) (occ : List ChanId) (c : ChanId) : Bool :=
  decide (occ.length < 4) && (s.preempts occ c || (decide (occ.length ≤ 2) && s.idles occ c))

/-- A candidate waits because all slots are occupied, or because three are and it qualifies only by idle admission (R436). -/
def State.slotWaits (s : State) (c : ChanId) : Bool :=
  let h := (s.chan c).effective
  let occ := (s.sh.look h).occupants
  s.candidate h c &&
    ((decide (4 ≤ occ.length) && (s.preempts occ c || s.idles occ c)) ||
      (decide (occ.length = 3) && s.idles occ c && !(s.preempts occ c)))

/-- Distance of a channel from a round-robin pointer over the channels (R435). -/
def ringDistance (p c : ChanId) : Nat := (c.toNat + 96 - p.toNat) % 96

/-- The better of two qualifying candidates: the higher priority, then the first from the pointer (R435). -/
def State.betterCandidate (s : State) (h : ShId) (a b : ChanId) : Bool :=
  let pa := (s.chan a).priority
  let pb := (s.chan b).priority
  if pa = pb then decide (ringDistance ((s.sh.look h).pointers.look pa) a < ringDistance ((s.sh.look h).pointers.look pa) b)
  else decide (pb.toNat < pa.toNat)

/-- The first element of a list by an order. -/
def bestOf (better : ChanId → ChanId → Bool) : List ChanId → Option ChanId
  | [] => none
  | c :: l => match bestOf better l with
    | none => some c
    | some d => some (if better d c then d else c)

/-- The lowest-numbered free slot of a stagehand (R431). -/
def State.freeSlotOf (s : State) (occ : List ChanId) : BitVec 2 :=
  ((indices 2 4).find? fun i => !(occ.any fun o => (s.chan o).slot == some i)).getD 0

/-! ### Source reads (R319, R432, R437, R519) -/

/-- Lowest free tag of a port: 64 tags with extended tags, 32 without (R648). -/
def Port.freeTag (p : Port) : Option Byte :=
  (indices 8 (if bitAt (p.cfg.look cfgDevCtl) 8 then 64 else 32)).find? fun t => !(p.reads.any fun r => r.tag == t)

/-- Bytes that may be asked for next, by the slot's 2 KiB and by the rows of a reordering profile (R432, R519). -/
def Xfer.readRoom (x : Xfer) : Nat :=
  let room := 2048 - (x.asked - x.srcBytesOf (x.movedAt x.written))
  if reorderOf x.profCtrl ≠ 0 ∧ 1024 < x.rowSrc then
    let row := x.asked / x.rowSrc
    if x.written < row * x.rowDst then 0 else min room ((row + 1) * x.rowSrc - x.asked)
  else room

/-- The next source read of a unit: its address and its length. A stream that the map refuses is met at once (R724). -/
def State.nextRead (s : State) (c : ChanId) (x : Xfer) : Option (Addr × Nat) :=
  let left := min (x.srcTotal - x.asked) x.readRoom
  if left = 0 then none
  else match x.srcEp with
  | some (e, run) =>
    let a := streamAddr x.srcInd x.src e
    if (s.checkAccess (s.tenantOf c) a 1 false).isSome then some (a, min 64 (min left run))
    else
      let k := min (min 64 (min left run)) (min (x.srcBytesOf (s.releasedUpTo c x) - x.asked) (s.eps.look e).landed)
      if k = 0 then none else some (a, k)
  | none =>
    match sidePlace x.srcInd x.srcSide x.middle x.asked 1 with
    | none => none
    | some (a, _) => sidePlace x.srcInd x.srcSide x.middle x.asked (min left (s.burstLimit a false))

/-- A read of a channel leaves for its target; a port that sends nothing is a bus error (R44, R662). -/
def State.sendRead (s : State) (c : ChanId) (a : Addr) (len : Nat) (tag : Option Byte) : State :=
  match hostOf a, tag with
  | some p, some t =>
    if (s.port p).usable then
      (s.updPort p fun q => { q with reads := q.reads ++ [{ tag := t, chan := c, sent := s.tb.refclkCount, len := len, got := [] }] }).emit
        (.hostRead p (s.port p).requester t (busAddr a) len)
    else s.busFail c rRead a (s.chan c).unitBytes .linkDown
  | some _, none => s
  | none, _ => if tagOf a = 4 then s.lbQueue c false a [] len else s

/-- An element address keeps the tag of its base on a direct side (R316). -/
def keepsTag (ind : Option FragStream) (base a : Addr) : Bool := ind.isSome || tagOf a == tagOf base

/-- One source read burst of an occupant is issued where it needs one (R432, R437). -/
def State.issueRead (s : State) (c : ChanId) : State :=
  let n := s.chan c
  match n.xfer with
  | none => s
  | some x =>
    if x.pattern.isSome ∨ n.slot.isNone ∨ n.held = true ∨ n.retries.isEmpty = false ∨ s.curtainDue c = true then s
    else match s.nextRead c x with
      | none => s
      | some (a, len) =>
        match if keepsTag x.srcInd x.src a then s.checkAccess (s.tenantOf c) a len false else some 1 with
        | some k => s.failCheck c k a false false
        | none =>
          let tag := (hostOf a).bind fun p => (s.port p).freeTag
          if (hostOf a).isSome ∧ tag.isNone = true then s
          else
            let fifo := match x.srcEp with | some (e, _) => (s.eps.look e).fifo.take len | none => []
            let r : ReadReq :=
              { addr := a, len := len, taken := fifo.map fun b => b.byte, tag := tag,
                got := if fifo.any fun b => b.bad then some (.uncorrectable, []) else none }
            let s1 := s.updChan c fun n => { n with reads := n.reads ++ [r], xfer := some { x with asked := x.asked + len } }
            let s2 := match x.srcEp with | some (e, _) => s1.epTake e len | none => s1
            s2.sendRead c a len tag

/-- The order in which occupants are served: priority, then admission (R437). -/
def State.serveOrder (s : State) (l : List ChanId) : List ChanId :=
  (List.range 8).flatMap fun i => l.filter fun c => decide ((s.chan c).priority.toNat = 7 - i)

/-- The first occupant that can issue a read issues one (R437). -/
def State.issueFirst (s : State) : List ChanId → State
  | [] => s
  | c :: l =>
    let wants := match (s.chan c).xfer with
      | some x => x.pattern.isNone && (s.nextRead c x).any fun r => ((hostOf r.1).all fun p => (s.port p).freeTag.isSome)
      | none => false
    if wants && !(s.chan c).held && (s.chan c).retries.isEmpty && !(s.curtainDue c) then s.issueRead c else s.issueFirst l

/-- A channel is admitted: the lowest free slot, the profile latched and judged again (R431, R435, R504, R506). An odd inner count on a side that the new profile puts in P12 fails as the profile does (R313; DEDUCED, log entry 32). -/
def State.admitAct (s : State) (h : ShId) (c : ChanId) : State :=
  let n := s.chan c
  let slot := s.freeSlotOf (s.sh.look h).occupants
  let enter (g : Stagehand) : Stagehand :=
    { g with occupants := g.occupants ++ [c], pointers := g.pointers.put n.priority (BitVec.ofNat 7 ((c.toNat + 1) % 96)) }
  let s1 : State := { s with sh := s.sh.upd h enter }
  match n.xfer with
  | none => s
  | some x =>
    let prof := if x.stamp then (0, 0) else s.profile (s.tenantOf c) x.profile.toNat
    let y := { x with profCtrl := prof.1, profMute := prof.2 }
    let s2 := s1.updChan c fun n => { n with slot := some slot, xfer := some y }
    if y.profile ≠ 0 ∧ (profileOk y.profCtrl y.profMute y.element y.inner && !(p12Odd y.profCtrl y.element y.inner)) = false then (s2.failPlain c 0x09 2).go [c]
    else s2.go [c]

/-- ADMISSION (R434, R435). -/
def execAdmission (h : ShId) (s : State) : Result :=
  let occ := (s.sh.look h).occupants
  if !s.dataOn || s.shFrozen h then .next s
  else match bestOf (s.betterCandidate h) (allChans.filter fun c => s.candidate h c && s.qualifies occ c) with
    | none => .next s
    | some c => .next (s.admitAct h c)

/-! ### Beats (R437, R438) -/

/-- Places reserved in a stream FIFO by a write burst; they count for the period of a port's TX endpoint (R441, R729). -/
def State.reservePlaces (s : State) (c : ChanId) (e : EpId) (bs : List Byte) : State :=
  let tx := decide (field (s.epCfg e) 3 2 ≠ 0) && bitAt (s.epCfg e) 1
  let places : List StreamByte := bs.map fun b => { byte := b, stamp := s.now, landed := false, owner := some c }
  (s.epAppend e places).updEp e fun p => { p with appended := if tx then p.appended + bs.length else p.appended }

/-- Pacing credits are used by elements moved (R440). -/
def Chan.spend (n : Chan) (x : Xfer) (k : Nat) : Chan :=
  if x.stamp ∨ n.paceSrc = 0 ∨ n.paceSrc = 1 ∨ n.paceSrc = 5 then n else { n with released := n.released - k }

/-- A beat of `m` bytes is written into a burst at an address, of a planned length. -/
def State.writeBeat (s : State) (c : ChanId) (x : Xfer) (m : Nat) (a : Addr) (bs : List Byte) (planned : Nat) : State :=
  let out := match x.pattern with
    | some w => patternBytes w (2 ^ x.element) x.written m
    | none => x.dstBuf.take m
  let last := (x.lastBytes ++ out).drop ((x.lastBytes ++ out).length - 8)
  let y := { x with
    dstBuf := if x.pattern.isSome then [] else x.dstBuf.drop m
    written := x.written + m
    lastBytes := last
    burst := some (a, bs ++ out, planned)
    moved := x.movedAt (x.written + m) }
  let active (n : Chan) : Bool := decide (n.mode = .shadow) && n.shadow.moving.isNone
  let s1 := s.updChan c fun n =>
    { n.spend x (y.moved - x.moved) with
      xfer := some y, spin := 0
      shadow := if active n then { n.shadow with current := n.shadow.current + BitVec.ofNat 32 m } else n.shadow }
  let s2 := match x.dstEp with | some (e, _) => s1.reservePlaces c e out | none => s1
  let s3 := if y.done || x.dstEp.isSome || decide (planned ≤ bs.length + m) then s2.closeBurst c else s2
  if y.done then s3.freeSlot c else s3

/-- The beat of the winning occupant; a burst that begins is checked whole (R316, R437, R959). Its check at the first beat is the one of R41: a burst counts as issued from its first beat, and a commit closes the bursts being formed (DEDUCED, log entry 50). -/
def State.beatOf (s : State) (c : ChanId) (m : Nat) : State :=
  match (s.chan c).xfer with
  | none => s
  | some x =>
    match x.burst with
    | some (a, bs, planned) => s.writeBeat c x m a bs planned
    | none =>
      match s.nextWrite x with
      | none => s
      | some (a, planned) =>
        match if x.dstEp.isSome || keepsTag x.dstInd x.dst a then s.checkAccess (s.tenantOf c) a planned true else some 1 with
        | some k => s.failCheck c k a true false
        | none => s.writeBeat c (if x.stampNow && decide (x.written = 0) then { x with pattern := some s.coreEdge } else x) m a [] planned

/-- The burst of the occupant that wrote before is closed when another writes (R438). -/
def State.passBeat (s : State) (h : ShId) (c : ChanId) : State :=
  let s1 := match (s.sh.look h).writing with
    | some o => if o = c then s else (s.closeBurst o).go [o]
    | none => s
  { s1 with sh := s1.sh.upd h fun g => { g with writing := some c } }

/-- The occupant that writes the next beat, with its bytes (R437). -/
def State.beatWinner (s : State) (h : ShId) : Option (ChanId × Nat) :=
  ((s.serveOrder (s.sh.look h).occupants).filterMap fun c => (s.readyBeat c).map fun m => (c, m)).head?

/-- No occupant has a ready beat: the one that has been writing has lost the beat, and its burst closes (R438, DEDUCED). -/
def State.idleBeat (s : State) (h : ShId) : State :=
  match (s.sh.look h).writing with
  | some o => (s.closeBurst o).go [o]
  | none => s

/-- BEAT (R437, R438): one beat of the winning occupant, and one source read burst. -/
def execBeat (h : ShId) (s : State) : Result :=
  if !s.dataOn || s.shFrozen h then .next s
  else
    let s1 := match s.beatWinner h with
      | none => s.idleBeat h
      | some (c, m) => ((((s.wakeBy 5).passBeat h c).beatOf c m).go [c])
    let occ := (s1.sh.look h).occupants
    .next ((s1.issueFirst (s1.serveOrder occ)).go occ)

/-! ### Source data (R432, R471, R531, R663) -/

/-- A burst of the channel waits for its next retry. -/
def Chan.retryWaits (n : Chan) (what : BitVec 2) (a : Addr) : Bool :=
  n.retries.any fun r => r.what == what && r.addr == a && r.waiting

/-- The data of the oldest read enters the slot and passes the reshuffle unit. -/
def State.landRead (s : State) (c : ChanId) (r : ReadReq) (x : Xfer) (data : List Byte) : State :=
  let y := { x with srcBuf := x.srcBuf ++ data }
  (s.updChan c fun n => { n with reads := n.reads.drop 1, xfer := some (Xfer.convert (y.srcBuf.length + 1) y) }).retryDone c rRead r.addr

/-- A read of the part's own memory, judged by its code. -/
def State.readOwn (s : State) (c : ChanId) (r : ReadReq) (x : Xfer) (ecc : Ecc) : State :=
  match s.load r.addr r.len ecc c.toNat true with
  | (s1, some k) => s1.failData c rRead r.addr x.written k
  | (s1, none) => s1.landRead c r x (s1.peek r.addr r.len)

/-- A read that left the part has ended. -/
def State.readEnded (s : State) (c : ChanId) (r : ReadReq) (x : Xfer) (ended : Ended) (bytes : List Byte) : State :=
  match ended with
  | .failed k => (s.updChan c fun n => { n with reads := n.reads.modifyHead fun q => { q with got := none } }).busFail c rRead r.addr x.written k
  | .uncorrectable => s.failData c rRead r.addr x.written 6
  | .poisoned => s.failData c rRead r.addr x.written 7
  | .good => if bytes.length = r.len then s.landRead c r x bytes else s

/-- A port forgets a request. -/
def State.dropPortRead (s : State) (a : Addr) (tag : Option Byte) : State :=
  match hostOf a, tag with
  | some p, some t => s.updPort p fun q => { q with reads := q.reads.filter fun r => r.tag != t }
  | _, _ => s

/-- A read of a stream endpoint, whose bytes were taken at issue (R441, R532, R542). -/
def State.readStream (s : State) (c : ChanId) (r : ReadReq) (x : Xfer) (ecc : Ecc) : State :=
  let e := epOf r.addr
  let later := ((s.chan c).reads.map fun q => if tagOf q.addr = 5 ∧ epOf q.addr = e then q.taken.length else 0).sum
  let off := s.fifoOffset e ((s.eps.look e).index - later)
  if r.got.isSome then (s.fifoBad off c.toNat).failData c rRead r.addr x.written 6
  else
    let s1 := s.fifoCheck off ecc c.toNat
    if judgeByte (eccAt ecc true (off / 8)) = .bad then s1.failData c rRead r.addr x.written 6 else s1.landRead c r x r.taken

/-- The oldest read of a channel returns. -/
def State.readReturn (s : State) (c : ChanId) (ended : Ended) (bytes : List Byte) (ecc : Ecc) : State :=
  let n := s.chan c
  match n.reads, n.xfer with
  | r :: _, some x =>
    if n.retryWaits rRead r.addr then s
    else if tagOf r.addr = 5 then s.readStream c r x ecc
    else if isInternal r.addr then s.readOwn c r x ecc
    else match r.got with
      | some (e, bs) => s.readEnded c r x e bs
      | none => if tagOf r.addr = 4 then s else (s.dropPortRead r.addr r.tag).readEnded c r x ended bytes
  | _, _ => s

/-- The oldest read of a channel has failed on its bus (R471). -/
def State.failOldest (s : State) (c : ChanId) : State :=
  match (s.chan c).reads.head? with
  | none => s
  | some r =>
    match r.got with
    | none => s
    | some (.good, _) => s
    | some _ => if tagOf r.addr = 5 then s else s.readReturn c .good [] .clean

/-- READ_DATA_RETURN (R432, R471, R531). -/
def execReadDataReturn (c : ChanId) (ended : Ended) (bytes : List Byte) (ecc : Ecc) (s : State) : Result :=
  .next (((s.readReturn c ended bytes ecc).failOldest c).go [c])

/-! ### Writes that land (R38, R475, R481, R540) -/

/-- A target with the last address written on it and not yet proven. -/
def State.markUnproven (s : State) (c : ChanId) (w : WriteReq) : State :=
  match s.proofTarget w.addr with
  | none => s
  | some t =>
    s.updChan c fun n => { n with
      unproven := (t, w.addr + BitVec.ofNat 64 (w.bytes.length - 1)) :: n.unproven.filter fun p => p.1 != t }

/-- A write burst of a channel has landed. -/
def State.writeLanded (s : State) (c : ChanId) (w : WriteReq) : State :=
  ((s.updChan c fun n => n.without w).markUnproven c w).retryDone c rWrite w.addr

/-- The write burst of a channel that may complete next: the oldest, or the oldest on a target (R481). Those on the local bus end by their beats. -/
def State.nextLanding (s : State) (c : ChanId) (land : LandAt) : Option WriteReq :=
  (s.chan c).writes.find? fun w => tagOf w.addr ≠ 4 && match land with
    | .oldest => true
    | .target t => s.proofTarget w.addr == some t
    | .stream => tagOf w.addr == 5

/-- A write burst of a channel completes at its target. -/
def State.writeDone (s : State) (c : ChanId) (land : LandAt) (ended : Ended) (ecc : Ecc) : State :=
  match s.nextLanding c land with
  | none => s
  | some w =>
    if w.stand ≠ .out ∨ (s.chan c).stuck w = true then s
    else match hostOf w.addr with
      | some p =>
        if (s.port p).usable then
          (match ended with
            | .failed k => s.writeBusFail c w k
            | _ => s.writeLanded c w)
        else s.writeBusFail c w .linkDown
      | none =>
        if tagOf w.addr = 5 then
          (s.updEp (epOf w.addr) fun p => { p with fifo := landPlaces c w.bytes.length p.fifo }).writeLanded c w
        else match s.store w.addr w.bytes ecc c.toNat with
          | (s1, none) => s1.writeLanded c w
          | (s1, some k) => (s1.dropFrom c w).failData c rWrite w.addr w.before k

/-! ### Completion writes that land (R38, R279, R285) -/

/-- The completion writes that wait behind one of their CQ are issued as it goes, each in its turn (R279). -/
def State.issueNext : Nat → State → State
  | 0, s => s
  | k + 1, s =>
    let free (w : CplWrite) : Bool := !w.sent && w.retryAt.isNone &&
      ((s.cplWrites.find? fun x => x.tenant == w.tenant && x.cq == w.cq && !x.sent) = some w)
    match findIdx free s.cplWrites with
    | none => s
    | some (i, w) =>
      match s.issueCpl w with
      | (s1, some w1) => State.issueNext k { s1 with cplWrites := s1.cplWrites.modify i fun _ => w1 }
      | (s1, none) => State.issueNext k { s1 with cplWrites := s1.cplWrites.filter fun x => x != w }

/-- A completion write leaves the list, and those behind it are issued. -/
def State.cplLeaves (s : State) (w : CplWrite) : State :=
  let s1 : State := { s with cplWrites := s.cplWrites.filter fun x => x != w }
  s1.issueNext s1.cplWrites.length

/-- A completion write has failed on its bus: it keeps its place for its retry, or its CQ faults. -/
def State.cplBusError (s : State) (w : CplWrite) : State :=
  match s.cplFails w with
  | (s1, some w1) => { s1 with cplWrites := s1.cplWrites.map fun x => if x = w then w1 else x }
  | (s1, none) => s1

/-- The completion write that may be accepted next, at a target or anywhere (R481). -/
def State.cplLanding (s : State) (land : LandAt) : Option CplWrite :=
  s.cplWrites.find? fun w => w.sent && match land with
    | .oldest => true
    | .target t => s.proofTarget w.addr == some t
    | .stream => false

/-- A completion write is accepted, or fails after its retries and faults its CQ (R279, R289, R474). -/
def State.completionDone (s : State) (land : LandAt) (ended : Ended) (ecc : Ecc) : State :=
  match s.cplLanding land with
  | none => s
  | some w =>
    match hostOf w.addr with
    | some p =>
      if (s.port p).usable then
        (match ended with
          | .failed _ => s.cplBusError w
          | _ => (s.sendVectors w.tenant w.vectors).cplLeaves w)
      else s.cplBusError w
    | none =>
      match s.store w.addr w.bytes ecc srcQueue with
      | (s1, none) => (s1.sendVectors w.tenant w.vectors).cplLeaves w
      | (s1, some _) => s1.faultCq w.tenant w.cq 11

/-- The retries of the completion writes of a channel, or of an admin queue, that are due: each is judged under the map in force and issued again (R215, R474, log entry 51). -/
def State.retryCpls (s : State) (c : ChanId) : State :=
  let mine := s.cplWrites.filter fun w => (w.chan == some c || w.chan.isNone) && (w.retryAt.any fun t => due t s.coreEdge)
  s.forAll mine fun w s =>
    match s.checkAccess w.tenant w.addr 16 true with
    | some _ => s.faultCq w.tenant w.cq 10
    | none =>
      match s.issueCpl w with
      | (s1, some w1) => { s1 with cplWrites := s1.cplWrites.map fun x => if x = w then w1 else x }
      | (s1, none) => s1.cplLeaves w

/-- WRITE_BURST_COMPLETE (R38, R481, R540). -/
def execWriteBurstComplete (k : WriteKind) (ended : Ended) (ecc : Ecc) (s : State) : Result :=
  match k with
  | .channel c land => .next ((s.writeDone c land ended ecc).go [c])
  | .completion land => .next ((s.completionDone land ended ecc).go allChans)

/-! ### Retries (R472, R473) -/

/-- A retry that is due. -/
def State.dueRetry (s : State) (c : ChanId) : Option Retry :=
  (s.chan c).retries.find? fun r => r.waiting && due r.time s.coreEdge

/-- The retry is issued. -/
def State.retryIssued (s : State) (c : ChanId) (r : Retry) : State :=
  s.updChan c fun n => { n with retries := n.retries.map fun q => if q = r then { q with waiting := false } else q }

/-- The burst of a retry is judged again and reissued whole (R215, R472). -/
def State.reissue (s : State) (c : ChanId) (r : Retry) : State :=
  let n := s.chan c
  let t := s.tenantOf c
  if r.what = rRead then
    match n.reads with
    | [] => s
    | q :: _ =>
      match s.checkAccess t q.addr q.len false with
      | some k => s.failCheck c k q.addr false false
      | none =>
        let tag := (hostOf q.addr).bind fun p => (s.port p).freeTag
        ((s.dropPortRead q.addr q.tag).updChan c fun n => { n with reads := n.reads.modifyHead fun q => { q with tag := tag } }).sendRead
          c q.addr q.len tag
  else if r.what = rWrite then
    match n.writes.find? fun w => w.addr == r.addr with
    | none => s
    | some w =>
      match s.checkAccess t w.addr w.bytes.length true with
      | some k => (s.dropFrom c w).failWork c { status := 0x18, detail := faultDetail k true false, addr := some w.addr, bytes := w.before }
      | none => s.sendWrite c w
  else if r.what = rFetch then
    match n.fetch with
    | some (a, k) =>
      (match s.checkAccess t a k.size false with
        | some e => s.failCheck c e a false true
        | none => s.sendFetch c a k)
    | none => s
  else match n.proving.find? fun p => p.2 == r.addr with
    | some p => s.askProof c p.1 p.2
    | none => s

/-- RETRY (R472): the burst of a channel whose backoff is over, and completion writes of its queue (R474). A data burst is not issued at or past its curtain (R474), nor while a handover holds its stagehand (R576). -/
def execRetry (c : ChanId) (s : State) : Result :=
  let s1 := s.retryCpls c
  match s1.dueRetry c with
  | some r =>
    if s1.dataOn && !((s1.curtainDue c || s1.frozenUnit c) && (r.what == rRead || r.what == rWrite)) then
      .next (((s1.retryIssued c r).reissue c r).go allChans)
    else .next (s1.go allChans)
  | none => .next (s1.go allChans)

/-! ### Proof of arrival and VERIFY (R475 to R480) -/

/-- Bits of the compared bytes on a target that differ from what was written last at their addresses (R479). -/
def State.mismatch (s : State) (x : Xfer) (t : ProofTarget) (bytes : List Byte) : Nat :=
  let l := x.lastPlaces
  ((List.range l.length).map fun j =>
    let a := (nth l j (0, 0)).1
    let want := ((l.filter fun p => p.1 == a).getLast?.map fun p => p.2).getD 0
    let got := if isInternal a then nth (s.peek a 1) 0 0 else nth bytes j 0
    if s.proofTarget a = some t ∧ got ≠ want then 2 ^ j else 0).sum

/-- The first compared byte that differs. -/
def Xfer.mismatchAddr (x : Xfer) (mask : Nat) : Option Addr :=
  ((List.range 8).find? fun j => mask.testBit j).bind fun j => (x.lastPlaces[j]?).map fun p => p.1

/-- A target leaves the proof in progress. -/
def State.proven (s : State) (c : ChanId) (t : ProofTarget) : State :=
  s.updChan c fun n => { n with proving := n.proving.filter fun p => p.1 != t }

/-- The oldest ended set leaves without its end-of-set steps: it has failed (R420). -/
def State.dropFailedSet (s : State) (c : ChanId) : State :=
  if (s.chan c).after = some .endSet then
    s.updChan c fun n => { n with shadow := { n.shadow with ending := n.shadow.ending.drop 1 } }
  else s

/-- Destination bytes of the unit whose proof is in progress. -/
def Chan.proofBytes (n : Chan) : Nat :=
  if n.after = some .endSet then ((n.shadow.ending.head?.map fun e => e.x.written).getD 0) else n.unitBytes

/-- A proof read comes back good. -/
def State.proofGood (s : State) (c : ChanId) (t : ProofTarget) (a : Addr) (bytes : List Byte) : State :=
  let n := s.chan c
  let mask := match n.verified with | some x => s.mismatch x t bytes | none => 0
  if mask = 0 then (s.proven c t).retryDone c rProof a
  else
    (s.dropFailedSet c).failWork c
      { status := 0x19, detail := BitVec.ofNat 32 mask, addr := n.verified.bind fun x => x.mismatchAddr mask, bytes := n.proofBytes }

/-- A proof read fails: it is retried, or marked on the error path and in a reset (R465, R468, R480). -/
def State.proofBad (s : State) (c : ChanId) (t : ProofTarget) (a : Addr) (bus : Option BusCause) (cause : Nat) : State :=
  let n := s.chan c
  match n.after with
  | some (.fail _) => (s.proven c t).updChan c fun n => { n with proofFailed := true }
  | some (.reset _) => (s.proven c t).updChan c fun n => { n with unprovenMask := n.unprovenMask ||| (1 <<< proofBit t) }
  | _ =>
    match bus with
    | some k =>
      let s1 := if n.retried rProof a < n.retryLimit.toNat then s else s.dropFailedSet c
      s1.busFail c rProof a n.proofBytes k
    | none => (s.dropFailedSet c).failData c rProof a n.proofBytes cause

/-- The internal reads of a proof: the aligned word of the last address, and with VERIFY every word that holds a compared byte on the target (R477, R479). -/
def State.proofLoad (s : State) (c : ChanId) (t : ProofTarget) (a : Addr) (ecc : Ecc) : State × Option Nat :=
  let word (x : Addr) : Addr := x &&& ~~~(7 : Word)
  let others := ((((s.chan c).compared.filter fun p => s.proofTarget p.1 == some t).map fun p => word p.1).filter fun x => x != word a).eraseDups
  others.foldl (fun r x => match r.2 with
    | some k => (r.1, some k)
    | none => r.1.load x 8 .clean c.toNat true) (s.load (word a) 8 ecc c.toNat true)

/-- A read-back of a channel returns. -/
def State.proofReturn (s : State) (c : ChanId) (target : Option ProofTarget) (ended : Ended) (bytes : List Byte) (ecc : Ecc) : State :=
  let n := s.chan c
  let hit := match target with
    | some t => n.proving.find? fun p => p.1 == t
    | none => n.proving.head?
  match n.proofOn, hit with
  | true, some (t, a) =>
    if n.retryWaits rProof a then s
    else if isInternal a then
      (match s.proofLoad c t a ecc with
        | (s1, some k) => s1.proofBad c t a none k
        | (s1, none) => s1.proofGood c t a bytes)
    else
      let down := match hostOf a with | some p => !(s.port p).usable | none => false
      if down then s.proofBad c t a (some .linkDown) 0
      else match ended with
        | .good => s.proofGood c t a bytes
        | .failed k => s.proofBad c t a (some k) 0
        | .uncorrectable => s.proofBad c t a none 6
        | .poisoned => s.proofBad c t a none 7
  | _, _ => s

/-- WRITE_ARRIVAL_READBACK (R475 to R480). -/
def execWriteArrivalReadback (c : ChanId) (target : Option ProofTarget) (ended : Ended) (bytes : List Byte) (ecc : Ecc) (s : State) : Result :=
  .next ((s.proofReturn c target ended bytes ecc).go [c])

/-- 1.5 ms in ticks (R465). -/
def resetProofLimit : Nat := 57600000

/-- RESET_PROOF_TIMEOUT (R465): targets still to be proven, or with writes still out, are reported unproven, and completion writes still out are given up (R466; log entry 58). -/
def execResetProofTimeout (c : ChanId) (s : State) : Result :=
  let n := s.chan c
  match n.after with
  | some (.reset t0) =>
    if due (t0 + BitVec.ofNat 64 resetProofLimit) s.coreEdge then
      let out := (n.proving.map fun p => p.1) ++ (n.unproven.map fun p => p.1) ++ n.writes.filterMap fun w => s.proofTarget w.addr
      let mask := out.foldl (fun m t => m ||| (1 <<< proofBit t : BitVec 6)) n.unprovenMask
      .next ((s.updChan c fun n => { n with proving := [], unproven := [], writes := [], unprovenMask := mask }).go [c])
    else .next s
  | some (.resetWrites t0 _) =>
    if due (t0 + BitVec.ofNat 64 resetProofLimit) s.coreEdge then
      .next (({ s with cplWrites := s.cplWrites.filter fun w => w.chan != some c } : State).go [c])
    else .next s
  | _ => .next s

end Sys2Proof.Machine
end

