-- ==== Sys2Proof/Machine/Fetch.lean ====
section
/-! DEFINITION. What a fetch brings: chain entries, table entries and instruction blocks, and the read-ahead that the part may make (R322 to R330, R342, R357, R358). -/

namespace Sys2Proof.Machine

/-- How a fetch ended: its bytes, a bus error, or data that is uncorrectable or poisoned, by its CAUSE. -/
inductive Fetched where
  | data (bs : List Byte)
  | bus (k : BusCause)
  | bad (cause : Nat)
  deriving DecidableEq, Repr

/-- A read of ring, chain, table or script memory as its target answers it. -/
def State.fetchedBy (s : State) (source : Nat) (a : Addr) (len : Nat) (ended : Ended) (bytes : List Byte) (ecc : Ecc) (report : Bool) :
    State × Fetched :=
  if isInternal a then
    match s.load a len ecc source report with
    | (s1, some k) => (s1, .bad k)
    | (s1, none) => (s1, .data (s1.peek a len))
  else
    let down := match hostOf a with | some p => !(s.port p).usable | none => false
    if down then (s, .bus .linkDown)
    else match ended with
      | .good => (s, .data ((bytes ++ List.replicate (len - bytes.length) 0).take len))
      | .failed k => (s, .bus k)
      | .uncorrectable => (s, .bad 6)
      | .poisoned => (s, .bad 7)

/-- A fetch of a channel as its target answers it. -/
def State.fetched (s : State) (c : ChanId) (a : Addr) (len : Nat) (ended : Ended) (bytes : List Byte) (ecc : Ecc) (report : Bool) :
    State × Fetched :=
  s.fetchedBy c.toNat a len ended bytes ecc report

/-- The sixteen dwords of 64 bytes. -/
def descOf (bs : List Byte) : Desc := Vector.ofFn fun i => dwordAt bs i.val

/-- Detail of an entry of a fragment table that breaks its rules (R340, R325). -/
def tableDetail (off : Nat) (dst : Bool) (entry : Nat) : Nat := off + 256 + 512 * flag dst + 65536 * entry

/-- The check stage goes on after the walk of one side (R325). -/
def State.walkOver (s : State) (c : ChanId) (w : Walk) (entry : Nat) : State :=
  let n := s.chan c
  match n.work with
  | none => s
  | some d =>
    let x := descXfer d.dw (s.profile (s.tenantOf c) (field (packetDw d.dw 0) 23 16))
    let side := if w.dstSide then x.dstSide else x.srcSide
    if w.sum < side.extent x.inner x.middle x.outer then s.failPlain c 0x09 (tableDetail 8 w.dstSide entry)
    else
      let s1 := s.updChan c fun n => { n with walk := none }
      if w.dstSide then s1.passGate c d else s1.checkTables c d true

/-- One entry of the walk of the check stage (R322 to R325, R339). -/
def State.walkEntry (s : State) (c : ChanId) (w : Walk) (bs : List Byte) : State :=
  let e := fragEntry bs
  let verify := w.dstSide && (s.chan c).workFlag fVerify
  match least (s.entryOffsets e verify) with
  | some off => s.failPlain c 0x09 (tableDetail off w.dstSide w.count)
  | none =>
    let next : Walk := { w with count := w.count + 1, sum := if e.link then w.sum else w.sum + e.len, next := if e.link then e.addr else w.next + 16 }
    if e.last then s.walkOver c next w.count
    else if 4096 ≤ next.count then s.failPlain c 0x09 (tableDetail 0 w.dstSide 0xFFFF)
    else s.updChan c fun n => { n with walk := some next }

/-- One entry read again during the move (R326): an entry that breaks the rules, or one beyond 4,096, ends the stream. -/
def FragStream.take (t : FragStream) (s : State) (bs : List Byte) : FragStream :=
  let e := fragEntry bs
  if !(s.entryOffsets e false).isEmpty then { t with count := t.count + 1, ended := true }
  else
    let f : List Fragment := if e.link then [] else [{ addr := e.addr, len := e.len }]
    let next := if e.link then e.addr else if e.last then t.next else t.next + 16
    { t with frags := t.frags ++ f, count := t.count + 1, ended := e.last || decide (4096 ≤ t.count + 1), next := next }

/-- The fetch that a channel waits for has brought its bytes. -/
def State.fetchArrived (s : State) (c : ChanId) (a : Addr) (k : FetchFor) (bs : List Byte) : State :=
  let n := s.chan c
  match k with
  | .chain => s.updChan c fun n => { n with chain := n.chain.map fun h => { h with ahead := h.ahead ++ [(a, descOf bs)] } }
  | .block => s.updScript c fun p => { p with blocks := p.blocks ++ [(a, bs)] }
  | .table => (match n.walk with | some w => s.walkEntry c w bs | none => s)
  | .srcTable => s.updChan c fun n => { n with xfer := n.xfer.map fun x => { x with srcInd := x.srcInd.map fun t => t.take s bs } }
  | .dstTable => s.updChan c fun n => { n with xfer := n.xfer.map fun x => { x with dstInd := x.dstInd.map fun t => t.take s bs } }

/-- The fetch that a channel waits for returns or fails (R342, R343). -/
def State.fetchReturn (s : State) (c : ChanId) (a : Addr) (k : FetchFor) (ended : Ended) (bytes : List Byte) (ecc : Ecc) : State :=
  if (s.chan c).retryWaits rFetch a then s
  else match s.fetched c a k.size ended bytes ecc true with
    | (s1, .data bs) => ((s1.updChan c fun n => { n with fetch := none }).retryDone c rFetch a).fetchArrived c a k bs
    | (s1, .bus b) => s1.busFail c rFetch a (s1.chan c).unitBytes b
    | (s1, .bad cause) => s1.failData c rFetch a (s1.chan c).unitBytes cause

/-- An entry that nothing may be read past: END, or a LINK (R330). -/
def stopsReadAhead (d : Desc) : Bool := descFlag d fEnd || decide (descType d = some .link)

/-- Address of the chain entry that may be read ahead (R330). -/
def Chan.chainAhead (n : Chan) : Option Addr :=
  match n.chain with
  | none => none
  | some h =>
    let running : Bool := match n.work with | some w => w.inChain && stopsReadAhead w.dw | none => true
    if running = true ∨ 2 ≤ h.ahead.length ∨ (h.ahead.any fun e => stopsReadAhead e.2) = true then none
    else some (h.next + BitVec.ofNat 64 (64 * h.ahead.length))

/-- The block after that of PC, which the fetcher reads ahead (R358). -/
def Chan.blockAhead (n : Chan) : Option Addr :=
  let b := blockOf n.script.addr
  if n.script.running && n.script.held.isSome && !(n.script.blocks.any fun x => x.1 == b + 256) then some (b + 256) else none

/-- A read-ahead returns; one that fails is discarded unreported (R330, R358). -/
def State.readAhead (s : State) (c : ChanId) (a : Addr) (k : FetchFor) (ended : Ended) (bytes : List Byte) (ecc : Ecc) : State :=
  if 4 < tagOf a ∨ (s.checkAccess (s.tenantOf c) a k.size false).isSome = true then s
  else match s.fetched c a k.size ended bytes ecc false with
    | (s1, .data bs) => s1.fetchArrived c a k bs
    | (s1, _) => s1

/-- FETCH_RETURN (R330, R342, R357, R358). -/
def execFetchReturn (c : ChanId) (ended : Ended) (bytes : List Byte) (ecc : Ecc) (s : State) : Result :=
  let n := s.chan c
  match n.fetch with
  | some (a, k) => .next ((s.fetchReturn c a k ended bytes ecc).go [c])
  | none =>
    if !s.dataOn || !n.live || n.after.isSome then .next s
    else match n.blockAhead, n.chainAhead with
      | some a, _ => .next (s.readAhead c a .block ended bytes ecc)
      | none, some a => .next (s.readAhead c a .chain ended bytes ecc)
      | none, none => .next s

end Sys2Proof.Machine
end

