-- ==== Sys2Proof/Machine/Scripts.lean ====
section
/-! DEFINITION. Script instructions, one row each, and the ends of their timed waits (chapter 09). -/

namespace Sys2Proof.Machine

/-! ### Beginning an instruction (R359 to R361, R397) -/

/-- The instructions that run on past a curtain (R390). -/
def runsOn : ScriptOp → Bool
  | .nop => true
  | .seta => true
  | .adda => true
  | .setk => true
  | .addk => true
  | .loop => true
  | .branch => true
  | _ => false

/-- The instructions that the spin rule lets begin (R397). -/
def restsSpin : ScriptOp → Bool
  | .move => true
  | .move3 => true
  | .waitCue => true
  | .waitt => true
  | _ => false

/-- A script may begin its next instruction, a curtain aside. -/
def State.scriptReady (s : State) (c : ChanId) : Bool :=
  let n := s.chan c
  s.dataOn && n.script.running && n.state == .running && n.after.isNone && n.wait.isNone && n.xfer.isNone && n.fetch.isNone &&
    n.retries.isEmpty && !n.haltDue && !(decide (n.mode = .script) && n.stopPending)

/-- A curtain that has fallen holds an instruction back (R108, R110, R390). -/
def State.curtainHolds (s : State) (c : ChanId) (op : Option ScriptOp) : Bool :=
  s.curtainDue c && !(decide ((s.chan c).mode = .script) && match op with | some o => runsOn o | none => false)

/-- What an instruction finds when it is judged: offsets of fields that break their rules, a cue it names, an endpoint it names. -/
structure InsnCheck where
  offsets : List Nat := []
  cue : Option CueId := none
  ep : Option EpId := none

/-- The judgement of an instruction: the first failure, as status and detail (R361). -/
def State.judgeInsn (s : State) (c : ChanId) (i : Insn) (op : ScriptOp) (k : InsnCheck) : Option (Byte × Nat) :=
  let r := s.record (s.tenantOf c)
  match least (i.reserved op ++ k.offsets) with
  | some off => some (0x09, off)
  | none =>
    if (k.cue.map fun q => r.holdsCue q.toNat) = some false then some (0x18, 8)
    else if (k.ep.map fun e => bitAt r.endpoints e.toNat) = some false then some (0x18, 5)
    else none

/-- The spin count rises with an instruction that is executed (R397). -/
def State.countSpin (s : State) (c : ChanId) : State := s.updScript c fun p => { p with spin := p.spin + 1 }

/-- A script row: the instruction at PC, where it is of the row's kind, is judged and executed; one of no assigned kind fails in any row; otherwise nothing happens. -/
def State.scriptRow (s : State) (c : ChanId) (op : ScriptOp) (check : Chan → Insn → InsnCheck) (run : Insn → State → State) : State :=
  if !(s.scriptReady c) then s
  else match (s.chan c).script.held with
    | none => s
    | some i =>
      let found := scriptOp i.d0
      if (found ≠ some op ∧ found.isSome = true) ∨ s.curtainHolds c found = true then s
      else if 65536 ≤ (s.chan c).script.spin ∧ (found.map restsSpin).getD false = false then
        (s.failPlain c 0x17 (3 + 65536 * (s.chan c).script.pc.toNat)).go [c]
      else if found.isNone then (s.failPlain c 0x08 0).go [c]
      else match s.judgeInsn c i op (check (s.chan c) i) with
        | some (status, detail) => (s.failPlain c status detail).go [c]
        | none => (run i s).go [c]

/-- A register field of an instruction. -/
def regAt (d : Dword) (lo : Nat) : BitVec 2 := BitVec.ofNat 2 (field d (lo + 1) lo)

/-- An instruction that only changes registers: its change, then the next instruction. -/
def State.regInsn (s : State) (c : ChanId) (f : Script → Script) : State := ((s.updScript c f).countSpin c).nextPc c

/-- A branch to an instruction. -/
def State.branchTo (s : State) (c : ChanId) (target : Nat) : State := (s.updScript c fun p => p.goto target).countSpin c

/-! ### Moves (R363 to R367) -/

/-- The profile that a script move names. -/
def State.insnProfile (s : State) (c : ChanId) (i : Insn) : Word × Word := s.profile (s.tenantOf c) (field i.d0 21 16)

/-- SCRIPT_MOVE (R363). -/
def execScriptMove (c : ChanId) (s : State) : Result :=
  .next (s.scriptRow c .move
    (fun n i => { offsets := (scriptMoveXfer n.script i (s.insnProfile c i)).scriptOffsets i .move })
    (fun i s => s.startUnit c (scriptMoveXfer (s.chan c).script i (s.insnProfile c i))))

/-- The two words of the template that a MOVE3 names (R356). -/
def Chan.template (n : Chan) (i : Insn) : Word × Word :=
  let k := field i.d0 24 22
  (n.reg (0x80 + 16 * k), n.reg (0x88 + 16 * k))

/-- MOVE3 (R364). -/
def execMove3 (c : ChanId) (s : State) : Result :=
  .next (s.scriptRow c .move3
    (fun n i => { offsets := (move3Xfer n.script i (n.template i) (s.insnProfile c i)).scriptOffsets i .move3 })
    (fun i s => s.startUnit c (move3Xfer (s.chan c).script i ((s.chan c).template i) (s.insnProfile c i))))

/-! ### Arithmetic and flow (R359, R368 to R373) -/

/-- NOP (R359). -/
def execNop (c : ChanId) (s : State) : Result :=
  .next (s.scriptRow c .nop (fun _ _ => {}) (fun _ s => s.regInsn c id))

/-- SETA (R368). -/
def execSeta (c : ChanId) (s : State) : Result :=
  .next (s.scriptRow c .seta (fun _ _ => {})
    (fun i s => s.regInsn c fun p => { p with a := p.a.put (regAt i.d0 8) (join64 i.d1 i.d2) }))

/-- ADDA (R368). -/
def execAdda (c : ChanId) (s : State) : Result :=
  .next (s.scriptRow c .adda
    (fun _ i => { offsets := offIf (bitAt i.d0 10 && i.d1 != 0) 4 })
    (fun i s => s.regInsn c fun p =>
      let v := if bitAt i.d0 10 then p.k.look (regAt i.d0 11) else i.d1
      { p with a := p.a.upd (regAt i.d0 8) fun x => x + sext v }))

/-- SETK (R368). -/
def execSetk (c : ChanId) (s : State) : Result :=
  .next (s.scriptRow c .setk (fun _ _ => {})
    (fun i s => s.regInsn c fun p => { p with k := p.k.put (regAt i.d0 8) i.d1 }))

/-- ADDK (R368). -/
def execAddk (c : ChanId) (s : State) : Result :=
  .next (s.scriptRow c .addk (fun _ _ => {})
    (fun i s => s.regInsn c fun p => { p with k := p.k.upd (regAt i.d0 8) fun x => x + i.d1 }))

/-- LOOP (R369). -/
def execLoop (c : ChanId) (s : State) : Result :=
  .next (s.scriptRow c .loop (fun _ _ => {})
    (fun i s =>
      let k := (s.chan c).script.k.look (regAt i.d0 8)
      let s1 := s.updScript c fun p => { p with k := p.k.put (regAt i.d0 8) (if k = 0 then 0 else k - 1) }
      if k = 0 ∨ k = 1 then (s1.countSpin c).nextPc c else s1.branchTo c (field i.d1 11 0)))

/-- The condition of a BRANCH holds (R370). -/
def State.branchHolds (s : State) (c : ChanId) (i : Insn) : Bool :=
  let k := (s.chan c).script.k.look (regAt i.d0 12)
  match field i.d0 11 8 with
  | 0 => true
  | 1 => k == 0
  | 2 => k != 0
  | 3 => (s.cues.look (i.d0.extractLsb' 16 10)).count != 0
  | _ => decide (64 * field i.d2 31 16 < (s.eps.look (i.d2.extractLsb' 0 6)).fifo.length)

/-- BRANCH (R370). -/
def execBranch (c : ChanId) (s : State) : Result :=
  .next (s.scriptRow c .branch
    (fun _ i =>
      { offsets := offIf (decide (4 < field i.d0 11 8)) 1
        cue := if field i.d0 11 8 = 3 then some (i.d0.extractLsb' 16 10) else none
        ep := if field i.d0 11 8 = 4 then some (i.d2.extractLsb' 0 6) else none })
    (fun i s => if s.branchHolds c i then s.branchTo c (field i.d1 11 0) else (s.countSpin c).nextPc c))

/-- END (R371, R372). -/
def execEndScript (c : ChanId) (s : State) : Result :=
  .next (s.scriptRow c .endScript
    (fun n i =>
      { offsets := offIf ((bitAt i.d0 9 && !n.actEn) || (decide (n.mode ≠ .script) && (bitAt i.d0 8 || bitAt i.d0 9))) 1 })
    (fun i s => s.updChan c fun n =>
      { n with after := some (if n.mode = .script then .endScript (bitAt i.d0 8) (bitAt i.d0 9) else .finish) }))

/-- HALT (R373). -/
def execHalt (c : ChanId) (s : State) : Result :=
  .next (s.scriptRow c .halt (fun _ _ => {})
    (fun i s =>
      let s1 := (s.updScript c fun p => { p with haltCode := i.d1.truncate 16 }).noteChan 2 0x25 c (BitVec.ofNat 32 (field i.d1 15 0))
      s1.failPlain c 0x15 (2 ^ 31 + field i.d1 15 0)))

/-! ### Synchronisation (R374 to R382, R388) -/

/-- WAIT (R374). -/
def execWaitCue (c : ChanId) (s : State) : Result :=
  .next (s.scriptRow c .waitCue
    (fun _ i => { offsets := offIf (decide (field i.d3 15 0 = 0)) 12, cue := some (i.d0.extractLsb' 8 10) })
    (fun i s => s.beginWait c
      (.cue (i.d0.extractLsb' 8 10) (i.d3.truncate 16) (bitAt i.d0 18) (if bitAt i.d0 19 then some (i.d2.truncate 12) else none)) i.d1.toNat))

/-- A WAITT that has reached its instant: TT where SET_TT asks for it, and the next instruction (R379). -/
def State.passWaitt (s : State) (c : ChanId) (t : Tick) (setTt past : Bool) : State :=
  (s.updChan c fun n =>
    { n with
      wait := none, state := .running
      script := { n.script with
        spin := 0, tt := if setTt then t else n.script.tt, waittPast := n.script.waittPast || past } }).nextPc c

/-- A WAITT NEXT is a scene boundary: the channel is ARMED, and a pending period start releases it (R104, R388). -/
def State.waitNext (s : State) (c : ChanId) : State :=
  (s.updChan c fun n => { n.endScene with state := .armed, script := { n.script with atNext := true, spin := 0 } }).releasePending c

/-- WAITT (R379, R380, R388). -/
def execWaitt (c : ChanId) (s : State) : Result :=
  .next (s.scriptRow c .waitt
    (fun n i =>
      let base := field i.d0 9 8
      { offsets :=
          offIf (decide (base = 3) || (decide (base ≠ 0) && !n.actEn) || (decide (base = 2) && (decide (n.mode ≠ .script) || bitAt i.d0 10))) 1 ++
            offIf (decide (base = 2) && (i.d1 != 0 || decide (field i.d2 30 0 ≠ 0))) 4 })
    (fun i s =>
      let n := s.chan c
      let off := join64 i.d1 i.d2
      if field i.d0 9 8 = 2 then s.waitNext c
      else
        let t := (if field i.d0 9 8 = 0 then n.script.tt else n.sceneStart) + off
        if future t s.coreEdge then s.beginWait c (.instant t (bitAt i.d0 10)) 0 else s.passWaitt c t (bitAt i.d0 10) true))

/-- SIGNAL (R381). -/
def execSignal (c : ChanId) (s : State) : Result :=
  .next (s.scriptRow c .signal
    (fun _ i => { offsets := offIf (decide (field i.d1 15 0 = 0)) 4, cue := some (i.d0.extractLsb' 8 10) })
    (fun i s => (s.countSpin c).updChan c fun n => { n with after := some (.signal (i.d0.extractLsb' 8 10) (i.d1.truncate 16)) }))

/-- FENCE (R382). -/
def execFence (c : ChanId) (s : State) : Result :=
  .next (s.scriptRow c .fence (fun _ _ => {})
    (fun _ s => (s.countSpin c).updChan c fun n => { n with after := some .fence }))

/-! ### Props (R383 to R385) -/

/-- What a TAKE finds when it is judged. -/
def takeCheck (i : Insn) : InsnCheck := { offsets := offIf (!(bitAt i.d0 10) && i.d1 != 0) 4 }

/-- A channel is about to execute a TAKE: its tenant and its number as a requester. -/
def State.takeRequest (s : State) (c : ChanId) : Option (TenantId × Nat) :=
  match s.scriptReady c, (s.chan c).script.held with
  | true, some i =>
    if scriptOp i.d0 = some .take ∧ s.curtainHolds c (some .take) = false ∧ (s.chan c).script.spin < 65536 ∧
        (s.judgeInsn c i .take (takeCheck i)).isNone = true then some (s.tenantOf c, c.toNat) else none
  | _, _ => none

/-- The tenant and requester of a read of T_PROP_ALLOC from a host port (R450, R452). -/
def State.allocRequest (s : State) (a : RegRead) : Option (TenantId × Nat) :=
  match a.page, a.via with
  | .tenant t, .hp0 => if baseOf a.off = 0x70 ∧ s.portOfTenant t = .hp0 ∧ a.eight = false then some (t, 96) else none
  | .tenant t, .hp1 => if baseOf a.off = 0x70 ∧ s.portOfTenant t = .hp1 ∧ a.eight = false then some (t, 97) else none
  | _, _ => none

/-- Requests to the prop arbiter that have reached it at the present edge and whose rows still wait in the queue (R450 step 3; log entry 54). -/
def State.propRivals (s : State) : List (TenantId × Nat) :=
  s.pending.filterMap fun i => match i with
    | .take c => s.takeRequest c
    | .tPropAlloc a => s.allocRequest a
    | _ => none

/-- TAKE (R383, R384, R451). -/
def execTake (c : ChanId) (s : State) : Result :=
  .next (s.scriptRow c .take (fun _ i => takeCheck i)
    (fun i s =>
      match (s.countSpin c).askProp (s.tenantOf c) c.toNat (s.propRivals.filter fun r => r.2 != c.toNat) with
      | (s1, some k) =>
        (s1.updScript c fun p => { p with a := p.a.put (regAt i.d0 8) (BitVec.ofNat 64 (s.propOffset k)) }).nextPc c
      | (s1, none) =>
        let s2 := s1.updChan c fun n => { n with starved := satAdd n.starved 1 }
        if bitAt i.d0 10 then s2.beginWait c (.prop (regAt i.d0 8) (i.d2.truncate 12)) i.d1.toNat
        else s2.failTarget c 3 (i.d2.truncate 12)))

/-- The prop of the tenant that begins at an address (R385, R449). -/
def State.propAt (s : State) (t : TenantId) (a : Addr) : Option Nat :=
  (s.props.held.find? fun h => h.tenant == t && decide (a = BitVec.ofNat 64 (s.propOffset h.index.toNat))).map fun h => h.index.toNat

/-- A burst of the channel to a prop is still out (R385). -/
def State.propBusy (s : State) (c : ChanId) (a : Addr) : Bool :=
  (s.chan c).writes.any fun w => decide (tagOf w.addr = 0) && decide (w.addr.toNat < a.toNat + 2 ^ s.props.sizeLog2.toNat) &&
    decide (a.toNat < w.addr.toNat + w.bytes.length)

/-- GIVE (R385): it waits while a burst of the channel to the prop is out. -/
def execGive (c : ChanId) (s : State) : Result :=
  .next (s.scriptRow c .give
    (fun n i => { offsets := offIf (s.propAt (s.tenantOf c) (n.script.ptr i.d0 8)).isNone 0 })
    (fun i s =>
      let a := (s.chan c).script.ptr i.d0 8
      match s.propAt (s.tenantOf c) a with
      | some k =>
        if s.propBusy c a then s
        else
          let r := s.freePropAt (s.tenantOf c) k
          ((r.1.countSpin c).nextPc c).go r.2
      | none => s))

/-! ### STAMP and IRQ (R386, R387) -/

/-- The unit of a STAMP. -/
def stampXfer (n : Chan) (i : Insn) : Xfer :=
  let source := field i.d0 11 10
  { Xfer.fresh with
    pattern := some (if source = 1 then n.script.tt else n.sceneStart)
    stamp := true
    stampNow := decide (source = 0)
    dst := n.script.ptr i.d0 8
    inner := 1
    element := 3
    dstInner := 8
    post := if bitAt i.d0 12 then [(regAt i.d0 8, .step 8)] else [] }

/-- STAMP (R386). -/
def execStamp (c : ChanId) (s : State) : Result :=
  .next (s.scriptRow c .stamp
    (fun n i => { offsets := offIf (decide (field i.d0 11 10 = 3) || (decide (field i.d0 11 10 = 2) && !n.actEn)) 1 })
    (fun i s => (s.countSpin c).startUnit c (stampXfer (s.chan c) i)))

/-- IRQ (R387). -/
def execIrq (c : ChanId) (s : State) : Result :=
  .next (s.scriptRow c .irq (fun _ _ => {})
    (fun i s => (s.countSpin c).updChan c fun n => { n with after := some (.irq (i.d1.truncate 16)) }))

/-! ### The ends of timed waits (R375, R379, R384, R486, R487) -/

/-- A wait of a channel whose expiry or instant has come, where no curtain has fallen first. -/
def State.expired (s : State) (c : ChanId) : Option WaitKind :=
  match (s.chan c).wait with
  | none => none
  | some w =>
    let t := match w.kind with | .instant t _ => some t | _ => w.expiry
    match t with
    | none => none
    | some t => if due t s.coreEdge && !(s.curtainDue c) then some w.kind else none

/-- A WAIT fails: its fail target, or the failure of the script (R375, R378). -/
def State.failWait (s : State) (c : ChanId) (cause : Nat) (target : Option (BitVec 12)) (status : Byte) (detail : Nat) : State :=
  let s1 := s.updScript c fun p => { p with spin := 0 }
  match target with
  | some t => s1.failTarget c cause t
  | none => s1.failPlain c status detail

/-- WAIT_TIMEOUT (R375). -/
def execWaitTimeout (c : ChanId) (s : State) : Result :=
  match s.expired c with
  | some (.cue _ _ _ target) => .next ((s.failWait c 1 target 0x1A (s.chan c).script.pc.toNat).go [c])
  | _ => .next s

/-- TAKE_TIMEOUT (R384). -/
def execTakeTimeout (c : ChanId) (s : State) : Result :=
  match s.expired c with
  | some (.prop _ target) => .next ((s.failTarget c 1 target).go [c])
  | _ => .next s

/-- WAITT_INSTANT (R379). -/
def execWaittInstant (c : ChanId) (s : State) : Result :=
  match s.expired c with
  | some (.instant t setTt) => .next ((s.passWaitt c t setTt false).go [c])
  | _ => .next s

end Sys2Proof.Machine
end

