-- ==== Sys2Proof/Machine/Scenes.lean ====
section
/-! DEFINITION. Curtains, stops and swaps as events, the pacing sources, and the watchman (chapters 02, 03, 10, 11 and 12). -/

namespace Sys2Proof.Machine

/-! ### CURTAIN (R108 to R117, R390, R422) -/

/-- A data burst of the unit waits in a backoff, which a curtain ends (R474). -/
def Chan.backedOff (n : Chan) : Bool := n.retries.any fun r => r.waiting && (r.what == rRead || r.what == rWrite)

/-- A QUEUE channel at its curtain (R109, R110, R117, R124). With no descriptor in hand the late scene begins at the next descriptor taken, and the OK cover and LATE_COUNT wait for it: DESIGN CHOICE, the spec is silent (log entry 53). -/
def State.curtainQueue (s : State) (c : ChanId) : State :=
  let n := s.chan c
  match n.work with
  | none =>
    if n.discard.isSome then s
    else
      let d : Discard := { first := true, count := 0, tag := 0, user := 0, head := 0, irq := false }
      s.updChan c fun n => { n with discard := some d, state := .waiting }
  | some _ =>
    match n.after, n.xfer with
    | some .startUnit, _ => s.startLate c
    | some .finish, _ => s
    | some (.fail _), _ => s
    | some .late, _ => s
    | some (.reset _), _ => s
    | _, some x => if x.done && !n.script.running && !n.backedOff then s else s.startLate c
    | _, none => s.startLate c

/-- A SCRIPT channel at its curtain (R390, R403). -/
def State.curtainScript (s : State) (c : ChanId) : State :=
  let n := s.chan c
  match n.after with
  | some (.signal _ _) => s.startLate c
  | some .fence => s.startLate c
  | some _ => s
  | none =>
    match n.xfer with
    | some x => if x.done && !n.backedOff then s else s.startLate c
    | none =>
      if n.wait.isSome then s.startLate c
      else match n.script.held with
        | none => s
        | some i => if (scriptOp i.d0).map runsOn = some true then s else s.startLate c

/-- A SHADOW channel at its curtain (R422). -/
def State.curtainShadow (s : State) (c : ChanId) : State :=
  let n := s.chan c
  let cut := (s.updChan c fun n => { n with shadow := { n.shadow with queued := false } }).startLate c
  match n.xfer with
  | some x => if (x.done && !n.backedOff) || n.held then s else cut
  | none => if n.shadow.queued || decide (n.after = some .startUnit) then cut else s

/-- The curtain of a channel falls (R109, R110, R390, R422). -/
def State.curtainFalls (s : State) (c : ChanId) : State :=
  match (s.chan c).mode with
  | .queue => s.curtainQueue c
  | .script => s.curtainScript c
  | .shadow => s.curtainShadow c

/-! ### STOP_TAKES_EFFECT (R116, R393, R394, R417, R418, R457, R458) -/

/-- A QUEUE channel is at a boundary at which its pending stop takes effect: the finishing steps of its last descriptor are done (R458), though completions may be held for CQ space (R461). -/
def State.stopQueue (s : State) (c : ChanId) : Bool :=
  let n := s.chan c
  let q := s.sqOf c
  let idle := q.head == q.tail && n.chain.isNone
  n.work.isNone && n.after.isNone && n.walk.isNone && n.xfer.isNone && !n.script.running && !(s.cplOut c) &&
    (n.discard.isNone || idle) && (n.stopPending || idle)

/-- A SCRIPT channel is at such a boundary, or inside a wait that a stop abandons. -/
def State.stopScript (s : State) (c : ChanId) : Bool :=
  let n := s.chan c
  n.after.isNone && n.xfer.isNone && !(s.curtainDue c) && (n.stopPending || n.state == .armed)

/-- A SHADOW channel is at the end of its set, and for a drain at a swap point with nothing armed. -/
def Chan.stopShadow (n : Chan) : Bool :=
  n.after.isNone && n.xfer.isNone && !n.shadow.queued && n.shadow.ending.isEmpty &&
    (n.stopPending || (!n.actEn && !(bitAt (n.reg 0x50) 0)))

/-- STOP_TAKES_EFFECT (R457, R458). -/
def execStopTakesEffect (c : ChanId) (s : State) : Result :=
  let n := s.chan c
  let here := match n.mode with
    | .queue => s.stopQueue c
    | .script => s.stopScript c
    | .shadow => n.stopShadow
  if n.live && n.stopping && !n.haltDue && !(s.shFrozen n.effective) && here then .next (s.takeStop c) else .next s

/-! ### SHADOW_SWAP (R410, R411, R414) -/

/-- All elements of the active set are released (R410). -/
def State.setReleased (s : State) (c : ChanId) : Bool :=
  match (s.chan c).xfer with
  | some x => decide (x.total ≤ s.releasedUpTo c x)
  | none => (s.chan c).shadow.ended

/-- An unbound SHADOW channel is at its swap point. -/
def State.swapDue (s : State) (c : ChanId) : Bool :=
  let n := s.chan c
  decide (n.mode = .shadow) && n.state == .running && !n.actEn && !n.stopPending && !n.shadow.queued && n.shadow.moving.isNone &&
    !n.held && s.setReleased c

/-- SHADOW_SWAP (R410 to R414). -/
def execShadowSwap (c : ChanId) (s : State) : Result :=
  let n := s.chan c
  if s.swapDue c then .next ((s.swapPoint c).go [c])
  else if n.mode = .shadow ∧ n.holdsScene = true ∧ n.shadow.ended = true then .next ((s.releasePending c).go [c])
  else .next s

/-! ### Pacing sources (R79 to R83, R443, R446) -/

/-- The channel's pacing source acts: the channel is ARMED, RUNNING or WAITING, and CLK_CORE runs (R444, R447). -/
def State.paces (s : State) (c : ChanId) (src : BitVec 3) : Bool := (s.chan c).paceSrc == src && (s.chan c).live && s.dataOn

/-- TIME_PACE_RELEASE (R446). -/
def execTimePaceRelease (c : ChanId) (s : State) : Result :=
  let n := s.chan c
  let i := if n.actEn then n.sceneStart + n.paceTime else n.paceTime
  if s.paces c 5 && !n.timeOpen && n.xfer.isSome && due i s.coreEdge then
    .next ((s.updChan c fun n => { n with timeOpen := true }).go [c])
  else .next s

/-- The rate factor (1 + f) in units of 2^-40; a slew whose offset is applied adds nothing (R49, R67). -/
def TimeBase.factor (t : TimeBase) : Nat :=
  let slew : Int := if t.slewLeft = 0 then 0 else if t.slewNeg then -(t.slewRate.toNat : Int) else t.slewRate.toNat
  ((2 ^ 40 : Int) + t.trim.toInt + slew).toNat

/-- The active rate fields keep R80 and R82. -/
def Chan.rateOk (n : Chan) : Bool :=
  let inc := field (n.reg 0x28) 47 0
  let m := field (n.reg 0x30) 47 0
  decide (0 < m) && decide (0 < inc) && decide (inc ≤ m) && decide (field (n.reg 0x38) 47 0 < m)

/-- A unit of the channel waits for credits. -/
def Chan.wantsCredit (n : Chan) : Bool :=
  match n.xfer with
  | some x => !x.stamp && decide (n.released < x.total - x.moved)
  | none => false

/-- One credit: it releases an element of the running unit, or is banked, or is discarded at a full bank (R79, R83, R440). -/
def Chan.credit (n : Chan) : Chan :=
  if n.wantsCredit then { n with released := n.released + 1 }
  else if n.rateBank = 255 then { n with rateOverrun := true, rateSlip := satAdd n.rateSlip 1 }
  else { n with rateBank := n.rateBank + 1 }

/-- Credits of one cycle: one at most, but for a tracked rate above one credit a cycle, whose sum may reach RATE_MOD twice (R79, R81). -/
def Chan.credits : Nat → Chan → Chan
  | 0, n => n
  | k + 1, n => Chan.credits k n.credit

/-- One CLK_CORE cycle of the pacer (R79, R81). -/
def Chan.rateStep (n : Chan) (factor : Nat) : Chan :=
  let inc := field (n.reg 0x28) 47 0
  let m := field (n.reg 0x30) 47 0
  let scaled := if bitAt (n.reg 0x40) 0 then inc * factor + n.rateFrac else inc * 2 ^ 40
  let sum := n.rateAcc.toNat + scaled / 2 ^ 40
  let n1 := { n with rateFrac := if bitAt (n.reg 0x40) 0 then scaled % 2 ^ 40 else n.rateFrac }
  { Chan.credits (sum / m) n1 with rateAcc := BitVec.ofNat 48 (sum % m) }

/-! ### Request lines (R443, R783, R789) -/

/-- A channel sees a registered transition of its request line (R443). -/
def Chan.lineSeen (n : Chan) (level : Bool) : Chan :=
  let active := level ^^ n.lineLow
  let edge := active && !n.lineLevel
  let m := { n with lineLevel := active }
  if n.lineEdge && edge then
    (if n.lineCredits = 255 then { m with lineSlip := satAdd m.lineSlip 1 } else { m with lineCredits := m.lineCredits + 1 })
  else m

/-- Channels paced by a request line. -/
def State.onLine (s : State) (i : Nat) : List ChanId :=
  allChans.filter fun c => let n := s.chan c; n.paceSrc == 2 && decide (n.paceLine.toNat = i) && n.state != .unbound

/-- A registered transition reaches the channels of a request line: edges are banked while they run (R443, R447). -/
def State.lineEvent (s : State) (i : Nat) (level : Bool) : State :=
  let l := s.onLine i
  (s.forAll l fun c s =>
    let on := s.paces c 2
    s.updChan c fun n => if on then n.lineSeen level else { n with lineLevel := level ^^ n.lineLow }).go l

/-- INDEX of a pin's PIN_MUX entry. -/
def State.pinIndex (s : State) (p : PinId) : Nat := field (s.pinMux p) 25 16

/-- An input pin is live: neither parked nor settling (R779, R780). -/
def Pin.live (q : Pin) : Bool := q.parkEnd.isNone && q.settleEnd.isNone

/-- The ball of a pin changes level; below HUSH an edge is held until the exit (R789). -/
def State.ballMoves (s : State) (p : PinId) (level : Bool) : State := s.updPin p fun q => { q with ball := level }

/-- An edge below HUSH is held, or lost behind one already held (R789). -/
def State.holdEdge (s : State) (p : PinId) (level : Bool) : State :=
  if (s.pins.look p).heldEdge.isSome then s.setDevReg 0x09A0 (s.devReg 0x09A0 ||| (1 <<< p.toNat))
  else s.updPin p fun q => { q with heldEdge := some level }

/-- DREQ (R443, R783, R789). -/
def execDreq (p : PinId) (level : Bool) (s : State) : Result :=
  if 48 ≤ p.toNat then .fault .malformedEvent
  else
    let s1 := s.ballMoves p level
    if s.pinFunc p ≠ 3 ∨ (s.pins.look p).live = false ∨ (s.pins.look p).seen = level then .next s1
    else
      let s2 := s1.updPin p fun q => { q with seen := level }
      if s.power.state = .lit ∨ s.power.state = .hush then .next (s2.lineEvent (s.pinIndex p % 32) level)
      else .next (s2.holdEdge p level)

/-! ### The watchman (R490 to R497) -/

/-- The edges of a channel's wait: the channels it waits for and whether the wait is breakable; none where the wait has no edge, or has one outside every set (R490, R491). -/
def State.waitEdges (s : State) (c : ChanId) : Option (List ChanId × Bool) :=
  let n := s.chan c
  if !n.live then none
  else
    let own := match n.wait with
      | none => none
      | some w =>
        match w.kind with
        | .cue q _ _ _ => (s.cues.look q).owner.map fun o => ([o], true)
        | .pace q => (s.cues.look q).owner.map fun o => ([o], true)
        | .prop _ _ =>
          let held := s.props.held.filter fun h => h.tenant == s.tenantOf c
          if held.any fun h => decide (96 ≤ h.taker) then none
          else if held.isEmpty then none
          else some ((held.map fun h => BitVec.ofNat 7 h.taker).eraseDups, true)
        | .instant _ _ => none
    match own with
    | some e => some e
    | none => if s.slotWaits c then some ((s.sh.look n.effective).occupants, false) else none

/-- The channels reachable along wait edges; none when some edge leads to a channel without an edge. -/
def reachSet (edges : ChanId → Option (List ChanId × Bool)) : Nat → List ChanId → List ChanId → Option (List ChanId)
  | _, [], seen => some seen
  | 0, _ :: _, seen => some seen
  | k + 1, c :: todo, seen =>
    match edges c with
    | none => none
    | some (l, _) =>
      let new := l.filter fun d => !(seen.contains d)
      reachSet edges k (new.eraseDups ++ todo) (seen ++ new.eraseDups)

/-- The smallest deadlocked set that holds a channel: all that it waits for, directly or not (R492). -/
def State.deadSet (s : State) (c : ChanId) : Option (List ChanId) := reachSet s.waitEdges 97 [c] [c]

/-- A deadlocked set is minimal when each of its channels reaches all of it (R492). -/
def State.minimalSet (s : State) (c : ChanId) : Option (List ChanId) :=
  match s.deadSet c with
  | none => none
  | some l => if l.all fun d => ((s.deadSet d).map fun m => l.all fun x => m.contains x) = some true then some l else none

/-- The victim of a set: the lowest PRIORITY among the breakable waits, then the highest channel number (R493). -/
def State.victimOf (s : State) (l : List ChanId) : Option ChanId :=
  bestOf (fun a b =>
      let pa := (s.chan a).priority
      let pb := (s.chan b).priority
      if pa = pb then decide (b.toNat < a.toNat) else decide (pa.toNat < pb.toNat))
    (l.filter fun c => (s.waitEdges c).map (fun e => e.2) = some true)

/-- The break of a victim's wait (R378, R384, R493, R495). -/
def State.breakWait (s : State) (c : ChanId) (size : Nat) : State :=
  match (s.chan c).wait with
  | none => s
  | some w =>
    let pace := match w.kind with | .pace _ => 256 | _ => 0
    let s1 := s.noteChan 5 0x50 c (BitVec.ofNat 32 (size + pace))
    match w.kind with
    | .cue _ _ _ target => s1.failWait c 2 target 0x16 size
    | .prop _ target => s1.failTarget c 2 target
    | .pace _ => s1.failPlain c 0x16 (size + 256)
    | .instant _ _ => s

/-- The minimal deadlocked sets, each with its victim, lowest channel first and each set once. -/
def State.deadVictims (s : State) : List (ChanId × Nat) :=
  (allChans.filterMap fun c =>
    match s.minimalSet c with
    | none => none
    | some l =>
      if l.all fun d => decide (c.toNat ≤ d.toNat) then (s.victimOf l).map fun v => (v, l.length) else none)

/-- WATCHMAN_SCAN (R492 to R497): the scan and its breaks fall together, and a channel that several sets name is broken once. -/
def execWatchmanScan (s : State) : Result :=
  if !s.dataOn then .next s
  else
    let l := s.deadVictims
    let once := l.foldl (fun (acc : List (ChanId × Nat)) v => if acc.any fun x => x.1 == v.1 then acc else acc ++ [v]) []
    .next ((s.forAll once fun v s => s.breakWait v.1 v.2).go (once.map fun v => v.1))

end Sys2Proof.Machine
end

