-- ==== Sys2Proof/Machine/Flags.lean ====
section
/-! DEFINITION. The status words: every read-only and every device-written field of the two register pages, computed from the state (chapters 26 and 27 and the chapters they name). -/

namespace Sys2Proof.Machine

/-- A 64-bit word from fields, each a number and the bit at which it lies. -/
def fields (l : List (Nat × Nat)) : Word := BitVec.ofNat 64 (l.map fun x => x.1 * 2 ^ x.2).sum

/-! ### Pages -/

/-- Slots of a tenant that hold staged writes, as the groups they belong to (R156). -/
def State.slotGroups (s : State) (t : TenantId) : BitVec 16 :=
  (allChans.filter fun c => (s.record t).holdsChan c && (s.chan c).dirty).foldl
    (fun m c => m ||| (1 <<< (s.chan c).group)) 0

/-- T_UPDATE and DEV_UPDATE as read: PENDING and ARMED. -/
def State.updateWord (s : State) (page : Page) : Word :=
  let c := s.ctl page
  let slots : BitVec 16 := match page with | .device => 0 | .tenant t => s.slotGroups t
  let armed : BitVec 16 := match c.armed with | some a => a.groups | none => 0
  fields [((c.pendingGroups ||| slots).toNat, 0), (armed.toNat, 16)]

/-- The error log of a page (R149). -/
def ErrLog.word (e : ErrLog) : Word :=
  fields [(e.lockFaults.toNat, 0), (flag e.lockViolation, 8), (flag e.pairDropped, 9), (flag e.reservedHit, 10),
    (flag e.updateLate, 11), (e.firstKind.toNat, 16), (e.firstPort.toNat, 20), (e.firstOffset.toNat, 32)]

/-- T_CFG_CRC and DEV_CFG_CRC. -/
def PageCtl.crcWord (c : PageCtl) : Word :=
  fields [(c.crc.toNat, 0), (flag c.crcValid, 32), (flag c.mismatch, 33), (flag c.frozen, 34)]

/-- The page is open for a port: until 1 µs after the key, the CLK_REG cycle of the expiry included (R141, R173). -/
def State.isOpen (s : State) (page : Page) (via : Via) : Bool :=
  match ((s.ctl page).view via).openUntil with
  | none => false
  | some t => !(future s.now (t + 383))

/-! ### Pins (R772, R782, R784, R786) -/

/-- Idle level of a pin (R771, R772). -/
def idleLevel (p : PinId) : Bool := decide (44 ≤ p.toNat)

/-- OWNER of a pin. -/
def State.pinOwner (s : State) (p : PinId) : TenantId := BitVec.ofNat 4 (field (s.pinMux p) 35 32)

/-- A tenant owns a pin: the pin carries a function and names the tenant. -/
def State.ownsPin (s : State) (t : TenantId) (p : PinId) : Bool := decide (s.pinFunc p ≠ 0) && s.pinOwner p == t

/-- INVERT of a pin. -/
def State.pinInvert (s : State) (p : PinId) : Bool := bitAt (s.pinMux p) 5

/-- What a TAP instruction makes of the outputs: nothing; high impedance; or the boundary register (R813). -/
def Jtag.takes (j : Jtag) : Option (Option (BitVec 48)) :=
  match j.instr with
  | .highz => some none
  | .extest => some (some j.sampled)
  | .extestPulse => some (some j.sampled)
  | .extestTrain => some (some j.sampled)
  | .clamp => some (some j.sampled)
  | _ => none

/-- The level that a pin's own output function drives, where the function is an output that this part models. -/
def State.ownDrive (s : State) (p : PinId) : Option Bool :=
  match s.pinFunc p with
  | 2 => some (bitAt (s.devReg 0x0988) p.toNat ^^ s.pinInvert p)
  | 4 => some ((s.pins.look p).pulseEnd.isSome ^^ s.pinInvert p)
  | 6 => some (((s.cues.look (BitVec.ofNat 10 (field (s.pinMux p) 25 16))).count != 0) ^^ s.pinInvert p)
  | 7 => some (s.tb.strobeLevel.look (BitVec.ofNat 3 p.toNat))
  | _ => none

/-- The level that drives a pin: that of its function, or what the TAP puts in its place (R813). -/
def State.driven (s : State) (p : PinId) : Option Bool :=
  match s.jtag.takes with
  | none => s.ownDrive p
  | some none => none
  | some (some cells) => (s.ownDrive p).map fun _ => bitAt cells p.toNat

/-- The level at the ball: the driven level once the park is over (R779), else what the board and the weak pull hold. -/
def State.ballLevel (s : State) (p : PinId) : Bool :=
  let q := s.pins.look p
  if q.parkEnd.isSome then (if (s.driven p).isSome then idleLevel p else q.ball)
  else (s.driven p).getD q.ball

/-- The level that PIN_IN shows: the idle level while the pin settles, else the ball after INVERT (R780, R782). -/
def State.pinLevel (s : State) (p : PinId) : Bool :=
  if (s.pins.look p).settleEnd.isSome then idleLevel p else s.ballLevel p ^^ s.pinInvert p

/-- A word with one bit for each pin that satisfies a test. -/
def pinWord (f : PinId → Bool) : Word := allPins.foldl (fun w p => if f p then w ||| (1 <<< p.toNat) else w) 0

/-! ### The control block of a tenant page -/

/-- T_ID (R885). -/
def State.tId (s : State) (t : TenantId) : Word :=
  let r := s.record t
  fields [(t.toNat, 0), (flag r.port, 4), (flag (s.isSm t), 5), (r.chanBase.toNat, 8), (r.chanCount.toNat, 16),
    (r.vecBase.toNat, 32), (r.vecCount.toNat, 40)]

/-- The three fault registers of a tenant (R289). -/
def State.sqFault (s : State) (t : TenantId) : Word :=
  (indices 7 64).foldl (fun w q => if (s.sq t q).state = .faulted then w ||| (1 <<< q.toNat) else w) 0
def State.sqFaultHi (s : State) (t : TenantId) : Word := if (s.sq t 64).state = .faulted then 1 else 0
def State.cqFault (s : State) (t : TenantId) : Word :=
  (indices 7 33).foldl (fun w q => if (s.cq t q).state = .faulted then w ||| (1 <<< q.toNat) else w) 0

/-- T_STATUS (R886). -/
def State.tStatus (s : State) (t : TenantId) : Word :=
  fields [(s.devState.code, 0), (flag s.degraded, 4), (flag s.tb.timeValid, 5), (flag s.tb.fineValid, 6),
    (flag (s.sqFault t != 0 || s.sqFaultHi t != 0 || s.cqFault t != 0), 7),
    (flag ((s.tenants.look t).ctl.frozen || s.dev.ctl.frozen), 8), (s.prot.epoch.toNat, 32)]

/-- T_SQ_STATE (chapter 07). -/
def State.sqState (s : State) (t : TenantId) (q : QueueId) : Word :=
  let x := s.sq t q
  let slot : Nat := match x.slot with | some c => s.slotOf t c | none => 0x7F
  fields [(x.head.toNat, 0), (x.tail.toNat, 16), (flag x.phase, 32), (x.state.code, 33), (flag x.ownWait, 35),
    (x.cause.toNat, 36), (x.cq.toNat, 40), (slot, 48), (x.prefetch.toNat, 56), (x.log2.toNat, 59)]

/-- T_CQ_STATE (chapter 07). -/
def State.cqState (s : State) (t : TenantId) (q : QueueId) : Word :=
  let x := s.cq t q
  fields [(x.tail.toNat, 0), (x.head.toNat, 16), (flag x.phase, 32), (x.state.code, 33), (flag x.stalled, 35),
    (x.cause.toNat, 36), (x.vector.toNat, 40), (x.log2.toNat, 48)]

/-- T_PROP_STATUS (R452). -/
def State.propStatus (s : State) (t : TenantId) : Word :=
  fields [(s.propsHeld t, 0), ((s.record t).propQuota.toNat, 16), ((s.tenants.look t).starved.toNat, 32)]

/-- ACTIVE of T_ADMIN_SIZE: a command taken from the admin queue has not posted its completion yet (R233). -/
def State.adminActive (s : State) (t : TenantId) : Bool := decide (0 < (s.tenants.look t).taken) || !(s.cq t 0).held.isEmpty

/-- Read-only fields of T_ADMIN_SIZE. -/
def State.adminFlags (s : State) (t : TenantId) : Word :=
  fields [(flag (s.adminActive t), 28), (flag (s.tenants.look t).adminErr, 30)]

/-- The device-written fields of a place of a tenant's control block. -/
def State.tenFlags (s : State) (t : TenantId) (via : Via) (p : Nat) : Word :=
  if 0x400 ≤ p ∧ p < 0x608 then s.sqState t (BitVec.ofNat 7 ((p - 0x400) / 8))
  else if 0x800 ≤ p ∧ p < 0x908 then s.cqState t (BitVec.ofNat 7 ((p - 0x800) / 8))
  else match p with
    | 0x00 => s.tId t
    | 0x08 => s.tStatus t
    | 0x28 => (s.tenants.look t).ctl.errLog.word
    | 0x40 => fields [(flag (s.isOpen (.tenant t) via), 0)]
    | 0x48 => s.updateWord (.tenant t)
    | 0x58 => (s.tenants.look t).ctl.crcWord
    | 0x68 => s.now
    | 0x88 => s.propStatus t
    | 0x90 => pinWord fun m => s.ownsPin t m && s.pinLevel m
    | 0x98 => pinWord fun m => s.ownsPin t m && decide (s.pinFunc m = 2) && bitAt (s.devReg 0x0988) m.toNat
    | 0x110 => s.adminFlags t
    | 0x200 => s.sqFault t
    | 0x208 => s.sqFaultHi t
    | 0x210 => s.cqFault t
    | _ => 0

/-! ### Channel slots -/

/-- The EFFECTIVE_SH of a channel serves some channel of another stagehand (R583). -/
def State.chanDegraded (s : State) (c : ChanId) : Bool :=
  allChans.any fun d => (s.chan d).state != .unbound && (s.chan d).effective == (s.chan c).effective &&
    (s.chan d).effective != (s.chan d).stagehand

/-- CHAN_STATUS (chapter 26). -/
def State.chanStatus (s : State) (c : ChanId) : Word :=
  let n := s.chan c
  let bound := n.state != .unbound
  fields [(n.shown.code, 0), ((if bound then n.mode.code else 0), 4), (flag (bound && s.chanDegraded c), 7), (c.toNat, 8),
    ((if bound && n.mode == .queue then n.sq.toNat else 0), 16), (flag (n.live && n.stopPending), 24),
    (flag (n.live && n.drainPending), 25), (flag n.discardMark, 26), (flag n.periodPending.isSome, 27),
    (flag n.rateOverrun, 28), (flag (n.paceSrc == 3 && !n.rateOk), 29), (n.rateSlip.toNat, 32), (n.lineSlip.toNat, 48)]

/-- CHAN_SCHED (R427). -/
def State.chanSched (s : State) (c : ChanId) : Word :=
  let n := s.chan c
  fields [(n.stagehand.toNat, 0), (n.priority.toNat, 4), (flag n.lead, 7), (n.paceSrc.toNat, 8), (n.effective.toNat, 12),
    (((n.slot.map fun b => b.toNat).getD 0), 16), (flag n.slot.isSome, 18), (flag (s.slotWaits c), 19), (n.starved.toNat, 32)]

/-- CHAN_CFG and LATE_COUNT, SLOT_GROUP aside. -/
def Chan.cfgWord (n : Chan) : Word :=
  fields [(flag n.actEn, 0), (n.actSel.toNat, 1), (n.vector.toNat, 8), (n.retryLimit.toNat, 16), (n.lateCount.toNat, 32)]

/-- SCRIPT_STATUS (chapter 09). -/
def Script.statusWord (p : Script) : Word :=
  fields [(p.pc.toNat, 0), (p.lastStatus.toNat, 16), (flag p.failTaken, 24), (flag p.waittPast, 25), (flag p.signalSat, 26),
    (p.failCause.toNat, 28), (p.haltCode.toNat, 32), (p.irqCode.toNat, 48)]

/-- SHADOW_CTRL, ARM and ARM_ERR aside (chapter 10). -/
def Shadow.ctrlWord (x : Shadow) : Word :=
  fields [(x.armErrOffset.toNat, 8), (x.armErrKind.toNat, 16), (x.swapCount.toNat, 32)]

/-- SHADOW_STATUS. -/
def Shadow.statusWord (x : Shadow) : Word := fields [(x.lastStatus.toNat, 0), (flag x.setValid, 8), (x.userDetail.toNat, 32)]

/-- The device-written fields of a place of a channel slot. -/
def State.chanFlags (s : State) (c : ChanId) (p : Nat) : Word :=
  let n := s.chan c
  match p with
  | 0x00 => s.chanStatus c
  | 0x08 => s.chanSched c
  | 0x10 => fields [(n.pace.toNat, 0)]
  | 0x18 => n.paceTime
  | 0x20 => n.cfgWord
  | 0x40 => fields [(n.rateBank.toNat, 8), (n.lineCredits.toNat, 16), (n.sceneSkip.toNat, 32)]
  | 0x48 => n.faultAddr
  | 0x50 => (match n.mode with
    | .queue => (n.chain.map fun k => k.running).getD 0
    | .script => 0
    | .shadow => n.shadow.ctrlWord)
  | 0x58 => (match n.mode with
    | .queue => fields [(n.lastStatus.toNat, 0), (n.cqCause.toNat, 8), (n.lastTag.toNat, 32)]
    | .script => 0
    | .shadow => n.shadow.statusWord)
  | 0x60 => (if n.mode = .shadow then fields [(n.shadow.current.toNat, 0), (n.shadow.last.toNat, 32)] else n.script.statusWord)
  | 0x68 => fields [(n.script.detail.toNat, 0), (n.script.bytes.toNat, 32)]
  | _ => 0

/-! ### The device page -/

/-- DEV_BOOT (chapter 17). -/
def State.devBoot (s : State) : Word :=
  let b := s.boot
  fields [(b.straps.toNat, 0), (b.resetCause.toNat, 4), (flag b.romOnly, 8), (b.romCause.toNat, 9), (b.failedBoots.toNat, 11),
    (flag b.confirmed, 13), (b.dramFail.toNat, 14), (flag b.calDefault, 16), (flag b.bootRecord, 17),
    (b.restoreStatus.toNat, 24), (b.restoreSlotUsed.toNat, 32)]

/-- PORT_CFGp, its RW bits aside. -/
def Port.cfgWord (p : Port) : Word :=
  fields [(flag p.linkUp, 4), (p.speed.toNat, 5), (p.width.toNat, 8), (flag p.bme, 11), (flag p.d3hot, 12)]

/-- PROT_PENDING (R198). -/
def State.protPending (s : State) : Word :=
  match s.prot.held with
  | none => 0
  | some h => fields [(1, 0), (flag h.byHouse, 1), (flag h.patch, 2), ((if h.patch then 0 else h.body.length / 16), 4), (h.nonce.toNat, 32)]

/-- A slew is in progress. -/
def TimeBase.slewing (t : TimeBase) : Bool := decide (0 < t.slewLeft)

/-- CLK_STATUS (chapter 02). -/
def State.clkStatus (s : State) : Word :=
  let t := s.tb
  fields [(flag t.refclkPresent, 0), (flag t.pllLock, 1), (flag t.fineValid, 2), (flag t.timeValid, 3), (flag t.slewing, 4),
    (flag t.ppsInSeen, 5), (flag t.devclkPresent, 6), (flag t.refclkLost, 8), (flag t.pllUnlocked, 9)]

/-- TB_SLEW_REMAIN: signed ticks still to apply. A fraction of a tick still to apply is dropped, toward zero, so the register can read 0 while SLEWING is 1: DESIGN CHOICE, the spec says nothing of fractions (log entry 59). -/
def TimeBase.remain (t : TimeBase) : Word :=
  let n : Word := BitVec.ofNat 64 (t.slewLeft / 2 ^ 40)
  if t.slewNeg then -n else n

/-- Device-written fields of the time base's registers. -/
def State.timeFlags (s : State) (p : Nat) : Word :=
  let t := s.tb
  if 0x1E0 ≤ p ∧ p < 0x200 then
    let n := (p - 0x1E0) / 4
    let word (i : Nat) : Nat := let c := t.captures.look (BitVec.ofNat 3 i); c.seq.toNat + 2 ^ 31 * flag c.coarse
    fields [(word n, 0), (word (n + 1), 32)]
  else if 0x200 ≤ p ∧ p < 0x240 then (t.captures.look (BitVec.ofNat 3 ((p - 0x200) / 8))).stamp
  else match p with
    | 0x100 => s.clkStatus
    | 0x108 => t.time
    | 0x110 => fields [(t.trim.toNat, 0), ((if t.slewing then t.slewRate.toNat else 0), 32)]
    | 0x118 => t.remain
    | 0x120 => t.ppsInStamp
    | 0x128 => fields [(t.ppsInSeq.toNat, 0), (t.ppsInIgnored.toNat, 24)]
    | _ => 0

/-- Device-written fields of an act block (chapter 03). -/
def State.actFlags (s : State) (p : Nat) : Word :=
  let a := s.acts.look (BitVec.ofNat 4 ((p - 0x400) / 64))
  match p % 64 with
  | 0x20 => fields [(flag a.running, 0), (a.stopCause.toNat, 1)]
  | 0x28 => if a.running then a.nextStart else 0
  | 0x30 => a.periodCount
  | _ => 0

/-- A unit as a map code: 0xF for none. -/
def unitCode (u : Option UnitId) : Nat := match u with | some u => u.toNat | none => 0xF

/-- STAGEHAND_MAP (chapter 15). -/
def State.shMap (s : State) : Word :=
  let h := s.health
  fields (((List.range 12).map fun i => (unitCode (h.map.look (BitVec.ofNat 4 i)), 4 * i)) ++
    [(unitCode h.us0, 48), (unitCode h.us1, 52), (unitCode (h.handovers.head?.map fun j => j.sh), 56)])

/-- The self-test of a stagehand unit in progress. -/
def Health.testing (h : Health) : Option UnitId := (h.tests.find? fun j => j.target == 1).map fun j => j.unit

/-- A unit is a healthy free understudy: not failed, not under test, in no handover. -/
def Health.freeUnit (h : Health) (u : Option UnitId) : Bool :=
  match u with
  | none => false
  | some u => !(bitAt h.failed u.toNat) && !(h.tests.any fun j => j.target == 1 && j.unit == u) && !(h.handovers.any fun j => j.unit == u)

/-- Healthy free understudies. -/
def Health.usFree (h : Health) : Nat := flag (h.freeUnit h.us0) + flag (h.freeUnit h.us1)

/-- Logical stagehands lost. -/
def Health.lost (h : Health) : Nat := (allSh.filter fun i => (h.map.look i).isNone).length

/-- STAGEHAND_FAIL and HEALTH. -/
def State.healthFlags (s : State) : Word :=
  let h := s.health
  fields [(h.failed.toNat, 0), (flag h.testing.isSome, 15), (((h.testing.map fun u => u.toNat).getD 0), 16), (flag s.degraded, 32),
    (h.usFree, 33), (h.lost, 35), (flag (!h.handovers.isEmpty), 39), (flag h.spareBankBad, 40), (h.mramSpareRows.toNat, 48)]

/-- BANK_HARD: a bank other than the one that the spare bank replaces has a hard error (R551). -/
def MemGuard.bankHard (g : MemGuard) : Bool :=
  (List.range 33).any fun i => bitAt g.hardBanks i && g.spareBank.map (fun b => b.toNat) != some i

/-- MEM_STATUS (chapter 14). -/
def State.memStatus (s : State) : Word :=
  let g := s.guard
  let mark (i : Nat) : Option (BitVec 5) := g.marks.look (BitVec.ofNat 2 i)
  fields ([(g.spares0 + g.spares1, 0), (flag g.spareBank.isSome, 10), (((g.spareBank.map fun b => b.toNat).getD 0), 11),
    (flag g.bankHard, 16), (flag g.poisonOverflow, 44), (flag g.summaryFull, 45), (g.poison0.length + g.poison1.length, 48)] ++
    (List.range 4).flatMap fun i => [(flag (mark i).isSome, 20 + i), ((((mark i).map fun b => b.toNat).getD 0), 24 + 5 * i)])

/-- The RUN_BIST in service. -/
def Health.commanded (h : Health) : Option TestJob := h.tests.find? fun j => j.cmd.isSome

/-- BIST_STATUS and BIST_LAST (R913). -/
def State.bistStatus (s : State) : Word :=
  let h := s.health
  fields [(((h.commanded.map fun j => j.target.toNat).getD 0), 0), (((h.commanded.map fun j => j.unit.toNat).getD 0), 8),
    (flag h.commanded.isSome, 16), (flag ((h.lastResult.map fun r => r.pass).getD false), 17),
    (flag ((h.lastResult.map fun r => r.aborted).getD false), 18)]
def State.bistLast (s : State) : Word :=
  match s.health.lastResult with | some r => fields [(r.observed.toNat, 0), (r.expected.toNat, 32)] | none => 0

/-- POWER_STATUS (chapter 16). -/
def State.powerStatus (s : State) : Word :=
  let p := s.power
  fields [(p.state.code, 0), (flag (p.waking || p.target.isSome), 3), (flag p.restoreFailed, 4), (p.wakeCause.toNat, 8), (p.wakeAct.toNat, 16),
    (p.wakePin.toNat, 24), (p.deepest.code, 32)]

/-- TRACE_STATUS (chapter 23). -/
def State.traceStatus (s : State) : Word :=
  let t := s.trace
  fields [(t.written % 2 ^ 32, 0), (t.lost.toNat, 32), (min (t.written - t.exported) t.ring.length, 48), (flag t.stopped, 63)]

/-- Device-written fields of health, memory, power and trace. -/
def State.careFlags (s : State) (p : Nat) : Word :=
  let h := s.health
  match p with
  | 0xA00 => s.shMap
  | 0xA08 => s.healthFlags
  | 0xA10 => fields [(h.present.toNat, 0), (h.seen.toNat, 16)]
  | 0xA20 => fields [(h.tj.toNat, 0), (flag h.tjValid, 32), (flag h.highSeen, 33)]
  | 0xA40 => fields [(h.lifeBoots.toNat, 0), (h.lifePowerHours.toNat, 32)]
  | 0xA48 => fields [(h.lifeThermal.toNat, 0), (h.lifeTjMax.toNat, 32)]
  | 0xA50 => fields [(h.lifeRotTests.toNat, 0), (h.lifeFaultHandovers.toNat, 32)]
  | 0xA58 => fields [(h.lifeUnitFails.toNat, 0)]
  | 0xA60 => s.bistStatus
  | 0xA68 => s.bistLast
  | 0xB00 => s.memStatus
  | 0xB08 => fields [(flag s.boot.boardRecord.isSome, 31), (flag (bitAt s.dram.hot 0), 32), (flag (bitAt s.dram.hot 1), 34),
      (flag (bitAt s.dram.hot 2), 36), (flag (bitAt s.dram.hot 3), 38)]
  | 0xB18 => fields [(s.guard.logSeq.toNat, 0)]
  | 0xB28 => fields [(s.guard.dramPasses.toNat, 0), (s.guard.sramPasses.toNat, 32)]
  | 0xB88 => s.powerStatus
  | 0xBC8 => s.traceStatus
  | _ => 0

/-- CVL_STATUS (R915). -/
def State.cvlStatus (s : State) : Word :=
  fields (((List.range 8).map fun i => ((s.conv.links.look (BitVec.ofNat 3 i)).state.code, 2 * i)) ++
    (List.range 4).map fun i => ((s.tdm.look (BitVec.ofNat 2 i)).state.code, 16 + 2 * i))

/-- CVL_RX_ERRn and CVL_TX_ERRn. -/
def ConvLinkState.errWord (l : ConvLinkState) : Nat :=
  l.errCount.toNat + 2 ^ 16 * l.resyncCount.toNat + 2 ^ 24 * flag l.ilasMismatch + 2 ^ 25 * flag l.elasticErr + 2 ^ 26 * flag l.linkLost

/-- TDM_ERRn (R742). -/
def TdmPort.errWord (t : TdmPort) : Nat := t.slipCount.toNat + 2 ^ 16 * t.resyncCount.toNat + 2 ^ 24 * flag t.linkLost

/-- EP_STATUSn (chapter 20). -/
def Endpoint.statusWord (e : Endpoint) : Word := fields [(e.fifo.length, 0), (e.underrun.toNat, 32), (e.overflow.toNat, 48)]

/-- Device-written fields of the port blocks. -/
def State.portFlags (s : State) (p : Nat) : Word :=
  if 0x1400 ≤ p ∧ p < 0x1600 then (s.eps.look (BitVec.ofNat 6 ((p - 0x1400) / 8))).statusWord
  else if 0x18A0 ≤ p ∧ p < 0x18C0 then
    let n := (p - 0x18A0) / 4
    fields [((s.conv.links.look (BitVec.ofNat 3 n)).errWord, 0), ((s.conv.links.look (BitVec.ofNat 3 (n + 1))).errWord, 32)]
  else if 0x1C00 ≤ p ∧ p < 0x2000 ∧ p % 0x100 = 0x18 then
    fields [((s.tdm.look (BitVec.ofNat 2 ((p - 0x1C00) / 0x100))).errWord, 0)]
  else match p with
    | 0x1848 => s.cvlStatus
    | 0x1868 => s.conv.sysrefStamp
    | 0x1870 => fields [(s.conv.sysrefSeq.toNat, 0)]
    | 0x1878 => s.conv.lmfcStamp
    | 0x1880 => s.conv.devclkStamp
    | 0x1888 => fields [(s.conv.devclkSeq.toNat, 0)]
    | 0x1898 => s.conv.prbsErr
    | _ => 0

/-- Device-written fields of identity, control and protection. -/
def State.lowFlags (s : State) (via : Via) (p : Nat) : Word :=
  match p with
  | 0x00 => fields [(0x9616, 0), (Config.siliconRev.toNat, 16), (1, 32)]
  | 0x08 => fields [((s.stateWord &&& ~~~(0xE0 : Dword)).toNat, 0)]
  | 0x28 => s.dev.ctl.errLog.word
  | 0x30 => Config.serial
  | 0x40 => fields [(flag (s.isOpen .device via), 0)]
  | 0x48 => s.updateWord .device
  | 0x58 => s.dev.ctl.crcWord
  | 0x68 => fields [(flag s.prot.designated, 31)]
  | 0x70 => s.devBoot
  | 0x78 => fields [(s.guard.selfCheck.toNat, 0)]
  | 0x80 => s.hp0.cfgWord
  | 0x88 => s.hp1.cfgWord
  | 0xA0 => s.protPending
  | 0xA8 => (s.prot.held.map fun h => h.expiry).getD 0
  | 0xB0 => fields [(s.prot.epoch.toNat, 0)]
  | 0xC0 => fields [(s.props.basePage.toNat, 0), (s.props.sizeLog2.toNat, 16), (s.props.count.toNat, 32)]
  | _ => 0

/-- Device-written fields of a place of the device page. -/
def State.devFlags (s : State) (via : Via) (p : Nat) : Word :=
  if p < 0x100 then s.lowFlags via p
  else if p < 0x400 then s.timeFlags p
  else if p < 0x800 then s.actFlags p
  else if p < 0xA00 then
    (match p with
      | 0x980 => pinWord s.pinLevel
      | 0x990 => pinWord fun m => (s.pins.look m).settleEnd.isSome
      | 0x9A0 => s.devReg 0x9A0
      | _ => 0)
  else if p < 0x1000 then s.careFlags p
  else s.portFlags p

/-- The device-written fields of the register at a home. -/
def State.flagsAt (s : State) (via : Via) : Home → Word
  | .dev p => s.devFlags via p
  | .ten t p => s.tenFlags t via p
  | .chan _ c p => s.chanFlags c p

/-- Bits of a register that its raw copy holds and a read shows. The output latch of T_PIN_OUT belongs to the device page; the active set of a SHADOW channel is read-only and stored. -/
def State.shownBits (s : State) (h : Home) (r : RegSpec) : Word :=
  match h with
  | .ten _ p => if p = 0x98 then 0 else r.rw ||| r.w1c
  | .chan _ c p => if (s.chan c).mode = .shadow ∧ 0x80 ≤ p ∧ p < 0xC0 then allBits else r.rw ||| r.w1c
  | .dev _ => r.rw ||| r.w1c

/-- The value that a read of the register at a home returns: STG fields by their active copy (R154), WO fields as 0 (R14). -/
def State.regValue (s : State) (via : Via) (h : Home) (r : RegSpec) : Word :=
  ((s.staged h).act &&& s.shownBits h r) ||| s.flagsAt via h

end Sys2Proof.Machine
end

