-- ==== Sys2Proof/Machine/Registers.lean ====
section
/-! DEFINITION. Register accesses: which port reaches which page, what an access to an unimplemented location does, and reads with their shadows and side effects (chapter 04). -/

namespace Sys2Proof.Machine

/-! ### AER (R664) -/

/-- Bits of the AER status registers, as the PCI Express Base Specification places them (log entry 9). -/
def aerPoisoned : Nat := 12
def aerAdvisory : Nat := 13
def aerTimeout : Nat := 14
def aerAbort : Nat := 15
def aerUnexpected : Nat := 16
def aerMalformed : Nat := 18
def aerUnsupported : Nat := 20

/-- The header of the first error is kept. -/
def Port.logHeader (q : Port) (h : AerHeader) : Port := if q.aerHeader.isSome then q else { q with aerHeader := some h }

/-- An error is reported at bit `kind` of Device Control: 0 correctable, 1 non-fatal, 2 fatal; an Unsupported Request needs its own enable, and SERR# Enable replaces those of uncorrectable errors (log entry 9). -/
def Port.reports (q : Port) (kind bit : Nat) : Bool :=
  let ctl := q.cfg.look cfgDevCtl
  (bitAt ctl kind && (decide (bit ≠ aerUnsupported) || bitAt ctl 3)) || (decide (kind ≠ 0) && bitAt (q.cfg.look cfgCommand) 8)

/-- The status bits of an error: AER's, and those of Device Status. -/
def Port.aerSeen (q : Port) (kind bit : Nat) : Port :=
  let dev : Dword := BitVec.ofNat 32 (2 ^ (16 + kind) + 2 ^ 19 * flag (decide (bit = aerUnsupported)))
  { q with cfg := (q.cfg.upd cfgAerUncor fun d => d ||| (1 <<< bit)).upd cfgDevCtl fun d => d ||| dev }

/-- An error whose severity the host may have changed: ERR_NONFATAL or ERR_FATAL, with its header, unless it is masked (R664). -/
def State.aerReport (s : State) (p : HostPort) (bit : Nat) (h : Option AerHeader) : State :=
  let q := s.port p
  let kind := if bitAt (q.cfg.look cfgAerSeverity) bit then 2 else 1
  let masked := bitAt (q.cfg.look cfgAerMask) bit
  let s1 := s.updPort p fun q =>
    match h with
    | some h => if masked then q.aerSeen kind bit else (q.aerSeen kind bit).logHeader h
    | none => q.aerSeen kind bit
  if masked || !(q.reports kind bit) then s1 else s1.emit (if kind = 2 then .errFatal p else .errNonfatal p)

/-- An error that the port reports with ERR_NONFATAL and its header. -/
def State.aerNonfatal (s : State) (p : HostPort) (bit : Nat) (h : AerHeader) : State := s.aerReport p bit (some h)

/-- An advisory error, which the port signals with ERR_COR; one that the host has made fatal is no longer advisory (R664). -/
def State.aerAdvise (s : State) (p : HostPort) (bit : Nat) : State :=
  let q := s.port p
  if bitAt (q.cfg.look cfgAerSeverity) bit then s.aerReport p bit none
  else
    let s1 := s.updPort p fun q =>
      let a := q.aerSeen 0 bit
      { a with cfg := a.cfg.upd cfgAerCor fun d => d ||| (1 <<< aerAdvisory) }
    if bitAt (q.cfg.look cfgAerCorMask) aerAdvisory || !(q.reports 0 bit) then s1 else s1.emit (.errCor p)

/-! ### Ports and pages (R126, R150 to R152) -/

/-- The host port of a register access. -/
def viaHost : Via → Option HostPort
  | .hp0 => some .hp0
  | .hp1 => some .hp1
  | .house => none

/-- The code of a port in FIRST_PORT (R149). -/
def viaCode : Via → BitVec 2
  | .hp0 => 0
  | .hp1 => 1
  | .house => 2

/-- The port is STRICT (R151, R152). -/
def State.strict (s : State) (via : Via) : Bool :=
  match via with
  | .house => true
  | .hp0 => !(bitAt (s.devReg 0x0080) 0)
  | .hp1 => !(bitAt (s.devReg 0x0088) 0)

/-- A page responds on a port (R150, R180, R194). -/
def State.responds (s : State) (via : Via) (page : Page) : Bool :=
  match page, (viaHost via) with
  | .device, none => true
  | .device, some p => s.prot.designated && portOf s.prot.map.smPort == p
  | .tenant _, none => false
  | .tenant t, some p => (s.record t).enabled && s.portOfTenant t == p

/-- An event of the error log: kind 1 a WONCE rewrite, 2 a GUARD write while closed, 3 a reserved or unimplemented location, 4 a held low word dropped (R149). -/
def ErrLog.event (e : ErrLog) (kind : Nat) (via : Via) (off : BitVec 18) : ErrLog :=
  let e1 : ErrLog :=
    if kind = 3 then { e with reservedHit := true }
    else if kind = 4 then { e with pairDropped := true }
    else { e with lockViolation := true }
  if e.firstKind = 0 then { e1 with firstKind := BitVec.ofNat 3 kind, firstPort := viaCode via, firstOffset := off } else e1

/-- An event enters the log of a page; one that sets LOCK_VIOLATION raises LOCK_EVENT (R149). -/
def State.logEvent (s : State) (page : Page) (kind : Nat) (via : Via) (off : BitVec 18) : State :=
  let s1 := s.updCtl page fun c => { c with errLog := c.errLog.event kind via off }
  if kind = 1 ∨ kind = 2 then
    match page with
    | .tenant t => s1.raiseTenant t 2
    | .device => s1.raiseHouse 10
  else s1

/-- An access to an unimplemented location: it is logged where the page responds (R151). -/
def State.missed (s : State) (via : Via) (page : Page) (off : BitVec 18) : State :=
  if s.responds via page then s.logEvent page 3 via off else s

/-- No BAR access is served during FILL and CHECK (R627). -/
def State.barsShut (s : State) : Bool := s.devState == .fill || s.devState == .check

/-- A register access reaches a port: a host's only over a link that is up. -/
def State.reaches (s : State) (via : Via) : Bool :=
  match (viaHost via) with
  | some p => (s.port p).linkUp
  | none => true

/-- A register access below LIT is a wake event (R40, R605). -/
def State.touched (s : State) (via : Via) : State :=
  match (viaHost via) with
  | some _ => s.wakeBy 0
  | none => s.wakeBy 1

/-- View of an access: 0 normal, 1 SET, 2 CLEAR, 3 TOGGLE (R126). -/
def viewOf (off : BitVec 18) : Nat := off.toNat / 0x10000

/-- The bits of the word of a place that an access names; all 64 for a 64-bit register. -/
def RegSpec.wordMask (r : RegSpec) (high : Bool) : Word :=
  if r.wide then allBits else if high then bits 63 32 else bits 31 0

/-- The register at a word of a page as a port reaches it (R150, R904), through a view where it has an RW field (R128). -/
def State.regAt (s : State) (via : Via) (page : Page) (off : BitVec 18) : Option (Home × RegSpec) :=
  if !(s.responds via page) then none
  else
    let base := baseOf off
    let high := decide (base % 8 = 4)
    match s.home page base with
    | none => none
    | some h =>
      match s.specAt h with
      | none => none
      | some r =>
        let here := r.wide || (if high then r.hi else r.lo)
        let mine := via == .house || !(if high then r.houseHi else r.houseLo)
        let seen := decide (viewOf off = 0) || r.rw &&& r.wordMask high != 0
        if here && mine && seen then some (h, r) else none

/-- The queue of a doorbell that a port reaches (R150, R265); views hold no doorbell (R128). -/
def State.bellAt (s : State) (via : Via) (page : Page) (off : BitVec 18) : Option (TenantId × Bool × QueueId) :=
  match page with
  | .device => none
  | .tenant t =>
    if s.responds via page && decide (viewOf off = 0) then
      match doorbellAt (baseOf off) with
      | some (cq, q) =>
        let there := if cq then (s.cq t q).state != .absent else (s.sq t q).state != .absent
        if there then some (t, cq, q) else none
      | none => none
    else none

/-- An access of this size and alignment is one of R131. -/
def sizeOk (off : BitVec 18) (eight : Bool) : Bool := decide (off.toNat % (if eight then 8 else 4) = 0)

/-! ### Reads (R131 to R138) -/

/-- What an access returns: the state after it, its data, and whether it ended in a bus error. -/
structure Got where
  s : State
  data : Word
  err : Bool
  deriving DecidableEq, Repr

/-- A read that finds nothing there: zero, and a bus error under STRICT (R151). -/
def State.readNothing (s : State) (via : Via) (page : Page) (off : BitVec 18) : Got :=
  { s := s.missed via page off, data := 0, err := s.strict via }

/-- The side effect of a read that completes: a prop request (R452), or the clearing of the PRBS counts (R716). -/
def State.readEffect (s : State) (via : Via) (h : Home) (value : Word) : State × Word :=
  match h with
  | .ten t p =>
    if p = 0x70 then
      let taker := if via = .hp1 then 97 else 96
      match s.askProp t taker (s.propRivals.filter fun r => r.2 != taker) with
      | (s1, some i) => (s1, BitVec.ofNat 64 i)
      | (s1, none) => (s1.updTenant t fun n => { n with starved := satAdd n.starved 1 }, 0xFFFF)
    else (s, value)
  | .dev p => if p = 0x1898 then ({ s with conv := { s.conv with prbsErr := 0 } }, value) else (s, value)
  | .chan _ _ _ => (s, value)

/-- A 4-byte read of one word (R135): the low word of a 64-bit register latches its high word, and the high word comes from the shadow that belongs to the register. -/
def State.read4 (s : State) (via : Via) (page : Page) (off : BitVec 18) : Got :=
  match s.regAt via page off with
  | some (h, r) =>
    let high := decide (baseOf off % 8 = 4)
    let (s1, v) := s.readEffect via h (s.regValue via h r)
    if !r.wide then { s := s1, data := (if high then v >>> 32 else v) &&& bits 31 0, err := false }
    else
      let place : BitVec 18 := BitVec.ofNat 18 (baseOf off / 8 * 8)
      if high then
        match ((s.ctl page).view via).shadow with
        | some w => { s := s1, data := (if w.off = place then w.word.zeroExtend 64 else v >>> 32), err := false }
        | none => { s := s1, data := v >>> 32, err := false }
      else
        let w : HalfWord := { off := place, word := hi32 v }
        { s := s1.updCtl page fun c => c.updView via fun x => { x with shadow := some w }, data := v &&& bits 31 0, err := false }
  | none =>
    match s.bellAt via page off with
    | some _ => { s := s, data := 0, err := false }
    | none => s.readNothing via page off

/-- The 8 bytes at a place hold a register that accepts only 4-byte accesses, or a doorbell (R963). -/
def State.onlyFour (s : State) (page : Page) (off : BitVec 18) : Bool :=
  let base := baseOf off
  (match page with | .device => false | .tenant _ => (doorbellAt (base / 8 * 8)).isSome) ||
    match s.home page base with
    | none => false
    | some h => match s.specAt h with | some r => r.only4 | none => false

/-- A register read (R131, R132, R963). -/
def State.regRead (s : State) (via : Via) (page : Page) (off : BitVec 18) (eight : Bool) : Got :=
  if !(sizeOk off eight) then s.readNothing via page off
  else if !eight then s.read4 via page off
  else if s.onlyFour page off then s.readNothing via page off
  else
    match s.regAt via page off with
    | some (h, r) =>
      if r.wide then
        let (s1, v) := s.readEffect via h (s.regValue via h r)
        { s := s1, data := v, err := false }
      else
        let a := s.read4 via page off
        let b := a.s.read4 via page (off + 4)
        { s := b.s, data := join64 (lo32 a.data) (lo32 b.data), err := a.err || b.err }
    | none =>
      let a := s.read4 via page off
      let b := a.s.read4 via page (off + 4)
      { s := b.s, data := join64 (lo32 a.data) (lo32 b.data), err := a.err || b.err }

/-- The BAR of a page, and the offset of an access in it (R652). -/
def barOf (page : Page) (off : BitVec 18) : AerHeader :=
  match page with
  | .tenant t => { bar := 0, off := BitVec.ofNat 60 (t.toNat * 0x40000 + off.toNat) }
  | .device => { bar := 1, off := off.zeroExtend 60 }

/-- A read of a host port or of the House ends: its data, or its error (R664, R682). -/
def State.readDone (g : Got) (via : Via) (eight : Bool) : State :=
  if !g.err then g.s.emit (.regData via eight g.data)
  else match (viaHost via) with
    | some p => (g.s.emit (.busError via)).aerAdvise p aerUnsupported
    | none => { g.s.emit (.busError via) with house := { g.s.house with accessErr := true } }

end Sys2Proof.Machine
end

