-- ==== Sys2Proof/Machine/MapImage.lean ====
section
/-! DEFINITION. The protection map as bytes: its canonical image, proposal bodies and their validity (R182 to R184, R966). -/

namespace Sys2Proof.Machine

/-! ### The image (R182, R183) -/

/-- A dword from fields, each a number and the bit at which it lies. -/
def dword (l : List (Nat × Nat)) : Dword := BitVec.ofNat 32 (l.map fun x => x.1 * 2 ^ x.2).sum

/-- Four dwords of a window entry. -/
def Window.dwords (w : Window) : List Dword :=
  [BitVec.ofNat 32 w.base.toNat, dword [(w.base.toNat / 2 ^ 32, 0), (w.tag.toNat, 28)], BitVec.ofNat 32 w.last.toNat,
   dword [(w.last.toNat / 2 ^ 32, 0), (flag w.read, 28), (flag w.write, 29), (flag w.valid, 31)]]

/-- The 48 dwords of a tenant record. -/
def TenantRecord.dwords (r : TenantRecord) : List Dword :=
  [dword [(flag r.enabled, 0), (flag r.port, 1)], dword [(r.chanBase.toNat, 0), (r.chanCount.toNat, 8)],
   dword [(r.sqQuota.toNat, 0), (r.cqQuota.toNat, 8)], dword [(r.cueBase.toNat, 0), (r.cueCount.toNat, 16)],
   dword [(r.propQuota.toNat, 0)], dword [(r.actControl.toNat, 0), (r.actBind.toNat, 16)], lo32 r.endpoints, hi32 r.endpoints,
   BitVec.ofNat 32 r.pins.toNat, BitVec.ofNat 32 (r.pins.toNat / 2 ^ 32), dword [(r.vecBase.toNat, 0), (r.vecCount.toNat, 16)],
   0, 0, 0, 0, 0] ++ r.windowList.flatMap Window.dwords

/-- The four dwords of a host-window section. -/
def HostWindow.dwords (w : HostWindow) : List Dword :=
  [dword [(w.sramFirst.toNat, 0), (w.sramLast.toNat, 16), (flag w.sramRead, 30), (flag w.sramWrite, 31)],
   BitVec.ofNat 32 w.dramFirst.toNat, dword [(w.dramLast.toNat, 0), (flag w.dramRead, 30), (flag w.dramWrite, 31)], 0]

/-- The header of the image in force. CFG_REF_NEXT and CFG_REF_APPLY, which belong to a proposal, read 0: DESIGN CHOICE, the spec does not say what they show in an image (log entry 30). -/
def ProtMap.header (m : ProtMap) (epoch : Dword) : List Dword :=
  [0x00010001, epoch, dword [(m.smTenant.toNat, 0), (flag m.smPort, 4)], m.csWindow, 0x0001FFFF, 0, 0, 0] ++
    m.hostWin0.dwords ++ m.hostWin1.dwords

/-- The canonical image; to a reader that is not privileged only its own record is shown (R191). -/
def ProtMap.image (m : ProtMap) (epoch : Dword) (reader : Option TenantId) : List Byte :=
  dwordBytes (m.header epoch ++ allTenants.flatMap fun t =>
    match reader with
    | some r => if r = t then (m.records.look t).dwords else ({} : TenantRecord).dwords
    | none => (m.records.look t).dwords)

/-! ### Reading a body -/

/-- A 64-bit value at dword `i` of a list of bytes. -/
def wordAt (bs : List Byte) (i : Nat) : Word := join64 (dwordAt bs i) (dwordAt bs (i + 1))

/-- The window entry at dword `i`. -/
def windowAt (bs : List Byte) (i : Nat) : Window :=
  let lo := wordAt bs i
  let hi := wordAt bs (i + 2)
  { valid := bitAt hi 63, tag := lo.extractLsb' 60 4, base := lo.truncate 60, last := hi.truncate 60,
    read := bitAt hi 60, write := bitAt hi 61 }

/-- The tenant record at dword `i`. -/
def recordAt (bs : List Byte) (i : Nat) : TenantRecord :=
  let d (k : Nat) : Dword := dwordAt bs (i + k)
  { enabled := bitAt (d 0) 0, port := bitAt (d 0) 1
    chanBase := (d 1).extractLsb' 0 7, chanCount := (d 1).extractLsb' 8 7
    sqQuota := (d 2).extractLsb' 0 7, cqQuota := (d 2).extractLsb' 8 6
    cueBase := (d 3).extractLsb' 0 10, cueCount := (d 3).extractLsb' 16 11
    propQuota := (d 4).extractLsb' 0 16
    actControl := (d 5).extractLsb' 0 16, actBind := (d 5).extractLsb' 16 16
    endpoints := wordAt bs (i + 6), pins := (wordAt bs (i + 8)).truncate 48
    vecBase := (d 10).extractLsb' 0 8, vecCount := (d 10).extractLsb' 16 9
    windows := Vector.ofFn fun w => windowAt bs (i + 16 + 4 * w.val) }

/-- The host-window section of a port at dword `i`. -/
def hostWindowAt (bs : List Byte) (i : Nat) : HostWindow :=
  let d (k : Nat) : Dword := dwordAt bs (i + k)
  { sramFirst := (d 0).extractLsb' 0 11, sramLast := (d 0).extractLsb' 16 11, sramRead := bitAt (d 0) 30, sramWrite := bitAt (d 0) 31
    dramFirst := (d 1).extractLsb' 0 24, dramLast := (d 2).extractLsb' 0 24, dramRead := bitAt (d 2) 30, dramWrite := bitAt (d 2) 31 }

/-- TENANT_MASK, FULL, HOSTWIN, CS_WINDOW and SM_CHANGE of a body. -/
def bodyMask (bs : List Byte) : BitVec 16 := (dwordAt bs 4).truncate 16
def bodyFull (bs : List Byte) : Bool := bitAt (dwordAt bs 0) 16
def bodyHostWin (bs : List Byte) : Bool := bitAt (dwordAt bs 4) 16
def bodyWindow (bs : List Byte) : Dword := dwordAt bs 3
def bodySmChange (bs : List Byte) : Bool := bitAt (dwordAt bs 2) 8

/-- Tenants whose records a body carries, ascending, each with the dword at which its record starts. -/
def bodyRecords (bs : List Byte) : List (TenantId × Nat) :=
  ((allTenants.filter fun t => bitAt (bodyMask bs) t.toNat).zipIdx).map fun x => (x.1, 16 + 48 * x.2)

/-- Length that a body of its mask has (R184). -/
def bodyLength (bs : List Byte) : Nat := 64 + 192 * (bodyRecords bs).length

/-- The map that results from a body (R182, R200). -/
def ProtMap.apply (m : ProtMap) (bs : List Byte) : ProtMap :=
  let d2 := dwordAt bs 2
  { smTenant := if bodySmChange bs then d2.truncate 4 else m.smTenant
    smPort := if bodySmChange bs then bitAt d2 4 else m.smPort
    csWindow := if bodyWindow bs = 0 then m.csWindow else bodyWindow bs
    hostWin0 := if bodyHostWin bs then hostWindowAt bs 8 else m.hostWin0
    hostWin1 := if bodyHostWin bs then hostWindowAt bs 12 else m.hostWin1
    records := (bodyRecords bs).foldl (fun r x => r.put x.1 (recordAt bs x.2)) m.records }

/-! ### Validity (R184, R966) -/

/-- Listed bits of the dwords of a header and of a tenant record. -/
def headerMask (hostWin : Bool) : List Dword :=
  [0x0001FFFF, 0xFFFFFFFF, 0x0000011F, 0xFFFFFFFF, 0x0001FFFF, 0xFFFFFFFF, 1, 0] ++
    (if hostWin then [0xC7FF07FF, 0x00FFFFFF, 0xC0FFFFFF, 0, 0xC7FF07FF, 0x00FFFFFF, 0xC0FFFFFF, 0] else List.replicate 8 0)
def recordMask : List Dword :=
  [3, 0x00007F7F, 0x00003F7F, 0x07FF03FF, 0x0000FFFF, 0xFFFFFFFF, 0xFFFFFFFF, 0xFFFFFFFF, 0xFFFFFFFF, 0x0000FFFF, 0x01FF00FF,
   0, 0, 0, 0, 0] ++ (List.replicate 8 [(0xFFFFFFFF : Dword), 0xFFFFFFFF, 0xFFFFFFFF, 0xBFFFFFFF]).flatten

/-- Body offsets of reserved fields that are not zero, from dword `i` on. -/
def reservedIn (bs : List Byte) (i : Nat) (masks : List Dword) : List Nat :=
  masks.zipIdx.filterMap fun x => (reservedAt x.1 (dwordAt bs (i + x.2))).map fun b => 4 * (i + x.2) + b / 8

/-- Body offsets of the fields of a record that lie outside their ranges (R183). -/
def recordRanges (r : TenantRecord) (i : Nat) : List Nat :=
  (if 95 < r.chanBase.toNat then [4 * i + 4] else []) ++ (if 96 < r.chanCount.toNat then [4 * i + 5] else []) ++
    (if 64 < r.sqQuota.toNat then [4 * i + 8] else []) ++ (if 32 < r.cqQuota.toNat then [4 * i + 9] else []) ++
    (if 1024 < r.cueCount.toNat then [4 * i + 14] else []) ++ (if 256 < r.vecCount.toNat then [4 * i + 42] else [])

/-- A byte lies within the addressable range of its tag (R27, R33). -/
def State.addressable (s : State) (tag off : Nat) : Bool :=
  match tag with
  | 0 => decide (off < 2 ^ 23)
  | 1 => decide (off < 2 ^ 36) && decide (s.dramPlace off = .memory)
  | 2 => true
  | 3 => true
  | 4 => decide (off < 2 ^ 34)
  | 5 => decide (off < 2 ^ 22)
  | _ => false

/-- Body offsets at which the windows of a record break R183 or R184. That bits [11:0] of BASE and LAST are judged here, with the window rule and for VALID windows alone, is the model's choice: the spec names no rule for them (DESIGN CHOICE, log entry 30). -/
def State.windowErrors (s : State) (r : TenantRecord) (i : Nat) : List Nat :=
  r.windowList.zipIdx.flatMap fun x =>
    let w : Window := x.1
    let o : Nat := 4 * (i + 16 + 4 * x.2)
    let known : Bool := decide (w.tag.toNat ≤ 5)
    let out (off : Nat) : Bool := known && !(s.addressable w.tag.toNat off)
    if !w.valid then []
    else
      (if w.base.toNat % 4096 ≠ 0 ∨ w.last.toNat < w.base.toNat ∨ out w.base.toNat = true then [o] else []) ++
        (if known then [] else [o + 7]) ++
        (if w.last.toNat % 4096 ≠ 4095 ∨ out w.last.toNat = true then [o + 8] else [])

/-- The body offset of a field of a tenant's record, or of the lowest record of the body that takes part in a breach (R966). -/
def breachOffset (recs : List (TenantId × Nat)) (t : TenantId) (parts : List TenantId) (fieldOff : Nat) : Nat :=
  match recs.find? fun x => x.1 == t with
  | some x => 4 * x.2 + fieldOff
  | none => match recs.find? fun x => parts.contains x.1 with
    | some x => 4 * x.2 + fieldOff
    | none => 16

/-- The first record, ascending, whose range overlaps an earlier one or ends beyond a limit, with all that take part. -/
def rangeBreach (limit : Nat) (range : TenantId → Option (Nat × Nat × Bool)) : List TenantId → List TenantId → Option (TenantId × List TenantId)
  | [], _ => none
  | t :: ts, seen =>
    match range t with
    | none => rangeBreach limit range ts seen
    | some (b, n, g) =>
      if n = 0 then rangeBreach limit range ts seen
      else
        let parts := seen.filter fun u => match range u with
          | some (b', n', g') => g' == g && decide (b' < b + n) && decide (b < b' + n')
          | none => false
        if parts.isEmpty && decide (b + n ≤ limit) then rangeBreach limit range ts (seen ++ [t]) else some (t, parts ++ [t])

/-- The record at which a running total first exceeds its limit, with all that take part. -/
def totalBreach (limit : Nat) (value : TenantId → Nat) : List TenantId → Nat → List TenantId → Option (TenantId × List TenantId)
  | [], _, _ => none
  | t :: ts, total, parts =>
    if value t = 0 then totalBreach limit value ts total parts
    else if limit < total + value t then some (t, parts ++ [t])
    else totalBreach limit value ts (total + value t) (parts ++ [t])

/-- The rings of a tenant's admin pair, while it is enabled: base and bytes (R184). -/
def State.adminRings (s : State) (t : TenantId) : List (Addr × Nat) :=
  let size := s.tenReg t 0x110
  if bitAt size 31 then [(s.tenReg t 0x100, 64 * 2 ^ field size 3 0), (s.tenReg t 0x108, 16 * 2 ^ field size 7 4)] else []

/-- A record holds a ring wholly inside one of its windows that grants reads and writes. -/
def TenantRecord.ringInside (r : TenantRecord) (a : Addr) (bytes : Nat) : Bool :=
  r.windowList.any fun w =>
    w.covers (tagOf a) (offOf a) && w.read && w.write && decide (offOf a + bytes ≤ w.last.toNat + 1)

/-- The Stage Manager of the resulting map is one of R184. -/
def State.smGood (s : State) (m : ProtMap) (bs : List Byte) : Bool :=
  let d2 := dwordAt bs 2
  let t : TenantId := d2.truncate 4
  let r := m.records.look t
  (bodySmChange bs || (t == s.prot.map.smTenant && bitAt d2 4 == s.prot.map.smPort)) && r.enabled && r.port == bitAt d2 4 &&
    (s.adminRings t).all fun a => r.ringInside a.1 a.2

/-- Offsets of a breach, none or one. -/
def breachList (recs : List (TenantId × Nat)) (b : Option (TenantId × List TenantId)) (fieldOff : Nat) : List Nat :=
  match b with | some (t, parts) => [breachOffset recs t parts fieldOff] | none => []

/-- What breaks each rule of R184 after the length, in the order listed; `first` while no map has been committed (R195). -/
def State.bodyErrors (s : State) (bs : List Byte) (pool : Nat) (first : Bool) : List (List Nat) :=
  let recs := bodyRecords bs
  let m := s.prot.map.apply bs
  let r (t : TenantId) : TenantRecord := m.records.look t
  let cs := bodyWindow bs
  [ (if (dwordAt bs 0).truncate 16 ≠ (1 : BitVec 16) then [0] else []) ++ (if dwordAt bs 1 ≠ s.prot.epoch then [4] else []),
    (if first && !(bodyFull bs) then [2] else []) ++
      (if bodyFull bs then (if bodyMask bs ≠ 0xFFFF then [16] else []) ++ (if bodyHostWin bs then [] else [18]) ++ (if cs = 0 then [12] else [])
       else []),
    (if cs ≠ 0 ∧ (cs.toNat < 1000 ∨ 10000000 < cs.toNat) then [12] else []) ++ reservedIn bs 0 (headerMask (bodyHostWin bs)) ++
      recs.flatMap fun x => reservedIn bs x.2 recordMask ++ recordRanges (recordAt bs x.2) x.2,
    breachList recs (rangeBreach 96 (fun t => if (r t).enabled then some ((r t).chanBase.toNat, (r t).chanCount.toNat, false) else none) allTenants []) 4,
    breachList recs (rangeBreach 1024 (fun t => some ((r t).cueBase.toNat, (r t).cueCount.toNat, false)) allTenants []) 12,
    breachList recs (rangeBreach 256 (fun t => some ((r t).vecBase.toNat, (r t).vecCount.toNat, (r t).port)) allTenants []) 40,
    breachList recs (totalBreach 512 (fun t => (r t).sqQuota.toNat) allTenants 0 []) 8 ++
      breachList recs (totalBreach 256 (fun t => (r t).cqQuota.toNat) allTenants 0 []) 9 ++
      breachList recs (totalBreach pool (fun t => (r t).propQuota.toNat) allTenants 0 []) 16,
    recs.flatMap fun x => s.windowErrors (recordAt bs x.2) x.2,
    (if s.smGood m bs then [] else [8]),
    (if bodyHostWin bs then
      [0, 1].flatMap fun p =>
        let w := hostWindowAt bs (8 + 4 * p)
        (if w.sramLast.toNat < w.sramFirst.toNat then [32 + 16 * p] else []) ++ (if w.dramLast.toNat < w.dramFirst.toNat then [36 + 16 * p] else [])
     else []) ]

/-- The body offset that a proposal's INVALID_FIELD reports: the lowest that breaks the first rule broken (R966). -/
def State.bodyError (s : State) (bs : List Byte) (pool : Nat) (first : Bool) : Option Nat :=
  ((s.bodyErrors bs pool first).find? fun l => !l.isEmpty).bind least

end Sys2Proof.Machine
end

