-- ==== Sys2Proof/Machine/HostMem.lean ====
section
/-! DEFINITION. Host accesses to Wing SRAM and DRAM through BAR2 and BAR4, and the posted write buffers (R484, R654 to R658, R664, R665, R962). -/

namespace Sys2Proof.Machine

/-- The bytes of a write that are enabled, with their offsets. -/
def enabledBytes (off : Nat) : List Byte → List Bool → List (Nat × Byte)
  | b :: bs, e :: es => (if e then [(off, b)] else []) ++ enabledBytes (off + 1) bs es
  | _, _ => []

/-- The cells of one 64-byte block. -/
def inBlock (line : Nat) (l : List (Nat × Byte)) : List (Nat × Byte) := l.filter fun c => decide (c.1 / 64 * 64 = line)

/-- The blocks that cells lie in, ascending: the cells of a request lie in ascending order. -/
def blocksOf : List (Nat × Byte) → List Nat
  | [] => []
  | c :: cs => let b := c.1 / 64 * 64; b :: (blocksOf cs).filter fun x => x != b

/-- One block of a DRAM write lands, or its merge is refused (R540, R541, R654). -/
def State.dramBlock (s : State) (line : Nat) (l : List (Nat × Byte)) (ecc : Ecc) (source : Nat) : State × Bool :=
  if l.length = 64 then ((s.store (dramAddr line) (l.map fun c => c.2) .clean source).1, true)
  else
    match l with
    | [] => (s, true)
    | c :: cs =>
      match s.store (dramAddr c.1) [c.2] ecc source with
      | (s1, some _) => (s1, false)
      | (s1, none) => (s1.forAll cs fun d s => s.dramWrite d.1 [d.2], true)

/-- The blocks of a DRAM write land in ascending order, up to one whose merge is refused (R962). -/
def State.dramBlocks (s : State) (l : List (Nat × Byte)) (source : Nat) : List Nat → Ecc → State × Bool
  | [], _ => (s, true)
  | b :: bs, ecc =>
    match s.dramBlock b (inBlock b l) ecc source with
    | (s1, true) => s1.dramBlocks l source bs .clean
    | (s1, false) => (s1, false)

/-- A host write to DRAM is performed; a refused merge is reported once (R664, R962). -/
def State.hostStore (s : State) (p : HostPort) (w : PostedWrite) (ecc : Ecc) : State :=
  let cells := enabledBytes w.off w.bytes w.enables
  match s.dramBlocks cells (srcPort p) (blocksOf cells) ecc with
  | (s1, true) => s1
  | (s1, false) => s1.aerNonfatal p aerAbort { bar := 4, off := BitVec.ofNat 60 w.off }

/-- The oldest write of a port's posted write buffer becomes visible (R484, R658). -/
def State.drainPosted (s : State) (p : HostPort) (ecc : Ecc) : State :=
  match (s.port p).posted with
  | [] => s
  | w :: rest => (s.updPort p fun q => { q with posted := rest }).hostStore p w ecc

/-- Every posted write of a port becomes visible, before an access that R484 orders after them. -/
def State.drainAllPosted (s : State) (p : HostPort) : State :=
  (List.range (s.port p).posted.length).foldl (fun s _ => s.drainPosted p .clean) s

/-- The buffer has room for another write of `n` bytes: 32 writes, or 4 KiB (R658). -/
def Port.postedRoom (q : Port) (n : Nat) : Bool :=
  decide (q.posted.length < 32) && decide ((q.posted.map fun w => w.bytes.length).sum + n ≤ 4096)

/-- Room is made by draining the oldest writes (R658). -/
def State.makeRoom (s : State) (p : HostPort) (n : Nat) : Nat → State
  | 0 => s
  | k + 1 => if (s.port p).postedRoom n then s else (s.drainPosted p .clean).makeRoom p n k

/-- Bytes of a read with the port's own buffered writes over them (R484). -/
def overlay (q : Port) (off : Nat) (bs : List Byte) : List Byte :=
  q.posted.foldl
    (fun bs w => (enabledBytes w.off w.bytes w.enables).foldl
      (fun bs c => if off ≤ c.1 then bs.set (c.1 - off) c.2 else bs) bs) bs

/-- Reads block by block: the bytes before the first block that cannot be read, and whether one was found (R665). -/
def State.readBlocks (s : State) (tag : Nat) (source : Nat) : List Nat → Nat → Nat → Ecc → State × List Byte × Bool
  | [], _, _, _ => (s, [], true)
  | b :: bs, off, stop, ecc =>
    let first := max b off
    let n := min (b + 64) stop - first
    let a : Addr := BitVec.ofNat 64 (tag * 2 ^ 60 + first)
    match s.load a n ecc source true with
    | (s1, some _) => (s1, [], false)
    | (s1, none) =>
      match s1.readBlocks tag source bs off stop .clean with
      | (s2, data, ok) => (s2, s1.peek a n ++ data, ok)

/-- A read of Wing SRAM or DRAM by a host ends: its data, or the data before a Completer Abort (R664, R665). -/
def State.hostLoad (s : State) (p : HostPort) (tag off len : Nat) (ecc : Ecc) : State :=
  match s.readBlocks tag (srcPort p) (linesOf off len) off (off + len) ecc with
  | (s1, data, ok) =>
    let bs := if tag = 1 then overlay (s1.port p) off data else data
    let s2 := s1.emit (.barData p (bs.take data.length))
    if ok then s2 else (s2.emit (.completerAbort p)).aerAdvise p aerAbort

/-- An access that a BAR refuses: Unsupported Request under STRICT, zeros or nothing under COMPAT (R151, R664). -/
def State.barRefused (s : State) (p : HostPort) (bar : Nat) (off : BitVec 60) (write : Bool) (len : Nat) (strict : Bool) : State :=
  if write then (if strict then s.aerNonfatal p aerUnsupported { bar := BitVec.ofNat 3 bar, off := off } else s)
  else if strict then (s.emit (.unsupported p)).aerAdvise p aerUnsupported
  else s.emit (.barData p (List.replicate len 0))

/-- A port as the source of a register access. -/
def viaOf : HostPort → Via
  | .hp0 => .hp0
  | .hp1 => .hp1

/-- The host-window section of a port (R182). -/
def State.hostWin (s : State) : HostPort → HostWindow
  | .hp0 => s.prot.map.hostWin0
  | .hp1 => s.prot.map.hostWin1

/-- Bytes from `lo` to `hi` lie in the SRAM pages of a section, with the right. -/
def HostWindow.sramOk (w : HostWindow) (lo hi : Nat) (write : Bool) : Bool :=
  (if write then w.sramWrite else w.sramRead) && decide (w.sramFirst.toNat * 4096 ≤ lo) && decide (hi < (w.sramLast.toNat + 1) * 4096)

/-- Bytes from `lo` to `hi` lie in the DRAM pages of a section, with the right. -/
def HostWindow.dramOk (w : HostWindow) (lo hi : Nat) (write : Bool) : Bool :=
  (if write then w.dramWrite else w.dramRead) && decide (w.dramFirst.toNat * 4096 ≤ lo) && decide (hi < (w.dramLast.toNat + 1) * 4096)

/-- First and last byte that an access touches, as displacements; none for a write without an enabled byte. -/
def barSpan (a : BarAccess) : Option (Nat × Nat) :=
  if a.write then
    let l := (enabledBytes 0 a.bytes a.enables).map fun c => c.1
    match l.head?, l.getLast? with
    | some x, some y => some (x, y)
    | _, _ => none
  else if a.len = 0 then none
  else some (0, a.len - 1)

/-- What an access through BAR2 or BAR4 meets before it is judged: the link, the poisoned TLP, the device states that serve no BAR (R627, R664, R666). -/
def State.barGate (s : State) (a : BarAccess) (bar : Nat) (perform : State → Result) : Result :=
  if a.write && a.bytes.length != a.enables.length then .fault .malformedEvent
  else if !(s.port a.port).linkUp then .next s
  else
    let s1 := s.wakeBy 0
    if a.write && a.poisoned then .next (s1.aerNonfatal a.port aerPoisoned { bar := BitVec.ofNat 3 bar, off := a.off })
    else if s1.barsShut || s1.devState == .faulted then .next (s1.barRefused a.port bar a.off a.write a.len true)
    else perform s1

/-- BAR2_ACCESS (R655). -/
def execBar2Access (a : BarAccess) (s : State) : Result :=
  s.barGate a 2 fun s =>
    let off := a.off.toNat
    match barSpan a with
    | none => .next s
    | some (x, y) =>
      if 2 ^ 23 ≤ off + y ∨ (s.hostWin a.port).sramOk (off + x) (off + y) a.write = false then
        .next (s.barRefused a.port 2 a.off a.write a.len (s.strict (viaOf a.port)))
      else if a.write then
        .next (s.forAll (enabledBytes off a.bytes a.enables) fun c s => s.wingWrite c.1 [c.2])
      else .next (s.hostLoad a.port 0 off a.len a.ecc)

/-- The aperture of a port (R656). -/
def State.aperture (s : State) (p : HostPort) : Nat :=
  field (s.devReg (match p with | .hp0 => 0x0090 | .hp1 => 0x0098)) 35 20 * 2 ^ 20

/-- BAR4_ACCESS (R655 to R658): the lower half writes through the posted write buffer, the ordered alias directly, after every earlier write of the port. -/
def execBar4Access (a : BarAccess) (s : State) : Result :=
  s.barGate a 4 fun s =>
    let off := s.aperture a.port + a.off.toNat % 2 ^ 30
    match barSpan a with
    | none => .next s
    | some (x, y) =>
      let addr : Addr := BitVec.ofNat 64 (2 ^ 60 + off + x)
      let inside := decide (a.off.toNat < 2 ^ 31) && decide (off + y < 2 ^ 36) && (s.checkRange addr (y + 1 - x)).isNone &&
        (s.hostWin a.port).dramOk (off + x) (off + y) a.write
      if !inside then .next (s.barRefused a.port 4 a.off a.write a.len (s.strict (viaOf a.port)))
      else
        let w : PostedWrite := { off := off, bytes := a.bytes, enables := a.enables }
        if 2 ^ 30 ≤ a.off.toNat then
          let s1 := s.drainAllPosted a.port
          if a.write then .next (s1.hostStore a.port w a.ecc) else .next (s1.hostLoad a.port 1 off a.len a.ecc)
        else if a.write then
          .next ((s.makeRoom a.port a.bytes.length 33).updPort a.port fun q => { q with posted := q.posted ++ [w] })
        else .next (s.hostLoad a.port 1 off a.len a.ecc)

/-- POSTED_WRITE_DRAIN (R658). -/
def execPostedWriteDrain (port : HostPort) (ecc : Ecc) (s : State) : Result := .next (s.drainPosted port ecc)

/-! ### Register reads (R131 to R138) -/

/-- A register read as one request: earlier posted writes of its port take effect first (R133), nothing arrives over a link that is down, and no page answers during FILL and CHECK (R627). An access of another size, or with byte enables that are not all set, finds nothing (R131, R150). -/
def State.requestRead (s : State) (a : RegRead) : State :=
  if !(s.reaches a.via) then s
  else
    let s1 := s.touched a.via
    if a.via != .house && s1.barsShut then State.readDone { s := s1, data := 0, err := true } a.via a.eight
    else
      let s2 := match viaHost a.via with | some p => s1.drainAllPosted p | none => s1
      State.readDone (if a.odd then s2.readNothing a.via a.page a.off else s2.regRead a.via a.page a.off a.eight) a.via a.eight

/-- LOW_WORD_READ (R135): a read of a register; that of a 64-bit register's low word latches its high word. -/
def execLowWordRead (a : RegRead) (s : State) : Result := .next (s.requestRead a)

/-- T_PROP_ALLOC (R452): a read of T_PROP_ALLOC. -/
def execTPropAlloc (a : RegRead) (s : State) : Result :=
  match a.page with
  | .tenant _ => if baseOf a.off = 0x70 then .next (s.requestRead a) else .next s
  | .device => .next s

/-- PRBS_ERR_READ (R716): a read of CVL_PRBS_ERR. -/
def execPrbsErrRead (a : RegRead) (s : State) : Result :=
  match a.page with
  | .device => if baseOf a.off / 8 * 8 = 0x1898 then .next (s.requestRead a) else .next s
  | .tenant _ => .next s

end Sys2Proof.Machine
end

