-- ==== Sys2Proof/Machine/Doorbells.lean ====
section
/-! DEFINITION. Doorbells and the reads of submission queue entries (R265 to R275, R281 to R294). -/

namespace Sys2Proof.Machine

/-! ### Faults of a submission queue (R289 to R294) -/

/-- The fault completion of an SQ (R290, R294): COVERED 1 for the admin queue. -/
def faultCompletion (q : QueueId) (status : Byte) (dw3 : Dword) : Completion :=
  { status := status, sqId := q.zeroExtend 8, covered := if q = 0 then 1 else 0, tag := 0, head := 0, dw2 := 0, dw3 := dw3 }

/-- A channel that is not started ends HALTED behind the fault completion of its queue, once its writes are proven (R290, R476); one that is halted posts it and stays so. -/
def State.haltResting (s : State) (c : ChanId) (status : Byte) (dw3 : Dword) : State :=
  if (s.chan c).state = .halted then
    (s.updSq (s.tenantOf c) (s.chan c).sq fun x => { x with faultDue := none }).postWork c
      { status := status, covered := 0, tag := 0, head := (s.sqOf c).head, dw2 := 0, dw3 := dw3, vector := false }
  else if (s.chan c).after.isSome then s
  else (s.updChan c fun n => { n with after := some .sqFault }).go [c]

/-- An SQ faults: fetching stops, the event is raised, and the fault completion follows what was taken before it (R289, R290). -/
def State.faultSq (s : State) (t : TenantId) (q : QueueId) (cause : Nat) (status : Byte) (dw3 : Dword) : State :=
  let x := s.sq t q
  let s1 := ((s.updSq t q fun x =>
      { x with state := .faulted, cause := BitVec.ofNat 4 cause, entries := [], ownWait := false, stamps := [], retries := []
               faultDue := some (faultCompletion q status dw3) }).raiseTenant t 0).note 4 0x40 (some t) none
    (BitVec.ofNat 32 (q.toNat + 256 * cause))
  if q = 0 then (s1.updTenant t fun n => { n with untaken := [] }).adminFault t
  else match x.slot with
    | some c =>
      if (s.chan c).live then s1.go [c]
      else s1.haltResting c status dw3
    | none =>
      let c : Completion := { faultCompletion q status dw3 with head := x.head }
      (s1.updSq t q fun x => { x with faultDue := none }).postCq t (x.cq.zeroExtend 7)
        { c := c, sq := q, chan := none, vector := none, result := [] }

/-! ### The tail doorbell (R266, R268, R269) -/

/-- A tail doorbell is judged (R266): its cause of fault, or none. -/
def SubQueue.judgeTail (x : SubQueue) (value : Dword) : Option Nat :=
  let n := ringSize x.log2
  if 2 ^ 16 ≤ value.toNat ∨ n ≤ value.toNat then some 1
  else if n - 1 - ringDiff x.log2 x.tail x.head < ringDiff x.log2 (value.truncate 16) x.tail then some 2
  else none

/-- A tail doorbell reaches an SQ. A faulted SQ ignores it (R291). -/
def State.ringTail (s : State) (t : TenantId) (q : QueueId) (value : Dword) : State :=
  let x := s.sq t q
  match x.state with
  | .active =>
    match x.judgeTail value with
    | some cause => s.faultSq t q cause 0x09 (BitVec.ofNat 32 (cause + 65536 * (value.toNat % 65536)))
    | none =>
      let v : BitVec 16 := value.truncate 16
      let s1 := s.updSq t q fun x =>
        { x with tail := v, ownWait := false, stamps := if q = 0 then x.stamps ++ [(v, s.now)] else [] }
      match x.slot with
      | some c => s1.go [c]
      | none => s1
  | _ => s

/-! ### The head doorbell (R267, R281 to R284) -/

/-- Held completions of a CQ are written in order while it has space (R284). -/
def State.releaseHeld (s : State) (t : TenantId) (q : QueueId) : Nat → State
  | 0 => s
  | n + 1 =>
    let c := s.cq t q
    match c.held with
    | [] => s
    | d :: rest =>
      if c.state ≠ .active ∨ c.full = true then s
      else ((s.updCq t q fun c => { c with held := rest, stalled := !rest.isEmpty }).putCompletion t q d).releaseHeld t q n

/-- Channels whose SQ completes to a CQ. -/
def State.chansOnCq (s : State) (t : TenantId) (q : QueueId) : List ChanId :=
  allChans.filter fun c => s.chanTenant c == some t && (s.chan c).state != .unbound && (s.chan c).mode == .queue && s.cqIdOf c == q

/-- A head doorbell is judged (R267): its cause of fault, or none. -/
def CompQueue.judgeHead (x : CompQueue) (value : Dword) : Option Nat :=
  if 2 ^ 16 ≤ value.toNat ∨ ringSize x.log2 ≤ value.toNat then some 8
  else if ringDiff x.log2 x.tail x.head < ringDiff x.log2 (value.truncate 16) x.head then some 9
  else none

/-- A head doorbell reaches a CQ: it frees space, and the channels that waited for it go on (R281, R284). A faulted CQ ignores it. -/
def State.ringHead (s : State) (t : TenantId) (q : QueueId) (value : Dword) : State :=
  let x := s.cq t q
  match x.state with
  | .active =>
    match x.judgeHead value with
    | some cause => (s.faultCq t q cause).go (s.chansOnCq t q)
    | none =>
      let s1 := (s.updCq t q fun c => { c with head := value.truncate 16 }).releaseHeld t q x.held.length
      s1.go (s1.chansOnCq t q)
  | _ => s

/-! ### Doorbell writes (R39, R40, R265, R484) -/

/-- A doorbell takes effect. -/
def State.ring (s : State) (cq : Bool) (t : TenantId) (q : QueueId) (value : Dword) : State :=
  if cq then s.ringHead t q value else s.ringTail t q value

/-- The clocks of the data path are stopped: a doorbell is held (R39). -/
def State.clocksOff (s : State) : Bool :=
  match s.power.state with
  | .lit => false
  | .hush => false
  | _ => true

/-- A 4-byte write to a doorbell that exists: it is held while the part sleeps (R39), and otherwise takes effect. -/
def State.writeBell (s : State) (t : TenantId) (cq : Bool) (q : QueueId) (value : Dword) : State :=
  if s.clocksOff then
    let d : HeldDoorbell := { cq := cq, tenant := t, queue := q, value := value }
    { s with power := { s.power with held := s.power.held ++ [d] } }
  else s.ring cq t q value

/-- The end of a write request: its bus error, if it has one (R151, R664, R682). -/
def State.writeEnd (s : State) (via : Via) (page : Page) (off : BitVec 18) (err : Bool) : State :=
  if !err then s
  else match viaHost via with
    | some p => (s.emit (.busError via)).aerNonfatal p aerUnsupported (barOf page off)
    | none => { s.emit (.busError via) with house := { s.house with accessErr := true } }

/-- A write request arrives: posted writes of its port come first (R484), no page answers during FILL and CHECK (R627), and the House writes nothing before HOUSE_ONLY (R628). -/
def State.requestWrite (s : State) (via : Via) (page : Page) (off : BitVec 18) (perform : State → State × Bool) : State :=
  if !(s.reaches via) then s
  else
    let s1 := s.touched via
    if s1.barsShut then s1.writeEnd via page off true
    else
      let s2 := match viaHost via with | some p => s1.drainAllPosted p | none => s1
      match perform s2 with
      | (s3, err) => s3.writeEnd via page off err

/-- A write that finds nothing there (R151). -/
def State.writeNothing (s : State) (via : Via) (page : Page) (off : BitVec 18) : State × Bool :=
  (s.missed via page off, s.strict via)

/-- Offset of a doorbell within its page. -/
def bellOffset (cq : Bool) (q : QueueId) : BitVec 18 := BitVec.ofNat 18 ((if cq then 0x1400 else 0x1000) + 8 * q.toNat)

/-- A doorbell row: a 4-byte write at the doorbell of a queue of a tenant's page. -/
def State.bellRow (s : State) (via : Via) (t : TenantId) (cq : Bool) (q : QueueId) (value : Dword) : State :=
  let off := bellOffset cq q
  s.requestWrite via (.tenant t) off fun s =>
    match s.bellAt via (.tenant t) off with
    | some _ => (s.writeBell t cq q value, false)
    | none => s.writeNothing via (.tenant t) off

/-- SQ_TAIL_DOORBELL (R265, R266). -/
def execSqTailDoorbell (via : Via) (t : TenantId) (q : QueueId) (value : Dword) (s : State) : Result :=
  .next (s.bellRow via t false q value)

/-- CQ_HEAD_DOORBELL (R265, R267). -/
def execCqHeadDoorbell (via : Via) (t : TenantId) (q : QueueId) (value : Dword) (s : State) : Result :=
  .next (s.bellRow via t true q value)

/-! ### Entry reads (R271 to R274) -/

/-- Speculative depth of a prefetch code: 0, 2, 4 or 8 (R271). -/
def prefetchDepth (p : BitVec 3) : Nat := match p.toNat with | 0 => 0 | 1 => 2 | 2 => 4 | _ => 8

/-- The queue waits at an entry that lies before this one, or at this one (R272). -/
def SubQueue.waitsAt (x : SubQueue) (i : BitVec 16) : Bool :=
  x.ownWait && decide (ringDiff x.log2 x.waitAt x.head ≤ ringDiff x.log2 i x.head)

/-- How an entry may be read: published, or speculatively; none where it may not be read, or is held already (R270, R271). -/
def State.entryReadable (s : State) (t : TenantId) (q : QueueId) (i : BitVec 16) : Option Bool :=
  let x := s.sq t q
  let n := ringSize x.log2
  let pub := ringDiff x.log2 x.tail x.head
  let d := ringDiff x.log2 i x.head
  if x.state ≠ .active ∨ n ≤ i.toNat ∨ s.clocksOff = true then none
  else if q = 0 then
    (if d = (s.tenants.look t).untaken.length ∧ d < pub ∧ x.waitsAt i = false ∧ s.adminOn t = true then some true else none)
  else
    match x.slot with
    | none => none
    | some c =>
      let started := ((s.chan c).live || (s.chan c).state == .stopping) && s.dataOn
      if !started || x.entries.any fun e => e.index == i then none
      else if d < pub then (if x.waitsAt i then none else some true)
      else if d < pub + min (prefetchDepth x.prefetch) (n - 1 - pub) then some false
      else none

/-- Expected OWN mark of an entry: that of H, inverted across the wrap (R272). -/
def SubQueue.markAt (x : SubQueue) (i : BitVec 16) : Bool := x.phase ^^ decide (i.toNat < x.head.toNat)

/-- The read of an entry is no longer retried. -/
def SubQueue.forget (x : SubQueue) (i : BitVec 16) : SubQueue := { x with retries := x.retries.filter fun r => r.index != i }

/-- The retry of the read of an entry. -/
def SubQueue.retryOf (x : SubQueue) (i : BitVec 16) : Option EntryRetry := x.retries.find? fun r => r.index == i

/-- An entry with the expected mark is held on chip, or goes to the prompter. -/
def State.holdEntry (s : State) (t : TenantId) (q : QueueId) (i : BitVec 16) (dw : Vector Dword 16) : State :=
  let x := s.sq t q
  let s1 := s.updSq t q fun x => x.forget i
  if q = 0 then
    let u : Untaken := { dw := dw, body := [], stamp := x.stampAt i s.now }
    s1.updTenant t fun n => { n with untaken := n.untaken ++ [u] }
  else
    let e : HeldEntry := { index := i, dw := dw }
    let s2 := s1.updSq t q fun x => { x with entries := x.entries ++ [e] }
    match x.slot with | some c => s2.go [c] | none => s2

/-- Retry limit of a queue: its channel's, or the reset value for the admin queue. -/
def State.retryLimitOf (s : State) (x : SubQueue) : Nat := match x.slot with | some c => (s.chan c).retryLimit.toNat | none => 3

/-- A read of a published entry failed on the bus: another try after the backoff, or the fault (R274, R472). Its DW3 has FETCH 1, as that of a refused read (R289; log entry 55). -/
def State.entryBusFail (s : State) (t : TenantId) (q : QueueId) (i : BitVec 16) (a : Addr) (k : BusCause) : State :=
  let x := s.sq t q
  let tried := ((x.retryOf i).map fun r => r.count).getD 0
  if tried < s.retryLimitOf x then
    let r : EntryRetry := { index := i, count := tried + 1, time := s.now + BitVec.ofNat 64 (backoff (tried + 1)) }
    s.updSq t q fun x => { x.forget i with retries := r :: (x.forget i).retries }
  else s.faultSq t q 4 0x12 (accessDetail (causeCode k) (tagOf a) false true false false tried)

/-- SQ_ENTRY_FETCH (R271 to R274): the return of an entry read. -/
def execSqEntryFetch (t : TenantId) (q : QueueId) (i : BitVec 16) (ended : Ended) (bytes : List Byte) (ecc : Ecc) (s : State) : Result :=
  let x := s.sq t q
  let a := x.base + BitVec.ofNat 64 (64 * i.toNat)
  let early := match x.retryOf i with | some r => future r.time s.coreEdge | none => false
  match s.entryReadable t q i with
  | none => .next s
  | some published =>
    if early && published then .next s
    else
      match s.checkAccess t a 64 false with
      | some k => .next (if published then s.faultSq t q 3 0x18 (faultDetail k false true) else s)
      | none =>
        match s.fetchedBy srcQueue a 64 ended bytes ecc published with
        | (s1, .data bs) =>
          let dw := descOf bs
          if bitAt (packetDw dw 0) 31 = x.markAt i then .next (s1.holdEntry t q i dw)
          else .next (if published then s1.updSq t q fun x => { x.forget i with ownWait := true, waitAt := i } else s)
        | (s1, .bus k) => .next (if published then s1.entryBusFail t q i a k else s)
        | (s1, .bad cause) =>
          .next (if published then s1.faultSq t q 5 0x13 (accessDetail cause (tagOf a) false true false false 0) else s)

end Sys2Proof.Machine
end

