-- ==== Sys2Proof/Machine/Resets.lean ====
section
/-! DEFINITION. The resets of the part and what survives each of them (R52, R585, R617 to R619, R626). -/

namespace Sys2Proof.Machine

/-! ### What the prompt book brings back (R617, R629) -/

/-- The stagehands take the healthy units in ascending order, and the next two are the understudies (R585). -/
def Health.assign (h : Health) : Health :=
  let good : List UnitId := (indices 4 14).filter fun u => !(bitAt h.failed u.toNat)
  { h with
    map := Vector.ofFn fun i => if i.val < 12 then good[i.val]? else none
    us0 := good[12]?
    us1 := good[13]? }

/-- Health after a reset: the failed units, the lifetime counters and the spare rows are in the prompt book. -/
def Health.restored (h : Health) : Health :=
  let fresh : Health :=
    { failed := h.failed, spareBankBad := h.spareBankBad, mramSpareRows := h.mramSpareRows, lifeBoots := h.lifeBoots,
      lifePowerHours := h.lifePowerHours, lifeThermal := h.lifeThermal, lifeThermalFrac := h.lifeThermalFrac,
      lifeTjMax := h.lifeTjMax, lifeRotTests := h.lifeRotTests, lifeFaultHandovers := h.lifeFaultHandovers,
      lifeUnitFails := h.lifeUnitFails }
  fresh.assign

/-- A patch slot whose write was cut short reads as empty (R632). -/
def PatchSlot.restored (p : PatchSlot) : PatchSlot := if p.state = .writing then {} else p

/-- The start-up record after a reset: what the prompt book keeps, with a committed pending set now the active one (R640). -/
def Boot.restored (b : Boot) (step : BitVec 4) (cause : BitVec 3) : Boot :=
  { step := step, resetCause := cause, failedBoots := b.failedBoots, restoreStatus := 0,
    activeSet := b.pendingSet.getD b.activeSet, rollback := b.rollback, patches := b.patches.map PatchSlot.restored,
    snapshots := b.snapshots, faultLog := b.faultLog, boardRecord := b.boardRecord }

/-- Memory integrity after a reset: the page summary, the marks and the remaps are in the prompt book (R538, R555, R561). -/
def MemGuard.restored (g : MemGuard) : MemGuard :=
  { summary := g.summary, summaryFull := g.summaryFull, marks := g.marks, remaps := g.remaps, spares0 := g.spares0,
    spares1 := g.spares1, spareBank := g.spareBank }

/-- The part with only the prompt book kept; the levels that the board drives, the commands that wait and what has left the part are no state of it. -/
def State.rebooted (s : State) (step : BitVec 4) (cause : BitVec 3) : State :=
  { State.reset with
    guard := s.guard.restored
    health := s.health.restored
    boot := s.boot.restored step cause
    trace := { persist := s.trace.persist }
    intermission := s.intermission
    pins := Vector.ofFn fun i => { Pin.reset (BitVec.ofFin i) with ball := (s.pins.look (BitVec.ofFin i)).ball }
    jtag := s.jtag
    order := s.order
    fresh := s.fresh
    out := s.out
    pending := s.pending }

/-- POR_N (R617): only the prompt book keeps its contents. -/
def State.powerOn (s : State) : State :=
  let t := s.rebooted 1 0
  let board := (s.boot.boardRecord.getD 0x18).zeroExtend 64
  { t with dev := { t.dev with regs := t.dev.regs.put (BitVec.ofNat 11 (0x0B08 / 8)) (Staged.both board) } }

/-- The time base after RESET_N (R52, R618): it runs on, steered as before; captures and an armed TIME_SET are gone. -/
def TimeBase.kept (t : TimeBase) : TimeBase :=
  { time := t.time, acc := t.acc, trim := t.trim, slewRate := t.slewRate, slewNeg := t.slewNeg, slewLeft := t.slewLeft,
    refclkPresent := t.refclkPresent, pllLock := t.pllLock, fineValid := t.fineValid, timeValid := t.timeValid,
    ppsInSeen := t.ppsInSeen, devclkPresent := t.devclkPresent, refclkLost := t.refclkLost, pllUnlocked := t.pllUnlocked,
    refclkCount := t.refclkCount, tbPhase := t.tbPhase, refTime := t.refTime, refAcc := t.refAcc, ppsOut := t.ppsOut, ppsOutFall := t.ppsOutFall, uncertain := t.uncertain }

/-- A host port after RESET_N (R618): its link, its configuration space and its MSI-X table stay. -/
def Port.kept (p : Port) : Port :=
  { linkUp := p.linkUp, speed := p.speed, width := p.width, perst := p.perst, sris := p.sris, cfg := p.cfg, msix := p.msix,
    aerHeader := p.aerHeader, requester := p.requester }

/-- Places of the device page that RESET_N keeps: DEV_ALERT, PPS_OUT, MEM_BOARD and the stored training results (R52, R618, R754, R908). -/
def keptPlaces : List Nat := [0x018, 0x130, 0x138, 0xB08, 0xB10]

/-- RESET_N, a soft reset and the resets that act as one (R618, R626): start-up begins at step 3, with DRAM in self-refresh. -/
def State.restart (s : State) (cause : BitVec 3) : State :=
  let t := s.rebooted 3 cause
  let regs := keptPlaces.foldl (fun r p => let i := BitVec.ofNat 11 (p / 8); r.put i (s.dev.regs.look i)) t.dev.regs
  { t with
    tb := s.tb.kept
    dev := { t.dev with regs := regs }
    hp0 := s.hp0.kept
    hp1 := s.hp1.kept
    prot := { t.prot with epoch := s.prot.epoch }
    mem := s.mem
    guard := { t.guard with
      poison0 := s.guard.poison0, poison1 := s.guard.poison1, log := s.guard.log, logSeq := s.guard.logSeq
      unsummarised := s.guard.unsummarised, dramPasses := s.guard.dramPasses, sramPasses := s.guard.sramPasses }
    health := { t.health with hourSince := s.health.hourSince, tjValid := s.health.tjValid }
    dram := { selfRefresh := true } }

/-- POR_N (R617). -/
def execPorN (s : State) : Result := .next s.powerOn

/-- RESET_N (R618). -/
def execResetN (s : State) : Result := .next (s.restart 1)

end Sys2Proof.Machine
end

