-- ==== Sys2Proof/Machine/Links.lean ====
section
/-! DEFINITION. What the configuration of converter links, TDM ports and stream endpoints means: their units and their attachment (chapters 19 and 20). -/

namespace Sys2Proof.Machine

/-! ### Converter links (R688 to R705) -/

/-- CVL_RX_CFG of links 0 to 3, and CVL_TX_CFG of links 4 to 7 (R689). -/
def State.convCfg (s : State) (i : Nat) : Word := s.devReg (0x1800 + 8 * i)

/-- The parameters of a link (R688, R692). -/
structure ConvParams where
  lanes : Nat
  first : Nat
  subclass1 : Bool
  strictIlas : Bool
  m : Nat
  f : Nat
  k : Nat
  cs : Nat
  mode : Nat
  rbd : Nat
  auto : Bool
  fmt : Nat
  epBase : Nat
  cpe : Nat
  deriving DecidableEq, Repr

/-- The parameters in a configuration word. -/
def convParams (w : Word) : ConvParams :=
  { lanes := 2 ^ field w 1 0, first := field w 4 2, subclass1 := bitAt w 5, strictIlas := bitAt w 7, m := field w 11 8 + 1,
    f := field w 14 12 + 1, k := field w 19 15 + 1, cs := field w 21 20, mode := field w 23 22, rbd := field w 28 24,
    auto := bitAt w 29, fmt := field w 31 30, epBase := field w 37 32, cpe := 2 ^ field w 40 38 }

/-- N' of a link: 12, or 16. -/
def ConvParams.nPrime (p : ConvParams) : Nat := if p.mode = 0 then 12 else 16

/-- Samples per converter per frame, S (R692); 0 where it is no whole number. -/
def ConvParams.samples (p : ConvParams) : Nat :=
  if 8 * p.f * p.lanes % (p.m * p.nPrime) = 0 then 8 * p.f * p.lanes / (p.m * p.nPrime) else 0

/-- Bytes that samples take in an endpoint's format: 12-bit packed, or 16-bit (R508, R509, R704). -/
def fmtBytes (fmt n : Nat) : Nat := if fmt = 0 then n * 3 / 2 else n * 2

/-- Bytes of one frame of an endpoint of a link (R703). -/
def ConvParams.unitBytes (p : ConvParams) : Nat := fmtBytes p.fmt (p.samples * p.cpe)

/-- The endpoints of a link (R703). -/
def ConvParams.endpoints (p : ConvParams) : List Nat := (List.range (p.m / p.cpe)).map fun i => p.epBase + i

/-! ### TDM ports (R730 to R742) -/

/-- TDM_BITPn, TDM_FRAMEn, TDM_STARTn and TDM_GRPn_g. -/
def State.tdmBitp (s : State) (n : BitVec 2) : Word := s.devReg (0x1C00 + 0x100 * n.toNat)
def State.tdmFrame (s : State) (n : BitVec 2) : Word := s.devReg (0x1C08 + 0x100 * n.toNat)
def State.tdmStart (s : State) (n : BitVec 2) : Word := s.devReg (0x1C10 + 0x100 * n.toNat)
def State.tdmGrp (s : State) (n : BitVec 2) (g : Nat) : Word := s.devReg (0x1C80 + 0x100 * n.toNat + 8 * g)

/-- Bits of a slot, by WIDTH. -/
def slotBits (frame : Word) : Nat := match field frame 11 10 with | 0 => 8 | 1 => 12 | _ => 16

/-- Bits of a frame. -/
def frameBits (frame : Word) : Nat := field frame 41 27

/-- Bytes of the unit of a slot group (R740). -/
def groupBytes (frame grp : Word) : Nat :=
  let n := field grp 27 18 + 1
  match field frame 11 10 with
  | 0 => n
  | 1 => fmtBytes (field grp 39 38) n
  | _ => 2 * n

/-- Enabled slot groups of a port, ascending. -/
def State.tdmGroups (s : State) (n : BitVec 2) : List Word :=
  ((List.range 16).map fun g => s.tdmGrp n g).filter fun w => bitAt w 0

/-- The bit at which bit `k` of slot `i` stands, counted from the start of its frame; R731 takes it modulo FRAME_BITS for its place in a frame. -/
def slotBit (frame : Word) (i k : Nat) : Nat := field frame 13 12 + i * slotBits frame + k

/-- The slots of a group, ascending (R739). -/
def groupSlots (grp : Word) : List Nat := (List.range (field grp 27 18 + 1)).map fun i => field grp 17 8 + i * field grp 37 28

/-- The bit of a slot value that is on the wire `k`th (R740). -/
def wireBit (frame : Word) (k : Nat) : Nat := if bitAt frame 25 then k else slotBits frame - 1 - k

/-- The slot values that the bytes of a unit hold (R740). -/
def slotValues (frame grp : Word) (bs : List Byte) : List Nat :=
  match field frame 11 10 with
  | 0 => bs.map fun b => b.toNat
  | 1 => (unpack (field grp 39 38) (field grp 27 18 + 1) bs).map fun x => x.toNat
  | _ => (pieces 2 bs.length bs).map ofLeBytes

/-- The bytes of a unit that holds slot values (R740). -/
def slotBytes (frame grp : Word) (vs : List Nat) : List Byte :=
  match field frame 11 10 with
  | 0 => vs.map fun v => BitVec.ofNat 8 v
  | 1 => pack (field grp 39 38) (vs.map fun v => BitVec.ofNat 12 v)
  | _ => vs.flatMap fun v => leBytes 2 v

/-- The bits of a unit by their places in the frame (R731). -/
def unitBits (frame grp : Word) (bs : List Byte) : List (Nat × Bool) :=
  ((groupSlots grp).zip (slotValues frame grp bs)).flatMap fun x =>
    (List.range (slotBits frame)).map fun k => (slotBit frame x.1 k % frameBits frame, x.2.testBit (wireBit frame k))

/-- The unit that a group's slots on the wire make up; bits are counted from the start of the frame (R731, R740). -/
def unitOfWire (frame grp : Word) (wire : List Bool) : List Byte :=
  slotBytes frame grp ((groupSlots grp).map fun i =>
    ((List.range (slotBits frame)).map fun k => if nth wire (slotBit frame i k) false then 2 ^ wireBit frame k else 0).sum)

/-- Slots of a frame that none of a list of TX groups names. -/
def unusedSlots (frame : Word) (groups : List Word) : List Nat :=
  (List.range (field frame 9 0 + 1)).filter fun i => !(groups.any fun g => (groupSlots g).contains i)

/-- Ticks from a frame's start to edge `j` of the bit clock, for a bit period in units of 2^-16 tick (R732). -/
def edgeTicks (q j : Nat) : Nat := j * q / 2 ^ 17

/-- The bit of a frame that a group's last bit is. -/
def lastBit (frame grp : Word) : Nat := slotBit frame (field grp 17 8 + field grp 27 18 * field grp 37 28) (slotBits frame - 1)

/-- A TX group's take point within each frame: 38,400 ticks before the first bit of its first slot is driven, in this frame or a later one (R741). -/
def takePhase (frame grp : Word) (q : Nat) : Nat :=
  ((edgeTicks q (2 * slotBit frame (field grp 17 8) 0 + flag (bitAt frame 23)) - 38400 : Int) % edgeTicks q (2 * frameBits frame)).toNat

/-- The sampling edge of an RX group's last bit within each frame, of this frame or of the one before (R741). -/
def givePhase (frame grp : Word) (q : Nat) : Nat :=
  edgeTicks q (2 * (lastBit frame grp % frameBits frame) + flag (bitAt frame 24))

/-! ### Links by identifier: 0x00 to 0x07 converter, 0x08 to 0x0B TDM (R689, R742) -/

/-- The state of a link. -/
def State.linkState (s : State) (i : Nat) : LinkState :=
  if i < 8 then (s.conv.links.look (BitVec.ofNat 3 i)).state else (s.tdm.look (BitVec.ofNat 2 (i - 8))).state

/-- The units of a link by its active configuration: endpoint, transmit direction, size in bytes. -/
def State.linkUnits (s : State) (i : Nat) : List (Nat × Bool × Nat) :=
  if i < 8 then
    let p := convParams (s.convCfg i)
    p.endpoints.map fun e => (e, decide (4 ≤ i), p.unitBytes)
  else
    let n := BitVec.ofNat 2 (i - 8)
    (s.tdmGroups n).map fun w => (field w 7 2, bitAt w 1, groupBytes (s.tdmFrame n) w)

/-- The links that are TRAINING or UP. -/
def State.liveLinks (s : State) : List Nat := (List.range 12).filter fun i => s.linkState i != .down

/-- A link that is not DOWN names an endpoint: the lowest (R721). -/
def State.attachedTo (s : State) (e : EpId) : Option Nat :=
  s.liveLinks.find? fun i => (s.linkUnits i).any fun u => u.1 == e.toNat

/-! ### Endpoint configuration (R720 to R722) -/

/-- ENABLE, DIR, PORT, BASE and SIZE_M1 of EP_CFG. -/
def epStructure : Word := bits 19 0

/-- The 1 KiB units of an endpoint. -/
def epFirst (w : Word) : Nat := field w 13 4
def epLast (w : Word) : Nat := field w 13 4 + field w 19 14

/-- An EP_CFG value breaks R720 by itself: its range, or its marks. -/
def epBroken (w : Word) : Bool :=
  (bitAt w 0 && decide (1023 < epLast w)) || decide (field w 30 20 < field w 41 31) ||
    decide ((field w 19 14 + 1) * 1024 < 64 * field w 30 20)

/-- Two enabled endpoints' ranges overlap. -/
def epOverlap (a b : Word) : Bool :=
  bitAt a 0 && bitAt b 0 && decide (epFirst a ≤ epLast b) && decide (epFirst b ≤ epLast a)

/-- A value becomes the active EP_CFG: a structural change empties the FIFO, and the marks are judged again (R722). -/
def State.setEpCfg (s : State) (e : EpId) (w : Word) : State :=
  let old := s.epCfg e
  let s1 := s.setDevReg (0x1000 + 8 * e.toNat) w
  if (old ^^^ w) &&& epStructure != 0 then ((s1.updEp e fun _ => {}).judgeFill e)
  else if old = w then s1 else s1.judgeFill e

end Sys2Proof.Machine
end

