-- ==== Sys2Proof/Machine/Strobe.lean ====
section
/-! DEFINITION. Update strobes: pending copies become active, where the block they configure allows it, and what follows from the change (R154 to R165, R690, R721, R743, R768 to R781, R897, R969). -/

namespace Sys2Proof.Machine

/-! ### Pins (R768 to R781) -/

/-- FUNC is allowed on a pin (R768). -/
def funcAllowed (p : PinId) (f : Nat) : Bool :=
  let n := p.toNat
  if f = 0 ∨ f = 1 ∨ f = 2 ∨ f = 11 then true
  else if 3 ≤ f ∧ f ≤ 6 then decide (n < 40)
  else if f = 7 ∨ f = 8 then decide (n < 8)
  else if f = 9 then decide (8 ≤ n) && decide (n < 24)
  else if f = 10 then decide (40 ≤ n) && decide (n < 44)
  else false

/-- Byte offsets within an entry of the fields that break R773, a shared DREQ index aside: FUNC, INVERT and EDGE lie in byte 0, WIDTH_M1 in byte 1, INDEX in byte 2. -/
def pinEntryErrors (p : PinId) (w : Word) : List Nat :=
  let f := field w 4 0
  let inv := f = 1 ∨ f = 2 ∨ f = 4 ∨ f = 6
  let edge := f = 5 ∨ f = 11
  let idx := f = 3 ∨ f = 4 ∨ f = 5 ∨ f = 6
  (if funcAllowed p f then [] else [0]) ++
    (if bitAt w 5 ∧ ¬ inv then [0] else []) ++
    (if (edge ∧ field w 7 6 = 0) ∨ (¬ edge ∧ field w 7 6 ≠ 0) then [0] else []) ++
    (if field w 11 8 ≠ 0 ∧ f ≠ 4 then [1] else []) ++
    (if (¬ idx ∧ field w 25 16 ≠ 0) ∨ (f = 3 ∧ 31 < field w 25 16) then [2] else [])

/-- Pending PIN_MUX entry of a pin. -/
def State.pinPending (s : State) (p : PinId) : Word := (s.staged (.dev (0x0800 + 8 * p.toNat))).pend

/-- A pending entry is consistent (R773). -/
def State.pinConsistent (s : State) (p : PinId) : Bool :=
  let w := s.pinPending p
  (pinEntryErrors p w).isEmpty &&
    (decide (field w 4 0 ≠ 3) || !(allPins.any fun q => q != p && decide (field (s.pinPending q) 4 0 = 3) &&
      decide (field (s.pinPending q) 25 16 = field w 25 16)))

/-- A request line is inactive (R774, R779): its channels see no request, and no edge. -/
def State.lineOff (s : State) (i : Nat) : State :=
  s.forAll (s.onLine i) fun c s => s.updChan c fun n => { n with lineLevel := false }

/-- A pin takes a new entry at a CLK_REG edge: the old function stops, and the pin parks and settles (R779 to R781). -/
def State.switchPin (s : State) (p : PinId) (w : Word) : State :=
  if s.pinMux p = w then s
  else
    let wasOut := (s.driven p).isSome
    let s1 := if s.pinFunc p = 3 then s.lineOff (s.pinIndex p % 32) else s
    let s2 := s1.setDevReg (0x0800 + 8 * p.toNat) w
    s2.updPin p fun q =>
      { q with
        ball := if wasOut then idleLevel p else q.ball
        parkEnd := some (s.refEdge + BitVec.ofNat 64 (2 * clkReg))
        settleEnd := some (s.refEdge + BitVec.ofNat 64 (6 * clkReg))
        pulseEnd := none, queued := 0, heldEdge := none }

/-- The strobe of group 2: an inconsistent entry is applied as FUNC NONE and sets PIN_ERR (R773, R777, R778). -/
def State.strobePins (s : State) : State :=
  let plan := allPins.map fun p => (p, s.pinConsistent p, s.pinPending p)
  s.forAll plan fun x s =>
    if x.2.1 then s.switchPin x.1 x.2.2
    else (s.switchPin x.1 0).setDevReg 0x0998 (((s.switchPin x.1 0).devReg 0x0998) ||| (1 <<< x.1.toNat))

/-! ### Copies -/

/-- The staged fields of a home become active. -/
def State.applyAt (s : State) (h : Home) : State :=
  match s.specAt h with
  | some r => s.updStaged h fun x => { x with act := (x.act &&& ~~~r.stg) ||| (x.pend &&& r.stg) }
  | none => s

/-- The staged fields of a home return to their active values (R161). -/
def State.revertAt (s : State) (h : Home) : State :=
  match s.specAt h with
  | some r => s.updStaged h fun x => { x with pend := (x.pend &&& ~~~r.stg) ||| (x.act &&& r.stg) }
  | none => s

/-- The staged fields of a home differ between the copies. -/
def State.differsAt (s : State) (h : Home) : Bool :=
  match s.specAt h with
  | some r => ((s.staged h).act ^^^ (s.staged h).pend) &&& r.stg != 0
  | none => false

/-- Places of the device page that hold staged fields of a group. -/
def devPlaces (g : Nat) : List Nat :=
  match g with
  | 0 => [0x010, 0x080, 0x088]
  | 1 => (List.range 16).flatMap fun a => [0x400 + 64 * a, 0x408 + 64 * a, 0x410 + 64 * a, 0x418 + 64 * a]
  | 2 => (List.range 48).map fun m => 0x800 + 8 * m
  | 3 => ((List.range 128).map fun e => 0x1000 + 8 * e) ++ ((List.range 9).map fun i => 0x1800 + 8 * i) ++
      ((List.range 4).flatMap fun n => [0x1C00 + 256 * n, 0x1C08 + 256 * n, 0x1C10 + 256 * n] ++
        (List.range 16).map fun k => 0x1C80 + 256 * n + 8 * k) ++ [0x2000, 0x2010, 0x2018]
  | 4 => [0xB20]
  | 5 => [0xB80]
  | 6 => [0xBC0]
  | 7 => [0xA10, 0xA18, 0xA20]
  | _ => []

/-- The act of a place of the act blocks. -/
def actOf (p : Nat) : ActId := BitVec.ofNat 4 ((p - 0x400) / 64)

/-! ### Group 3 (R690, R721, R743, R969) -/

/-- What a strobe would make of an EP_CFG: an attached endpoint keeps its structure (R721). -/
def State.epWanted (s : State) (e : EpId) : Word :=
  let p := (s.staged (.dev (0x1000 + 8 * e.toNat))).pend
  if (s.attachedTo e).isSome then (s.epCfg e &&& epStructure) ||| (p &&& ~~~epStructure) else p

/-- Of the endpoints that would change, those that may: rounds in which every value that breaks R720, by itself or against another's result, is left out (R969). -/
def State.epAllowed (s : State) : Nat → List (EpId × Word) → List (EpId × Word)
  | 0, l => l
  | n + 1, l =>
    let result (e : EpId) : Word := ((l.find? fun x => x.1 == e).map fun x => x.2).getD (s.epCfg e)
    let ok := l.filter fun x => !(epBroken x.2) && !(allEps.any fun f => f != x.1 && epOverlap x.2 (result f))
    if ok.length = l.length then l else s.epAllowed n ok

/-- The strobe of the endpoints' configuration. -/
def State.strobeEps (s : State) : State :=
  let want := (allEps.map fun e => (e, s.epWanted e)).filter fun x => x.2 != s.epCfg x.1
  let s1 := s.forAll (s.epAllowed want.length want) fun x s => s.setEpCfg x.1 x.2
  s1.forAll allEps fun e s => s.applyAt (.dev (0x1200 + 8 * e.toNat))

/-- No burst is in progress on the local bus, and the TURN cycles of the last have ended (R743). -/
def State.lbIdle (s : State) : Bool :=
  s.lb.isEmpty && (match s.lbTurn with | some t => due t s.coreEdge | none => true)

/-- The local bus's fields become active, at an edge at which no burst is in progress (R743). -/
def State.applyLb (s : State) : State :=
  if s.lbIdle then
    { ([0x2000, 0x2010, 0x2018].foldl (fun s p => s.applyAt (.dev p)) s).updCtl .device (fun c => { c with disturbed := true }) with
      lbDue := false }
  else { s with lbDue := true }

/-- The first CLK_CORE edge after the last TURN cycle: the bus is free, and takes a configuration that waited (R743). -/
def State.freeLb (s : State) : State :=
  if s.lbIdle then (if s.lbDue then { s.applyLb with lbTurn := none } else { s with lbTurn := none }) else s

/-- The strobe of links and TDM ports: each takes its values only while it is DOWN, the clock's only while every converter link is (R690). -/
def State.strobeLinks (s : State) : State :=
  let conv := (List.range 8).filter fun i => s.linkState i = .down
  let s1 := s.forAll conv fun i s => s.applyAt (.dev (0x1800 + 8 * i))
  let s2 := if conv.length = 8 then s1.applyAt (.dev 0x1840) else s1
  s2.forAll ((List.range 4).filter fun n => s.linkState (8 + n) = .down) fun n s =>
    s.forAll ([0x1C00 + 256 * n, 0x1C08 + 256 * n, 0x1C10 + 256 * n] ++ (List.range 16).map fun k => 0x1C80 + 256 * n + 8 * k)
      fun p s => s.applyAt (.dev p)

/-! ### Strobes -/

/-- Bit n: act n runs. -/
def State.runningMask (s : State) : BitVec 16 := s.runningActs.foldl (fun m a => m ||| (1 <<< a.toNat)) 0

/-- One group of the device page is applied. -/
def State.strobeDev (s : State) (g : Nat) : State :=
  let s1 : State := match g with
    | 1 => s.forAll (devPlaces 1) fun p s => if (s.acts.look (actOf p)).running then s else s.applyAt (.dev p)
    | 2 => s.strobePins
    | 3 => s.strobeLinks.strobeEps.applyLb
    | 7 =>
      let s2 := s.forAll (devPlaces 7) fun p s => s.applyAt (.dev p)
      if field (s.devReg 0x0A20) 31 16 = field (s2.devReg 0x0A20) 31 16 then s2
      else { s2 with health := { s2.health with thermalArmed := true } }
    | _ => s.forAll (devPlaces g) fun p s => s.applyAt (.dev p)
  let left := (decide (g = 1 ∨ g = 3) && (devPlaces g).any fun p => s1.differsAt (.dev p)) ||
    (decide (g = 1) && allActs.any fun a => (s.acts.look a).running && bitAt (s.ctl .device).actsPending a.toNat)
  let s2 := if g = 1 then s1.updCtl .device fun c => { c with actsPending := c.actsPending &&& s.runningMask } else s1
  if left then s2
  else s2.updCtl .device fun c => { c with pendingGroups := c.pendingGroups &&& ~~~((1 : BitVec 16) <<< g) }

/-- Places of a slot that hold staged fields of its present layout. -/
def Chan.places (n : Chan) : List Nat :=
  ((List.range 32).map fun i => 8 * i).filter fun p => match n.spec p with | some r => r.stg != 0 | none => false

/-- The staged fields of a slot become active; a rate accumulator at RATE_MOD or more is reduced (R897). -/
def State.strobeSlot (s : State) (t : TenantId) (c : ChanId) : State :=
  let s1 := s.forAll (s.chan c).places fun p s => s.applyAt (.chan t c p)
  s1.updChan c fun n =>
    let m := field (n.reg 0x30) 47 0
    { n with dirty := false, rateAcc := if m = 0 then n.rateAcc else BitVec.ofNat 48 (n.rateAcc.toNat % m) }

/-- Slots of a tenant in one of a set of groups, that exist. -/
def State.slotsIn (s : State) (t : TenantId) (groups : BitVec 16) : List ChanId :=
  allChans.filter fun c => (s.record t).holdsChan c && bitAt groups (s.chan c).group

/-- Places of a tenant's control block in update group 0. -/
def tenPlaces : List Nat := 0x10 :: (List.range 126).map fun i => 0xC10 + 8 * i

/-- The configuration reference goes with every strobe of its page (R169). -/
def State.applyRef (s : State) (page : Page) : State :=
  match page with
  | .device => s.applyAt (.dev 0x60)
  | .tenant t => s.applyAt (.ten t 0x60)

/-- An update strobe of a page is applied, unless the page is FROZEN (R157, R158, R168, R169, R171). -/
def State.strobe (s : State) (page : Page) (groups : BitVec 16) : State :=
  if (s.ctl page).frozen then s
  else
    let s1 := (s.applyRef page).updCtl page fun c => { c with disturbed := true }
    match page with
    | .device => s1.forAll ((List.range 8).filter fun g => bitAt groups g) fun g s => s.strobeDev g
    | .tenant t =>
      let s2 := if bitAt groups 0 then
          (s1.forAll tenPlaces fun p s => s.applyAt (.ten t p)).updCtl page fun c => { c with pendingGroups := c.pendingGroups &&& ~~~(1 : BitVec 16) }
        else s1
      s2.forAll (s2.slotsIn t groups) fun c s => s.strobeSlot t c

/-- DISCARD: the pending copies of the named groups are restored and the groups disarmed (R161, R176). A timed strobe all of whose groups are discarded is dropped whole, and no reference is applied at its time: DESIGN CHOICE, the spec does not say whether a strobe without groups still comes due (log entry 62). -/
def State.discardGroups (s : State) (page : Page) (groups : BitVec 16) : State :=
  let s1 := s.updCtl page fun c =>
    { c with
      pendingGroups := c.pendingGroups &&& ~~~groups
      actsPending := if bitAt groups 1 && page == .device then 0 else c.actsPending
      armed := match c.armed with
        | none => none
        | some a => if a.groups &&& ~~~groups = 0 then none else some { a with groups := a.groups &&& ~~~groups } }
  match page with
  | .device => s1.forAll ((List.range 8).filter fun g => bitAt groups g) fun g s => s.forAll (devPlaces g) fun p s => s.revertAt (.dev p)
  | .tenant t =>
    let s2 := if bitAt groups 0 then s1.forAll tenPlaces fun p s => s.revertAt (.ten t p) else s1
    s2.forAll (s2.slotsIn t groups) fun c s =>
      (s.forAll (s.chan c).places fun p s => s.revertAt (.chan t c p)).updChan c fun n => { n with dirty := false }

/-- Time of a page's next timed strobe: T_UPDATE_AT or DEV_UPDATE_AT. -/
def State.updateAt (s : State) (page : Page) : Tick :=
  match page with
  | .device => s.devReg 0x50
  | .tenant t => s.tenReg t 0x50

/-- UPDATE_LATE of a page is set. -/
def State.lateUpdate (s : State) (page : Page) : State :=
  s.updCtl page fun c => { c with errLog := { c.errLog with updateLate := true } }

/-- A timed strobe is armed, or applied late where its time is not at least 64 ticks ahead (R162 to R164); a FROZEN page holds none (R171). -/
def State.armStrobe (s : State) (page : Page) (groups : BitVec 16) : State :=
  let a : ArmedStrobe := { time := s.updateAt page, groups := groups }
  let unarmed := s.updCtl page fun c => { c with armed := none }
  if futureBy 64 a.time s.now then (if (s.ctl page).frozen then unarmed else s.updCtl page fun c => { c with armed := some a })
  else (unarmed.strobe page groups).lateUpdate page

/-- The armed strobe of a page is due at the coming CLK_CORE edge, which is a CLK_REG edge too where device group 2 is named, and CLK_CORE runs (R162, R165). -/
def State.strobeDue (s : State) (page : Page) : Bool :=
  match (s.ctl page).armed with
  | none => false
  | some a =>
    !(future a.time s.coreEdge) && !(s.power.state == .interval || s.power.state == .dark || s.power.state == .shuttered) &&
      !(page == .device && bitAt a.groups 2 && s.coreEdge != s.refEdge)

/-- The armed strobe of a page is applied. -/
def State.applyArmed (s : State) (page : Page) : State :=
  match (s.ctl page).armed with
  | none => s
  | some a => (s.updCtl page fun c => { c with armed := none }).strobe page a.groups

/-- TIMED_STROBE_APPLY (R162, R165): the armed time has come. -/
def execTimedStrobeApply (page : Page) (s : State) : Result := .next (if s.strobeDue page then s.applyArmed page else s)

/-- All register pages. -/
def allPages : List Page := .device :: allTenants.map .tenant

/-- The strobes that are due at an edge are applied before its period starts, curtains and rate credits (R159). -/
def State.strobesFirst (s : State) : State := s.forAll (allPages.filter fun p => s.strobeDue p) fun p s => s.applyArmed p

/-! ### Curtains and rate credits, which follow the strobes of their edge (R159) -/

/-- CURTAIN (R110). -/
def execCurtain (c : ChanId) (s0 : State) : Result :=
  let s := s0.strobesFirst
  let n := s.chan c
  if !(n.live && s.curtainDue c) || s.frozenUnit c || n.haltDue then .next s0
  else .next ((s.curtainFalls c).go [c])

/-- RATE_CREDIT (R79 to R83): one CLK_CORE cycle of a channel's rate pacer, with the credit it may issue. -/
def execRateCredit (c : ChanId) (s0 : State) : Result :=
  let s := s0.strobesFirst
  if s.paces c 3 && (s.chan c).rateOk then .next ((s.updChan c fun n => n.rateStep s.tb.factor).go [c]) else .next s0

end Sys2Proof.Machine
end

