-- ==== Sys2Proof/Machine/RegWrites.lean ====
section
/-! DEFINITION. Register writes: views, held low words, guards, write-once and staged fields, what each write brings about, and the rows of chapter 04 (R126 to R177, R190 to R194, R230 to R234, R404 to R409, R452, R620, R695, R782, R802, R888, R891, R911, R964, R965). -/

namespace Sys2Proof.Machine

/-! ### A write and its parts -/

/-- One part of a register write: the view it came through, its data in place, and the bits it names. -/
structure WritePart where
  view : Nat
  data : Word
  sel : Word
  deriving DecidableEq, Repr

/-- What a part makes of a value (R126). -/
def WritePart.on (p : WritePart) (x : Word) : Word :=
  match p.view with
  | 0 => (x &&& ~~~p.sel) ||| (p.data &&& p.sel)
  | 1 => x ||| (p.data &&& p.sel)
  | 2 => x &&& ~~~(p.data &&& p.sel)
  | _ => x ^^^ (p.data &&& p.sel)

/-- The bits that a part writes: those it names, or through a view those of its mask. -/
def WritePart.wrote (p : WritePart) : Word := if p.view = 0 then p.sel else p.data &&& p.sel

/-- A write at a register: where it came from, the register, the value held before and the value it would leave in the RW bits, the bits named, the bits written, the bits named through the normal view, and the data of that view. -/
structure Write where
  via : Via
  page : Page
  off : BitVec 18
  home : Home
  spec : RegSpec
  old : Word
  new : Word
  sel : Word
  wrote : Word
  plain : Word
  ones : Word
  deriving DecidableEq, Repr

/-- The value that a write to a register builds on: the pending copy of STG fields (R129), and the device's latch for T_PIN_OUT. -/
def State.writeBase (s : State) (h : Home) (r : RegSpec) : Word :=
  match h with
  | .ten _ 0x98 => s.devReg 0x0988
  | _ => let x := s.staged h; (x.act &&& ~~~r.stg) ||| (x.pend &&& r.stg)

/-- A write from its parts; R127 keeps views from every bit that is no RW bit. -/
def State.writeOf (s : State) (via : Via) (page : Page) (off : BitVec 18) (h : Home) (r : RegSpec) (parts : List WritePart) : Write :=
  let old := s.writeBase h r
  let all := parts.foldl (fun x p => p.on x) old
  let normal := parts.filter fun p => p.view == 0
  { via := via, page := page, off := off, home := h, spec := r, old := old, new := (old &&& ~~~r.rw) ||| (all &&& r.rw)
    sel := parts.foldl (fun x p => x ||| p.sel) 0
    wrote := parts.foldl (fun x p => x ||| p.wrote) 0
    plain := normal.foldl (fun x p => x ||| p.sel) 0
    ones := normal.foldl (fun x p => x ||| (p.data &&& p.sel)) 0 }

/-- The write changes a GUARD field, or names a WO GUARD field (R964). -/
def Write.guardHit (w : Write) : Bool :=
  (w.old ^^^ w.new) &&& w.spec.guarded &&& ~~~w.spec.wo != 0 || w.plain &&& w.spec.wo &&& w.spec.guarded != 0

/-- The write names a WONCE field (R148). -/
def Write.onceHit (w : Write) : Bool := w.sel &&& w.spec.once != 0

/-! ### Writes that a register does not take -/

/-- What a register makes of a write before it is performed: it takes it, ignores it with a bus error under STRICT, or is not there for it. -/
inductive Verdict where
  | takes
  | ignores
  | absent
  deriving DecidableEq, Repr

/-- A half of the local-bus chip selects that is written holds a MAX_BURST of 5 to 7 (R743). -/
def lbCsBad (w : Write) : Bool :=
  (w.wrote &&& bits 31 0 != 0 && decide (4 < field w.new 3 1)) || (w.wrote &&& bits 63 32 != 0 && decide (4 < field w.new 35 33))

/-- The device page's judgement of a write (R93, R743, R911, R965). -/
def State.judgeDev (s : State) (p : Nat) (w : Write) : Verdict :=
  let bad : Bool :=
    if 0x400 ≤ p ∧ p < 0x800 ∧ p % 64 < 0x20 then (s.acts.look (actOf p)).running
    else if p = 0x130 then bitAt w.new 0 && (decide (field w.new 35 4 < 2400) || decide (1200000000 < field w.new 35 4))
    else if p = 0xB20 then decide (field w.new 13 0 < 60) || decide (10080 < field w.new 13 0) || decide (field w.new 31 16 = 0)
    else if p = 0x2000 then decide (field w.new 4 0 < 6)
    else if p = 0x2010 ∨ p = 0x2018 then lbCsBad w
    else false
  if bad then .ignores else .takes

/-- A tenant page's judgement: the admin pair while it is enabled (R232), T_CUE_SET (R888, R892). -/
def State.judgeTen (s : State) (t : TenantId) (p : Nat) (w : Write) : Verdict :=
  let on := s.adminOn t
  if (p = 0x100 ∨ p = 0x108) ∧ on = true ∧ w.new ≠ w.old then .ignores
  else if p = 0x110 ∧ on = true ∧ (w.new ^^^ w.old) &&& bits 15 0 ≠ 0 then .ignores
  else if p = 0x80 then
    (if bitAt (s.tenReg t 0x10) 1 && (s.record t).holdsCue (field w.ones 9 0) && decide (field w.ones 31 16 ≠ 0) &&
        decide (field w.ones 15 10 = 0) then .takes else .absent)
  else .takes

/-- A channel slot's judgement: the two sets of a SHADOW channel (R406, R408). -/
def State.judgeChan (s : State) (c : ChanId) (p : Nat) : Verdict :=
  let n := s.chan c
  if n.mode = .shadow ∧ n.state ≠ .unbound ∧ 0x80 ≤ p then
    (if p < 0xC0 ∨ bitAt (n.reg 0x50) 0 = true then .ignores else .takes)
  else .takes

/-- What a register makes of a write. -/
def State.judgeWrite (s : State) (w : Write) : Verdict :=
  match w.home with
  | .dev p => s.judgeDev p w
  | .ten t p => s.judgeTen t p w
  | .chan _ c p => s.judgeChan c p

/-! ### The copies -/

/-- Bits of TRACE_CTRL.CLASS_MASK that read 1: classes 0, 5 and 7 (R795). -/
def traceAlways : Word := (1 <<< 8) ||| (1 <<< 13) ||| (1 <<< 15)

/-- Pins of a tenant that carry GPIO_OUT (R782). -/
def State.gpioOf (s : State) (t : TenantId) : Word := pinWord fun m => s.ownsPin t m && decide (s.pinFunc m = 2)

/-- The value that a write leaves in the copies of its register. -/
def Write.stored (w : Write) (x : Staged) : Staged :=
  let now := w.spec.imm ||| w.spec.once
  let v := if w.home = .dev 0xBC0 then w.new ||| traceAlways else w.new
  { act := ((x.act &&& ~~~now) ||| (v &&& now)) &&& ~~~(w.ones &&& w.spec.w1c)
    pend := (x.pend &&& ~~~w.spec.stg) ||| (v &&& w.spec.stg) }

/-- A page or a slot holds a staged write that is not yet applied. -/
def State.markPending (s : State) (w : Write) : State :=
  if w.wrote &&& w.spec.stg = 0 then s
  else match w.home with
    | .chan _ c _ => s.updChan c fun n => { n with dirty := true }
    | _ => match w.spec.group with
      | some g => s.updCtl w.page fun k =>
        { k with
          pendingGroups := k.pendingGroups ||| ((1 : BitVec 16) <<< g)
          actsPending := match w.home with
            | .dev p => if g = 1 then k.actsPending ||| ((1 : BitVec 16) <<< (actOf p).toNat) else k.actsPending
            | _ => k.actsPending }
      | none => s

/-- The copies of the register take a write (R153, R154). -/
def State.store1 (s : State) (w : Write) : State :=
  match w.home with
  | .ten t 0x98 =>
    let m := s.gpioOf t
    s.setDevReg 0x0988 ((s.devReg 0x0988 &&& ~~~m) ||| (w.new &&& m))
  | h => (s.updStaged h w.stored).markPending w

/-! ### What a write brings about -/

/-- T_UNLOCK and DEV_UNLOCK (R141, R143, R144): 1 µs is 38,400 ticks. -/
def State.unlockKey (s : State) (via : Via) (page : Page) (key : Dword) : State :=
  if key = 0xC0DA then s.updCtl page fun k => k.updView via fun v => { v with openUntil := some (s.now + 38400) }
  else s.updCtl page fun k =>
    { k.updView via fun v => { v with openUntil := none } with errLog := { k.errLog with lockFaults := satAdd k.errLog.lockFaults 1 } }

/-- T_UPDATE and DEV_UPDATE (R157, R161, R162). -/
def State.updateWrite (s : State) (page : Page) (v : Word) : State :=
  let groups : BitVec 16 := v.truncate 16
  if bitAt v 17 then s.discardGroups page groups
  else if bitAt v 16 then s.armStrobe page groups
  else s.strobe page groups

/-- A reference written while its scope is FROZEN takes effect at once and clears FROZEN (R172). -/
def State.refWrite (s : State) (page : Page) : State :=
  if (s.ctl page).frozen then (s.applyRef page).updCtl page fun k => { k with frozen := false, disturbed := true } else s

/-- T_ERR_LOG and DEV_ERR_LOG (R149). -/
def ErrLog.write (e : ErrLog) (ones : Word) : ErrLog :=
  let c : ErrLog :=
    { e with
      lockViolation := e.lockViolation && !(bitAt ones 8)
      pairDropped := e.pairDropped && !(bitAt ones 9)
      reservedHit := e.reservedHit && !(bitAt ones 10)
      updateLate := e.updateLate && !(bitAt ones 11)
      lockFaults := if bitAt ones 12 then 0 else e.lockFaults }
  if bitAt ones 13 then { c with firstKind := 0, firstPort := 0, firstOffset := 0 } else c

/-- DEV_SOFT_RESET (R620): any value but the key is ignored and sets LOCK_VIOLATION. -/
def State.softResetKey (s : State) (key : Nat) : State :=
  if key = 0x5E7A then s.restart 2
  else (s.updCtl .device fun k => { k with errLog := { k.errLog with lockViolation := true } }).raiseHouse 10

/-- The provisional record of the first Stage Manager (R194). -/
def provisionalRecord (port : Bool) : TenantRecord :=
  let w : Window :=
    { valid := true, tag := if port then 3 else 2, base := 0, last := BitVec.allOnes 60, read := true, write := true }
  { enabled := true, port := port, vecBase := 0, vecCount := 256, windows := (Tbl.fill 3 {}).put 0 w }

/-- The House designates the first Stage Manager (R193, R194). -/
def State.designate (s : State) (v : Word) : State :=
  let t : TenantId := v.truncate 4
  let port := bitAt v 4
  let s1 := s.updStaged (.dev 0x68) fun x => { x with act := (x.act &&& ~~~(0x1F : Word)) ||| (v &&& 0x1F) }
  { s1 with prot := { s1.prot with
    designated := true
    map := { s1.prot.map with smTenant := t, smPort := port, records := s1.prot.map.records.put t (provisionalRecord port) } } }

/-- An absolute strobe whose time is not at least 64 ticks ahead is not armed (R72). -/
def State.armOutput (s0 : State) (n : Nat) : State :=
  let s : State := { s0 with tb := { s0.tb with strobeDue := s0.tb.strobeDue.put (BitVec.ofNat 3 n) none } }
  let off := 0x0140 + 8 * n
  let w := s.devReg off
  if bitAt w 3 || futureBy 64 (s.devReg (0x0180 + 8 * n)) s.now then s
  else (s.setDevReg off ((w &&& ~~~(1 : Word)) ||| (1 <<< 8))).note 9 0x93 none none (BitVec.ofNat 32 n)

/-- CVL_SYSREF_CTRL is armed or disarmed (R695). PATTERN 3 is reserved and COUNT 0 names no pulse: neither arms (log entry 20). -/
def State.armSysref (s : State) : State :=
  let w := s.devReg 0x1850
  let off := s.setDevReg 0x1850 (w &&& ~~~(1 : Word))
  let idle (s : State) : State := { s with conv := { s.conv with sysrefNext := none, sysrefLeft := none } }
  if !(bitAt w 0) then idle s
  else
    let left : Option Nat := match field w 2 1 with | 0 => some 1 | 1 => some (field w 31 16) | _ => none
    if field w 2 1 = 3 ∨ left = some 0 then idle off
    else if bitAt w 3 then { s with conv := { s.conv with sysrefNext := none, sysrefLeft := left } }
    else if futureBy 64 (s.devReg 0x1858) s.now then
      { s with conv := { s.conv with sysrefNext := some (s.devReg 0x1858), sysrefLeft := left } }
    else (idle (off.setDevReg 0x1850 (off.devReg 0x1850 ||| (1 <<< 8)))).note 9 0x93 none none 8

/-- PPS_OUT goes low when its ENABLE falls (R71). -/
def State.dropPps (s : State) : State :=
  if s.tb.ppsOut then
    { s.emit (.pulse .pps false s.refEdge) with tb := { s.tb with ppsOut := false, ppsOutFall := none } }
  else s

/-- Error bits of a converter link are cleared. -/
def ConvLinkState.clear (l : ConvLinkState) (ones : Word) (lo : Nat) : ConvLinkState :=
  { l with
    ilasMismatch := l.ilasMismatch && !(bitAt ones lo)
    elasticErr := l.elasticErr && !(bitAt ones (lo + 1))
    linkLost := l.linkLost && !(bitAt ones (lo + 2)) }

/-- What a write to the device page brings about. -/
def State.afterDev (s : State) (p : Nat) (w : Write) : State :=
  if 0x140 ≤ p ∧ p < 0x180 then (if bitAt w.wrote 0 && bitAt w.new 0 then s.armOutput ((p - 0x140) / 8) else s)
  else if 0x18A0 ≤ p ∧ p < 0x18C0 then
    let n := (p - 0x18A0) / 4
    { s with conv := { s.conv with
      links := (s.conv.links.upd (BitVec.ofNat 3 n) fun l => l.clear w.ones 24).upd (BitVec.ofNat 3 (n + 1)) fun l => l.clear w.ones 56 } }
  else if 0x1C00 ≤ p ∧ p < 0x2000 ∧ p % 0x100 = 0x18 then
    { s with tdm := s.tdm.upd (BitVec.ofNat 2 ((p - 0x1C00) / 0x100)) fun x => { x with linkLost := x.linkLost && !(bitAt w.ones 24) } }
  else match p with
    | 0x028 => s.updCtl .device fun k => { k with errLog := k.errLog.write w.ones }
    | 0x040 => s.unlockKey w.via .device (lo32 w.ones)
    | 0x048 => s.updateWrite .device w.ones
    | 0x060 => s.refWrite .device
    | 0x068 => if w.plain &&& w.spec.wo = 0 then s else s.softResetKey (field w.ones 63 32)
    | 0x100 => { s with tb := { s.tb with
        refclkLost := s.tb.refclkLost && !(bitAt w.ones 8), pllUnlocked := s.tb.pllUnlocked && !(bitAt w.ones 9) } }
    | 0x130 => if bitAt w.new 0 then s else s.dropPps
    | 0xA10 => { s with health := { s.health with seen := s.health.seen &&& ~~~((w.ones >>> 16).truncate 8) } }
    | 0xA20 => { s with health := { s.health with highSeen := s.health.highSeen && !(bitAt w.ones 33) } }
    | 0xB00 => { s with guard := { s.guard with poisonOverflow := s.guard.poisonOverflow && !(bitAt w.ones 44) } }
    | 0xB08 => if w.sel &&& bits 31 0 = 0 then s else { s with boot := { s.boot with boardRecord := some (lo32 w.new &&& 0x1F) } }
    | 0xB88 => { s with power := { s.power with restoreFailed := s.power.restoreFailed && !(bitAt w.ones 4) } }
    | 0xBD0 => s.note 0 0x05 none none (lo32 w.ones)
    | 0x1850 => if bitAt w.wrote 0 then s.armSysref else s
    | _ => s

/-- A write that enables tenant events already present signals one (R287, R887). -/
def State.signalEnabled (s : State) (t : TenantId) (now : Bool) : State :=
  if now && bitAt (s.tenReg t 0x10) 0 then s.sendVector t (s.adminVector t) else s

/-- T_PROP_FREE (R452). -/
def State.propFreeWrite (s : State) (t : TenantId) (i : Nat) : State :=
  if s.props.held.any fun h => h.tenant == t && decide (h.index.toNat = i) then
    let r := s.freePropAt t i
    r.1.go r.2
  else s.setTenReg t 0x88 (s.tenReg t 0x88 ||| (1 <<< 48))

/-- The admin pair may be enabled (R232). -/
def State.adminReady (s : State) (t : TenantId) (v : Word) : Bool :=
  let base (a : Word) : Bool := decide (tagOf a < 4) && decide (a.toNat % 4096 = 0)
  let size (n : Nat) : Bool := decide (4 ≤ n) && decide (n ≤ 12)
  !(s.adminActive t) && size (field v 3 0) && size (field v 7 4) && base (s.tenReg t 0x100) && base (s.tenReg t 0x108) &&
    decide (field v 15 8 < (s.record t).vecCount.toNat)

/-- A write of ENABLE 1 (R232): the pair starts empty, or ADMIN_ERR is set. -/
def State.adminEnableWrite (s : State) (t : TenantId) (v : Word) : State :=
  if s.adminReady t v then
    let q : SubQueue := { state := .active, base := s.tenReg t 0x100, log2 := BitVec.ofNat 4 (field v 3 0), phase := true }
    let k : CompQueue :=
      { state := .active, base := s.tenReg t 0x108, log2 := BitVec.ofNat 4 (field v 7 4), phase := true, vector := BitVec.ofNat 8 (field v 15 8) }
    ((s.updSq t 0 fun _ => q).updCq t 0 fun _ => k).updTenant t fun n => { n with adminErr := false, untaken := [] }
  else (s.setTenReg t 0x110 (v &&& ~~~((1 : Word) <<< 31))).updTenant t fun n => { n with adminErr := true }

/-- A write of ENABLE 0 (R233): fetching stops at once, and entries not yet taken are dropped. The admin queues stay active, and their doorbells exist and are judged: DEDUCED, R233 and R265 do not say otherwise (log entry 64). -/
def State.adminStop (s : State) (t : TenantId) : State :=
  (s.updSq t 0 fun q => { q with stamps := [], ownWait := false, retries := [] }).updTenant t fun n => { n with untaken := [] }

/-- What a write to a tenant's control block brings about. -/
def State.afterTen (s : State) (t : TenantId) (p : Nat) (w : Write) : State :=
  let st := s.tenReg t 0x18
  let en := s.tenReg t 0x20
  match p with
  | 0x10 => s.signalEnabled t (!(bitAt w.old 0) && bitAt w.new 0 && st &&& en != 0)
  | 0x20 => s.signalEnabled t (st &&& w.new &&& ~~~w.old != 0)
  | 0x28 => s.updCtl w.page fun k => { k with errLog := k.errLog.write w.ones }
  | 0x40 => s.unlockKey w.via w.page (lo32 w.ones)
  | 0x48 => s.updateWrite w.page w.ones
  | 0x60 => s.refWrite w.page
  | 0x78 => s.propFreeWrite t (field w.ones 15 0)
  | 0x80 => s.signal (BitVec.ofNat 10 (field w.ones 9 0)) (field w.ones 31 16)
  | 0x110 =>
    if bitAt w.new 31 then (if bitAt w.old 31 then s else s.adminEnableWrite t w.new)
    else if bitAt w.old 31 then s.adminStop t else s
  | _ => s

/-- What breaks the rules of a shadow set: the offset of the first offending field and its kind (R101, R340, R407). -/
def State.setError (s : State) (c : ChanId) : Option (Nat × Nat) :=
  let n := s.chan c
  let t := s.tenantOf c
  let ctl := n.setCtl false
  let x := n.setXfer false (s.profile t (field ctl 37 32))
  match least (x.setOffsets ++ offIf (!(bitAt ctl 39) && decide (field ctl 51 42 ≠ 0)) 0x35 ++ offIf (!n.actEn && decide (field ctl 31 0 ≠ 0)) 0x30) with
  | some off => some (off, if off = 0x30 then 3 else 1)
  | none => if bitAt ctl 39 && !((s.record t).holdsCue (field ctl 51 42)) then some (0x35, 2) else none

/-- A write of ARM 1 (R407, R415). -/
def State.armSet (s : State) (c : ChanId) : State :=
  match s.setError c with
  | some (off, kind) => s.updChan c fun n =>
    let m := n.setAct 0x50 ((n.reg 0x50 &&& ~~~(1 : Word)) ||| 2)
    { m with shadow := { m.shadow with armErrOffset := BitVec.ofNat 8 off, armErrKind := BitVec.ofNat 4 kind } }
  | none => s.go [c]

/-- What a write to a channel slot brings about. -/
def State.afterChan (s : State) (c : ChanId) (p : Nat) (w : Write) : State :=
  let n := s.chan c
  if p = 0x00 then s.updChan c fun n => { n with rateOverrun := n.rateOverrun && !(bitAt w.ones 28) }
  else if n.mode = .shadow then (if p = 0x50 ∧ bitAt w.wrote 0 = true ∧ bitAt w.new 0 = true then s.armSet c else s)
  else if p = 0x60 then s.updChan c fun n =>
    { n with script := { n.script with
      failTaken := n.script.failTaken && !(bitAt w.ones 24)
      waittPast := n.script.waittPast && !(bitAt w.ones 25)
      signalSat := n.script.signalSat && !(bitAt w.ones 26) } }
  else s

/-- What a write brings about beyond the copies of its register. -/
def State.afterWrite (s : State) (w : Write) : State :=
  match w.home with
  | .dev p => s.afterDev p w
  | .ten t p => s.afterTen t p w
  | .chan _ c p => s.afterChan c p w

/-! ### Performing a write -/

/-- The page closes for a port (R141). -/
def State.closePage (s : State) (page : Page) (via : Via) : State :=
  s.updCtl page fun k => k.updView via fun v => { v with openUntil := none }

/-- The registers whose W1C bits events set, and not accesses alone. -/
def eventHomes : List Home :=
  (([0x018, 0x020, 0x100, 0x998, 0xA10, 0xA20, 0xB00, 0xB88, 0x1850] ++ ((List.range 8).map fun i => 0x140 + 8 * i) ++
    ((List.range 4).map fun i => 0x18A0 + 8 * i) ++ (List.range 4).map fun i => 0x1C18 + 0x100 * i).map .dev) ++
  (allTenants.map fun t => .ten t 0x18) ++ allChans.flatMap fun c => [.chan 0 c 0x00, .chan 0 c 0x60]

/-- A home by which every tenant's view of a channel slot is the same. -/
def Home.key : Home → Home
  | .chan _ c p => .chan 0 c p
  | h => h

/-- The W1C bits of a register as they stand. -/
def State.w1cBits (s : State) (h : Home) : Word :=
  match s.specAt h with
  | some r => s.regValue .house h r &&& r.w1c
  | none => 0

/-- A CLK_REG edge: the W1C bits are noted as they then stand (R18). -/
def State.sampleBits (s : State) : State := { s with edgeBits := eventHomes.map fun h => (h, s.w1cBits h) }

/-- The W1C bits of a register that a write may clear: those that stood at the last CLK_REG edge (R18). -/
def State.clearable (s : State) (h : Home) : Word :=
  if eventHomes.contains h.key then ((s.edgeBits.find? fun x => decide (x.1 = h.key)).map fun x => x.2).getD 0 else allBits

/-- A write, without the clears that an event of the same cycle wins over (R18). -/
def State.eventsWin (s : State) (w : Write) : Write :=
  { w with ones := w.ones &&& ~~~(w.spec.w1c &&& ~~~(s.clearable w.home)) }

/-- A write that no judgement of its register turned away: WONCE fields take one write, DEV_STAGE_MANAGER that of R193, and an event of the same cycle wins over a W1C clear (R18). -/
def State.takeWrite (s : State) (w : Write) : State × Bool :=
  if w.onceHit then
    (if w.home = .dev 0x68 ∧ w.via = .house ∧ s.devState = .houseOnly ∧ s.prot.designated = false then (s.designate w.new, false)
    else (s.logEvent w.page 1 w.via w.off, s.strict w.via))
  else ((s.store1 (s.eventsWin w)).afterWrite (s.eventsWin w), false)

/-- A write reaches its register: judged by the register, by the guard and by WONCE (R141, R145, R146, R148, R964). `held` says that a held low word goes with it. -/
def State.commitWrite (s : State) (w : Write) (held : Bool) : State × Bool :=
  match s.judgeWrite w with
  | .absent => s.writeNothing w.via w.page w.off
  | .ignores => (s, s.strict w.via)
  | .takes =>
    if !w.guardHit then s.takeWrite w
    else if s.isOpen w.page w.via then (s.closePage w.page w.via).takeWrite w
    else
      let s1 := s.logEvent w.page 2 w.via w.off
      (if held then s1.logEvent w.page 4 w.via w.off else s1, s.strict w.via)

/-- The held low word of a port on a page is set. -/
def State.setHeld (s : State) (page : Page) (via : Via) (h : Option HalfWord) : State :=
  s.updCtl page fun k => k.updView via fun v => { v with heldLow := h }

/-- A held word belongs to the register at an offset. -/
def HalfWord.belongs (h : HalfWord) (off : BitVec 18) : Bool := decide (baseOf h.off / 8 * 8 = baseOf off / 8 * 8)

/-- A 4-byte write (R136, R137). -/
def State.write4 (s : State) (via : Via) (page : Page) (off : BitVec 18) (x : Dword) : State × Bool :=
  match s.regAt via page off with
  | some (h, r) =>
    let high := decide (baseOf off % 8 = 4)
    let data : Word := if high then x.zeroExtend 64 <<< 32 else x.zeroExtend 64
    let part : WritePart := { view := viewOf off, data := data, sel := if high then bits 63 32 else bits 31 0 }
    if !r.wide then s.commitWrite (s.writeOf via page off h r [part]) false
    else
      let held := ((s.ctl page).view via).heldLow
      if !high then
        let drop := match held with | some k => !(k.belongs off) | none => false
        let s1 := if drop then s.logEvent page 4 via off else s
        (s1.setHeld page via (some { off := off, word := x }), false)
      else
        match held with
        | some k =>
          if k.belongs off then
            let low : WritePart := { view := viewOf k.off, data := k.word.zeroExtend 64, sel := bits 31 0 }
            let s1 := s.setHeld page via none
            s1.commitWrite (s1.writeOf via page off h r [low, part]) true
          else s.commitWrite (s.writeOf via page off h r [part]) false
        | none => s.commitWrite (s.writeOf via page off h r [part]) false
  | none =>
    match s.bellAt via page off with
    | some (t, cq, q) => (s.writeBell t cq q x, false)
    | none => s.writeNothing via page off

/-- An 8-byte write to a 64-bit register is atomic, and takes the place of a low word held for it; one that R145 refuses discards that word (R132, R146). -/
def State.write8 (s : State) (via : Via) (page : Page) (off : BitVec 18) (h : Home) (r : RegSpec) (x : Word) : State × Bool :=
  let part : WritePart := { view := viewOf off, data := x, sel := allBits }
  let had := match ((s.ctl page).view via).heldLow with | some k => k.belongs off | none => false
  let s1 := if had then s.setHeld page via none else s
  s1.commitWrite (s1.writeOf via page off h r [part]) had

/-- A register write (R131, R132, R963). -/
def State.regWrite (s : State) (via : Via) (page : Page) (off : BitVec 18) (eight : Bool) (x : Word) : State × Bool :=
  if !(sizeOk off eight) then s.writeNothing via page off
  else if !eight then s.write4 via page off (lo32 x)
  else if s.onlyFour page off then s.writeNothing via page off
  else
    let both : State × Bool :=
      let a := s.write4 via page off (lo32 x)
      let b := a.1.write4 via page (off + 4) (hi32 x)
      (b.1, a.2 || b.2)
    match s.regAt via page off with
    | some (h, r) => if r.wide then s.write8 via page off h r x else both
    | none => both

/-- A register write as one request of a port; an access of another size, or with byte enables that are not all set, finds nothing (R131, R150). -/
def State.writeRow (s : State) (a : RegWrite) : State :=
  s.requestWrite a.via a.page a.off fun s =>
    if a.odd then s.writeNothing a.via a.page a.off else s.regWrite a.via a.page a.off a.eight a.data

/-! ### The rows -/

/-- Place of a write in its page's normal view. -/
def placeOf (a : RegWrite) : Nat := baseOf a.off / 8 * 8

/-- The write names a place of the device page. -/
def onDevice (a : RegWrite) (p : Nat) : Bool := decide (a.page = .device) && decide (placeOf a = p)

/-- The write names a place of a tenant page's control block. -/
def onTenant (a : RegWrite) (p : Nat) : Bool := decide (a.page ≠ .device) && decide (placeOf a = p)

/-- The write names a place of a channel slot. -/
def onSlot (a : RegWrite) (p : Nat) : Bool :=
  decide (a.page ≠ .device) && decide (0x2000 ≤ placeOf a) && decide (placeOf a < 0x8000) && decide (placeOf a % 0x100 = p)

/-- A row of one register: a write elsewhere is another row's. -/
def State.rowAt (s : State) (here : Bool) (a : RegWrite) : Result := if here then .next (s.writeRow a) else .next s

/-- The word of a write that lies at an offset of the place's low or high word. -/
def writtenWord (a : RegWrite) (high : Bool) : Option Dword :=
  if a.eight then some (if high then hi32 a.data else lo32 a.data)
  else if decide (baseOf a.off % 8 = 4) = high then some (lo32 a.data) else none

/-- UNLOCK (R141 to R144). -/
def execUnlock (a : RegWrite) (s : State) : Result := s.rowAt (onDevice a 0x40 || onTenant a 0x40) a

/-- Bits of the word written to T_UPDATE or DEV_UPDATE. -/
def updateBit (a : RegWrite) (i : Nat) : Bool := match writtenWord a false with | some x => bitAt x i | none => false

/-- UPDATE_STROBE (R157, R158). -/
def execUpdateStrobe (a : RegWrite) (s : State) : Result :=
  s.rowAt ((onDevice a 0x48 || onTenant a 0x48) && !(updateBit a 16) && !(updateBit a 17)) a

/-- TIMED_STROBE_ARM (R162 to R164). -/
def execTimedStrobeArm (a : RegWrite) (s : State) : Result :=
  s.rowAt ((onDevice a 0x48 || onTenant a 0x48) && updateBit a 16 && !(updateBit a 17)) a

/-- DISCARD (R161). -/
def execDiscard (a : RegWrite) (s : State) : Result := s.rowAt ((onDevice a 0x48 || onTenant a 0x48) && updateBit a 17) a

/-- CFG_REF_WRITE (R169, R172). -/
def execCfgRefWrite (a : RegWrite) (s : State) : Result := s.rowAt (onDevice a 0x60 || onTenant a 0x60) a

/-- T_PROP_FREE (R452). -/
def execTPropFree (a : RegWrite) (s : State) : Result := s.rowAt (onTenant a 0x78) a

/-- T_CUE_SET (R888, R891, R892). -/
def execTCueSet (a : RegWrite) (s : State) : Result := s.rowAt (onTenant a 0x80) a

/-- TRACE_MARK (R802). -/
def execTraceMark (a : RegWrite) (s : State) : Result := s.rowAt (onDevice a 0xBD0) a

/-- SOFT_RESET (R620). -/
def execSoftReset (a : RegWrite) (s : State) : Result := s.rowAt (onDevice a 0x68 && decide (baseOf a.off % 8 = 4)) a

/-- Bit `i` of the word written at the low word of the place. -/
def lowBit (a : RegWrite) (i : Nat) : Bool := match writtenWord a false with | some x => bitAt x i | none => false

/-- ADMIN_ENABLE (R232). -/
def execAdminEnable (a : RegWrite) (s : State) : Result := s.rowAt (onTenant a 0x110 && lowBit a 31) a

/-- ADMIN_DISABLE (R233). -/
def execAdminDisable (a : RegWrite) (s : State) : Result := s.rowAt (onTenant a 0x110 && !(lowBit a 31)) a

/-- SHADOW_ARM (R407). -/
def execShadowArm (a : RegWrite) (s : State) : Result := s.rowAt (onSlot a 0x50 && lowBit a 0) a

/-- SHADOW_DISARM (R408). -/
def execShadowDisarm (a : RegWrite) (s : State) : Result := s.rowAt (onSlot a 0x50 && !(lowBit a 0)) a

/-- STROBE_ARM (R72, R73). -/
def execStrobeArm (a : RegWrite) (s : State) : Result :=
  s.rowAt (decide (a.page = .device) && decide (0x140 ≤ placeOf a) && decide (placeOf a < 0x180)) a

/-- PPS_OUT_CONFIG (R70, R71, R965). -/
def execPpsOutConfig (a : RegWrite) (s : State) : Result := s.rowAt (onDevice a 0x130) a

/-- STAGE_MANAGER_DESIGNATION (R193, R194). -/
def execStageManagerDesignation (a : RegWrite) (s : State) : Result := s.rowAt (onDevice a 0x68 && decide (baseOf a.off % 8 = 0)) a

/-- MEM_BOARD_WRITE (R754). -/
def execMemBoardWrite (a : RegWrite) (s : State) : Result := s.rowAt (onDevice a 0xB08) a

/-- APERTURE_MOVE (R656, R657). -/
def execApertureMove (a : RegWrite) (s : State) : Result := s.rowAt (onDevice a 0x90 || onDevice a 0x98) a

/-- SYSREF_ARM (R695). -/
def execSysrefArm (a : RegWrite) (s : State) : Result := s.rowAt (onDevice a 0x1850) a

/-- PIN_OUT_WRITE (R782). -/
def execPinOutWrite (a : RegWrite) (s : State) : Result := s.rowAt (onDevice a 0x988 || onTenant a 0x98) a

/-- VIEW_WRITE (R126 to R130). -/
def execViewWrite (a : RegWrite) (s : State) : Result := s.rowAt (decide (viewOf a.off ≠ 0)) a

/-- LOW_WORD_WRITE (R136, R137). -/
def execLowWordWrite (a : RegWrite) (s : State) : Result := s.rowAt (!a.eight && decide (baseOf a.off % 8 = 0)) a

/-- REARM (R149). -/
def execRearm (a : RegWrite) (s : State) : Result := s.rowAt (onDevice a 0x28 || onTenant a 0x28) a

/-- REGISTER_WRITE (R153, R154): a write to any register. -/
def execRegisterWrite (a : RegWrite) (s : State) : Result := .next (s.writeRow a)

/-- UNLOCK_WINDOW_EXPIRY (R141, R173): 1 µs has passed, the CLK_REG cycle of the expiry included. -/
def execUnlockWindowExpiry (page : Page) (via : Via) (s : State) : Result :=
  match ((s.ctl page).view via).openUntil with
  | none => .next s
  | some _ => if s.isOpen page via then .next s else .next (s.closePage page via)

end Sys2Proof.Machine
end

