-- ==== Sys2Proof/Machine/ChanCmds.lean ====
section
/-! DEFINITION. Channel commands: BIND_CHANNEL, UNBIND_CHANNEL, CHANNEL_CONFIG, CHANNEL_START, CHANNEL_STOP, CHANNEL_DRAIN, CHANNEL_RESET and CHANNEL_STATUS (R829 to R837, R457 to R467). -/

namespace Sys2Proof.Machine

/-! ### The channel that a command names -/

/-- The physical channel of OBJECT in the addressed tenant, where the map assigns it (R185, R819). -/
def Cmd.slot (c : Cmd) (s : State) : Option ChanId := s.physical c.target c.object

/-- That channel; channel 0 stands in where there is none. -/
def Cmd.chan (c : Cmd) (s : State) : ChanId := (c.slot s).getD 0

/-- A channel command's report of the refusing state (R244). -/
def Cmd.refusedBy (c : Cmd) (s : State) : Reply := wrongState 1 (s.chan (c.chan s)).shown.code c.object

/-- The packet of a channel command. -/
def chanSpec (opcode : Nat) (used : List (Nat × Dword)) : CmdSpec :=
  { opcode := opcode, object := true, used := used, tenantObjects := true }

/-- A configuration CRC pass over a tenant's page is disturbed (R168). -/
def State.disturb (s : State) (page : Page) : State := s.updCtl page fun k => { k with disturbed := true }

/-! ### Stagehands of channels (R427, R430, R582) -/

/-- The surviving stagehand after `x`, counted upwards and wrapping. -/
def Health.nextSurvivor (h : Health) (x : ShId) : Option ShId :=
  ((allSh.filter fun i => decide (x.toNat < i.toNat)) ++ allSh.filter fun i => decide (i.toNat ≤ x.toNat)).find? fun i => (h.map.look i).isSome

/-- A channel is bound to a stagehand; a lost one is served by the survivor after the one assigned last (R582). -/
def State.assignSh (s : State) (c : ChanId) (h : ShId) : State :=
  let s1 := s.updChan c fun n => { n with stagehand := h, effective := h }
  if (s.health.map.look h).isSome then s1
  else
    match s.health.nextSurvivor ((s.health.lastSurvivor.look h).getD h) with
    | none => s1
    | some x =>
      let s2 : State := { s1 with health := { s1.health with lastSurvivor := s1.health.lastSurvivor.put h (some x) } }
      s2.updChan c fun n => { n with effective := x }

/-! ### Binding (R829, R830, R895, R898) -/

/-- The staged fields common to all modes differ between the copies. -/
def Chan.rateDiffers (n : Chan) : Bool :=
  [0x28, 0x30, 0x38, 0x40].any fun p => let r := n.regs.look (BitVec.ofNat 5 (p / 8)); r.act != r.pend

/-- The mode area at zero in both copies (R895). -/
def Chan.zeroMode (n : Chan) : Chan :=
  (List.range 22).foldl (fun m i => m.setReg (0x50 + 8 * i) 0) n

/-- A channel bound in a mode (R829, R895, R898). -/
def Chan.bound (n : Chan) (mode : ChanMode) (sq : QueueId) : Chan :=
  let m := n.zeroMode
  { state := .idle, mode := mode, sq := sq, regs := m.regs, dirty := n.dirty && n.rateDiffers, starved := n.starved }

/-- A channel unbound: its context is discarded, its scheduling and its counters stay (R830, R898). -/
def Chan.unbind (n : Chan) : Chan :=
  let m := n.zeroMode
  { regs := m.regs, dirty := n.dirty && n.rateDiffers, stagehand := n.stagehand, priority := n.priority, lead := n.lead,
    paceSrc := n.paceSrc, effective := n.effective, pace := n.pace, paceTime := n.paceTime, starved := n.starved,
    actEn := n.actEn, actSel := n.actSel, vector := n.vector, retryLimit := n.retryLimit, lateCount := n.lateCount,
    sceneSkip := n.sceneSkip, rateSlip := n.rateSlip, lineSlip := n.lineSlip, rateOverrun := n.rateOverrun, faultAddr := n.faultAddr,
    rateAcc := n.rateAcc, rateFrac := n.rateFrac }

/-- The mode of BIND_CHANNEL. -/
def Cmd.bindMode (c : Cmd) : ChanMode := match c.f 2 1 0 with | 0 => .queue | 1 => .script | _ => .shadow

/-- The packet of BIND_CHANNEL (R264, R829, R895, R898). -/
def specBindChannel : CmdSpec :=
  chanSpec 0x18 [(2, 0x7F03)]

/-- What BIND_CHANNEL judges (R264, R829, R895, R898). -/
def checksBindChannel : Cmd → State → Checks :=
  fun c s =>
      let q := BitVec.ofNat 7 (c.f 2 14 8)
      let sq := s.sq c.target q
      let queue := decide (c.f 2 1 0 = 0)
      { ranges := [(8, decide (c.f 2 1 0 = 3)),
          (9, if queue then decide (q = 0) || decide (64 < q.toNat) else decide (c.f 2 1 0 ≠ 3) && decide (q ≠ 0))]
        denied := (c.slot s).isNone
        state := refuseIf ((s.chan (c.chan s)).state != .unbound) (c.refusedBy s) <|>
          refuseIf (queue && sq.state != .active) (wrongState 2 sq.state.code q.toNat)
        resource := if queue then sq.slot.map fun d => { status := 0x0D, dw3 := BitVec.ofNat 32 (s.slotOf c.target d) } else none }

/-- The effect of BIND_CHANNEL once it has passed its checks (R264, R829, R895, R898). -/
def runBindChannel : Cmd → State → State :=
  fun c s =>
      let ch := c.chan s
      let q := BitVec.ofNat 7 (c.f 2 14 8)
      let s1 := (s.updChan ch fun n => n.bound c.bindMode q).assignSh ch 0
      let s2 := if c.bindMode = .queue then s1.updSq c.target q fun x => { x with slot := some ch } else s1
      (s2.disturb (.tenant c.target)).answer c { dw2 := ch.zeroExtend 32 }

/-- BIND_CHANNEL (R264, R829, R895, R898). -/
def execBindChannel (p : Packet) (s : State) : Result :=
  serve specBindChannel checksBindChannel runBindChannel p s

/-- The packet of UNBIND_CHANNEL (R830). -/
def specUnbindChannel : CmdSpec :=
  chanSpec 0x19 []

/-- What UNBIND_CHANNEL judges (R830). -/
def checksUnbindChannel : Cmd → State → Checks :=
  fun c s =>
      let st := (s.chan (c.chan s)).state
      { denied := (c.slot s).isNone
        state := refuseIf (st != .idle && st != .stopped) (c.refusedBy s) }

/-- The effect of UNBIND_CHANNEL once it has passed its checks: H and T stay, so an entry that the channel held in ARMED is behind H and goes with its context (R299, R830; log entry 15). -/
def runUnbindChannel : Cmd → State → State :=
  fun c s =>
      let ch := c.chan s
      let n := s.chan ch
      let s1 := if n.mode = .queue then s.updSq c.target n.sq fun x => { x with slot := none, entries := [] } else s
      (s1.updChan ch Chan.unbind).answer c {}

/-- UNBIND_CHANNEL (R830). -/
def execUnbindChannel (p : Packet) (s : State) : Result :=
  serve specUnbindChannel checksUnbindChannel runUnbindChannel p s

/-! ### CHANNEL_CONFIG (R428, R429, R80, R82, R831, R832) -/

/-- CHANGE names a group. -/
def Cmd.changes (c : Cmd) (g : Nat) : Bool := bitAt (c.dw 2) g

/-- Fields of each group: the byte at which the field lies, and whether the packet has it non-zero. -/
def Cmd.groupFields (c : Cmd) (g : Nat) : List (Nat × Bool) :=
  match g with
  | 0 => [(12, decide (c.f 3 7 0 ≠ 0))]
  | 1 => [(13, decide (c.f 3 10 8 ≠ 0)), (16, c.q 4 != 0), (24, c.q 6 != 0)]
  | 2 => [(13, decide (c.f 3 15 11 ≠ 0))]
  | 3 => [(32, c.q 8 != 0), (40, c.q 10 != 0), (48, c.q 12 != 0), (56, c.dw 14 != 0)]
  | 4 => [(14, decide (c.f 3 23 16 ≠ 0))]
  | _ => [(15, decide (c.f 3 27 24 ≠ 0))]

/-- Fields of CHANNEL_CONFIG out of range: those of groups not named, and the values that R80, R82 and R428 refuse. -/
def Cmd.configRanges (c : Cmd) : List (Nat × Bool) :=
  let inc := (c.q 8).toNat
  let m := (c.q 10).toNat
  [(8, decide (c.f 2 5 0 = 0))] ++
    ((List.range 6).filter fun g => !(c.changes g)).flatMap c.groupFields ++
    [(12, c.changes 0 && decide (11 < c.f 3 3 0)), (13, c.changes 1 && decide (5 < c.f 3 10 8)),
     (32, c.changes 3 && (decide (inc = 0) || decide (m < inc))), (40, c.changes 3 && decide (m = 0)),
     (48, c.changes 3 && decide (m ≤ (c.q 12).toNat))]

/-- The command is judged with every right: the House's own, or one that addresses the Stage Manager (R190); with FOREIGN the rights are TARGET_TENANT's (R820). -/
def Cmd.allRights (c : Cmd) (s : State) : Bool := (c.isHouse && !c.foreign) || s.isSm c.target

/-- A right over an act: the Stage Manager and the House hold both for every act (R99). -/
def Cmd.holdsAct (c : Cmd) (s : State) (control : Bool) (a : Nat) : Bool :=
  c.allRights s ||
    ((c.record s).enabled && bitAt (if control then (c.record s).actControl else (c.record s).actBind) a)

/-- The pacing source that CHANNEL_CONFIG selects lies outside the tenant's rights (R428); the Stage Manager holds every right (R190). -/
def Cmd.paceDenied (c : Cmd) (s : State) : Bool :=
  let r := c.record s
  let img := c.q 4
  !(c.allRights s) && match c.f 3 10 8 with
  | 1 => !(bitAt r.endpoints (field img 5 0))
  | 2 => !(allPins.any fun p => decide (s.pinFunc p = 3) && decide (field (s.pinMux p) 25 16 = field img 12 8) && bitAt r.pins p.toNat)
  | 4 => !(r.holdsCue (field img 33 24))
  | _ => false

/-- The level that a request line shows; none where no pin carries it (R774). -/
def State.lineNow (s : State) (i : Nat) : Option Bool :=
  (allPins.find? fun p => decide (s.pinFunc p = 3) && decide (s.pinIndex p = i) && (s.pins.look p).live).map fun p => (s.pins.look p).seen

/-- A new pacing source: the request starts clear, and is judged at the present fill; a line is seen at its present level (R442, R443). -/
def State.refreshPace (s : State) (c : ChanId) : State :=
  let level := s.lineNow (s.chan c).paceLine.toNat
  let s1 := s.updChan c fun n =>
    { n with fillReq := false, lineLevel := match level with | some l => l ^^ n.lineLow | none => false }
  if (s1.chan c).paceSrc = 1 then s1.judgeFill (s1.chan c).paceEp else s1

/-- Fields of the groups SCHED, ACT, VECTOR, RETRY and RATE, without STAGEHAND. -/
def Chan.configure (n : Chan) (c : Cmd) : Chan :=
  let n := if c.changes 0 then { n with priority := BitVec.ofNat 3 (c.f 3 6 4), lead := bitAt (c.dw 3) 7 } else n
  let en := bitAt (c.dw 3) 11
  let n := if c.changes 2 then
      { n with actEn := en, actSel := BitVec.ofNat 4 (c.f 3 15 12), atBoundary := en, curtain := if en then n.curtain else none }
    else n
  let n := if c.changes 4 then { n with vector := BitVec.ofNat 8 (c.f 3 23 16) } else n
  let n := if c.changes 5 then { n with retryLimit := BitVec.ofNat 4 (c.f 3 27 24) } else n
  if c.changes 3 then
    let m := (((n.setReg 0x28 (c.q 8)).setReg 0x30 (c.q 10)).setReg 0x38 (c.q 12)).setReg 0x40 ((c.dw 14).zeroExtend 64)
    { m with rateAcc := BitVec.ofNat 48 (n.rateAcc.toNat % (c.q 10).toNat) }
  else n

/-- A slot that has no staged difference left holds no pending write. -/
def State.settleDirty (s : State) (t : TenantId) (c : ChanId) : State :=
  let left := (s.chan c).places.any fun p => s.differsAt (.chan t c p)
  s.updChan c fun n => { n with dirty := n.dirty && left }

/-- CHANNEL_CONFIG takes effect at one edge. -/
def State.configChan (s : State) (c : Cmd) : State :=
  let ch := c.chan s
  let h := BitVec.ofNat 4 (c.f 3 3 0)
  let s1 := if c.changes 0 && h != (s.chan ch).stagehand then s.assignSh ch h else s
  let s2 := s1.updChan ch fun n => n.configure c
  let s3 := if c.changes 1 then
      (s2.updChan ch fun n =>
        { n with paceSrc := BitVec.ofNat 3 (c.f 3 10 8), pace := (c.q 4).truncate 34, paceTime := c.q 6 }).refreshPace ch
    else s2
  (s3.settleDirty c.target ch).disturb (.tenant c.target)

/-- The packet of CHANNEL_CONFIG (R831, R832). -/
def specChannelConfig : CmdSpec :=
  chanSpec 0x1A [(2, 0x3F), (3, 0x0FFFFFFF), (4, 0xFFFF7F7F), (5, 3), (6, 0xFFFFFFFF), (7, 0xFFFFFFFF), (8, 0xFFFFFFFF), (9, 0xFFFF),
      (10, 0xFFFFFFFF), (11, 0xFFFF), (12, 0xFFFFFFFF), (13, 0xFFFF), (14, 3)]

/-- What CHANNEL_CONFIG judges (R831, R832). -/
def checksChannelConfig : Cmd → State → Checks :=
  fun c s =>
      let n := s.chan (c.chan s)
      let rest := n.state == .idle || n.state == .stopped || n.state == .halted
      let moves := c.changes 1 || c.changes 2 || c.changes 3 || (c.changes 0 && decide (c.f 3 3 0 ≠ n.stagehand.toNat))
      { ranges := c.configRanges
        denied := (c.slot s).isNone || (c.changes 1 && c.paceDenied s) ||
          (c.changes 2 && bitAt (c.dw 3) 11 && !(c.holdsAct s false (c.f 3 15 12))) ||
          (c.changes 4 && decide ((c.record s).vecCount.toNat ≤ c.f 3 23 16))
        state := refuseIf (n.state == .unbound || (moves && !rest)) (c.refusedBy s) }

/-- The effect of CHANNEL_CONFIG once it has passed its checks (R831, R832). -/
def runChannelConfig : Cmd → State → State :=
  fun c s => (s.configChan c).answer c {}

/-- CHANNEL_CONFIG (R831, R832). -/
def execChannelConfig (p : Packet) (s : State) : Result :=
  serve specChannelConfig checksChannelConfig runChannelConfig p s

/-! ### CHANNEL_START (R105, R116, R352, R353, R416, R417, R440, R833) -/

/-- What every start does: the pacer is loaded, a TIME hold begins, and from IDLE what was banked and released is cleared. -/
def Chan.startPacing (n : Chan) : Chan :=
  let m := { n with rateAcc := BitVec.ofNat 48 (field (n.reg 0x38) 47 0), rateFrac := 0, timeOpen := false, lateEps := [] }
  if n.state = .idle then { m with released := 0, lineCredits := 0, rateBank := 0, atBoundary := n.actEn } else m

/-- A SCRIPT channel starts at instruction 0, or resumes at its PC with its instructions fetched again and its spin count 0 (R352, R355, R358, R397). -/
def State.startScript (s : State) (c : ChanId) : State :=
  let fresh := (s.chan c).state == .idle
  let edge := s.coreEdge
  s.updChan c fun n =>
    let p := n.script
    let p := if fresh then
        { p with pc := 0, atNext := false, a := Tbl.fill 2 0, k := Tbl.fill 2 0, bytes := 0, spin := 0, blocks := [],
                 tt := if n.actEn then p.tt else edge }
      else { p with spin := 0, blocks := [] }
    { n with state := if n.actEn then .armed else .running, script := { p with running := !n.actEn } }

/-- A QUEUE channel starts: it holds what it held, or begins it where it follows no act. -/
def State.startQueue (s : State) (c : ChanId) : State :=
  let s1 := s.updChan c fun n => { n with state := n.restState }
  match (s.chan c).armedWork with
  | some w => if (s.chan c).actEn then s1 else s1.beginWork c w
  | none => s1

/-- A SHADOW channel starts: it swaps at once, or at its next period start (R416, R417). -/
def State.startShadow (s : State) (c : ChanId) : State :=
  let fresh := (s.chan c).state == .idle
  let s1 := s.updChan c fun n =>
    { n with
      state := if n.actEn then .armed else .running
      shadow := { n.shadow with swapCount := if fresh then 0 else n.shadow.swapCount } }
  if (s.chan c).actEn then s1 else s1.swapPoint c

/-- A channel starts. -/
def State.startChan (s : State) (c : ChanId) : State :=
  let s1 := s.noteChan 2 0x20 c (BitVec.ofNat 32 (s.chan c).mode.code)
  let s2 := s1.updChan c Chan.startPacing
  (match (s.chan c).mode with
    | .queue => s2.startQueue c
    | .script => s2.startScript c
    | .shadow => s2.startShadow c).go [c]

/-- The packet of CHANNEL_START (R833). -/
def specChannelStart : CmdSpec :=
  chanSpec 0x1B []

/-- What CHANNEL_START judges (R833). -/
def checksChannelStart : Cmd → State → Checks :=
  fun c s =>
      let n := s.chan (c.chan s)
      let base := (c.slot s).isSome && n.state != .unbound && n.mode == .script && badCodeAddr (n.reg 0x50) 16
      { ranges := [(0x50, base)]
        denied := (c.slot s).isNone
        state := refuseIf (!(n.state == .idle || n.state == .stopped) ||
          (n.mode == .shadow && n.state == .idle && !(bitAt (n.reg 0x50) 0))) (c.refusedBy s) }

/-- The effect of CHANNEL_START once it has passed its checks (R833). -/
def runChannelStart : Cmd → State → State :=
  fun c s =>
      let ch := c.chan s
      let s1 := s.startChan ch
      s1.answer c { dw2 := s1.chanReport ch }

/-- CHANNEL_START (R833). -/
def execChannelStart (p : Packet) (s : State) : Result :=
  serve specChannelStart checksChannelStart runChannelStart p s

/-! ### Stops and resets (R457 to R467, R834 to R836) -/

/-- A stop command: it completes at once on a channel that is not started, and otherwise waits for its boundary (R459). -/
def State.requestStop (s : State) (c : Cmd) (drain : Bool) : State :=
  let ch := c.chan s
  if !(s.chan ch).live then s.answer c { dw2 := s.chanReport ch }
  else
    (s.startLong c).updChan ch fun n => if drain then { n with drainPending := true } else { n with stopPending := true }

/-- The checks of a stop or a reset. -/
def stopChecks (c : Cmd) (s : State) : Checks :=
  { denied := (c.slot s).isNone
    state := refuseIf ((s.chan (c.chan s)).state == .unbound) (c.refusedBy s)
    long := true }

/-- The packet of CHANNEL_STOP (R457). -/
def specChannelStop : CmdSpec :=
  chanSpec 0x1C []

/-- The effect of CHANNEL_STOP once it has passed its checks (R457). -/
def runChannelStop : Cmd → State → State :=
  fun c s => s.requestStop c false

/-- CHANNEL_STOP (R457). -/
def execChannelStop (p : Packet) (s : State) : Result :=
  serve specChannelStop stopChecks runChannelStop p s

/-- The packet of CHANNEL_DRAIN (R457). -/
def specChannelDrain : CmdSpec :=
  chanSpec 0x1D []

/-- The effect of CHANNEL_DRAIN once it has passed its checks (R457). -/
def runChannelDrain : Cmd → State → State :=
  fun c s => s.requestStop c true

/-- CHANNEL_DRAIN (R457). -/
def execChannelDrain (p : Packet) (s : State) : Result :=
  serve specChannelDrain stopChecks runChannelDrain p s

/-- Step 1 of R464: the channel is cut, and the proofs of step 2 follow. -/
def State.cutChannel (s : State) (c : ChanId) : State :=
  let s1 := ((((s.closeBurst c).dropStuck c).freeSlot c).abandonLb c)
  s1.updChan c fun n =>
    { n with
      reads := [], fetch := none, walk := none, retries := [], wait := none, xfer := none, work := none, armedWork := none
      unproven := n.proving.filter (fun p => !(n.unproven.any fun q => q.1 == p.1)) ++ n.unproven, proving := [], proofOn := false
      unprovenMask := 0, after := some (.reset s.now) }

/-- The packet of CHANNEL_RESET (R464). -/
def specChannelReset : CmdSpec :=
  chanSpec 0x1E []

/-- The effect of CHANNEL_RESET once it has passed its checks (R464). -/
def runChannelReset : Cmd → State → State :=
  fun c s =>
      let ch := c.chan s
      let s1 := s.startLong c
      match (s.chan ch).after with
      | some (.reset _) => s1
      | some (.resetWrites _ _) => s1
      | _ => (s1.cutChannel ch).go [ch]

/-- CHANNEL_RESET (R464); one taken while another runs on the channel completes with it. -/
def execChannelReset (p : Packet) (s : State) : Result :=
  serve specChannelReset stopChecks runChannelReset p s

/-! ### CHANNEL_STATUS (R250, R583, R837) -/

/-- The 128-byte record of a channel. -/
def State.chanRecord (s : State) (c : ChanId) : List Byte :=
  let n := s.chan c
  let bound := n.state != .unbound
  let queue := bound && n.mode == .queue
  let code := bound && (n.mode == .script || n.script.running)
  let chain := if queue then (n.chain.map fun k => k.running).getD 0 else 0
  dwordBytes
    ([dword [(n.shown.code, 0), ((if bound then n.mode.code else 0), 4), ((if bound && s.chanDegraded c then 0x30 else 0), 8), (c.toNat, 16),
        (n.effective.toNat, 24)],
      dword [(n.lastStatus.toNat, 0), (n.cqCause.toNat, 8), (flag n.rateOverrun, 12), (flag (n.live && n.stopPending), 13),
        (flag (n.live && n.drainPending), 14), (flag n.discardMark, 15), (flag n.periodPending.isSome, 16)],
      n.lateCount, n.sceneSkip, dword [(n.rateSlip.toNat, 0), (n.lineSlip.toNat, 16)],
      (if queue then dword [(n.sq.toNat, 0), ((s.sqOf c).head.toNat, 16)] else 0),
      lo32 chain, hi32 chain, lo32 n.faultAddr, hi32 n.faultAddr,
      (if code then n.script.pc.zeroExtend 32 else 0), 0] ++
      (n.script.a.toList.flatMap fun a => [lo32 a, hi32 a]) ++ n.script.k.toList ++
      [lo32 n.script.tt, hi32 n.script.tt, dword [(n.rateBank.toNat, 0), (n.lineCredits.toNat, 8)], 0, 0, 0, 0, 0])

/-- The packet of CHANNEL_STATUS (R837). -/
def specChannelStatus : CmdSpec :=
  chanSpec 0x1F [(2, 0xFFFFFFFF), (3, 0xFFFFFFFF)]

/-- What CHANNEL_STATUS judges (R837). -/
def checksChannelStatus : Cmd → State → Checks :=
  fun c s => { ranges := [(8, c.badResultAddr)], denied := (c.slot s).isNone }

/-- The effect of CHANNEL_STATUS once it has passed its checks (R837). -/
def runChannelStatus : Cmd → State → State :=
  fun c s => let r := s.chanRecord (c.chan s); s.respond c r (firstWords r)

/-- CHANNEL_STATUS (R837). -/
def execChannelStatus (p : Packet) (s : State) : Result :=
  serve specChannelStatus checksChannelStatus runChannelStatus p s

end Sys2Proof.Machine
end

