-- ==== Sys2Proof/Machine/CueActs.lean ====
section
/-! DEFINITION. Cue, prop and act commands: CUE_ALLOC, CUE_FREE, CUE_SET, PROP_POOL_CONFIG, ACT_CONFIG, ACT_START and ACT_STOP (R92 to R99, R376, R448, R838 to R846). -/

namespace Sys2Proof.Machine

/-! ### Cues (R838 to R841) -/

/-- The cue that a command names. -/
def Cmd.cue (c : Cmd) : CueId := BitVec.ofNat 10 (c.f 2 9 0)

/-- The cue lies outside the addressed tenant's range (R185). -/
def Cmd.cueDenied (c : Cmd) (s : State) : Bool := let r := c.record s; !(r.enabled && r.holdsCue c.cue.toNat)

/-- A cue's count is set, and its waiters are granted (R376). -/
def State.setCue (s : State) (q : CueId) (f : Cue → Cue) : State :=
  let s1 := s.updCue q f
  s1.go (s1.waitersOf q)

/-- The packet of a cue command. -/
def cueSpec (opcode : Nat) (used : List (Nat × Dword)) : CmdSpec := { opcode := opcode, used := used, tenantObjects := true }

/-- The cue that CUE_ALLOC allocates: the one named, or with ANY the lowest free one of the range. -/
def Cmd.allocated (c : Cmd) (s : State) : Option CueId :=
  if bitAt (c.dw 2) 16 then (indices 10 1024).find? fun q => (c.record s).holdsCue q.toNat && !((s.cues.look q).allocated)
  else some c.cue

/-- The packet of CUE_ALLOC (R839). -/
def specCueAlloc : CmdSpec :=
  cueSpec 0x20 [(2, 0x103FF), (3, 0x7F01), (4, 0xFFFF)]

/-- What CUE_ALLOC judges (R839). -/
def checksCueAlloc : Cmd → State → Checks :=
  fun c s =>
      let any := bitAt (c.dw 2) 16
      { ranges := [(8, any && decide (c.cue ≠ 0)), (13, !(bitAt (c.dw 3) 0) && decide (c.f 3 14 8 ≠ 0))]
        denied := (if any then !((c.record s).enabled) else c.cueDenied s) ||
          (bitAt (c.dw 3) 0 && (s.physical c.target (c.f 3 14 8)).isNone)
        resource := if any then refuseIf (c.allocated s).isNone { status := 0x0B }
          else refuseIf (s.cues.look c.cue).allocated { status := 0x0D } }

/-- The effect of CUE_ALLOC once it has passed its checks: signals of its edge are added to INITIAL (R839, R846). -/
def runCueAlloc : Cmd → State → State :=
  fun c s =>
      let q := (c.allocated s).getD 0
      let owner := if bitAt (c.dw 3) 0 then s.physical c.target (c.f 3 14 8) else none
      (s.setCue q fun _ => { count := satAdd (BitVec.ofNat 16 (c.f 4 15 0)) (s.signalsNow q), allocated := true, owner := owner }).answer c { dw2 := q.zeroExtend 32 }

/-- CUE_ALLOC (R839). -/
def execCueAlloc (p : Packet) (s : State) : Result :=
  serve specCueAlloc checksCueAlloc runCueAlloc p s

/-- The packet of CUE_FREE (R840). -/
def specCueFree : CmdSpec :=
  cueSpec 0x21 [(2, 0x3FF)]

/-- What CUE_FREE judges (R840). -/
def checksCueFree : Cmd → State → Checks :=
  fun c s => { denied := c.cueDenied s }

/-- The effect of CUE_FREE once it has passed its checks (R840). -/
def runCueFree : Cmd → State → State :=
  fun c s =>
      let x := s.cues.look c.cue
      (if x.allocated then s.updCue c.cue fun _ => {} else s).answer c { dw2 := x.count.zeroExtend 32 }

/-- CUE_FREE (R840). -/
def execCueFree (p : Packet) (s : State) : Result :=
  serve specCueFree checksCueFree runCueFree p s

/-- The count that OP makes of a cue's count: SET replaces it, and the signals of the edge are added (R841, R846). -/
def cueOp (op : Nat) (count : BitVec 16) (value signals : Nat) : BitVec 16 :=
  match op with
  | 0 => satAdd (BitVec.ofNat 16 value) signals
  | 1 => satAdd count value
  | _ => BitVec.ofNat 16 (count.toNat - value)

/-- The packet of CUE_SET (R841). -/
def specCueSet : CmdSpec :=
  cueSpec 0x22 [(2, 0x3FF), (3, 3), (4, 0xFFFF)]

/-- What CUE_SET judges (R841). -/
def checksCueSet : Cmd → State → Checks :=
  fun c s => { ranges := [(12, decide (c.f 3 1 0 = 3))], denied := c.cueDenied s }

/-- The effect of CUE_SET once it has passed its checks; DW2 gives the count as it stood before the edge (R841, R846). -/
def runCueSet : Cmd → State → State :=
  fun c s =>
      let now := (s.cues.look c.cue).count
      let old : BitVec 16 := BitVec.ofNat 16 (now.toNat - s.signalsNow c.cue)
      let new := cueOp (c.f 3 1 0) now (c.f 4 15 0) (s.signalsNow c.cue)
      (s.setCue c.cue fun x => { x with count := new }).answer c { dw2 := old.zeroExtend 32, dw3 := new.zeroExtend 32 }

/-- CUE_SET (R841). -/
def execCueSet (p : Packet) (s : State) : Result :=
  serve specCueSet checksCueSet runCueSet p s

/-! ### The prop room (R448, R842) -/

/-- Sum of every tenant's PROP_QUOTA. -/
def ProtMap.propTotal (m : ProtMap) : Nat := (m.records.toList.map fun r => r.propQuota.toNat).sum

/-- A blocking TAKE waits. -/
def State.takeWaits (s : State) : Bool :=
  allChans.any fun c => match (s.chan c).wait with | some w => (match w.kind with | .prop _ _ => true | _ => false) | none => false

/-- The packet of PROP_POOL_CONFIG (R448, R842). -/
def specPropPoolConfig : CmdSpec :=
  { opcode := 0x24, used := [(2, 0xF07FF), (3, 0xFFFF)] }

/-- What PROP_POOL_CONFIG judges (R448, R842). -/
def checksPropPoolConfig : Cmd → State → Checks :=
  fun c s =>
      let count := c.f 3 15 0
      { who := .smHouse, served := .houseFirst
        ranges := [(10, decide (c.f 2 19 16 < 8)),
          (12, decide (32768 < count) || decide (8388608 < c.f 2 10 0 * 4096 + count * 2 ^ c.f 2 19 16) || decide (count < s.prot.map.propTotal))]
        resource := refuseIf (!s.props.held.isEmpty || s.takeWaits) { status := 0x0D } }

/-- The effect of PROP_POOL_CONFIG once it has passed its checks (R448, R842). -/
def runPropPoolConfig : Cmd → State → State :=
  fun c s =>
      let pool : PropRoom :=
        { basePage := BitVec.ofNat 11 (c.f 2 10 0), sizeLog2 := BitVec.ofNat 4 (c.f 2 19 16), count := BitVec.ofNat 16 (c.f 3 15 0),
          held := [], pointer := s.props.pointer }
      ({ s with props := pool }).answer c {}

/-- PROP_POOL_CONFIG (R448, R842). -/
def execPropPoolConfig (p : Packet) (s : State) : Result :=
  serve specPropPoolConfig checksPropPoolConfig runPropPoolConfig p s

/-! ### Acts (R91 to R99, R843 to R845) -/

/-- Offset of the register block of an act. -/
def actBase (a : ActId) : Nat := 0x0400 + 0x40 * a.toNat

/-- PERIOD_INT of an act's active configuration. -/
def State.periodInt (s : State) (a : ActId) : Nat := field (s.devReg (actBase a + 8)) 63 16

/-- A group of the device page that has no staged difference left, and no act's pending write, holds no pending write. -/
def State.settleGroup (s : State) (g : Nat) : State :=
  if ((devPlaces g).any fun p => s.differsAt (.dev p)) || (decide (g = 1) && (s.ctl .device).actsPending != 0) then s
  else s.updCtl .device fun k => { k with pendingGroups := k.pendingGroups &&& ~~~((1 : BitVec 16) <<< g) }

/-- The packet of ACT_CONFIG (R92, R93, R98, R99, R843). -/
def specActConfig : CmdSpec :=
  { opcode := 0x28, used := [(2, 0xF), (4, 0xFFFFFFFF), (5, 0xFFFFFFFF), (6, 0xFFFFFFFF), (7, 0xFFFFFFFF), (8, 0xFFFFFFFF), (9, 0xFFFF),
      (10, 0x7FF)] }

/-- What ACT_CONFIG judges (R92, R93, R98, R99, R843). -/
def checksActConfig : Cmd → State → Checks :=
  fun c s =>
      let a := BitVec.ofNat 4 (c.f 2 3 0)
      let cueOk := (c.isHouse && !c.foreign) || ((c.record s).enabled && (c.record s).holdsCue (c.f 10 9 0))
      { ranges := [(26, decide (field (c.q 6) 63 16 < 38400))]
        denied := !(c.holdsAct s true a.toNat) || (bitAt (c.dw 10) 10 && !cueOk)
        state := refuseIf (s.acts.look a).running (wrongState 3 1 a.toNat) }

/-- The effect of ACT_CONFIG once it has passed its checks (R92, R93, R98, R99, R843). -/
def runActConfig : Cmd → State → State :=
  fun c s =>
      let b := actBase (BitVec.ofNat 4 (c.f 2 3 0))
      let s1 := (((s.setDevBoth b (c.q 4)).setDevBoth (b + 8) (c.q 6)).setDevBoth (b + 0x10) (c.q 8)).setDevBoth (b + 0x18) ((c.dw 10).zeroExtend 64)
      let s2 := s1.updCtl .device fun k => { k with actsPending := k.actsPending &&& ~~~((1 : BitVec 16) <<< c.f 2 3 0) }
      ((s2.settleGroup 1).disturb .device).answer c {}

/-- ACT_CONFIG (R92, R93, R98, R99, R843). -/
def execActConfig (p : Packet) (s : State) : Result :=
  serve specActConfig checksActConfig runActConfig p s

/-- Acts of MASK, ascending. -/
def Cmd.actMask (c : Cmd) : List ActId := allActs.filter fun a => bitAt (c.dw 2) a.toNat

/-- Index of the first period start at least 64 ticks in the future (R94). -/
def State.firstPeriod (s : State) (a : ActId) : Nat :=
  let q := (s.devReg (actBase a + 8)).toNat
  let ahead : Int := 64 + (s.now - s.periodAt a 0).toInt
  if ahead ≤ 0 ∨ q = 0 then 0 else (ahead.toNat * 2 ^ 16 + q - 1) / q

/-- An act starts (R94). -/
def State.startAct (s : State) (a : ActId) : State :=
  let k := s.firstPeriod a
  let t := s.periodAt a k
  { s with acts := s.acts.upd a fun x => { x with running := true, nextIndex := k, nextStart := t, periodCount := 0 } }

/-- The packet of ACT_START (R94 to R96, R99, R844). -/
def specActStart : CmdSpec :=
  { opcode := 0x29, used := [(2, 0xFFFF)] }

/-- What ACT_START judges (R94 to R96, R99, R844). -/
def checksActStart : Cmd → State → Checks :=
  fun c s =>
      let bad := c.actMask.find? fun a => decide (s.periodInt a < 38400)
      { ranges := (8, decide (c.f 2 15 0 = 0)) :: (match bad with | some a => [(2 ^ 31 + a.toNat, true)] | none => [])
        denied := c.actMask.any fun a => !(c.holdsAct s true a.toNat)
        state := refuseIf (!s.tb.timeValid) (wrongState 4 0 0) <|>
          (c.actMask.find? fun a => (s.acts.look a).running).map fun a => wrongState 3 1 a.toNat }

/-- The effect of ACT_START once it has passed its checks (R94 to R96, R99, R844). -/
def runActStart : Cmd → State → State :=
  fun c s => (s.forAll c.actMask fun a s => s.startAct a).answer c { dw2 := lo32 s.now, dw3 := hi32 s.now }

/-- ACT_START (R94 to R96, R99, R844). -/
def execActStart (p : Packet) (s : State) : Result :=
  serve specActStart checksActStart runActStart p s

/-- An act stops (R845). -/
def State.stopAct (s : State) (a : ActId) : State :=
  { s.unfollow [a] with acts := s.acts.upd a fun x => { x with running := false, stopCause := 1, nextStart := 0 } }

/-- The packet of ACT_STOP (R95, R99, R845). -/
def specActStop : CmdSpec :=
  { opcode := 0x2A, used := [(2, 0xFFFF)] }

/-- What ACT_STOP judges (R95, R99, R845). -/
def checksActStop : Cmd → State → Checks :=
  fun c s =>
      { ranges := [(8, decide (c.f 2 15 0 = 0))]
        denied := c.actMask.any fun a => !(c.holdsAct s true a.toNat) }

/-- The effect of ACT_STOP once it has passed its checks (R95, R99, R845). -/
def runActStop : Cmd → State → State :=
  fun c s =>
      let ran := c.actMask.filter fun a => (s.acts.look a).running
      let mask : Dword := ran.foldl (fun m a => m ||| (1 <<< a.toNat)) 0
      (s.forAll ran fun a s => s.stopAct a).answer c { dw2 := mask }

/-- ACT_STOP (R95, R99, R845). -/
def execActStop (p : Packet) (s : State) : Result :=
  serve specActStop checksActStop runActStop p s

end Sys2Proof.Machine
end

