-- ==== Sys2Proof/Machine/LinkCmds.lean ====
section
/-! DEFINITION. Stream, link and pin commands: STREAM_CONFIG, LINK_UP, LINK_DOWN and PIN_ASSIGN, and what a link does as it comes up and goes down (R689 to R715, R720 to R748, R773 to R781, R852 to R857). -/

namespace Sys2Proof.Machine

/-! ### STREAM_CONFIG (R720 to R723, R852, R853) -/

/-- The right to an endpoint (R185, R190). -/
def Cmd.holdsEp (c : Cmd) (s : State) (e : Nat) : Bool :=
  c.allRights s || ((c.record s).enabled && bitAt (c.record s).endpoints e)

/-- Units of the ports of a PORT code that name an endpoint, by the active configuration: their sizes. -/
def State.unitsOf (s : State) (port : Nat) (e : Nat) : List Nat :=
  let links := if port = 1 then List.range 8 else if port = 2 then (List.range 4).map fun i => i + 8 else []
  links.flatMap fun i => ((s.linkUnits i).filter fun u => u.1 == e).map fun u => u.2.2

/-- Fields of an EP_CFG image that break R720, or hold a reserved PORT, by byte offset in the packet. -/
def State.epErrors (s : State) (e : EpId) (w : Word) : List (Nat × Bool) :=
  [(16, decide (field w 3 2 = 3)), (16, bitAt w 0 && decide (1023 < epLast w)), (18, decide ((field w 19 14 + 1) * 1024 < 64 * field w 30 20)),
    (19, decide (field w 30 20 < field w 41 31)), (16, allEps.any fun f => f != e && epOverlap w (s.epCfg f))]

/-- The packet of STREAM_CONFIG (R723, R852, R853). -/
def specStreamConfig : CmdSpec :=
  { opcode := 0x30, used := [(2, 0x3003F), (4, 0xFFFFFFFF), (5, 0x3FF), (6, 0xFFFFFFFF), (7, 0xFFFFFFF3)] }

/-- What STREAM_CONFIG judges (R723, R852, R853). -/
def checksStreamConfig : Cmd → State → Checks :=
  fun c s =>
      let e : EpId := BitVec.ofNat 6 (c.f 2 5 0)
      let cfg := bitAt (c.dw 2) 16
      let sil := bitAt (c.dw 2) 17
      let port := field (if cfg then c.q 4 else s.epCfg e) 3 2
      let badLen := (s.unitsOf port e.toNat).any fun n => decide (n % (field (c.q 6) 33 32 + 1) ≠ 0)
      let structural := cfg && (c.q 4 ^^^ s.epCfg e) &&& epStructure != 0
      { served := .houseFirst, ranges := [(10, !cfg && !sil), (16, !cfg && c.q 4 != 0), (24, !sil && c.q 6 != 0), (28, sil && badLen)] ++
          (if cfg then s.epErrors e (c.q 4) else [])
        denied := !(c.holdsEp s e.toNat) ||
          (sil && decide (field (c.q 6) 63 40 ≠ 0) && !(c.holdsAct s false (field (c.q 6) 39 36)))
        state := match s.attachedTo e with
          | some i => refuseIf structural (wrongState 5 (s.linkState i).code i)
          | none => none }

/-- The effect of STREAM_CONFIG once it has passed its checks (R723, R852, R853). -/
def runStreamConfig : Cmd → State → State :=
  fun c s =>
      let e : EpId := BitVec.ofNat 6 (c.f 2 5 0)
      let s1 := if bitAt (c.dw 2) 17 then s.setDevBoth (0x1200 + 8 * e.toNat) (c.q 6) else s
      let s2 := if bitAt (c.dw 2) 16 then (s1.setEpCfg e (c.q 4)).setDevBoth (0x1000 + 8 * e.toNat) (c.q 4) else s1
      let s3 := (s2.settleGroup 3).disturb .device
      s3.answer c { dw2 := BitVec.ofNat 32 (s3.eps.look e).fifo.length }

/-- STREAM_CONFIG (R723, R852, R853). -/
def execStreamConfig (p : Packet) (s : State) : Result :=
  serve specStreamConfig checksStreamConfig runStreamConfig p s

/-! ### What a link does (R706, R712 to R715, R742) -/

/-- A converter link or a TDM port in a state; an RX link that is DOWN holds SYNCOUT_N low (R713). -/
def State.setLink (s : State) (i : Nat) (x : LinkState) : State :=
  if i < 8 then { s with conv := { s.conv with links := s.conv.links.upd (BitVec.ofNat 3 i) fun l =>
    { l with state := x, syncHigh := l.syncHigh && !(decide (i < 4) && x == .down) } } }
  else { s with tdm := s.tdm.upd (BitVec.ofNat 2 (i - 8)) fun l => { l with state := x } }

/-- A trace record of a link. -/
def State.noteLink (s : State) (event i : Nat) : State := s.note 8 event none none (BitVec.ofNat 32 i)

/-- The source that brought a link up. -/
def State.broughtBy (s : State) (i : Nat) : Option Source :=
  if i < 8 then (s.conv.links.look (BitVec.ofNat 3 i)).broughtBy else (s.tdm.look (BitVec.ofNat 2 (i - 8))).broughtBy

/-- LINK_EVENT to the tenant that brought the link up, the Stage Manager and the House (R715). -/
def State.raiseLink (s : State) (i : Nat) : State :=
  let s1 := match s.broughtBy i with | some (.tenant t) => s.raiseTenant t 5 | _ => s
  (s1.raiseSm 25).raiseHouse 9

/-- TX endpoints of a link. -/
def State.txEps (s : State) (i : Nat) : List EpId :=
  ((s.linkUnits i).filter fun u => u.2.1).map fun u => BitVec.ofNat 6 u.1

/-- A TX endpoint is emptied, and reports no space (R712). -/
def State.shutEp (s : State) (e : EpId) : State :=
  (s.updEp e fun p => { p with index := p.index + p.fifo.length, fifo := [], noSpace := true }).judgeFill e

/-- LINK_LOST of a link. -/
def State.markLost (s : State) (i : Nat) : State :=
  if i < 8 then { s with conv := { s.conv with links := s.conv.links.upd (BitVec.ofNat 3 i) fun l => { l with linkLost := true } } }
  else { s with tdm := s.tdm.upd (BitVec.ofNat 2 (i - 8)) fun l => { l with linkLost := true } }

/-- A link leaves its state for another; leaving UP shuts its TX endpoints, and without LINK_DOWN it is a loss (R712, R715). -/
def State.leaveLink (s : State) (i : Nat) (x : LinkState) (commanded : Bool) : State :=
  let old := s.linkState i
  let s1 := if old = .up then s.forAll (s.txEps i) fun e s => s.shutEp e else s
  let s2 := if old = .up ∧ commanded = false then ((s1.markLost i).raiseLink i).noteLink 0x82 i else s1
  let s3 := s2.setLink i x
  if x = .down ∧ old ≠ .down then s3.noteLink 0x81 i else s3

/-- LINK_UPs in service for a link. -/
def State.linkUps (s : State) (i : Nat) : List LongCmd :=
  s.long.filter fun l => decide (field (packetDw l.dw 0) 7 0 = 0x31) && decide (field (packetDw l.dw 2) 7 0 = i)

/-- A link enters UP: its TX endpoints have space again, its LINK_UP completes, and a return without a command is an event (R706, R715). -/
def State.enterUp (s : State) (i : Nat) : State :=
  let s1 := ((s.setLink i .up).forAll (s.txEps i) fun e s => s.updEp e fun p => { p with noSpace := false }).noteLink 0x80 i
  let l := s1.linkUps i
  if l.isEmpty then s1.raiseLink i
  else s1.forAll l fun x s => s.finishLong x { dw2 := lo32 s.now, dw3 := hi32 s.now } []

/-! ### LINK_UP: the configuration (R689, R692, R693, R705, R725, R730 to R739) -/

/-- Octet clock code of a direction (R691). -/
def State.octetCode (s : State) (tx : Bool) : Nat := if tx then field (s.devReg 0x1840) 5 3 else field (s.devReg 0x1840) 2 0

/-- The lane rate of a direction lies within 1.0 to 12.5 Gb/s (R688, R691). -/
def State.laneRateOk (s : State) (tx : Bool) : Bool :=
  let rate := Config.devclkHz * 2 ^ s.octetCode tx * 10
  decide (s.octetCode tx < 6) && decide (4 * 1000000000 ≤ rate) && decide (rate ≤ 4 * 12500000000)

/-- Two converter links of one direction share a lane. -/
def laneOverlap (a b : ConvParams) : Bool :=
  decide (a.first < b.first + b.lanes) && decide (b.first < a.first + a.lanes)

/-- Byte offsets, within the link's register, of the fields that break R693. -/
def State.convErrors (s : State) (i : Nat) : List (Nat × Bool) :=
  let p := convParams (s.convCfg i)
  let tx := decide (4 ≤ i)
  let code := s.octetCode tx
  let others := (List.range 8).filter fun j => j != i && decide (4 ≤ j) == tx && s.linkState j != .down
  [(0, !(s.laneRateOk tx)), (0, decide (p.first % p.lanes ≠ 0)),
   (0, others.any fun j => laneOverlap p (convParams (s.convCfg j))),
   (1, decide (p.samples = 0)), (1, decide (p.k < 17)),
   (1, p.subclass1 && decide (2 < code) && decide (p.k * p.f % 2 ^ (code - 2) ≠ 0)),
   (2, decide (p.mode = 3)), (2, decide (p.cs ≠ 0) && (decide (p.nPrime = 12) || decide (p.mode = 2))), (2, decide (2 < p.cs)),
   (3, !tx && decide (p.k ≤ p.rbd)), (3, decide (p.mode = 2) != decide (p.fmt = 3)),
   (3, decide (p.fmt = 0) && decide (p.samples * p.cpe % 2 ≠ 0)),
   (4, decide (16 < p.cpe) || decide (p.m % p.cpe ≠ 0)), (4, decide (64 < p.epBase + p.m / p.cpe))]

/-- Byte offsets, within the register block of TDM port `n`, of the fields of group `g` that break R739. -/
def State.groupErrors (s : State) (n : BitVec 2) (g : Nat) : List (Nat × Bool) :=
  let w := s.tdmGrp n g
  let frame := s.tdmFrame n
  let b := 0x80 + 8 * g
  let earlier := (List.range g).filter fun h => bitAt (s.tdmGrp n h) 0 && bitAt (s.tdmGrp n h) 1 == bitAt w 1
  if !(bitAt w 0) then []
  else
    [(b + 1, (groupSlots w).any fun x => decide (field frame 9 0 < x)), (b + 3, decide (field w 37 28 = 0)),
     (b + 4, if field frame 11 10 = 1 then decide (field w 39 38 = 3) else decide (field w 39 38 ≠ 0)),
     (b + 2, decide (field frame 11 10 = 1) && decide (field w 39 38 = 0) && decide (field w 27 18 % 2 = 0)),
     (b + 1, earlier.any fun h => (groupSlots w).any fun x => (groupSlots (s.tdmGrp n h)).contains x)]

/-- Byte offsets, within the register block of a TDM port, of the fields that break R730, R733, R734 or R739, and the pins without their function. -/
def State.tdmErrors (s : State) (n : BitVec 2) : List (Nat × Bool) :=
  let q := (s.tdmBitp n).toNat
  let f := s.tdmFrame n
  let master := bitAt f 48
  let mode := field f 43 42
  let act : ActId := BitVec.ofNat 4 (field f 47 44)
  let frameTicks := frameBits f * q
  let period := (s.devReg (actBase act + 8)).toNat
  let pins : List PinId := (List.range 4).map fun k => BitVec.ofNat 6 (8 + 4 * n.toNat + k)
  [(2, decide (q < 38400000) || decide (150000 * 2 ^ 16 < q)), (9, decide (field f 11 10 = 3)),
   (9, master && decide (field f 22 15 = 0)),
   (11, decide (frameBits f < 8) || decide (16384 < frameBits f) || decide (frameBits f < (field f 9 0 + 1) * slotBits f)),
   (13, master && decide (mode = 3)), (16, master && decide (mode = 1) && !(futureBy 64 (s.tdmStart n) s.now)),
   (11, master && decide (mode = 2) && (decide (period = 0) || decide (frameTicks = 0) || decide (period % frameTicks ≠ 0)))] ++
    ((List.range 16).flatMap fun g => s.groupErrors n g) ++
    pins.map fun p => (2 ^ 31 + p.toNat, decide (s.pinFunc p ≠ 9))

/-- Endpoints of a link that break R725. -/
def State.linkEpErrors (s : State) (i : Nat) : List (Nat × Bool) :=
  let units := s.linkUnits i
  let others := (s.liveLinks.filter fun j => j != i).flatMap fun j => s.linkUnits j
  units.map fun u =>
    let e : EpId := BitVec.ofNat 6 u.1
    let w := s.epCfg e
    let shared := decide (1 < (units.filter fun v => v.1 == u.1).length) || others.any fun v => v.1 == u.1
    (2 ^ 30 + u.1, !(bitAt w 0) || decide (field w 3 2 ≠ if i < 8 then 1 else 2) || (bitAt w 1 != u.2.1) || shared ||
      decide (u.2.2 % (field (s.epSilence e) 33 32 + 1) ≠ 0))

/-- What LINK_UP finds wrong in the configuration of a link: DW3 of INVALID_FIELD. -/
def State.linkError (s : State) (i : Nat) : Option Nat :=
  let own := if i < 8 then s.convErrors i else s.tdmErrors (BitVec.ofNat 2 (i - 8))
  least (((own ++ s.linkEpErrors i).filter fun r => r.2).map fun r => r.1)

/-! ### LINK_UP and LINK_DOWN (R706, R713, R733, R742, R854 to R856) -/

/-- LINK of a link command. -/
def Cmd.link (c : Cmd) : Nat := c.f 2 7 0

/-- The issuer lacks a right to an endpoint of the link, or the link names none and the issuer is no Stage Manager or House (R854). -/
def Cmd.linkDenied (c : Cmd) (s : State) : Bool :=
  let eps := (s.linkUnits c.link).map fun u => u.1
  if eps.isEmpty then !(c.privileged s) else eps.any fun e => !(c.holdsEp s e)

/-- The state that refuses LINK_UP: the link, then the time base, then START_ACT of a master port (R706, R733). -/
def State.linkRefusal (s : State) (i : Nat) : Option Reply :=
  let f := s.tdmFrame (BitVec.ofNat 2 (i - 8))
  let act := field f 47 44
  let timed := decide (8 ≤ i) && bitAt f 48 && decide (field f 43 42 = 1 ∨ field f 43 42 = 2)
  refuseIf (s.linkState i != .down) (wrongState 5 (s.linkState i).code i) <|>
    refuseIf (timed && !s.tb.timeValid) (wrongState 4 0 0) <|>
    refuseIf (timed && decide (field f 43 42 = 2) && !((s.acts.look (BitVec.ofNat 4 act)).running)) (wrongState 3 0 act)

/-- A converter link begins its bring-up (R706, R707, R717); the level of SYNCIN_N is as it was last seen. -/
def ConvLinkState.begin (l : ConvLinkState) (src : Source) (devclk : Bool) (ignore tx : Bool) : ConvLinkState :=
  { l with state := .training, step := 1, broughtBy := some src, aligned := ignore && devclk, syncHigh := l.syncHigh && tx, ilasLeft := 4, mismatched := false }

/-- Physical lanes of a converter link (R689). -/
def State.lanesOfLink (s : State) (i : Nat) : List (BitVec 3) :=
  let p := convParams (s.convCfg i)
  (List.range p.lanes).map fun k => BitVec.ofNat 3 (p.first + k)

/-- What an RX link knows of its lanes is forgotten: their locks too where it begins anew. -/
def Converter.forgetLanes (v : Converter) (lanes : List (BitVec 3)) (locks : Bool) : Converter :=
  let mask : Byte := lanes.foldl (fun m k => m ||| (1 <<< k.toNat)) 0
  { v with
    laneLocked := if locks then v.laneLocked &&& ~~~mask else v.laneLocked
    laneSync := v.laneSync &&& ~~~mask
    laneErrors := lanes.foldl (fun t k => t.put k 0) v.laneErrors }

/-- Start time S of a master port (R733). -/
def State.startTime (s : State) (n : BitVec 2) : Tick :=
  let f := s.tdmFrame n
  let act : ActId := BitVec.ofNat 4 (field f 47 44)
  match field f 43 42 with
  | 1 => s.tdmStart n
  | 2 =>
    let a := s.acts.look act
    if futureBy 64 a.nextStart s.now then a.nextStart else s.periodAt act (a.nextIndex + 1)
  | _ => s.now + 64

/-- A TDM port begins its bring-up. -/
def TdmPort.begin (p : TdmPort) (src : Source) (start : Tick) (follows : Bool) : TdmPort :=
  { p with state := .training, broughtBy := some src, start := start, frame := 0, awaitAct := follows, lastStart := none, prevStart := none }

/-- A link begins its bring-up. -/
def State.beginLink (s : State) (i : Nat) (src : Source) : State :=
  if i < 8 then
    let ignore := decide (field (s.devReg 0x1840) 41 40 = 2)
    let v := if i < 4 then s.conv.forgetLanes (s.lanesOfLink i) true else s.conv
    { s with conv := { v with
      links := s.conv.links.upd (BitVec.ofNat 3 i) fun l => l.begin src s.tb.devclkPresent ignore (decide (4 ≤ i)) } }
  else
    let n : BitVec 2 := BitVec.ofNat 2 (i - 8)
    let follows := decide (field (s.tdmFrame n) 43 42 = 2)
    { s with tdm := s.tdm.upd n fun p => p.begin src (s.startTime n) follows }

/-- The packet of LINK_UP (R706, R855). -/
def specLinkUp : CmdSpec :=
  { opcode := 0x31, used := [(2, 0xFF), (3, 0x3FFF)] }

/-- What LINK_UP judges (R706, R855). -/
def checksLinkUp : Cmd → State → Checks :=
  fun c s =>
      { served := .houseFirst
        ranges := [(8, decide (11 < c.link)), (12, decide (c.f 3 13 0 = 0) || decide (10000 < c.f 3 13 0))]
        denied := c.linkDenied s
        state := s.linkRefusal c.link
        resource := (s.linkError c.link).map fun d => { status := 0x09, dw3 := BitVec.ofNat 32 d }
        long := true }

/-- The effect of LINK_UP once it has passed its checks (R706, R855). -/
def runLinkUp : Cmd → State → State :=
  fun c s => (s.startLong c).beginLink c.link c.p.src

/-- LINK_UP (R706, R855). -/
def execLinkUp (p : Packet) (s : State) : Result :=
  serve specLinkUp checksLinkUp runLinkUp p s

/-- The packet of LINK_DOWN (R713, R718, R856). -/
def specLinkDown : CmdSpec :=
  { opcode := 0x32, used := [(2, 0xFF)] }

/-- What LINK_DOWN judges (R713, R718, R856). -/
def checksLinkDown : Cmd → State → Checks :=
  fun c s => { served := .houseFirst, ranges := [(8, decide (11 < c.link))], denied := c.linkDenied s }

/-- The effect of LINK_DOWN once it has passed its checks (R713, R718, R856). -/
def runLinkDown : Cmd → State → State :=
  fun c s =>
      let s1 := s.leaveLink c.link .down true
      let s2 := s1.forAll (s1.linkUps c.link) fun l s => s.finishLong l { status := 0x15, dw3 := 2 } []
      s2.answer c {}

/-- LINK_DOWN (R713, R718, R856). -/
def execLinkDown (p : Packet) (s : State) : Result :=
  serve specLinkDown checksLinkDown runLinkDown p s

/-! ### PIN_ASSIGN (R773, R775, R776, R857) -/

/-- The pin that PIN_ASSIGN names. -/
def Cmd.pin (c : Cmd) : PinId := BitVec.ofNat 6 (c.f 2 5 0)

/-- The TDM port of a pin (R769). -/
def tdmOfPin (p : PinId) : Nat := (p.toNat - 8) / 4

/-- The owner lacks a right that the entry needs (R776); the Stage Manager holds every right (R190). -/
def Cmd.pinDenied (c : Cmd) (s : State) : Bool :=
  let r := c.record s
  let w := c.q 4
  let f := field w 4 0
  (!(c.allRights s) && (!(r.enabled && bitAt r.pins c.pin.toNat) || (decide (f = 5 ∨ f = 6) && !(r.holdsCue (field w 25 16))))) ||
    (decide (f = 4) && (s.physical c.target (field w 25 16)).isNone) ||
    (decide (f = 7 ∨ f = 8 ∨ f = 10) && !(c.privileged s))

/-- The pin belongs to another tenant, or another pin carries the request line (R776). -/
def Cmd.pinBusy (c : Cmd) (s : State) : Option Reply :=
  let w := c.q 4
  let other := allPins.find? fun q => q != c.pin && decide (s.pinFunc q = 3) && decide (s.pinIndex q = field w 25 16)
  refuseIf (decide (s.pinFunc c.pin ≠ 0) && s.pinOwner c.pin != c.target) { status := 0x0D, dw3 := (s.pinOwner c.pin).zeroExtend 32 } <|>
    (if field w 4 0 = 3 then other.map fun q => { status := 0x0D, dw3 := BitVec.ofNat 32 (0x100 + q.toNat) } else none)

/-- A PIN_ASSIGN completes: DW2 and DW3 give the entry (R857). -/
def State.finishPin (s : State) (j : PinJob) : State :=
  ({ s with pinJob := none }).complete j.ref 0x38 { dw2 := lo32 j.entry, dw3 := hi32 j.entry } []

/-- The packet of PIN_ASSIGN (R775 to R778). -/
def specPinAssign : CmdSpec :=
  { opcode := 0x38, used := [(2, 0x3F), (4, 0x03FF0FFF)], tenantObjects := true }

/-- What PIN_ASSIGN judges (R775 to R778). -/
def checksPinAssign : Cmd → State → Checks :=
  fun c s =>
      let f := field (c.q 4) 4 0
      let port := tdmOfPin c.pin
      { served := .houseFirst
        ranges := (8, decide (47 < c.pin.toNat)) :: (pinEntryErrors c.pin (c.q 4)).map fun o => (16 + o, true)
        denied := c.pinDenied s
        state := refuseIf ((decide (f = 9) || decide (s.pinFunc c.pin = 9)) && s.linkState (8 + port) != .down)
          (wrongState 5 (s.linkState (8 + port)).code (8 + port))
        resource := c.pinBusy s }

/-- The effect of PIN_ASSIGN once it has passed its checks (R775 to R778). -/
def runPinAssign : Cmd → State → State :=
  fun c s =>
      let w := c.q 4 ||| (c.target.zeroExtend 64 <<< 32)
      let s1 := s.switchPin c.pin w
      let s2 := ((s1.setDevBoth (0x0800 + 8 * c.pin.toNat) w).settleGroup 2).disturb .device
      let j : PinJob := { pin := c.pin, entry := w, ref := c.ref }
      if (s2.pins.look c.pin).settleEnd.isSome then { s2 with pinJob := some j } else s2.finishPin j

/-- PIN_ASSIGN (R775 to R778): the completion follows the settle period. -/
def execPinAssign (p : Packet) (s : State) : Result :=
  serve specPinAssign checksPinAssign runPinAssign p s

end Sys2Proof.Machine
end

