-- ==== Sys2Proof/Machine/Acts.lean ====
section
/-! DEFINITION. Period starts of acts and what they bring about, and the call time that wakes the device ahead of one (R24, R73, R98, R102 to R105, R114, R119, R121 to R125, R608, R695, R729, R733). -/

namespace Sys2Proof.Machine

/-! ### PERIOD_START -/

/-- The edge at which the device sees a time of the time base: the CLK_CORE edge, or the REFCLK edge while the root PLL is off (R103, R608). -/
def State.actEdge (s : State) : Tick := if s.tb.fineValid then s.coreEdge else s.refEdge

/-- The act counts its period start, and its next one follows (R91, R94). -/
def State.countPeriod (s : State) (a : ActId) : State :=
  let x := s.acts.look a
  let t := s.periodAt a (x.nextIndex + 1)
  { s with acts := s.acts.upd a fun x => { x with nextIndex := x.nextIndex + 1, nextStart := t, periodCount := x.periodCount + 1 } }

/-- CUE_EN and the cue of an act (R98). -/
def State.actCue (s : State) (a : ActId) : Option CueId :=
  let w := s.devReg (actBase a + 0x18)
  if bitAt w 10 then some (w.extractLsb' 0 10) else none

/-- Endpoints count their appended bytes anew at the period starts of PERIOD_ACT (R729). -/
def State.resetCounts (s : State) (a : ActId) : State :=
  s.forAll (allEps.filter fun e => field (s.epSilence e) 39 36 == a.toNat) fun e s => s.updEp e fun p => { p with appended := 0 }

/-- A master TDM port that follows an act restarts its count of edges; a frame begun at the same edge stays the first (R733). -/
def State.restartTdm (s : State) (n : BitVec 2) (a : ActId) (p : Tick) : State :=
  let f := s.tdmFrame n
  let x := s.tdm.look n
  if x.state ≠ .down ∧ x.awaitAct = true ∧ field f 47 44 = a.toNat ∧ future x.start p = false then
    { s with tdm := s.tdm.put n { x with start := p, frame := if x.lastStart = some p then 1 else 0 } }
  else s

/-- An act-relative strobe output of the act: its event in this period, or STROBE_MISSED where its offset is never reached (R73). -/
def State.periodStrobe (s : State) (n : BitVec 3) (a : ActId) (p : Tick) : State :=
  let off := 0x140 + 8 * n.toNat
  let w := s.devReg off
  let time := s.devReg (0x180 + 8 * n.toNat)
  if bitAt w 0 && bitAt w 3 && decide (field w 7 4 = a.toNat) then
    if time.toNat * 2 ^ 16 < (s.devReg (actBase a + 8)).toNat then
      { s with tb := { s.tb with strobeDue := s.tb.strobeDue.put n (some (p + time)) } }
    else (s.setDevReg off (w ||| (1 <<< 8))).note 9 0x93 none none (BitVec.ofNat 32 n.toNat)
  else s

/-- Act-relative SYSREF pulses: the first falls at the offset from a period start, and a continuous pattern from each (R695). -/
def State.periodSysref (s : State) (a : ActId) (p : Tick) : State :=
  let w := s.devReg 0x1850
  if bitAt w 0 && bitAt w 3 && decide (field w 7 4 = a.toNat) && (s.conv.sysrefNext.isNone || decide (field w 2 1 = 2)) then
    { s with conv := { s.conv with sysrefNext := some (p + s.devReg 0x1858) } }
  else s

/-- The accumulator of a rate pacer is loaded at a period start (R82). -/
def Chan.restartRate (n : Chan) : Chan :=
  if bitAt (n.reg 0x40) 1 then { n with rateAcc := BitVec.ofNat 48 (field (n.reg 0x38) 47 0), rateFrac := 0 } else n

/-- A period start becomes pending for a channel, in place of an older one (R104). -/
def State.pendPeriod (s : State) (c : ChanId) (p : Tick) : State :=
  let n := s.chan c
  let s1 := s.updChan c fun n => { n with periodPending := some p }
  if n.periodPending.isSome then
    (s1.updChan c fun n => { n with sceneSkip := satAdd n.sceneSkip 1 }).noteChan 3 0x32 c (n.actSel.zeroExtend 32)
  else s1

/-- A period start reaches a channel: it releases the scene held in ARMED, is ignored by one whose tenant may not follow the act, and is pending for one that is not ARMED (R103, R104, R125, R171). -/
def State.reachChan (s : State) (c : ChanId) (p : Tick) : State :=
  if (s.chan c).state = .armed ∧ s.actMay c = false then s
  else
  let s1 := s.updChan c fun n => n.restartRate
  let n := s1.chan c
  if n.holdsScene && s.dataOn then s1.release c p
  else s1.pendPeriod c p

/-- Channels bound to an act that a period start concerns (R104, R105). -/
def State.boundTo (s : State) (a : ActId) : List ChanId :=
  allChans.filter fun c => let n := s.chan c; n.live && n.actEn && n.actSel == a

/-- A period start of an act. -/
def State.periodOf (s : State) (a : ActId) : State :=
  let p := (s.acts.look a).nextStart
  let s1 := (s.countPeriod a).resetCounts a
  let s2 := s1.forAll (indices 2 4) fun n s => s.restartTdm n a p
  let s3 := (s2.forAll (indices 3 8) fun n s => s.periodStrobe n a p).periodSysref a p
  let s4 := match s3.actCue a with | some q => s3.signal q 1 | none => s3
  let l := s4.boundTo a
  (s4.forAll l fun c s => s.reachChan c p).go l

/-- PERIOD_START (R103, R159): the act runs, time is valid, and its next period start has come; the strobes of that edge come first. -/
def execPeriodStart (a : ActId) (s : State) : Result :=
  let x := s.acts.look a
  if x.running && s.tb.timeValid && due x.nextStart s.actEdge then .next (s.strobesFirst.periodOf a) else .next s

/-! ### CALL_TIME (R119, R605, R607) -/

/-- Lead of the call time in a power state, in ticks. -/
def PowerState.lead : PowerState → Nat
  | .lit => 0
  | .hush => 80640
  | .interval => 115200
  | .dark => 460800
  | .shuttered => 3916800

/-- The act needs the data path. -/
def State.needsPath (s : State) (a : ActId) : Bool :=
  (s.acts.look a).running &&
    ((s.actCue a).isSome || (s.boundTo a).any fun c => !((s.chan c).stopping))

/-- Call time of an act's next period start for a power state. -/
def State.callAt (s : State) (a : ActId) (p : PowerState) : Tick := (s.acts.look a).nextStart - BitVec.ofNat 64 p.lead

/-- The act whose call time has come first. -/
def State.called (s : State) : Option ActId :=
  let ready := allActs.filter fun a => s.needsPath a && due (s.callAt a s.power.state) s.now
  ready.foldl (fun best a =>
    match best with
    | none => some a
    | some b => if future (s.callAt b s.power.state) (s.callAt a s.power.state) then some a else best) none

/-- CALL_TIME (R119): a device below LIT wakes ahead of the period start. -/
def execCallTime (s : State) : Result :=
  match s.called with
  | none => .next s
  | some a =>
    if s.power.state = .lit then .next s
    else
      let s1 := s.wakeBy 3
      if bitAt s1.power.wakeCause 3 && !(s.power.waking && bitAt s.power.wakeCause 3) then
        .next { s1 with power := { s1.power with wakeAct := a } }
      else .next s1

end Sys2Proof.Machine
end

