-- ==== Sys2Proof/Machine/Protection.lean ====
section
/-! DEFINITION. The two-party commit: PROTECT_PROPOSE, PROTECT_COUNTERSIGN, PROTECT_WITHDRAW, PROTECT_READ and the expiry of a proposal (R184, R191, R195 to R215, R300, R858 to R862, R961, R967). -/

namespace Sys2Proof.Machine

/-! ### Events -/

/-- Both parties receive PROT_ENDED, and no proposal is held (R202, R208, R209). -/
def State.endProposal (s : State) (expired : Bool) : State :=
  match s.prot.held with
  | none => s
  | some h =>
    let s1 : State := { s with prot := { s.prot with held := none, lastExpired := if expired then some h.nonce else s.prot.lastExpired } }
    ((s1.raiseSm 17).raiseHouse 1).note 1 0x12 none none h.nonce

/-- A command that is not yet taken arrived at or before a stamp, in a mailbox or behind a doorbell. -/
def State.waitsBefore (s : State) (t : Tick) : Bool :=
  (s.sources.any fun src => (s.untakenOf src).any fun u => !(future u.stamp t)) ||
    allTenants.any fun n => s.adminOn n && (s.sq n 0).state == .active && (s.sq n 0).stamps.any fun d => !(future d.2 t)

/-- A held proposal ends by expiry where a command with a later stamp is processed and none with an earlier one still waits (R202, R209). -/
def State.expireBefore (s : State) (stamp : Tick) : State :=
  match s.prot.held with
  | some h => if future stamp h.expiry && !(s.waitsBefore h.expiry) then s.endProposal true else s
  | none => s

/-- The countersign window in force at a time: the one before the first later commit that changed it (R199, R200). -/
def Protection.windowAt (p : Protection) (t : Tick) : Dword :=
  ((p.windowsBefore.find? fun w => future w.1 t).map fun w => w.2).getD p.map.csWindow

/-- A free nonce that is not 0 (R198). -/
def State.freeNonce (s : State) : Dword := let x := lo32 (Config.freeWord s.fresh); if x = 0 then 1 else x

/-- A proposal is held, and the other party is told (R198, R199, R890). -/
def State.holdProposal (s : State) (c : Cmd) (patch : Bool) (set : BitVec 16) (body : List Byte) : State × Dword × Dword :=
  let nonce := s.freeNonce
  let digest := crc32c body
  let h : Proposal :=
    { byHouse := c.isHouse, patch := patch, body := body, patchSet := set, nonce := nonce, digest := digest, stamp := c.stamp,
      expiry := c.stamp + BitVec.ofNat 64 (38400 * (s.prot.windowAt c.stamp).toNat) }
  let s1 : State := { s.bump with prot := { s.prot with held := some h } }
  let s2 := if c.isHouse then s1.raiseSm 16 else s1.raiseHouse 0
  (s2.note 1 0x10 none none nonce, nonce, digest)

/-- A protection command before a Stage Manager is designated (R195). -/
def State.undesignated (s : State) : Option Reply := refuseIf (!s.prot.designated) (wrongState 0 2 0)

/-- BUSY while a proposal is held, with PROT_PENDING [3:0] (R196). -/
def State.proposalBusy (s : State) : Option Reply :=
  refuseIf s.prot.held.isSome { status := 0x0D, dw3 := BitVec.ofNat 32 (s.protPending.toNat % 16) }

/-! ### PROTECT_PROPOSE -/

/-- The map has been committed at least once in this boot (R195). -/
def State.committed (s : State) : Bool := s.devState != .houseOnly

/-- A body is judged and held (R858, R859, R961). -/
def State.propose (s : State) (c : Cmd) (body : List Byte) : State :=
  if body.length ≠ c.f 4 11 0 ∨ body.length ≠ bodyLength body then s.answer c { status := 0x09, dw3 := 16 }
  else
    match s.bodyError body s.props.count.toNat (!s.committed) with
    | some off => s.answer c { status := 0x09, dw3 := BitVec.ofNat 32 (off + 2 ^ 28) }
    | none =>
      let r := s.holdProposal c false 0 body
      r.1.answer c { status := 0x02, dw2 := r.2.1, dw3 := r.2.2 }

/-- The packet of PROTECT_PROPOSE (R196 to R198, R858, R961). -/
def specProtectPropose : CmdSpec :=
  { opcode := 0x40, used := [(2, 0xFFFFFFFF), (3, 0xFFFFFFFF), (4, 0xFFF)] }

/-- What PROTECT_PROPOSE judges (R196 to R198, R858, R961). -/
def checksProtectPropose : Cmd → State → Checks :=
  fun c s =>
      let a := c.q 2
      { who := .smHouse, served := .general
        ranges := [(8, if c.isHouse then a != 0 else decide (3 < tagOf a) || decide (a.toNat % 16 ≠ 0)),
          (16, decide (c.f 4 11 0 < 256) || decide (3136 < c.f 4 11 0))]
        state := s.undesignated
        resource := (s.expireBefore c.stamp).proposalBusy }

/-- The effect of PROTECT_PROPOSE once it has passed its checks (R196 to R198, R858, R961). -/
def runProtectPropose : Cmd → State → State :=
  fun c s =>
      match (s.expireBefore c.stamp).readBody c (c.q 2) (c.f 4 11 0) with
      | (s1, _, some r) => s1.answer c r
      | (s1, body, none) => s1.propose c body

/-- PROTECT_PROPOSE (R196 to R198, R858, R961). -/
def execProtectPropose (p : Packet) (s : State) : Result :=
  serve specProtectPropose checksProtectPropose runProtectPropose p s

/-! ### What blocks a commit (R203, R967) -/

/-- A tenant's work queues of a kind beyond a reduced quota: the highest-numbered. -/
def Tenant.topSq (n : Tenant) : Nat := ((indices 7 65).filter fun q => q != 0 && (n.sqs.look q).state != .absent).foldl (fun _ q => q.toNat) 0
def Tenant.topCq (n : Tenant) : Nat := ((indices 6 33).filter fun q => q != 0 && (n.cqs.look q).state != .absent).foldl (fun _ q => q.toNat) 0

/-- Local slots of a tenant whose channel is not UNBOUND, ascending. -/
def State.slotsInUse (s : State) (t : TenantId) : List Nat :=
  (List.range (s.record t).chanCount.toNat).filter fun i =>
    match s.physical t i with | some c => (s.chan c).state != .unbound | none => false

/-- Vector indices that a tenant's work queues and bound channels name. -/
def State.vectorsNamed (s : State) (t : TenantId) : List Nat :=
  ((indices 6 33).filterMap fun q =>
    let k := (s.tenants.look t).cqs.look q
    if q != 0 && k.state != .absent then some k.vector.toNat else none) ++
  (s.slotsInUse t).filterMap fun i => (s.physical t i).map fun c => (s.chan c).vector.toNat

/-- The vector range of a record holds a vector of its port. -/
def TenantRecord.holdsVector (r : TenantRecord) (v : Nat) : Bool :=
  decide (r.vecBase.toNat ≤ v) && decide (v < r.vecBase.toNat + r.vecCount.toNat)

/-- Blocking conditions of one tenant under a new record: kind and object. -/
def State.blocksOf (s : State) (m : ProtMap) (t : TenantId) : List (Nat × Nat) :=
  let old := s.record t
  let new := m.records.look t
  let n := s.tenants.look t
  let slots := s.slotsInUse t
  let gone := slots.filter fun i => decide (new.chanBase ≠ old.chanBase) || decide (new.chanCount.toNat ≤ i)
  let cues := (indices 10 1024).filter fun q => old.holdsCue q.toNat && (s.cues.look q).allocated && !(new.holdsCue q.toNat)
  let pins := allPins.filter fun p => s.ownsPin t p && !(bitAt new.pins p.toNat)
  let moved := old.enabled && (!new.enabled || new.port != old.port)
  (match gone.head? with | some i => [(1, i)] | none => []) ++
    (if new.sqQuota.toNat < n.sqsHeld then [(2, n.topSq)] else []) ++
    (if new.cqQuota.toNat < n.cqsHeld then [(3, n.topCq)] else []) ++
    (match cues.head? with | some q => [(4, q.toNat)] | none => []) ++
    (if new.propQuota.toNat < s.propsHeld t then [(5, s.propsHeld t)] else []) ++
    (match least ((s.vectorsNamed t).filter fun v => !(new.holdsVector (old.vecBase.toNat + v))) with | some v => [(6, v)] | none => []) ++
    (match pins.head? with | some p => [(7, p.toNat)] | none => []) ++
    (if moved && (decide (0 < n.sqsHeld) || decide (0 < n.cqsHeld) || !slots.isEmpty) then [(8, 0)] else [])

/-- The blocking condition that is reported: the lowest kind, then the lowest tenant (R967). -/
def State.blocking (s : State) (m : ProtMap) : Option (Nat × Nat × Nat) :=
  (allTenants.flatMap fun t => (s.blocksOf m t).map fun b => (b.1, t.toNat, b.2)).foldl
    (fun best b => match best with | none => some b | some x => if b.1 < x.1 then some b else some x) none

/-! ### The commit (R204 to R207) -/

/-- Tenants whose record differs between two maps. -/
def changedTenants (a b : ProtMap) : List TenantId := allTenants.filter fun t => a.records.look t != b.records.look t

/-- A tenant that a commit disables or moves loses what its page held, and a disabled one its admin pair (R207, R300). -/
def State.dropTenant (s : State) (old new : ProtMap) (t : TenantId) : State :=
  let a := old.records.look t
  let b := new.records.look t
  let s1 := if a.enabled && (!b.enabled || b.port != a.port) then s.updCtl (.tenant t) PageCtl.forget else s
  if a.enabled && !b.enabled && bitAt (s.tenReg t 0x110) 31 then
    (s1.setTenReg t 0x110 (s1.tenReg t 0x110 &&& ~~~((1 : Word) <<< 31))).adminStop t
  else s1

/-- DEV_STAGE_MANAGER shows the Stage Manager of the map in force. -/
def State.showSm (s : State) : State :=
  s.setDevReg 0x68 (fields [(s.prot.map.smTenant.toNat, 0), (flag s.prot.map.smPort, 4)])

/-- The write bursts being formed at a commit edge are closed and issued, since they were judged under the old map (R41, R215; log entry 50). -/
def State.closeForming (s : State) : State :=
  s.forAll (allChans.filter fun c => match (s.chan c).xfer with | some x => x.burst.isSome | none => false) fun c s => s.closeBurst c

/-- A new map takes effect at one edge (R204 to R207). -/
def State.installMap (s0 : State) (new : ProtMap) : State :=
  let s := s0.closeForming
  let old := s.prot.map
  let s1 := s.forAll allTenants fun t s => s.dropTenant old new t
  let kept := if old.csWindow = new.csWindow then s1.prot.windowsBefore else s1.prot.windowsBefore ++ [(s.now, old.csWindow)]
  let s2 : State := { s1 with prot := { s1.prot with map := new, epoch := s1.prot.epoch + 1, windowsBefore := kept } }
  let s3 := s2.showSm.updCtl .device fun k =>
    let k1 := { k with disturbed := true }
    if old.smPort = new.smPort then k1 else k1.updView (viaOf (portOf old.smPort)) fun _ => {}
  let s4 := if s3.devState = .houseOnly then s3.enterDev .staged else s3
  let s5 := ((s4.raiseSm 18).raiseHouse 2).note 1 0x11 none none s4.prot.epoch
  s5.forAll (changedTenants old new) fun t s => s.raiseTenant t 4

/-- A held proposal commits (R204, R640). -/
def State.commit (s : State) (h : Proposal) : State :=
  let s1 : State := { s with prot := { s.prot with held := none } }
  if h.patch then
    (({ s1 with boot := { s1.boot with pendingSet := some h.patchSet } }.raiseSm 18).raiseHouse 2).note 1 0x11 none none s1.prot.epoch
  else
    let ref := dwordAt h.body 5
    let s2 := if bitAt (dwordAt h.body 6) 0 then
        s1.updStaged (.dev 0x60) fun x => { act := putHalf x.act false ref, pend := putHalf x.pend false ref }
      else s1
    s2.installMap (s1.prot.map.apply h.body)

/-- A countersign is judged by R202. -/
def State.countersign (s : State) (c : Cmd) : State :=
  match s.prot.held with
  | none => s.answer c { status := if s.prot.lastExpired = some (c.dw 2) then 0x22 else 0x21 }
  | some h =>
    if h.byHouse = c.isHouse then s.answer c { status := 0x0A }
    else if future c.stamp h.expiry then (s.expireBefore c.stamp).answer c { status := 0x22 }
    else if c.dw 2 ≠ h.nonce then (s.endProposal false).answer c { status := 0x21 }
    else if c.dw 3 ≠ h.digest then (s.endProposal false).answer c { status := 0x23 }
    else
      match if h.patch then none else s.blocking (s.prot.map.apply h.body) with
      | some (k, t, o) => s.answer c { status := 0x0D, dw3 := BitVec.ofNat 32 (k + 16 * t + 65536 * o) }
      | none => let s1 := s.commit h; s1.answer c { dw2 := s1.prot.epoch }

/-- The packet of PROTECT_COUNTERSIGN (R202, R860). -/
def specProtectCountersign : CmdSpec :=
  { opcode := 0x41, used := [(2, 0xFFFFFFFF), (3, 0xFFFFFFFF)] }

/-- What PROTECT_COUNTERSIGN judges (R202, R860). -/
def checksProtectCountersign : Cmd → State → Checks :=
  fun _ s => { who := .smHouse, served := .general, state := s.undesignated }

/-- The effect of PROTECT_COUNTERSIGN once it has passed its checks (R202, R860). -/
def runProtectCountersign : Cmd → State → State :=
  fun c s => s.countersign c

/-- PROTECT_COUNTERSIGN (R202, R860). -/
def execProtectCountersign (p : Packet) (s : State) : Result :=
  serve specProtectCountersign checksProtectCountersign runProtectCountersign p s

/-- The packet of PROTECT_WITHDRAW (R208, R861). -/
def specProtectWithdraw : CmdSpec :=
  { opcode := 0x42, used := [(2, 0xFFFFFFFF)] }

/-- What PROTECT_WITHDRAW judges (R208, R861). -/
def checksProtectWithdraw : Cmd → State → Checks :=
  fun _ s => { who := .smHouse, served := .general, state := s.undesignated }

/-- The effect of PROTECT_WITHDRAW once it has passed its checks (R208, R861). -/
def runProtectWithdraw : Cmd → State → State :=
  fun c s =>
      let s1 := s.expireBefore c.stamp
      if (s1.prot.held.map fun h => h.nonce) = some (c.dw 2) then (s1.endProposal false).answer c {}
      else s1.answer c { status := 0x21, dw2 := s1.prot.epoch }

/-- PROTECT_WITHDRAW (R208, R861). -/
def execProtectWithdraw (p : Packet) (s : State) : Result :=
  serve specProtectWithdraw checksProtectWithdraw runProtectWithdraw p s

/-! ### PROTECT_READ (R191, R862) -/

/-- The bytes that PROTECT_READ may show. -/
def State.protImage (s : State) (c : Cmd) : List Byte :=
  if c.f 4 0 0 = 1 then (s.prot.held.map fun h => h.body).getD []
  else s.prot.map.image s.prot.epoch (if c.privileged s then none else some c.issuer)

/-- The packet of PROTECT_READ (R862). -/
def specProtectRead : CmdSpec :=
  { opcode := 0x43, used := [(2, 0xFFFFFFFF), (3, 0xFFFFFFFF), (4, 1), (5, 0xFFF), (6, 0xFFF)] }

/-- What PROTECT_READ judges (R862). -/
def checksProtectRead : Cmd → State → Checks :=
  fun c s =>
      { served := .general
        ranges := [(8, c.badResultAddr), (20, decide (c.f 5 11 0 % 4 ≠ 0)),
          (24, decide (c.f 6 11 0 < 4) || decide (3136 < c.f 6 11 0) || decide (c.f 6 11 0 % 4 ≠ 0))]
        denied := decide (c.f 4 0 0 = 1) && !(c.privileged s)
        state := s.undesignated <|> refuseIf (decide (c.f 4 0 0 = 1) && (s.expireBefore c.stamp).prot.held.isNone) (wrongState 6 0 0) }

/-- The effect of PROTECT_READ once it has passed its checks (R862). -/
def runProtectRead : Cmd → State → State :=
  fun c s =>
      let s1 := s.expireBefore c.stamp
      let bytes := ((s1.protImage c).drop (c.f 5 11 0)).take (c.f 6 11 0)
      s1.respond c bytes (BitVec.ofNat 32 bytes.length, s1.prot.epoch)

/-- PROTECT_READ (R862). -/
def execProtectRead (p : Packet) (s : State) : Result :=
  serve specProtectRead checksProtectRead runProtectRead p s

/-! ### Expiry (R209) -/

/-- PROPOSAL_EXPIRY (R209). -/
def execProposalExpiry (s : State) : Result :=
  match s.prot.held with
  | none => .next s
  | some h => if future s.now h.expiry && !(s.waitsBefore h.expiry) then .next (s.endProposal true) else .next s

end Sys2Proof.Machine
end

