-- ==== Sys2Proof/Machine/ConfigCheck.lean ====
section
/-! DEFINITION. The configuration CRC and the watchdog of the prompter (R166 to R172, R220, R643). -/

namespace Sys2Proof.Machine

/-! ### Scopes (R166, R167) -/

/-- The bytes of one place in a scope: each word that holds an STG bit, low word first, every other bit 0. -/
def stagedBytes (act stg : Word) : List Byte :=
  (if lo32 stg = 0 then [] else leBytes 4 (lo32 (act &&& stg)).toNat) ++
    (if hi32 stg = 0 then [] else leBytes 4 (hi32 (act &&& stg)).toNat)

/-- The bytes of one home; none where it is not assigned or holds no STG bit. -/
def State.scopeAt (s : State) (h : Home) : List Byte :=
  match s.specAt h with
  | some r => stagedBytes (s.staged h).act r.stg
  | none => []

/-- Places of a page of `n` bytes of normal view, T_CFG_REF and DEV_CFG_REF left out. -/
def scopePlaces (n : Nat) : List Nat := ((List.range (n / 8)).map fun i => 8 * i).filter fun p => p != 0x60

/-- The bytes of a tenant's page in ascending offset: the control block, then the slots. -/
def State.tenantScope (s : State) (t : TenantId) : List Byte :=
  ((scopePlaces 0x1000).flatMap fun p => s.scopeAt (.ten t p)) ++
    (allChans.filter fun c => (s.record t).holdsChan c).flatMap fun c =>
      ((List.range 32).map fun i => 8 * i).flatMap fun p => s.scopeAt (.chan t c p)

/-- The bytes of the device page, followed by the image of the map in force. -/
def State.deviceScope (s : State) : List Byte :=
  ((scopePlaces 0x4000).flatMap fun p => s.scopeAt (.dev p)) ++ s.prot.map.image s.prot.epoch none

/-- The CRC of a page's scope. -/
def State.scopeCrc (s : State) (page : Page) : Dword :=
  crc32c (match page with | .device => s.deviceScope | .tenant t => s.tenantScope t)

/-- T_CFG_REF or DEV_CFG_REF: REF [31:0], CHECK_EN [32], ACTION [33]. -/
def State.cfgRef (s : State) (page : Page) : Word :=
  match page with
  | .device => s.devReg 0x60
  | .tenant t => s.tenReg t 0x60

/-! ### The pass (R166 to R171) -/

/-- The tenant that a scope belongs to. -/
def pageTenant : Page → Option TenantId
  | .device => none
  | .tenant t => some t

/-- CFG_MISMATCH to the tenant, or to the Stage Manager and the House (R170). -/
def State.raiseMismatch (s : State) (page : Page) : State :=
  match page with
  | .tenant t => s.raiseTenant t 3
  | .device => (s.raiseSm 23).raiseHouse 7

/-- A compared pass differs from its reference: MISMATCH, and FROZEN where ACTION is FREEZE (R170, R171). -/
def State.mismatched (s : State) (page : Page) (crc : Dword) : State :=
  let s1 := (s.updCtl page fun k => { k with mismatch := true, mismatchSince := k.mismatchSince <|> some s.now }).raiseMismatch page
  let s2 := s1.note 10 0xA0 (pageTenant page) none crc
  if bitAt (s.cfgRef page) 33 && !(s.ctl page).frozen then
    (s2.updCtl page fun k => { k with frozen := true, armed := none }).note 10 0xA1 (pageTenant page) none crc
  else s2

/-- One scope's pass ends: a disturbed pass is discarded (R168), any other is recorded and, with CHECK_EN, compared. -/
def State.passScope (s : State) (page : Page) : State :=
  if (s.ctl page).disturbed then s.updCtl page fun k => { k with disturbed := false }
  else
    let crc := s.scopeCrc page
    let s1 := s.updCtl page fun k => { k with crc := crc, crcValid := true }
    if !(bitAt (s.cfgRef page) 32) then s1
    else if lo32 (s.cfgRef page) = crc then s1.updCtl page fun k => { k with mismatch := false, mismatchSince := none }
    else s1.mismatched page crc

/-- CFG_CRC_PASS (R166). -/
def execCfgCrcPass (s : State) : Result :=
  if s.clocksOff then .next s
  else .next (s.forAll (.device :: allTenants.map .tenant) fun page s => s.passScope page)

/-! ### The watchdog (R220, R643) -/

/-- A stall while patches are active counts a failed boot: of an unconfirmed boot, that boot (R643); of a confirmed one, the boot that follows (R220; log entry 60). -/
def State.countFailedBoot (s : State) : State :=
  if s.runningSet != 0 then { s with boot := { s.boot with failedBoots := satAdd s.boot.failedBoots 1 } } else s

/-- PROMPTER_STALL (R220): in FAULTED, which is not entered again, the fault log takes the cause. -/
def execPrompterStall (s : State) : Result :=
  let s1 := (s.raiseAlert 2).countFailedBoot
  if s.devState = .faulted then
    .next { s1 with boot := { s1.boot with faultLog := s1.boot.faultLog ++ [{ cause := 2, stamp := s1.now }] } }
  else .next (s1.enterFaulted 2)

end Sys2Proof.Machine
end

