-- ==== Sys2Proof/Machine/Ports.lean ====
section
/-! DEFINITION. What happens at the ports: units of stream endpoints, TDM frames, the converter links from clock recovery to loss, SYSREF and DEVCLK, and the local bus (chapters 19 and 20). -/

namespace Sys2Proof.Machine

/-! ### Units of stream endpoints (R114, R115, R711, R726 to R729, R741) -/

/-- The unit of a link that is UP which names an endpoint in a direction: its size in bytes (R726, R727). -/
def State.upUnit (s : State) (e : EpId) (tx : Bool) : Option Nat :=
  (((List.range 12).filter fun i => s.linkState i == .up).flatMap fun i => s.linkUnits i).findSome? fun u =>
    if u.1 = e.toNat ∧ u.2.1 = tx then some u.2.2 else none

/-- Channels that watch the level of an endpoint. -/
def State.watchers (s : State) (e : EpId) : List ChanId :=
  allChans.filter fun c => let n := s.chan c; n.paceSrc == 1 && n.paceEp == e && n.live

/-- A unit reaches an RX endpoint: discarded before a cut or for want of space, and appended whole otherwise (R115, R726). -/
def State.receiveUnit (s : State) (e : EpId) (bytes : List Byte) (stamp : Tick) : State :=
  let p := s.eps.look e
  let early := match p.cut with | some t => future t stamp | none => false
  if early then s
  else if s.epSize e < p.fifo.length + bytes.length then s.updEp e fun p => { p with overflow := satAdd p.overflow 1 }
  else
    let bs : List StreamByte := bytes.map fun b => { byte := b, stamp := stamp }
    ((s.updEp e fun p => { p with cut := none }).epAppend e bs).go (s.watchers e)

/-- The TDM port that is UP, and its slot group, which name an endpoint in a direction. -/
def State.tdmUnit (s : State) (e : EpId) (tx : Bool) : Option (BitVec 2 × Nat) :=
  ((indices 2 4).filter fun n => (s.tdm.look n).state == .up).findSome? fun n =>
    ((List.range 16).find? fun g =>
      let w := s.tdmGrp n g
      bitAt w 0 && decide (field w 7 2 = e.toNat) && bitAt w 1 == tx).map fun g => (n, g)

/-- A phase of the frame in progress has come: for a master port by the time base, for a slave by its bit clock, which the row follows (R732, R736). -/
def State.framePassed (s : State) (n : BitVec 2) (phase : Nat) : Bool :=
  match (s.tdm.look n).lastStart with
  | some t => !(bitAt (s.tdmFrame n) 48) || due (t + BitVec.ofNat 64 phase) s.now
  | none => false

/-- The state with a TDM port changed. -/
def State.updTdm (s : State) (n : BitVec 2) (f : TdmPort → TdmPort) : State := { s with tdm := s.tdm.upd n f }

/-- An RX unit of a TDM slot group is complete as the last bit of its last slot has been sampled, once a frame; its bytes carry the arrival stamp of the frame they began in (R726, R731, R741). -/
def State.tdmReceive (s : State) (e : EpId) (n : BitVec 2) (g : Nat) (rise fall : List Bool) : State :=
  let p := s.tdm.look n
  let frame := s.tdmFrame n
  let grp := s.tdmGrp n g
  let wire := if bitAt frame 24 then fall else rise
  let origin := if frameBits frame ≤ lastBit frame grp then p.prevStart else p.lastStart
  match origin with
  | none => s
  | some t =>
    if bitAt p.given g || !(s.framePassed n (givePhase frame grp (s.tdmBitp n).toNat)) || decide (wire.length ≤ lastBit frame grp) then s
    else (s.updTdm n fun p => { p with given := p.given ||| (1 <<< g) }).receiveUnit e (unitOfWire frame grp wire) t

/-- RX_UNIT_APPEND (R726, R741): a unit of a port that is UP. -/
def execRxUnitAppend (e : EpId) (unit : RxUnit) (stamp : Tick) (s : State) : Result :=
  match unit, s.tdmUnit e false with
  | .bytes bs, none => if s.upUnit e false = some bs.length ∧ bs.length ≠ 0 then .next (s.receiveUnit e bs stamp) else .next s
  | .wire rise fall, some (n, g) => .next (s.tdmReceive e n g rise fall)
  | _, _ => .next s

/-- The bytes that the transmitter sends of those it takes: silence in the place of uncorrectable ones (R542, R728). -/
def State.sentBytes (s : State) (e : EpId) (len : Nat) (bad : List Nat) : List Byte :=
  let p := s.eps.look e
  (List.range len).map fun i =>
    match p.fifo[i]? with
    | some b => if b.bad || bad.contains i then s.silenceByte e (p.index + i) else b.byte
    | none => 0

/-- A unit leaves the part; that of a TDM slot group as bits at their places in the frame (R731, R740). -/
def State.sendUnit (s : State) (e : EpId) (bs : List Byte) : State :=
  match s.tdmUnit e true with
  | none => s.emit (.unit e bs)
  | some (n, g) => (s.emit (.unit e bs)).emit (.tdmBits n (bitAt (s.tdmFrame n) 23) (unitBits (s.tdmFrame n) (s.tdmGrp n g) bs))

/-- The take point of a TX unit: for a TDM slot group once a frame, 38,400 ticks before its first bit (R741). -/
def State.takePoint (s : State) (e : EpId) : Bool :=
  match s.tdmUnit e true with
  | none => true
  | some (n, g) =>
    !(bitAt (s.tdm.look n).taken g) && s.framePassed n (takePhase (s.tdmFrame n) (s.tdmGrp n g) (s.tdmBitp n).toNat)

/-- The take point of the frame has passed. -/
def State.markTaken (s : State) (e : EpId) : State :=
  match s.tdmUnit e true with
  | none => s
  | some (n, g) => s.updTdm n fun p => { p with taken := p.taken ||| (1 <<< g) }

/-- A TX port takes a unit whole (R727). -/
def State.takeUnit (s : State) (e : EpId) (len : Nat) (ecc : Ecc) : State :=
  let p := s.eps.look e
  let off := s.fifoOffset e p.index
  let e1 := eccAt ecc true (off / 8)
  let fresh : List Nat := if judgeByte e1 = .bad then ((eccLanes e1).filter fun i => decide (off % 8 ≤ i)).map fun i => i - off % 8 else []
  let s1 := (s.fifoCheck off ecc srcTx).sendUnit e (s.sentBytes e len fresh)
  let old := (List.range len).filter fun i => (p.fifo[i]?.map fun b => b.bad) = some true
  let s2 := s1.forAll old fun i s => s.fifoBad (s.fifoOffset e (p.index + i)) srcTx
  (s2.epTake e len).go (s2.watchers e)

/-- A TX port sends a whole unit as silence (R727, R728). -/
def State.sendSilence (s : State) (e : EpId) (len : Nat) : State :=
  (s.updEp e fun p => { p with underrun := satAdd p.underrun 1 }).sendUnit e ((List.range len).map fun i => s.silenceByte e i)

/-- TX_TAKE (R727, R741): the take point of a unit of a port that is UP. -/
def execTxTake (e : EpId) (len : Nat) (ecc : Ecc) (s : State) : Result :=
  if s.upUnit e true = some len ∧ len ≠ 0 ∧ s.takePoint e = true then
    let s1 := s.markTaken e
    if len ≤ (s.eps.look e).landed then .next (s1.takeUnit e len ecc) else .next (s1.sendSilence e len)
  else .next s

/-! ### TDM ports (R732 to R738, R742, R748) -/

/-- Time of the start of a master port's frame (R732). -/
def State.frameAt (s : State) (n : BitVec 2) (f : Nat) : Tick :=
  (s.tdm.look n).start + BitVec.ofNat 64 (f * frameBits (s.tdmFrame n) * (s.tdmBitp n).toNat / 2 ^ 16)

/-- Time at which the frame sync of a master port's frame becomes inactive (R732). -/
def State.syncEnd (s : State) (n : BitVec 2) (f : Nat) : Tick :=
  let w := s.tdmFrame n
  (s.tdm.look n).start + BitVec.ofNat 64 (edgeTicks (s.tdmBitp n).toNat (2 * (f * frameBits w + field w 22 15)))

/-- A frame starts; `unbroken` says that it follows the one before at its end (R736, R737). -/
def TdmPort.startFrame (p : TdmPort) (t : Tick) (unbroken : Bool) : TdmPort :=
  { p with lastStart := some t, prevStart := if unbroken && p.state == .up then p.lastStart else none, taken := 0, given := 0 }

/-- In a frame of a port that is UP, the slots of no TX group are driven 0 where TX_UNUSED says so (R731). -/
def State.driveUnused (s : State) (n : BitVec 2) : State :=
  let frame := s.tdmFrame n
  let slots := unusedSlots frame ((s.tdmGroups n).filter fun g => bitAt g 1)
  if (s.tdm.look n).state == .up && bitAt frame 26 && !slots.isEmpty then s.emit (.tdmUnused n slots) else s

/-- A master port's next frame falls due: it starts, or the port leaves UP where fine time is missing (R732, R735, R742). -/
def State.masterFrame (s : State) (n : BitVec 2) : State :=
  let t := s.frameAt n (s.tdm.look n).frame
  let i := 8 + n.toNat
  let up := s.tdm.look n
  let s1 : State := { s with tdm := s.tdm.upd n fun p => { p with frame := p.frame + 1 } }
  if s.tb.fineValid then
    let s2 := s1.updTdm n fun p => p.startFrame t true
    let s3 := s2.emit (.frameSync n t (s.syncEnd n up.frame) (bitAt (s.tdmFrame n) 14))
    (if up.state = .training then s3.enterUp i else s3).driveUnused n
  else if up.state = .up then s1.leaveLink i .down false
  else s1

/-- TDM_MASTER_FRAME (R732). -/
def execTdmMasterFrame (n : BitVec 2) (s : State) : Result :=
  let p := s.tdm.look n
  if p.state ≠ .down ∧ bitAt (s.tdmFrame n) 48 = true ∧ due (s.frameAt n p.frame) s.now = true then .next (s.masterFrame n) else .next s

/-- A slave port takes a frame start (R736). -/
def State.frameStart (s : State) (n : BitVec 2) (unbroken : Bool) : State := s.updTdm n fun p => p.startFrame s.now unbroken

/-- A slip: the frame in progress is abandoned, and counting starts again (R737). -/
def State.slip (s : State) (n : BitVec 2) : State :=
  ({ s with tdm := s.tdm.upd n fun p => { p with slipCount := satAdd p.slipCount 1 } }).noteLink 0x83 (8 + n.toNat)

/-- TDM_FRAME_SYNC (R736, R737, R742): `bit` bits after the previous frame start. -/
def execTdmFrameSync (n : BitVec 2) (bit : Nat) (s : State) : Result :=
  let p := s.tdm.look n
  let apart := decide (bit = frameBits (s.tdmFrame n))
  if bitAt (s.tdmFrame n) 48 then .next s
  else match p.state with
    | .down => .next s
    | .training => .next (if p.lastStart.isSome && apart then ((s.frameStart n true).enterUp (8 + n.toNat)).driveUnused n else s.frameStart n true)
    | .up => .next ((if apart then s.frameStart n true else (s.slip n).frameStart n false).driveUnused n)

/-- TDM_LOCK_LOSS (R738). -/
def execTdmLockLoss (n : BitVec 2) (s : State) : Result :=
  let i := 8 + n.toNat
  let forget (s : State) : State := { s with tdm := s.tdm.upd n fun p => { p with lastStart := none } }
  if bitAt (s.tdmFrame n) 48 then .next s
  else match (s.tdm.look n).state with
    | .down => .next s
    | .training => .next (forget s)
    | .up =>
      let s1 := forget s
      if bitAt (s.tdmFrame n) 49 then
        .next (({ s1 with tdm := s1.tdm.upd n fun p => { p with resyncCount := satAdd p.resyncCount 1 } }).leaveLink i .training false)
      else .next (s1.leaveLink i .down false)

/-! ### Converter links -/

/-- A converter link. -/
def State.conv1 (s : State) (i : Nat) : ConvLinkState := s.conv.links.look (BitVec.ofNat 3 i)

/-- The state with one converter link changed. -/
def State.updConv (s : State) (i : Nat) (f : ConvLinkState → ConvLinkState) : State :=
  { s with conv := { s.conv with links := s.conv.links.upd (BitVec.ofNat 3 i) f } }

/-- The RX link, not DOWN, that a physical lane belongs to (R689). -/
def State.linkOfLane (s : State) (lane : BitVec 3) : Option Nat :=
  (List.range 4).find? fun i => s.linkState i != .down && (s.lanesOfLink i).contains lane

/-- Every lane of an RX link has clock-recovery lock (R706). -/
def State.lanesLocked (s : State) (i : Nat) : Bool := (s.lanesOfLink i).all fun k => bitAt s.conv.laneLocked k.toNat

/-- LANE_LOCK (R706 step 1). -/
def execLaneLock (lane : BitVec 3) (s : State) : Result :=
  match s.linkOfLane lane with
  | none => .next s
  | some i =>
    if s.linkState i = .training ∧ s.tb.devclkPresent = true then
      let s1 : State := { s with conv := { s.conv with laneLocked := s.conv.laneLocked ||| (1 <<< lane.toNat) } }
      .next (if (s1.conv1 i).step = 1 ∧ s1.lanesLocked i = true then s1.updConv i fun l => { l with step := 2 } else s1)
    else .next s

/-- CODE_GROUP_SYNC (R706 steps 2 and 3): in subclass 0, SYNCOUT_N rises at the next frame boundary. -/
def execCodeGroupSync (n : BitVec 2) (s : State) : Result :=
  let i := n.toNat
  let mask : Byte := (s.lanesOfLink i).foldl (fun m k => m ||| (1 <<< k.toNat)) 0
  if s.linkState i = .training ∧ (s.conv1 i).step = 2 ∧ s.lanesLocked i = true then
    let s1 : State := { s with conv := { s.conv with laneSync := s.conv.laneSync ||| mask } }
    if (convParams (s.convCfg i)).subclass1 then .next (s1.updConv i fun l => { l with step := 3 })
    else .next (s1.updConv i fun l => { l with step := 4, syncHigh := true })
  else .next s

/-- An RX link resumes its bring-up at step 2 (R706, R708, R710). -/
def State.backToSync (s : State) (i : Nat) : State :=
  ({ s with conv := s.conv.forgetLanes (s.lanesOfLink i) false }).updConv i fun l => { l with step := 2, syncHigh := false }

/-- ILAS (R706 step 4, R708). -/
def execIlas (n : BitVec 2) (mismatch : Option Byte) (s : State) : Result :=
  let i := n.toNat
  if s.linkState i = .training ∧ (s.conv1 i).step = 4 then
    match mismatch with
    | none => .next (s.updConv i fun l => { l with step := 5 })
    | some octet =>
      let s1 := s.updConv i fun l =>
        { l with ilasMismatch := true, firstMismatch := if l.mismatched then l.firstMismatch else octet, mismatched := true }
      .next (if (convParams (s.convCfg i)).strictIlas then s1.backToSync i else s1.updConv i fun l => { l with step := 5 })
  else .next s

/-- FRAME_RELEASE (R699): the first release makes the link UP; data outside the elastic buffers fails the bring-up, which LINK_UP's timeout then ends. -/
def execFrameRelease (n : BitVec 2) (fits : Bool) (s : State) : Result :=
  let i := n.toNat
  if s.linkState i = .training ∧ (s.conv1 i).step = 5 then
    if fits then .next (s.enterUp i)
    else
      let s1 := s.updConv i fun l => { l with elasticErr := true, step := 6 }
      .next (if (s.linkUps i).isEmpty then s1.leaveLink i .down false else s1)
  else .next s

/-- A TX link starts its ILAS (R700, R707). -/
def State.startIlas (s : State) (i : Nat) : State := s.updConv i fun l => { l with step := 3, ilasLeft := 4 }

/-- A boundary of the local multiframe clock of an RX link (R706 step 3, R710). -/
def State.rxBoundary (s : State) (i : Nat) : State :=
  let s1 : State := { s with conv := { s.conv with
    laneErrors := (s.lanesOfLink i).foldl (fun t k => t.put k 0) s.conv.laneErrors } }
  if s.linkState i = .training ∧ (s.conv1 i).step = 3 ∧ (s.conv1 i).aligned = true then
    s1.updConv i fun l => { l with step := 4, syncHigh := true }
  else s1

/-- A boundary of the local multiframe clock of a TX link: after a whole multiframe of /K/ and with SYNCIN_N high the ILAS starts, and after four multiframes of it the link is UP (R700, R707). -/
def State.txBoundary (s : State) (i : Nat) : State :=
  let l := s.conv1 i
  let sub1 := (convParams (s.convCfg i)).subclass1
  if s.linkState i ≠ .training then s
  else if l.step = 1 then
    if l.syncHigh && !sub1 then s.startIlas i else s.updConv i fun l => { l with step := 2 }
  else if l.step = 2 then
    if l.syncHigh && (l.aligned || !sub1) then s.startIlas i else s
  else if l.ilasLeft ≤ 1 then s.enterUp i
  else s.updConv i fun l => { l with ilasLeft := l.ilasLeft - 1 }

/-- LMFC_BOUNDARY (R692). -/
def execLmfcBoundary (l : ConvLink) (s : State) : Result :=
  if s.tb.devclkPresent then
    match l with
    | .rx n => .next (s.rxBoundary n.toNat)
    | .tx n => .next (s.txBoundary (4 + n.toNat))
  else .next s

/-- SYNCIN_HIGH (R707): in subclass 0 the ILAS starts at the next frame boundary. -/
def execSyncinHigh (n : BitVec 2) (s : State) : Result :=
  let i := 4 + n.toNat
  let s1 := s.updConv i fun l => { l with syncHigh := true }
  if s.linkState i = .training ∧ (s.conv1 i).step = 2 ∧ (convParams (s.convCfg i)).subclass1 = false then .next (s1.startIlas i)
  else .next s1

/-- A TX link returns to the /K/ of R707. -/
def State.backToK (s : State) (i : Nat) : State := s.updConv i fun l => { l with step := 1, syncHigh := false, ilasLeft := 4 }

/-- SYNCIN_LOW (R711): low for at least 5 frames plus 9 octets is a request to resynchronise, and less is an error report. -/
def execSyncinLow (n : BitVec 2) (octets : Nat) (s : State) : Result :=
  let i := 4 + n.toNat
  let long := decide (5 * (convParams (s.convCfg i)).f + 9 ≤ octets)
  match s.linkState i with
  | .down => .next (s.updConv i fun l => { l with syncHigh := false })
  | .training => .next (if long then s.backToK i else s.updConv i fun l => { l with syncHigh := false })
  | .up =>
    if long then .next (((s.backToK i).updConv i fun l => { l with resyncCount := satAdd l.resyncCount 1 }).leaveLink i .training false)
    else .next (s.updConv i fun l => { l with errCount := satAdd l.errCount 1 })

/-- An RX link leaves the data phase (R710). -/
def State.loseRx (s : State) (i : Nat) : State :=
  if (convParams (s.convCfg i)).auto then
    ((s.backToSync i).updConv i fun l => { l with resyncCount := satAdd l.resyncCount 1 }).leaveLink i .training false
  else s.leaveLink i .down false

/-- CODE_GROUP_ERROR (R710): four on one lane within a multiframe end the data phase. -/
def execCodeGroupError (lane : BitVec 3) (s : State) : Result :=
  match s.linkOfLane lane with
  | none => .next s
  | some i =>
    if s.linkState i = .up then
      let k := s.conv.laneErrors.look lane + 1
      let s1 := s.updConv i fun l => { l with errCount := satAdd l.errCount 1 }
      let s2 : State := { s1 with conv := { s1.conv with laneErrors := s1.conv.laneErrors.put lane k } }
      let s3 := if (convParams (s.convCfg i)).subclass1 then s2.emit (.syncReport (BitVec.ofNat 2 i)) else s2
      .next (if 4 ≤ k then s3.loseRx i else s3)
    else .next s

/-- LANE_LOCK_LOSS (R710). -/
def execLaneLockLoss (lane : BitVec 3) (s : State) : Result :=
  match s.linkOfLane lane with
  | none => .next s
  | some i =>
    let s1 : State := { s with conv := { s.conv with laneLocked := s.conv.laneLocked &&& ~~~((1 : Byte) <<< lane.toNat) } }
    .next (if s.linkState i = .up then s1.loseRx i else s1)

/-- MISPLACED_ALIGNMENT_CHARACTER (R710). -/
def execMisplacedAlignmentCharacter (lane : BitVec 3) (s : State) : Result :=
  match s.linkOfLane lane with
  | none => .next s
  | some i => .next (if s.linkState i = .up then s.loseRx i else s)

/-! ### DEVCLK and SYSREF (R694 to R702, R714, R717) -/

/-- DEVCLK_RETURN (R706): with SYSREF ignored, the LMFC of a link without a phase runs from the first edge (R697). -/
def execDevclkReturn (s : State) : Result :=
  let s1 : State := { s with tb := { s.tb with devclkPresent := true } }
  if field (s.devReg 0x1840) 41 40 = 2 then
    .next (s1.forAll ((List.range 8).filter fun i => s.linkState i == .training) fun i s => s.updConv i fun l => { l with aligned := true })
  else .next s1

/-- DEVCLK_LOSS (R714). -/
def execDevclkLoss (s : State) : Result :=
  let s1 : State := { s with tb := { s.tb with devclkPresent := false } }
  .next (s1.forAll ((List.range 8).filter fun i => s.linkState i != .down) fun i s => s.leaveLink i .down false)

/-- DEVCLK_STAMP (R701). -/
def execDevclkStamp (vernier : BitVec 4) (s : State) : Result :=
  if s.tb.devclkPresent then
    .next { s with conv := { s.conv with devclkStamp := s.now + vernier.zeroExtend 64, devclkSeq := s.conv.devclkSeq + 1 } }
  else .next s

/-- The LMFC of a link takes its phase from an edge (R697, R698). -/
def State.alignLink (s : State) (i : Nat) (edge : Tick) : State :=
  let s1 := s.updConv i fun l => { l with aligned := true, lmfcStamp := edge }
  { s1 with conv := { s1.conv with lmfcStamp := edge } }

/-- A SYSREF event is judged for one subclass-1 link (R697). -/
def State.judgeSysref (s : State) (i : Nat) (edge : Tick) (miss : Bool) : State :=
  let mode := field (s.devReg 0x1840) 41 40
  let l := s.conv1 i
  let s1 :=
    if l.aligned && miss then (s.setDevReg 0x1850 (s.devReg 0x1850 ||| (1 <<< 9))).noteLink 0x84 i else s
  if mode = 1 ∨ (mode = 0 ∧ l.aligned = false) then s1.alignLink i edge else s1

/-- SYSREF_EVENT (R694, R697, R698). -/
def execSysrefEvent (vernier : BitVec 4) (edge : Tick) (misses : Byte) (s : State) : Result :=
  if s.tb.devclkPresent then
    let s1 : State := { s with conv := { s.conv with sysrefStamp := s.now + vernier.zeroExtend 64, sysrefSeq := s.conv.sysrefSeq + 1 } }
    if 2 ≤ field (s.devReg 0x1840) 41 40 then .next s1
    else
      let links := (List.range 8).filter fun i => s.linkState i != .down && (convParams (s.convCfg i)).subclass1
      .next (s1.forAll links fun i s => s.judgeSysref i edge (bitAt misses i))
  else .next s

/-- A commanded SYSREF pulse is produced, or missed without fine time (R695). -/
def State.sysrefOut (s : State) (t : Tick) : State :=
  let w := s.devReg 0x1850
  if s.tb.fineValid then
    let fall := t + BitVec.ofNat 64 (16 * field w 47 32)
    let s1 : State := { s with conv := { s.conv with sysrefLevel := true, sysrefFall := some fall } }
    s1.emit (.pulse .sysref true t)
  else (s.setDevReg 0x1850 (w ||| (1 <<< 8))).note 9 0x93 none none 8

/-- The pattern goes on, or ends and clears ARM (R695). -/
def State.sysrefAdvance (s : State) (t : Tick) : State :=
  let next := t + s.devReg 0x1860
  match s.conv.sysrefLeft with
  | none => { s with conv := { s.conv with sysrefNext := some next } }
  | some k =>
    if k ≤ 1 then
      let s1 := s.setDevReg 0x1850 (s.devReg 0x1850 &&& ~~~(1 : Word))
      { s1 with conv := { s1.conv with sysrefNext := none, sysrefLeft := none } }
    else { s with conv := { s.conv with sysrefNext := some next, sysrefLeft := some (k - 1) } }

/-- SYSREF_PULSE (R695): in output mode, an armed pulse falls due. -/
def execSysrefPulse (s : State) : Result :=
  match s.conv.sysrefNext with
  | none => .next s
  | some t =>
    if bitAt (s.devReg 0x1850) 0 && bitAt (s.devReg 0x1840) 24 && due t s.now then .next ((s.sysrefOut t).sysrefAdvance t) else .next s

/-! ### LINK_UP_TIMEOUT (R709, R742) -/

/-- Cause and lane of a converter link's failed bring-up. -/
def State.convCause (s : State) (i : Nat) : Nat × Nat :=
  let l := s.conv1 i
  let lanes := s.lanesOfLink i
  let unlocked := lanes.find? fun k => !(bitAt s.conv.laneLocked k.toNat)
  let sub1 := (convParams (s.convCfg i)).subclass1
  if !s.tb.devclkPresent || l.state == .down then (1, 0xFF)
  else if 4 ≤ i then (if l.syncHigh && sub1 && !l.aligned then (4, 0xFF) else (7, 0xFF))
  else if l.step = 6 then (6, 0xFF)
  else if l.mismatched then (5, 0xFF)
  else match unlocked with
    | some k => (2, k.toNat)
    | none =>
      if l.step ≤ 2 then (3, (lanes.head?.map fun k => k.toNat).getD 0xFF)
      else if l.step = 3 then (4, 0xFF)
      else if l.step = 4 then (5, 0xFF)
      else (6, 0xFF)

/-- DW3 of the TIMEOUT of a link. -/
def State.timeoutDetail (s : State) (i : Nat) (bitClock : Bool) : Dword :=
  if i < 8 then
    let c := s.convCause i
    BitVec.ofNat 32 (c.1 + 256 * c.2 + 65536 * (if c.1 = 5 then (s.conv1 i).firstMismatch.toNat else 0))
  else BitVec.ofNat 32 ((if bitClock || bitAt (s.tdmFrame (BitVec.ofNat 2 (i - 8))) 48 then 9 else 8) + 256 * 0xFF)

/-- The timeout of a LINK_UP in service has run: 1 to 10,000 ms (R709). -/
def State.linkTimedOut (s : State) (l : LongCmd) : Bool :=
  due (l.started + BitVec.ofNat 64 (field (packetDw l.dw 3) 13 0 * 38400000)) s.now

/-- LINK_UP_TIMEOUT (R709). -/
def execLinkUpTimeout (l : BitVec 8) (bitClock : Bool) (s : State) : Result :=
  let i := l.toNat
  let ready := (s.linkUps i).filter fun x => s.linkTimedOut x
  if 12 ≤ i ∨ ready.isEmpty = true then .next s
  else
    let d := s.timeoutDetail i bitClock
    .next ((s.leaveLink i .down true).forAll ready fun x s => s.finishLong x { status := 0x0E, dw3 := d } [])

/-! ### The local bus (R743 to R746) -/

/-- Bytes of the beat that a burst presents: to the end of its word. -/
def LbBurst.beat (b : LbBurst) : Nat := min (4 - (offOf b.addr + b.done) % 4) (b.len - b.done)

/-- The write burst of a channel that a burst on the bus carries out. -/
def State.busWrite (s : State) (b : LbBurst) : Option WriteReq :=
  (s.chan b.chan).writes.find? fun w => w.addr == b.addr && w.stand == .out

/-- A write burst on the bus leaves its channel's list: the bytes that it has written await their proof. -/
def State.busLanded (s : State) (b : LbBurst) : State :=
  let s1 := match s.busWrite b with | some w => s.updChan b.chan fun n => n.without w | none => s
  if b.done = 0 then s1 else s1.markUnproven b.chan { addr := b.addr, bytes := b.bytes.take b.done }

/-- What a read burst of a channel has brought, for its oldest local-bus read without data. -/
def State.busRead (s : State) (c : ChanId) (e : Ended) (bs : List Byte) : State :=
  let fill (n : Chan) : Chan :=
    match findIdx (fun (r : ReadReq) => decide (tagOf r.addr = 4) && r.got.isNone) n.reads with
    | some (i, _) => { n with reads := n.reads.modify i fun r => { r with got := some (e, bs) } }
    | none => n
  s.updChan c fill

/-- A burst that was abandoned has ended: the beats it did land, and the others were not performed (R108, R746). -/
def State.busAbandoned (s : State) (b : LbBurst) : State :=
  if b.write then
    let left := b.len - b.done
    let cut (n : Chan) : Chan :=
      if (s.busWrite b).isSome then { n with xfer := n.xfer.map fun x => { x with written := x.written - left } } else n
    (s.busLanded b).updChan b.chan cut
  else s

/-- A burst has run to its end. -/
def State.busDone (s : State) (b : LbBurst) : State :=
  if b.write then (s.busLanded b).retryDone b.chan rWrite b.addr else s.busRead b.chan .good b.got

/-- The burst after one more beat; the data of a read lies on the byte lanes of the word. -/
def LbBurst.step (b : LbBurst) (data : Dword) : LbBurst :=
  let lane := (offOf b.addr + b.done) % 4
  { b with done := b.done + b.beat, got := if b.write then [] else b.got ++ ((leBytes 4 data.toNat).drop lane).take b.beat }

/-- The beat that is presented may end: one cycle after its first where LB_RDY ends it, and after its wait cycles where they do (R744). -/
def State.beatOver (s : State) (b : LbBurst) : Bool :=
  let w := s.lbCs (csOf b.addr)
  let cycles := if bitAt w 4 then 1 else field w 8 5 + 1
  due (b.since + BitVec.ofNat 64 (cycles * s.lbPeriod)) s.coreEdge

/-- LB_BEAT_END (R744, R746): a burst abandoned in its address or turnaround cycle ends without a beat. -/
def execLbBeatEnd (data : Dword) (s : State) : Result :=
  match s.lb with
  | [] => .next s
  | b :: rest =>
    if b.beatless then .next ((s.lbPop.busAbandoned b).go [b.chan])
    else if !(s.beatOver b) then .next s
    else
    let a := b.addr + BitVec.ofNat 64 b.done
    let s1 := s.emit (.lbBeat (csOf b.addr) b.write (a &&& ~~~(3 : Word)) ((b.bytes.drop b.done).take b.beat))
    let n := { b.step data with since := s.coreEdge }
    if n.abandoned then .next ((s1.lbPop.busAbandoned n).go [b.chan])
    else if n.len ≤ n.done then .next ((s1.lbPop.busDone n).go [b.chan])
    else .next { s1 with lb := n :: rest }

/-- The burst in progress has failed and ends: its written beats have landed, and later write bursts of the channel wait for it (R472, R473, R485, R745). -/
def State.busTimedOut (s : State) (b : LbBurst) : State :=
  if b.write then
    let s1 : State := { s with lb := b :: s.lb.tail.filter fun x => !(x.chan == b.chan && x.write) }.lbPop
    let s2 := if b.done = 0 then s1 else s1.markUnproven b.chan { addr := b.addr, bytes := b.bytes.take b.done }
    match s.busWrite b with
    | none => s2
    | some w => (s2.updChan b.chan fun n => n.restand (fun x => tagOf x.addr == 4 && x != w) .held).writeBusFail b.chan w .lbReady
  else (s.lbPop.busRead b.chan (.failed .lbReady) []).failOldest b.chan

/-- 10 µs in ticks (R745). -/
def lbReadyLimit : Nat := 384000

/-- LB_READY_TIMEOUT (R486, R745, R746): 10 µs after the first cycle of a beat; only a chip select whose beats end on LB_RDY can time out. -/
def execLbReadyTimeout (s : State) : Result :=
  match s.lb with
  | [] => .next s
  | b :: _ =>
    if bitAt (s.lbCs (csOf b.addr)) 4 && due (b.since + BitVec.ofNat 64 lbReadyLimit) s.coreEdge then
      .next ((if b.abandoned then s.lbPop.busAbandoned b else s.busTimedOut b).go [b.chan])
    else .next s

end Sys2Proof.Machine
end

