-- ==== Sys2Proof/Machine/Health.lean ====
section
/-! DEFINITION. Self-test and degraded operation: RUN_BIST and BIST_RESULT, handovers, in-service faults, the rotating test, degraded conditions, temperature and lifetime counters (chapter 15, R910). -/

namespace Sys2Proof.Machine

/-! ### Units, places and results -/

/-- The state with its health changed. -/
def State.updHealth (s : State) (f : Health → Health) : State := { s with health := f s.health }

/-- HEALTH_EVENT to the Stage Manager and the House (R580, R587). -/
def State.healthEvent (s : State) : State := (s.raiseSm 22).raiseHouse 6

/-- The logical stagehand that a unit carries. -/
def Health.carried (h : Health) (u : UnitId) : Option ShId := allSh.find? fun i => h.map.look i == some u

/-- The lowest understudy place that holds a free unit: the place (true for US1) and the unit (R581). -/
def Health.pick (h : Health) : Option (Bool × UnitId) :=
  match h.us0, h.us1 with
  | some u, v => if h.freeUnit (some u) then some (false, u) else
      (match v with | some w => if h.freeUnit (some w) then some (true, w) else none | none => none)
  | none, some w => if h.freeUnit (some w) then some (true, w) else none
  | none, none => none

/-- A unit leaves its understudy place. -/
def Health.vacate (h : Health) (u : UnitId) : Health :=
  { h with us0 := if h.us0 = some u then none else h.us0, us1 := if h.us1 = some u then none else h.us1 }

/-- A unit becomes an understudy, if it is none yet: in the place that its handover left empty, or the lowest empty one (R573, R580). -/
def Health.enlist (h : Health) (u : UnitId) (place : Option Bool) : Health :=
  if h.us0 = some u ∨ h.us1 = some u ∨ (h.carried u).isSome = true then h
  else if place = some true ∧ h.us1.isNone = true then { h with us1 := some u }
  else if h.us0.isNone then { h with us0 := some u }
  else if h.us1.isNone then { h with us1 := some u }
  else h

/-- A unit is marked failed, and takes no understudy place (R573, R581, R585). -/
def State.failUnit (s : State) (u : UnitId) : State :=
  if bitAt s.health.failed u.toNat then s
  else
    (s.updHealth fun h =>
      { h.vacate u with failed := h.failed ||| (1 <<< u.toNat), lifeUnitFails := satAdd h.lifeUnitFails 1 }).note
      7 0x71 none none (u.zeroExtend 32)

/-- A result becomes the newest of its target and unit (R570, R913). -/
def Health.record (h : Health) (r : BistRecord) : Health :=
  { h with
    results := r :: h.results.filter fun x => !(x.target == r.target && x.unit == r.unit)
    lastResult := some r }

/-- The RUN_BIST in service for a test. -/
def State.bistCommand (s : State) (j : TestJob) : Option LongCmd :=
  match j.cmd with
  | none => none
  | some r => s.long.find? fun l => decide (l.ref = r) && decide (field (packetDw l.dw 0) 7 0 = 0x58)

/-- A test ends before its time: its record carries ABORTED and a signature that the spec leaves open, and its command completes with STOPPED and DW3 `why` (R575). -/
def State.abortTest (s : State) (j : TestJob) (why : Dword) : State :=
  let r : BistRecord :=
    { target := j.target, unit := j.unit, observed := lo32 (Config.freeWord s.fresh), expected := Config.romSignature j.target j.unit,
      pass := false, aborted := true }
  let s1 := s.bump.updHealth fun h => { h.record r with tests := h.tests.filter fun x => x != j }
  let s2 := if j.target = 1 ∧ bitAt s.health.failed j.unit.toNat = false then s1.updHealth fun h => h.enlist j.unit j.place else s1
  match s.bistCommand j with
  | some l => s2.finishLong l { status := 0x15, dw3 := why } []
  | none => s2

/-! ### Handover (R576 to R578) -/

/-- Ticks from the freeze edge to the switch edge: 160 CLK_CORE cycles (R576). -/
def handoverTicks : Nat := 9600

/-- A handover begins: the stagehand freezes (R576). -/
def State.beginHandover (s : State) (h : ShId) (place : Bool) (u : UnitId) (failed : Bool) (test : Option TestJob) : State :=
  let j : Handover := { sh := h, unit := u, place := place, start := s.coreEdge, sourceFailed := failed, test := test }
  s.updHealth fun x => { x with handovers := x.handovers ++ [j] }

/-- A test begins on a unit (R572, R579). -/
def State.beginTest (s : State) (j : TestJob) : State :=
  s.updHealth fun h => { h with tests := h.tests ++ [j] }

/-- Channels served by a stagehand. -/
def State.servedBy (s : State) (h : ShId) : List ChanId :=
  allChans.filter fun c => (s.chan c).state != .unbound && (s.chan c).effective == h

/-- The switch of a handover: the stagehand runs on the understudy, and the unit it left is tested where that was asked (R576, R578). -/
def State.switchOver (s : State) (j : Handover) : State :=
  let from_ := s.health.map.look j.sh
  let s1 := s.updHealth fun h => { h with handovers := h.handovers.filter fun x => x != j }
  if j.dropped then
    match j.test with
    | some t => s1.abortTest t 2
    | none => s1
  else
    let s2 := s1.updHealth fun h => { h.vacate j.unit with map := h.map.put j.sh (some j.unit) }
    let s3 := s2.note 7 0x70 none none
      (BitVec.ofNat 32 (j.sh.toNat + 16 * unitCode from_ + 256 * j.unit.toNat + 4096 * flag j.sourceFailed))
    match j.test with
    | some t => s3.beginTest { t with place := some j.place }
    | none => s3

/-- Occupants whose staging data the copy from a faulty unit found uncorrectable fail with UNCORRECTABLE, with the tag of their source (R581; DEDUCED, log entry 66). -/
def State.staleStaging (s : State) (j : Handover) : State :=
  if !j.sourceFailed || j.dropped then s
  else s.forAll ((s.sh.look j.sh).occupants.filter fun c => j.stale.contains c) fun c s =>
    let tag := match (s.chan c).xfer with | some x => tagOf x.src | none => 0
    s.failPlain c 0x13 (accessDetail 6 tag false false false false 0).toNat

/-- HANDOVER_SWITCH (R576, R581): the oldest handover whose switch edge has come. -/
def execHandoverSwitch (s : State) : Result :=
  match s.health.handovers.find? fun j => due (j.start + BitVec.ofNat 64 handoverTicks) s.coreEdge with
  | some j => if s.belowHush then .next s else .next (((s.switchOver j).staleStaging j).go (s.servedBy j.sh))
  | none => .next s

/-! ### Faults in service (R581 to R584, R592, R593) -/

/-- Channels of a lost stagehand go to the survivors, in order, from the first above it (R582). -/
def State.redistribute (s : State) (h : ShId) : State :=
  let survivors := ((allSh.filter fun i => decide (h.toNat < i.toNat)) ++ allSh.filter fun i => decide (i.toNat < h.toNat)).filter fun i =>
    (s.health.map.look i).isSome
  if survivors.isEmpty then s
  else
    let l := s.servedBy h
    let heir (k : Nat) : ShId := nth survivors (k % survivors.length) h
    let s1 := s.forAll ((List.range l.length).zip l) fun x s => s.updChan x.2 fun n => { n with effective := heir x.1 }
    if l.isEmpty then s1
    else s1.updHealth fun x => { x with lastSurvivor := x.lastSurvivor.put h (some (heir (l.length - 1))) }

/-- A logical stagehand is lost: its occupants fail, but those whose curtain has fallen are late (R595), and its channels are redistributed (R581). -/
def State.loseStagehand (s : State) (h : ShId) : State :=
  let occ := (s.sh.look h).occupants
  let s1 := (s.updHealth fun x => { x with map := x.map.put h none }).note 7 0x73 none none (h.zeroExtend 32)
  let s2 := s1.forAll occ fun c s => if (s.chan c).live && s.curtainDue c && !(s.chan c).haltDue then s.curtainFalls c else s.failPlain c 0x15 3
  s2.redistribute h

/-- A test of a healthy understudy in its place, which a failure handover may take (R575). -/
def Health.interruptible (h : Health) : Option (Bool × TestJob) :=
  let test (u : Option UnitId) : Option TestJob :=
    match u with
    | none => none
    | some u => h.tests.find? fun j => j.target == 1 && j.unit == u && !(bitAt h.failed u.toNat)
  match test h.us0, test h.us1 with
  | some j, _ => some (false, j)
  | none, some j => some (true, j)
  | none, none => none

/-- A faulty unit's stagehand goes to an understudy, or is lost (R575, R581). -/
def State.replaceUnit (s : State) (h : ShId) (test : Option TestJob) : State :=
  let count (s : State) : State := s.updHealth fun x => { x with lifeFaultHandovers := satAdd x.lifeFaultHandovers 1 }
  match s.health.pick with
  | some (p, u) => count (s.beginHandover h p u true test)
  | none =>
    match s.health.interruptible with
    | some (p, j) => count ((s.abortTest j 2).beginHandover h p j.unit true test)
    | none =>
      let s1 := match test with | some t => s.abortTest t 2 | none => s
      s1.loseStagehand h

/-- The fault of a unit that carries a stagehand, or to which one is being handed over (R578, R581, R592). -/
def State.faultUnit (s : State) (u : UnitId) : State :=
  match s.health.handovers.find? fun j => j.unit == u with
  | some j =>
    let s1 := s.failUnit u
    if j.sourceFailed then
      (s1.updHealth fun h => { h with handovers := h.handovers.filter fun x => x != j }).replaceUnit j.sh j.test
    else s1.updHealth fun h => { h with handovers := h.handovers.map fun x => if x = j then { x with dropped := true } else x }
  | none =>
    match s.health.carried u with
    | none => s
    | some h =>
      let s1 := s.failUnit u
      match s.health.handovers.find? fun j => j.sh == h with
      | some j =>
        if j.dropped then
          (s1.updHealth fun x => { x with handovers := x.handovers.filter fun y => y != j }).replaceUnit h j.test
        else
          s1.updHealth fun x =>
            { x with
              handovers := x.handovers.map fun y => if y = j then { y with sourceFailed := true } else y
              lifeFaultHandovers := satAdd x.lifeFaultHandovers 1 }
      | none => s1.replaceUnit h none

/-- The stagehand that a unit carries, or that is being handed over to it. -/
def State.stagehandOf (s : State) (u : UnitId) : Option ShId :=
  match s.health.handovers.find? fun j => j.unit == u with
  | some j => some j.sh
  | none => s.health.carried u

/-- The copy from the faulty unit of a stagehand finds staging data uncorrectable (R581). -/
def State.copyFinds (s : State) (h : Option ShId) (bad : List ChanId) : State :=
  s.updHealth fun x => { x with handovers := x.handovers.map fun j => if j.sourceFailed && some j.sh == h then { j with stale := bad } else j }

/-- IN_SERVICE_FAULT (R581). -/
def execInServiceFault (f : UnitFault) (s : State) : Result :=
  if 14 ≤ f.unit.toNat then .fault .malformedEvent
  else .next (((s.faultUnit f.unit).copyFinds (s.stagehandOf f.unit) f.stale).go allChans)

/-! ### RUN_BIST and BIST_RESULT (R569 to R575, R869, R870) -/

/-- The target of RUN_BIST or BIST_RESULT. -/
def Cmd.bistTarget (c : Cmd) : Nat := c.f 2 7 0
def Cmd.bistUnit (c : Cmd) : UnitId := BitVec.ofNat 4 (c.f 2 11 8)

/-- The fields of a self-test packet that break R569 or R869. -/
def Cmd.bistRanges (c : Cmd) : List (Nat × Bool) :=
  [(8, decide (4 < c.bistTarget)), (9, decide (13 < c.bistUnit.toNat) || (decide (c.bistTarget ≠ 1) && decide (c.bistUnit ≠ 0))),
   (10, bitAt (c.dw 2) 16 && decide (c.bistTarget ≠ 0))]

/-- The target is under test, or its unit is on the way to one (R571). -/
def State.underTest (s : State) (target : Nat) (u : UnitId) : Bool :=
  (s.health.tests.any fun j => decide (j.target.toNat = target) && j.unit == u) ||
    (decide (target = 1) && s.health.handovers.any fun j =>
      j.unit == u || ((j.test.map fun t => t.unit == u).getD false))

/-- What refuses RUN_BIST beside the general checks, in the order of R571. -/
def Cmd.bistBusy (c : Cmd) (s : State) : Option Reply :=
  let h := s.health
  refuseIf (s.underTest c.bistTarget c.bistUnit) { status := 0x0D, dw3 := 1 } <|>
    refuseIf (decide (c.bistTarget = 1) && (h.carried c.bistUnit).isSome && h.pick.isNone) { status := 0x0D, dw3 := 2 } <|>
    refuseIf (decide (c.bistTarget = 2) && s.guard.spareBank.isSome) { status := 0x0D, dw3 := 3 } <|>
    refuseIf (decide (c.bistTarget = 0) && s.devState != .houseOnly) (wrongState 0 s.devState.code 0)

/-- What the start of a test does to the part (R569, R572, R574, R883). -/
def State.startBist (s : State) (j : TestJob) : State :=
  if j.target = 0 then
    let s1 : State := { s with house := { s.house with inbound := [], outbound := [], waiting := [] }, dram := { s.dram with selfRefresh := true } }
    s1.beginTest j
  else if j.target = 4 then
    ({ s with trace := { s.trace with staging := [], ring := [], written := 0, exported := 0 } }).beginTest j
  else if j.target = 1 then
    match s.health.carried j.unit, s.health.pick with
    | some h, some (p, u) => s.beginHandover h p u false (some j)
    | _, _ => s.beginTest j
  else s.beginTest j

/-- The packet of RUN_BIST (R569, R571, R572, R869). -/
def specRunBist : CmdSpec :=
  { opcode := 0x58, used := [(2, 0x10FFF)] }

/-- What RUN_BIST judges (R569, R571, R572, R869). -/
def checksRunBist : Cmd → State → Checks :=
  fun c s =>
      { who := if c.bistTarget = 0 then .house else .smHouse, served := .houseFirst, ranges := c.bistRanges
        resource := c.bistBusy s, long := true }

/-- The effect of RUN_BIST once it has passed its checks (R569, R571, R572, R869). -/
def runRunBist : Cmd → State → State :=
  fun c s =>
      let j : TestJob :=
        { target := BitVec.ofNat 8 c.bistTarget, unit := c.bistUnit, cmd := some c.ref, retest := bitAt (c.dw 2) 16 }
      (s.startLong c).startBist j

/-- RUN_BIST (R569, R571, R572, R869). -/
def execRunBist (p : Packet) (s : State) : Result :=
  serve specRunBist checksRunBist runRunBist p s

/-- The packet of BIST_RESULT (R570, R870). -/
def specBistResult : CmdSpec :=
  { opcode := 0x59, used := [(2, 0xFFF)] }

/-- What BIST_RESULT judges (R570, R870). -/
def checksBistResult : Cmd → State → Checks :=
  fun c _ => { served := .faultRead, ranges := c.bistRanges }

/-- The effect of BIST_RESULT once it has passed its checks (R570, R870). -/
def runBistResult : Cmd → State → State :=
  fun c s =>
      match s.health.results.find? fun r => decide (r.target.toNat = c.bistTarget) && r.unit == c.bistUnit with
      | some r => s.answer c { dw2 := r.observed, dw3 := BitVec.ofNat 32 (1 + 2 * flag r.pass + 4 * flag r.aborted) }
      | none => s.answer c {}

/-- BIST_RESULT (R570, R870). -/
def execBistResult (p : Packet) (s : State) : Result :=
  serve specBistResult checksBistResult runBistResult p s

/-! ### BIST_TEST_END (R570, R572 to R574, R580) -/

/-- A stagehand's test has ended: a unit that passes is an understudy again, and one that fails is failed (R573, R580). -/
def State.endUnitTest (s : State) (j : TestJob) (pass : Bool) : State :=
  let s1 := if j.cmd.isNone then s.updHealth fun h => { h with lifeRotTests := satAdd h.lifeRotTests 1 } else s
  if pass then (if bitAt s.health.failed j.unit.toNat then s1 else s1.updHealth fun h => h.enlist j.unit j.place)
  else
    let s2 := s1.failUnit j.unit
    if j.cmd.isNone then s2.healthEvent else s2

/-- What the result of a test of another target does (R573). -/
def State.endOtherTest (s : State) (target : Nat) (pass : Bool) (failing : BitVec 12) : State :=
  if pass then s
  else match target with
    | 2 => s.updHealth fun h => { h with spareBankBad := true }
    | 3 =>
      let checks : Dword := (s.guard.selfCheck ||| (failing.zeroExtend 32 <<< 2)) &&& ~~~(2 : Dword)
      let s1 : State := { s with guard := { s.guard with selfCheck := checks } }
      (s1.raiseAlert 3).enterFaulted 3
    | 4 => { s with trace := { s.trace with stopped := true } }
    | _ => s

/-- A FULL_DEVICE test has ended: the part restarts, and the command completes on the return to HOUSE_ONLY (R574). -/
def State.endFullTest (s : State) (j : TestJob) (pass : Bool) (observed expected : Dword) (passed : BitVec 14) : State :=
  let s1 := if j.retest then s.updHealth fun h => { h with failed := h.failed &&& ~~~passed } else s
  let r := s1.restart 3
  let h := { r.health with results := s1.health.results, lastResult := s1.health.lastResult }
  { r with
    health := h
    boot := { r.boot with bistDue := (s.bistCommand j).map fun l => (l.ref, if pass then 0 else 0x20, observed, expected) } }

/-- BIST_TEST_END (R570): a test in service ends. -/
def execBistTestEnd (target : Byte) (unit : UnitId) (observed : Dword) (failing : BitVec 12) (passed : BitVec 14) (s : State) : Result :=
  match s.health.tests.find? fun j => j.target == target && j.unit == unit with
  | none => .next s
  | some j =>
    let expected := Config.romSignature target unit
    let pass := observed == expected
    let r : BistRecord := { target := target, unit := unit, observed := observed, expected := expected, pass := pass, aborted := false }
    let s1 := s.updHealth fun h => { h.record r with tests := h.tests.filter fun x => x != j }
    if target = 0 then .next (s1.endFullTest j pass observed expected passed)
    else
      let done (s : State) : State :=
        match s1.bistCommand j with
        | some l => s.finishLong l { status := if pass then 0 else 0x20, dw2 := observed, dw3 := expected } []
        | none => s
      if target = 1 then .next (done (s1.endUnitTest j pass)) else .next ((done s1).endOtherTest target.toNat pass failing)

/-! ### The rotating test (R579, R580, R594) -/

/-- The window of a rotating test is open: none is asked for, or OFFSET after the first period start since the interval has passed. -/
def State.rotWindow (s : State) (since : Tick) : Bool :=
  let cfg := s.devReg32 0xA14
  if !(bitAt cfg 1) then true
  else
    let a : ActId := BitVec.ofNat 4 (field cfg 5 2)
    (s.acts.look a).running && due (s.periodAfter a (since - 1) + s.devReg 0xA18) s.coreEdge

/-- The next healthy unit in cyclic order, passing over those under test. -/
def State.nextUnit (s : State) : Option UnitId :=
  ((List.range 14).map fun i => (BitVec.ofNat 4 ((s.health.lastTested.toNat + 1 + i) % 14) : UnitId)).find? fun u =>
    !(bitAt s.health.failed u.toNat) && !(s.underTest 1 u) && !(s.health.handovers.any fun j => s.health.map.look j.sh == some u)

/-- A rotating test of a unit begins: in place, or after a handover (R579). -/
def State.rotate (s : State) (u : UnitId) : State :=
  let j : TestJob := { target := 1, unit := u, cmd := none, retest := false }
  let mark (s : State) : State := s.updHealth fun h => { h with lastTested := u, rotSince := s.now }
  match s.health.carried u with
  | none => mark (s.beginTest j)
  | some h =>
    match s.health.pick with
    | some (p, v) => mark (s.beginHandover h p v false (some j))
    | none => s

/-- ROTATING_TEST (R579): in service, and not below HUSH (R598). -/
def execRotatingTest (s : State) : Result :=
  let cfg := s.devReg32 0xA14
  let since := s.health.rotSince + BitVec.ofNat 64 (max 1 (field cfg 19 8) * 38400000000)
  let serving := s.devState == .houseOnly || s.devState == .staged
  if bitAt cfg 0 && serving && !s.belowHush && due since s.now && s.rotWindow since then
    match s.nextUnit with
    | some u => .next (s.rotate u)
    | none => .next s
  else .next s

/-! ### Degraded conditions (R586 to R588) -/

/-- A page's MISMATCH has stayed 1 for more than 1 s. -/
def State.mismatchPersists (s : State) : Bool :=
  ((s.dev.ctl.mismatchSince :: allTenants.map fun t => (s.tenants.look t).ctl.mismatchSince).filterMap id).any fun t =>
    future s.now (t + 38400000000)

/-- The present bits of CURTAIN_CAUSE (R586). -/
def State.conditions (s : State) : Byte :=
  let h := s.health
  let g := s.guard
  BitVec.ofNat 8 (flag (decide (h.usFree = 0) && !(h.tests.any fun j => j.target == 1)) + 2 * flag (decide (0 < h.lost)) +
    4 * flag (decide (384 ≤ g.spares0 + g.spares1)) + 8 * flag (g.marks.toList.any fun m => m.isSome) +
    16 * flag ((g.spareBank.isSome && g.bankHard) || (h.spareBankBad && g.bankHard)) +
    32 * flag (decide (h.mramSpareRows.toNat < 8)) + 64 * flag s.mismatchPersists +
    128 * flag (decide (900000 < h.lifeThermal.toNat)))

/-- The conditions are evaluated: each that begins is an event, a record and an entry of the fault log; CURTAIN_CALL_N follows (R587). -/
def State.evaluate (s : State) : State :=
  let new := s.conditions
  let fresh := (List.range 8).filter fun i => bitAt new i && !(bitAt s.health.present i)
  let s1 := s.updHealth fun h => { h with present := new, seen := h.seen ||| new, curtainCall := decide (new ≠ 0) }
  s1.forAll fresh fun i s =>
    let e : FaultEntry := { cause := BitVec.ofNat 8 (0x10 + i), stamp := s.now }
    let s2 : State := { s with boot := { s.boot with faultLog := s.boot.faultLog ++ [e] } }
    s2.healthEvent.note 7 0x72 none none (new.zeroExtend 32)

/-- HEALTH_EVALUATION (R586): from the end of CHECK on (R588). -/
def execHealthEvaluation (s : State) : Result :=
  if s.devState = .fill ∨ s.devState = .check then .next s else .next s.evaluate

/-! ### Temperature and lifetime (R590, R591, R910) -/

/-- A sample of the junction temperature (R910). -/
def State.sampleTj (s : State) (tj : BitVec 16) : State :=
  let h := s.health
  let high : BitVec 16 := (s.devReg 0xA20).extractLsb' 16 16
  let alarm := h.thermalArmed && decide (high.toInt ≤ tj.toInt)
  let armed := if alarm then false else h.thermalArmed || decide (tj.toInt ≤ high.toInt - 4)
  let s1 := s.updHealth fun h =>
    { h with
      tj := tj, tjValid := true, thermalArmed := armed, highSeen := h.highSeen || alarm
      lifeTjMax := if h.lifeTjMax.toInt < tj.toInt then tj else h.lifeTjMax }
  if alarm then s1.raiseHouse 13 else s1

/-- THERMAL_SAMPLE (R910): from the end of start-up step 2. -/
def execThermalSample (tj : BitVec 16) (s : State) : Result :=
  if s.boot.step.toNat < 3 then .next s else .next (s.sampleTj tj)

/-- 2^(i/20), for i from 0 to 19, in units of 2^-80, rounded down. -/
def twentieths : List Nat :=
  [1208925819614629174706176, 1251558496573213951274703, 1295694611637897269520972, 1341387183438990919349310,
   1388691100304766810083870, 1437663186196213140458842, 1488362268966974723443170, 1540849251030474908037185,
   1595187182519108173730728, 1651441337023386080101519, 1709679290002018430137083, 1769970999957119974177444,
   1832388892472054596080455, 1897007947212867674405773, 1963905787997817329906765, 2033162776043200832893773,
   2104862106497487977379357, 2179089908379723316756150, 2255935348042248543144843, 2335490736282029891871454]

/-- The thermal budget that one second at a temperature uses, in units of 2^-80 millionth: 2^((Tj - 100 °C) / 10 °C) / 946.08, with Tj in steps of 0.5 °C (R591). -/
def budgetOf (tj : BitVec 16) : Nat :=
  let e : Int := tj.toInt - 200
  let whole : Int := e / 20
  let m := nth twentieths (e - 20 * whole).toNat 0
  let x := if 0 ≤ whole then m * 2 ^ whole.toNat else m / 2 ^ (-whole).toNat
  x * 100 / 94608

/-- THERMAL_BUDGET_UPDATE (R591): once a valid sample exists. -/
def execThermalBudgetUpdate (s : State) : Result :=
  if s.health.tjValid then
    let sum := s.health.lifeThermalFrac + budgetOf s.health.tj
    .next (s.updHealth fun h => { h with lifeThermal := satAdd h.lifeThermal (sum / 2 ^ 80), lifeThermalFrac := sum % 2 ^ 80 })
  else .next s

/-- REFCLK periods of one hour. -/
def hourPeriods : Nat := 360000000000

/-- LIFE_WRITEBACK (R590): the hour that has passed is counted; the counters themselves are in the prompt book at every event. -/
def execLifeWriteback (s : State) : Result :=
  if s.health.hourSince + hourPeriods ≤ s.tb.refclkCount then
    .next (s.updHealth fun h => { h with lifePowerHours := satAdd h.lifePowerHours 1, hourSince := h.hourSince + hourPeriods })
  else .next s

end Sys2Proof.Machine
end

