-- ==== Sys2Proof/Machine/Care.lean ====
section
/-! DEFINITION. Care of the memories: scrubbing, retirement, chip marks, the persistent summary, MEM_LOG_READ and the upkeep of the DRAM (chapters 14 and 21, R864 to R868). -/

namespace Sys2Proof.Machine

/-! ### DRAM locations (R32, R557, R764) -/

/-- The DRAM offset of a channel address: the inverse of R32. -/
def State.offsetOf (s : State) (dc1 : Bool) (a : Nat) : Nat :=
  if s.interleaved then a / 4096 * 8192 + 4096 * flag dc1 + a % 4096 else a + (if dc1 then 2 ^ 35 else 0)

/-- First channel address of the spare pages of a channel. -/
def State.spareBase (s : State) (dc1 : Bool) : Nat := s.dramCapacity dc1 - 2 ^ 20

/-- The tagged line that a line of the memory itself holds: the retired page of a spare page in use; none for the old place of a retired page (R557, R560). -/
def State.lineAt (s : State) (dc1 : Bool) (a : Nat) : Option Nat :=
  if s.spareBase dc1 ≤ a then
    let k := (a - s.spareBase dc1) / 4096
    match s.guard.remaps.find? fun r => decide (r.2.toNat = k) && s.dramChannel r.1 == dc1 with
    | some r => some (r.1 + a % 4096)
    | none => some (s.offsetOf dc1 a)
  else
    let off := s.offsetOf dc1 a
    if s.guard.remaps.any fun r => r.1 == off / 4096 * 4096 then none else some off

/-- What a scrubber finds in a DRAM line: nothing on a poisoned one, a correction, or poison (R539, R543, R550). -/
def State.scrubLine (s : State) (line : Nat) (ecc : Ecc) (source : Nat) : State :=
  if s.poisoned line then s
  else match judgeLine (s.markOf line) ecc with
    | .good => s
    | .bad => s.foundBadLine kUncorrectable line source
    | r => s.logMem kCorrected (s.dramCode line) (dramAddr line) source r

/-! ### DRAM_SCRUB_READ (R548, R550, R912) -/

/-- A pass counts when each present channel has read every line (R912). -/
def State.countPass (s : State) : State :=
  let g := s.guard
  let lines (dc1 : Bool) : Nat := s.dramCapacity dc1 / 64
  if 0 < lines false + lines true ∧ lines false ≤ g.dramRead0 ∧ lines true ≤ g.dramRead1 then
    { s with guard := { g with dramRead0 := 0, dramRead1 := 0, dramPasses := g.dramPasses + 1 } }
  else s

/-- DRAM_SCRUB_READ (R548): the channel is present and the device not below HUSH (R598). -/
def execDramScrubRead (dc : Bool) (line : BitVec 30) (ecc : Ecc) (s : State) : Result :=
  let a := line.toNat * 64
  if s.belowHush ∨ s.dram.selfRefresh = true ∨ s.dramCapacity dc ≤ a then .next s
  else
    let s1 := match s.lineAt dc a with
      | some l => s.scrubLine l ecc srcScrub
      | none => s
    let g := s1.guard
    let s2 : State := { s1 with guard := { g with
      dramRead0 := if dc then g.dramRead0 else g.dramRead0 + 1, dramRead1 := if dc then g.dramRead1 + 1 else g.dramRead1 } }
    .next s2.countPass

/-! ### SRAM_SCRUB (R531, R532, R549 to R551) -/

/-- Words of Wing SRAM, of its spare bank and of the stream FIFO memory. -/
def wingWords : Nat := 1048576
def bankWords : Nat := 32768
def fifoWords : Nat := 131072

/-- The Wing SRAM offset that a word of the memory itself holds; none for a bank out of use (R559). -/
def State.wingAt (s : State) (word : Nat) : Option Nat :=
  match s.guard.spareBank with
  | none => if word < wingWords then some (8 * word) else none
  | some b =>
    if word < wingWords then (if word / bankWords = b.toNat then none else some (8 * word))
    else some (8 * (b.toNat * bankWords + (word - wingWords)))

/-- A stream FIFO byte becomes uncorrectable. -/
def State.markFifo (s : State) (off : Nat) : State :=
  s.forAll (allEps.filter fun e => bitAt (s.epCfg e) 0) fun e s =>
    let first := (s.eps.look e).index
    s.updEp e fun p => { p with fifo := p.fifo.mapIdx fun i b => if s.fifoOffset e (first + i) = off then { b with bad := true } else b }

/-- Stream FIFO bytes that are uncorrectable in a word. -/
def State.badInFifo (s : State) (word : Nat) : Bool :=
  allEps.any fun e =>
    let p := s.eps.look e
    bitAt (s.epCfg e) 0 && (((List.range p.fifo.length).zip p.fifo).any fun x => x.2.bad && decide (s.fifoOffset e (p.index + x.1) / 8 = word))

/-- The bank that holds a byte of Wing SRAM: 32 is the spare bank, in the place of the retired one (R559). -/
def MemGuard.bankOf (g : MemGuard) (byte : Nat) : Nat :=
  if g.spareBank.map (fun b => b.toNat) = some (byte / 262144) then 32 else byte / 262144

/-- A byte needed correction: once more in consecutive passes makes it a hard error of its bank (R551). The reads of SCRUB_NOW are no pass (DEDUCED, log entry 65). -/
def State.scrubFixed (s : State) (fifo : Bool) (byte : Nat) (r : CodeResult) (inPass : Bool) : State :=
  let s1 := s.logMem kCorrected (flag fifo) (BitVec.ofNat 64 byte) srcScrub r
  if !inPass then s1
  else
    let hard := s.guard.lastPass.contains (fifo, byte)
    let s2 := if hard then s1.logMem kHard (flag fifo) (BitVec.ofNat 64 byte) srcScrub r else s1
    let g := s2.guard
    { s2 with guard := { g with
      thisPass := (fifo, byte) :: g.thisPass, hardBanks := if hard && !fifo then g.hardBanks ||| (1 <<< g.bankOf byte) else g.hardBanks } }

/-- Bytes of a word are uncorrectable, and stay so until they are written (R532); the record names the first. -/
def State.scrubBad (s : State) (fifo : Bool) (byte : Nat) (all : List Nat) : State :=
  let s1 := (s.logMem kUncorrectable (flag fifo) (BitVec.ofNat 64 byte) srcScrub .bad).memUe
  if fifo then s1.forAll all fun b s => s.markFifo b
  else { s1 with guard := { s1.guard with wingBad := all ++ s1.guard.wingBad.filter fun b => !(all.contains b) } }

/-- The scrub of one word, by a pass or by SCRUB_NOW. -/
def State.scrubWord (s0 : State) (fifo : Bool) (base : Nat) (ecc : Ecc) (inPass : Bool) : State :=
  let s := if fifo then s0 else s0.takeStored (base / 8) ecc
  let e := eccAt ecc fifo (base / 8)
  let hit := base + eccLane e
  let old := if fifo then s.badInFifo (base / 8) else s.guard.wingBad.any fun b => decide (b / 8 = base / 8)
  if old then
    let byte := if fifo then base else ((s.guard.wingBad.find? fun b => decide (b / 8 = base / 8)).getD base)
    (s.logMem kUncorrectable (flag fifo) (BitVec.ofNat 64 byte) srcScrub .bad).memUe
  else match judgeByte e with
    | .good => s
    | .bad => s.scrubBad fifo hit ((eccLanes e).map fun i => base + i)
    | r => s.scrubFixed fifo hit r inPass

/-- A word of the pass has been read (R549). -/
def State.countWord (s : State) : State :=
  let g := s.guard
  if wingWords + bankWords + fifoWords ≤ g.sramRead + 1 then
    { s with guard := { g with sramRead := 0, sramPasses := g.sramPasses + 1, lastPass := g.thisPass, thisPass := [] } }
  else { s with guard := { g with sramRead := g.sramRead + 1 } }

/-- SRAM_SCRUB (R549): not below HUSH (R598). -/
def execSramScrub (fifo : Bool) (word : BitVec 21) (ecc : Ecc) (s : State) : Result :=
  let w := word.toNat
  if s.belowHush ∨ (if fifo then fifoWords else wingWords + bankWords) ≤ w then .next s
  else if fifo then .next (s.scrubWord true (8 * w) ecc true).countWord
  else match s.wingAt w with
    | some off => .next (s.scrubWord false off ecc true).countWord
    | none => .next s.countWord

/-! ### SCRUB_CONFIG and SCRUB_NOW (R548, R550, R552, R553, R867, R868) -/

/-- The packet of SCRUB_CONFIG (R867). -/
def specScrubConfig : CmdSpec :=
  { opcode := 0x53, used := [(2, 0x3FFF), (3, 0xFFFF)] }

/-- What SCRUB_CONFIG judges (R867). -/
def checksScrubConfig : Cmd → State → Checks :=
  fun c _ =>
      let period := c.f 2 13 0
      { who := .smHouse, served := .houseFirst, ranges := [(8, decide (period ≠ 0) && (decide (period < 60) || decide (10080 < period)))] }

/-- The effect of SCRUB_CONFIG once it has passed its checks (R867). -/
def runScrubConfig : Cmd → State → State :=
  fun c s =>
      let old := s.devReg 0xB20
      let period := c.f 2 13 0
      let limit := c.f 3 15 0
      let change (w : Word) : Word :=
        let w1 := if period = 0 then w else (w &&& ~~~(bits 13 0)) ||| BitVec.ofNat 64 period
        if limit = 0 then w1 else (w1 &&& ~~~(bits 31 16)) ||| BitVec.ofNat 64 (65536 * limit)
      let s1 := s.updStaged (.dev 0xB20) fun x => { act := change x.act, pend := change x.pend }
      ((s1.settleGroup 4).disturb .device).answer c { dw2 := BitVec.ofNat 32 (field old 13 0), dw3 := BitVec.ofNat 32 (field old 31 16) }

/-- SCRUB_CONFIG (R867). -/
def execScrubConfig (p : Packet) (s : State) : Result :=
  serve specScrubConfig checksScrubConfig runScrubConfig p s

/-- Every byte of a range is addressable (R28, R33, R868). -/
def State.rangeOk (s : State) (a : Addr) (len : Nat) : Bool :=
  decide (tagOf a < 2) && !(badTag a) && (s.checkRange a len).isNone

/-- The packet of SCRUB_NOW (R553, R868). -/
def specScrubNow : CmdSpec :=
  { opcode := 0x54, used := [(2, 0xFFFFFFFF), (3, 0xFFFFFFFF), (4, 0xFFFFFFFF), (5, 0xFFFFFFFF)] }

/-- What SCRUB_NOW judges (R553, R868). -/
def checksScrubNow : Cmd → State → Checks :=
  fun c s =>
      let a := c.q 2
      let len := (c.q 4).toNat
      { who := .smHouse, served := .houseFirst
        ranges := [(8, decide (1 < tagOf a) || decide (offOf a % 64 ≠ 0)), (16, decide (len = 0) || decide (len % 64 ≠ 0)),
          (8, !(s.rangeOk a len))]
        resource := refuseIf s.guard.scrubNow.isSome { status := 0x0D }
        long := true }

/-- The effect of SCRUB_NOW once it has passed its checks (R553, R868). -/
def runScrubNow : Cmd → State → State :=
  fun c s =>
      let j : ScrubJob := { first := c.q 2, len := (c.q 4).toNat, cmd := c.ref }
      { s.startLong c with guard := { s.guard with scrubNow := some j } }

/-- SCRUB_NOW (R553, R868). -/
def execScrubNow (p : Packet) (s : State) : Result :=
  serve specScrubNow checksScrubNow runScrubNow p s

/-- The long command of a reference and an opcode. -/
def State.longRef (s : State) (r : CmdRef) (opcode : Nat) : Option LongCmd :=
  s.long.find? fun l => decide (l.ref = r) && decide (field (packetDw l.dw 0) 7 0 = opcode)

/-- A finding of a range scrub. -/
def State.scrubFinding (s : State) (a : Addr) (ecc : Ecc) : State :=
  if tagOf a = 0 then s.scrubWord false (offOf a / 8 * 8) ecc false else s.scrubLine (offOf a / 64 * 64) ecc srcScrub

/-- Lines of a list of findings whose judgement satisfies a test. -/
def findingLines (l : List (Addr × Bool)) : Nat := ((l.filter fun x => x.2).map fun x => offOf x.1 / 64).eraseDups.length

/-- What a finding amounts to: corrected, or uncorrectable. -/
def State.findingResult (s : State) (a : Addr) (ecc : Ecc) : CodeResult :=
  if tagOf a = 0 then
    (if s.guard.wingBad.any fun b => decide (b / 8 = offOf a / 8) then .bad else judgeByte (eccAt ecc false (offOf a / 8)))
  else if s.poisoned (offOf a / 64 * 64) then .bad
  else judgeLine (s.markOf (offOf a / 64 * 64)) ecc

/-- Words of Wing SRAM in a range that hold bytes known to be uncorrectable and that no finding names: the scrubber finds them too (R532, R550). -/
def State.knownBad (s : State) (lo len : Nat) (own : List (Addr × Ecc)) : List (Addr × Ecc) :=
  let words := ((s.guard.wingBad.filter fun b => decide (lo ≤ b) && decide (b < lo + len)).map fun b => b / 8).eraseDups
  (words.filter fun w => !(own.any fun f => offOf f.1 / 8 == w)).map fun w => (BitVec.ofNat 64 (8 * w), .clean)

/-- SCRUB_NOW_DONE (R550, R553): the counts name lines, those with a poison entry among the uncorrectable ones. -/
def execScrubNowDone (found : List (Addr × Ecc)) (s : State) : Result :=
  match s.guard.scrubNow with
  | none => .next s
  | some j =>
    let lo := offOf j.first
    let named := found.filter fun f => tagOf f.1 == tagOf j.first && decide (lo ≤ offOf f.1) && decide (offOf f.1 < lo + j.len)
    let own := named ++ (if tagOf j.first = 0 then s.knownBad lo j.len named else [])
    let fixed := own.map fun f => (f.1, match s.findingResult f.1 f.2 with | .corrected _ _ => true | _ => false)
    let bad := own.map fun f => (f.1, s.findingResult f.1 f.2 == .bad)
    let poisoned := if tagOf j.first = 1 then
        ((s.guard.poison0 ++ s.guard.poison1).filter fun l => decide (lo ≤ l) && decide (l < lo + j.len)).map fun l => (dramAddr l, true)
      else []
    let s1 := own.foldl (fun s f => s.scrubFinding f.1 f.2) { s with guard := { s.guard with scrubNow := none } }
    match s.longRef j.cmd 0x54 with
    | some l =>
      .next (s1.finishLong l { dw2 := BitVec.ofNat 32 (findingLines fixed), dw3 := BitVec.ofNat 32 (findingLines (bad ++ poisoned)) } [])
    | none => .next s1

/-! ### RETIRE_PAGE (R557 to R561, R568, R573, R865) -/

/-- Spare pages used on a channel. -/
def State.sparesUsed (s : State) (dc1 : Bool) : Nat := if dc1 then s.guard.spares1 else s.guard.spares0

/-- The packet of RETIRE_PAGE (R557 to R561, R865). -/
def specRetirePage : CmdSpec :=
  { opcode := 0x51, used := [(2, 0xFFFFFFFF), (3, 0xFFFFFFFF)] }

/-- What RETIRE_PAGE judges (R557 to R561, R865). -/
def checksRetirePage : Cmd → State → Checks :=
  fun c s =>
      let a := c.q 2
      let dram := decide (tagOf a = 1)
      let size := if dram then 4096 else 262144
      let full := if dram then decide (256 ≤ s.sparesUsed (s.dramChannel (offOf a))) else s.guard.spareBank.isSome || s.health.spareBankBad
      { who := .smHouse, served := .houseFirst
        ranges := [(8, decide (1 < tagOf a) || decide (offOf a % size ≠ 0) || !(s.rangeOk a size))]
        resource := refuseIf s.guard.retiring.isSome { status := 0x0D } <|> refuseIf full { status := 0x0B }
        long := true }

/-- The effect of RETIRE_PAGE once it has passed its checks (R557 to R561, R865). -/
def runRetirePage : Cmd → State → State :=
  fun c s =>
      let a := c.q 2
      let spare := if tagOf a = 1 then s.sparesUsed (s.dramChannel (offOf a)) else 0
      let j : Retirement := { addr := a, spare := BitVec.ofNat 9 spare, cmd := c.ref }
      { s.startLong c with guard := { s.guard with retiring := some j } }

/-- RETIRE_PAGE (R557 to R561, R865). -/
def execRetirePage (p : Packet) (s : State) : Result :=
  serve specRetirePage checksRetirePage runRetirePage p s

/-- The mapping changes, and is in the prompt book (R558 to R561); the record of kind RETIRED follows. -/
def State.remap (s : State) (j : Retirement) : State :=
  let off := offOf j.addr
  let g := s.guard
  let s1 : State :=
    if tagOf j.addr = 1 then
      let dc1 := s.dramChannel off
      { s with guard := { g with
        remaps := (off, j.spare) :: g.remaps.filter fun r => r.1 != off
        spares0 := if dc1 then g.spares0 else g.spares0 + 1
        spares1 := if dc1 then g.spares1 + 1 else g.spares1 } }
    else
      let bank := off / 262144
      let stays (x : Bool × Nat) : Bool := x.1 || decide (x.2 / 262144 ≠ bank)
      { s with guard := { g with
        spareBank := some (BitVec.ofNat 5 bank), lastPass := g.lastPass.filter stays, thisPass := g.thisPass.filter stays } }
  s1.logMem kRetired (if tagOf j.addr = 1 then s.dramCode off else 0) j.addr srcPrompter .good

/-- A line that the copy of a retirement finds in error: corrected, or carried across as it is (R560). -/
def State.copyFinding (s : State) (a : Addr) (ecc : Ecc) : State :=
  if tagOf a = 0 then
    match s.load (BitVec.ofNat 64 (offOf a / 8 * 8)) 8 ecc srcPrompter true with
    | (s1, _) => s1
  else s.scrubLine (offOf a / 64 * 64) ecc srcPrompter

/-- RETIREMENT_SWITCH (R560, R561, R865). -/
def execRetirementSwitch (found : List (Addr × Ecc)) (s : State) : Result :=
  match s.guard.retiring with
  | none => .next s
  | some j =>
    let s0 : State := { s with guard := { s.guard with retiring := none } }
    match s.longRef j.cmd 0x51 with
    | none => .next s0
    | some l =>
      let size := if tagOf j.addr = 1 then 4096 else 262144
      let own := found.filter fun f => tagOf f.1 == tagOf j.addr && decide (offOf j.addr ≤ offOf f.1) && decide (offOf f.1 < offOf j.addr + size)
      let s1 := (own.foldl (fun s f => s.copyFinding f.1 f.2) s0).remap j
      .next (s1.finishLong l { dw2 := j.spare.zeroExtend 32, dw3 := BitVec.ofNat 32 (s1.guard.spares0 + s1.guard.spares1) } [])

/-! ### MARK_CHIP (R536 to R538, R866) -/

/-- MARKED of MEM_STATUS. -/
def MemGuard.marked (g : MemGuard) : Nat :=
  ((List.range 4).map fun i => flag (g.marks.look (BitVec.ofNat 2 i)).isSome * 2 ^ i).sum

/-- The rank of MARK_CHIP is present by MEM_GEOM. -/
def State.rankPresent (s : State) (dc1 rank1 : Bool) : Bool :=
  let g := s.devReg32 (if dc1 then 0x0B14 else 0x0B10)
  bitAt g 0 && (!rank1 || bitAt g 1)

/-- Offset of the first line of a rank: the address of its CHIP_MARKED record (log entry 22). -/
def State.rankBase (s : State) (dc1 rank1 : Bool) : Nat := s.offsetOf dc1 (if rank1 then 2 ^ 34 else 0)

/-- The packet of MARK_CHIP (R536 to R538, R866). -/
def specMarkChip : CmdSpec :=
  { opcode := 0x52, used := [(2, 0x101F3)] }

/-- What MARK_CHIP judges (R536 to R538, R866). -/
def checksMarkChip : Cmd → State → Checks :=
  fun c s =>
      let clear := bitAt (c.dw 2) 16
      let pos := c.f 2 8 4
      let i : BitVec 2 := BitVec.ofNat 2 (2 * c.f 2 0 0 + c.f 2 1 1)
      let other := match s.guard.marks.look i with | some q => q.toNat != pos | none => false
      { who := if clear then .house else .smHouse, served := .houseFirst
        ranges := [(8, decide (17 < pos) || (clear && decide (pos ≠ 0)) || !(s.rankPresent (bitAt (c.dw 2) 0) (bitAt (c.dw 2) 1)))]
        state := refuseIf (clear && s.devState != .houseOnly) (wrongState 0 s.devState.code 0)
        resource := refuseIf (!clear && other) { status := 0x0B } }

/-- The effect of MARK_CHIP once it has passed its checks (R536 to R538, R866). -/
def runMarkChip : Cmd → State → State :=
  fun c s =>
      let i : BitVec 2 := BitVec.ofNat 2 (2 * c.f 2 0 0 + c.f 2 1 1)
      let pos : BitVec 5 := BitVec.ofNat 5 (c.f 2 8 4)
      let base := s.rankBase (bitAt (c.dw 2) 0) (bitAt (c.dw 2) 1)
      let put (s : State) (m : Option (BitVec 5)) : State := { s with guard := { s.guard with marks := s.guard.marks.put i m } }
      let s1 :=
        if bitAt (c.dw 2) 16 then put s none
        else if s.guard.marks.look i = some pos then s
        else (put s (some pos)).logMem kChipMarked (s.dramCode base) (dramAddr base) srcPrompter (.corrected pos 0)
      s1.answer c { dw2 := BitVec.ofNat 32 s1.guard.marked }

/-- MARK_CHIP (R536 to R538, R866). -/
def execMarkChip (p : Packet) (s : State) : Result :=
  serve specMarkChip checksMarkChip runMarkChip p s

/-! ### The persistent summary (R552, R555, R556) -/

/-- PAGE of a record's event: the page, the bank, or the one of the stream FIFO memory. -/
def LogRecord.page (r : LogRecord) : Addr :=
  if r.memory = 1 then 0xF000000000000000
  else if r.memory = 0 then BitVec.ofNat 64 (offOf r.address / 262144 * 262144)
  else BitVec.ofNat 64 (2 ^ 60 + offOf r.address / 4096 * 4096)

/-- A page still holds a poisoned line. -/
def State.pagePoisoned (s : State) (page : Addr) : Bool :=
  decide (tagOf page = 1) && (s.guard.poison0 ++ s.guard.poison1).any fun l => l / 4096 == offOf page / 4096

/-- A page record with one more event. -/
def PageRecord.add (q : PageRecord) (r : LogRecord) (poisoned : Bool) (spare : BitVec 9) (boot : Dword) : PageRecord :=
  let k := r.kind.toNat
  { q with
    ce := if k = kCorrected then satAdd q.ce 1 else q.ce
    ue := if k = kUncorrectable ∨ k = kPoisonHit ∨ k = kMergeRefused then satAdd q.ue 1 else q.ue
    last := r.stamp
    positions := if r.posValid then q.positions ||| (1 <<< r.position.toNat) else q.positions
    retired := q.retired || decide (k = kRetired)
    poisoned := poisoned
    hard := q.hard || decide (k = kHard)
    spare := if k = kRetired then spare else q.spare
    boot := boot }

/-- Index of the record that a new page replaces: the oldest LAST among those without UE_COUNT and RETIRED (R556). -/
def replaceable (l : List PageRecord) : Option Nat :=
  (((List.range l.length).zip l).foldl (fun (best : Option (Nat × Tick)) (x : Nat × PageRecord) =>
    if x.2.ue = 0 ∧ x.2.retired = false then
      match best with
      | none => some (x.1, x.2.last)
      | some b => if future b.2 x.2.last then some (x.1, x.2.last) else best
    else best) none).map fun b => b.1

/-- One event enters its page record; a page that reaches CE_LIMIT is an event, once (R552, R556). -/
def State.summarise (s : State) (r : LogRecord) : State :=
  let page := r.page
  let limit := field (s.devReg 0xB20) 31 16
  let spare : BitVec 9 :=
    match s.guard.remaps.find? fun x => decide (tagOf page = 1) && x.1 == offOf page with | some x => x.2 | none => 0
  let add (q : PageRecord) : PageRecord := q.add r (s.pagePoisoned page) spare s.health.lifeBoots
  let put (q : PageRecord) (store : PageRecord → List PageRecord) : State :=
    let reached := decide (limit ≤ q.ce.toNat) && !q.told
    let s1 : State := { s with guard := { s.guard with summary := store { q with told := q.told || reached } } }
    if reached then (s1.raiseSm 20).raiseHouse 4 else s1
  let new : PageRecord := add { page := page, first := r.stamp }
  let l := s.guard.summary
  if r.kind.toNat = kChipMarked then s
  else match findIdx (fun (q : PageRecord) => q.page == page) l with
    | some (i, q) => put (add q) fun q => l.set i q
    | none =>
      if l.length < 4096 then put new fun q => l ++ [q]
      else match replaceable l with
        | some i => put new fun q => l.set i q
        | none => { s with guard := { s.guard with summaryFull := true } }

/-- SUMMARY_WRITE (R555): the events not yet written go into their records. -/
def execSummaryWrite (s : State) : Result :=
  let s1 : State := { s with guard := { s.guard with unsummarised := [] } }
  .next (s.guard.unsummarised.foldl (fun s r => s.summarise r) s1)

/-! ### MEM_LOG_READ (R554, R555, R864) -/

/-- A record of the volatile ring as its 32 bytes. -/
def LogRecord.bytes (r : LogRecord) : List Byte :=
  dwordBytes [lo32 r.stamp, hi32 r.stamp, lo32 r.address, hi32 r.address,
    BitVec.ofNat 32 (r.kind.toNat + 16 * r.memory.toNat + 256 * r.source.toNat + 65536 * r.rank.toNat),
    BitVec.ofNat 32 (r.position.toNat + 32 * flag r.erasure + 64 * flag r.posValid + 65536 * r.symbols.toNat), r.seq, 0]

/-- A record of the summary as its 64 bytes. -/
def PageRecord.bytes (q : PageRecord) : List Byte :=
  dwordBytes [lo32 q.page, hi32 q.page, q.ce, q.ue, lo32 q.first, hi32 q.first, lo32 q.last, hi32 q.last, q.positions.zeroExtend 32,
    BitVec.ofNat 32 (flag q.retired + 2 * flag q.poisoned + 4 * flag q.hard), q.spare.zeroExtend 32, q.boot, 0, 0, 0, 0]

/-- What a log read returns: the first number, and the records from it on. -/
def MemGuard.readLog (g : MemGuard) (summary : Bool) (first count : Nat) : Nat × List (List Byte) :=
  if summary then (first, ((g.summary.drop first).take count).map PageRecord.bytes)
  else
    let from_ := g.log.dropWhile fun r => decide (r.seq.toNat < first)
    let start := match from_.head? with | some r => r.seq.toNat | none => first
    (start, (from_.take count).map LogRecord.bytes)

/-- A bulk read enters service with the result that it has sampled: DW2, DW3 and the bytes. -/
def State.startBulk (s : State) (c : Cmd) (first count : Nat) (bytes : List Byte) : State :=
  let s1 := s.startLong c
  { s1 with long := s1.long.map fun l =>
    if l.order = s.order then { l with body := leBytes 4 first ++ leBytes 4 count ++ bytes } else l }

/-- The packet of MEM_LOG_READ (R864). -/
def specMemLogRead : CmdSpec :=
  { opcode := 0x50, used := [(2, 0xFFFFFFFF), (3, 0xFFFFFFFF), (4, 1), (5, 0xFFFFFFFF), (6, 0x1FFF)] }

/-- What MEM_LOG_READ judges (R864). -/
def checksMemLogRead : Cmd → State → Checks :=
  fun c _ =>
      let summary := bitAt (c.dw 4) 0
      let count := c.f 6 12 0
      let most := if c.isHouse then (if summary then 56 else 112) else (if summary then 4096 else 1024)
      { who := .smHouse, served := .faultRead, long := true
        ranges := [(8, c.badResultAddr), (20, summary && decide (4095 < (c.dw 5).toNat)), (24, decide (count = 0) || decide (most < count))] }

/-- The effect of MEM_LOG_READ once it has passed its checks (R864). -/
def runMemLogRead : Cmd → State → State :=
  fun c s =>
      let r := s.guard.readLog (bitAt (c.dw 4) 0) (c.dw 5).toNat (c.f 6 12 0)
      s.startBulk c r.1 r.2.length r.2.flatten

/-- MEM_LOG_READ (R864): its result is sampled when service begins, and written by LONG_COMMAND_FINISH. -/
def execMemLogRead (p : Packet) (s : State) : Result :=
  serve specMemLogRead checksMemLogRead runMemLogRead p s

/-! ### Upkeep of the DRAM (R760, R761, R767) -/

/-- REFRESH (R760): at most eight are postponed, and all are caught up when one is issued. -/
def execRefresh (rank : BitVec 2) (postpone : Bool) (s : State) : Result :=
  let n := s.dram.postponed.look rank
  if s.dram.selfRefresh ∨ s.rankPresent (bitAt rank 1) (bitAt rank 0) = false then .next s
  else if postpone && decide (n < 8) then .next { s with dram := { s.dram with postponed := s.dram.postponed.put rank (n + 1) } }
  else .next { s with dram := { s.dram with postponed := s.dram.postponed.put rank 0 } }

/-- DRAM_TEMPERATURE_POLL (R761): a rank above the threshold is an event once per rise. -/
def execDramTemperaturePoll (hot : BitVec 4) (s : State) : Result :=
  if s.dram.selfRefresh then .next s
  else
    let present : BitVec 4 := BitVec.ofNat 4
      (flag (s.rankPresent false false) + 2 * flag (s.rankPresent false true) + 4 * flag (s.rankPresent true false) + 8 * flag (s.rankPresent true true))
    let new := hot &&& present
    let s1 : State := { s with dram := { s.dram with hot := new } }
    .next (if new &&& ~~~s.dram.hot = 0 then s1 else (s1.raiseSm 21).raiseHouse 5)

end Sys2Proof.Machine
end

