-- ==== Sys2Proof/Machine/HostIo.lean ====
section
/-! DEFINITION. What reaches a host port beside memory and registers: configuration requests, the MSI-X structures, completions of the device's own reads, and the resets and the training of its link (R619, R627, R650, R651, R659 to R668, R968). -/

namespace Sys2Proof.Machine

/-! ### MSI-X (R288, R659, R660) -/

/-- Every pending message of a port whose conditions now hold is sent, and its pending bit clears (R288, R660). -/
def State.sendPending (s : State) (p : HostPort) : State :=
  s.forAll (indices 8 256) fun i s =>
    let q := s.port p
    if bitAt q.pba i.toNat && q.usable && q.msixOn && !(q.msix.look i).masked then
      (s.updPort p fun q => { q with pba := q.pba &&& ~~~((1 : BitVec 256) <<< i.toNat) }).sendEntry p i
    else s

/-- A dword of the MSI-X table or of the PBA; none at a place that is neither (R659). -/
def Port.bar3Dword (q : Port) (off : Nat) : Option Dword :=
  if off < 0x1000 then
    let e := q.msix.look (BitVec.ofNat 8 (off / 16))
    some (match off % 16 / 4 with
      | 0 => lo32 e.addr
      | 1 => hi32 e.addr
      | 2 => e.data
      | _ => BitVec.ofNat 32 (flag e.masked))
  else if 0x8000 ≤ off ∧ off < 0x8020 then some (BitVec.ofNat 32 (field q.pba ((off - 0x8000) * 8 + 31) ((off - 0x8000) * 8)))
  else none

/-- A dword of the MSI-X table written; the PBA is read-only (R659). -/
def Port.setBar3 (q : Port) (off : Nat) (x : Dword) : Port :=
  if off < 0x1000 then
    { q with msix := q.msix.upd (BitVec.ofNat 8 (off / 16)) fun e =>
      match off % 16 / 4 with
      | 0 => { e with addr := join64 x (hi32 e.addr) }
      | 1 => { e with addr := join64 (lo32 e.addr) x }
      | 2 => { e with data := x }
      | _ => { e with masked := bitAt x 0 } }
  else q

/-- A page of the part responds (R180, R194, R627). -/
def State.somePage (s : State) : Bool := s.prot.designated || (indices 4 16).any fun t => (s.record t).enabled

/-- BAR3_ACCESS (R131, R151, R627, R659, R666). -/
def execBar3Access (port : HostPort) (write : Bool) (off : BitVec 16) (size : Nat) (data : Word) (s : State) : Result :=
  let a : BitVec 60 := off.zeroExtend 60
  if !(s.port port).linkUp then .next s
  else
    let s1 := s.wakeBy 0
    let q := s1.port port
    let here := ((size = 4 && off.toNat % 4 = 0) || (size = 8 && off.toNat % 8 = 0)) && (q.bar3Dword off.toNat).isSome
    if s1.barsShut then .next (s1.barRefused port 3 a write size true)
    else if !(here && s1.somePage) then .next (s1.barRefused port 3 a write size (s1.strict (viaOf port)))
    else if write then
      .next ((s1.updPort port fun q =>
        if size = 8 then (q.setBar3 off.toNat (lo32 data)).setBar3 (off.toNat + 4) (hi32 data) else q.setBar3 off.toNat (lo32 data)).sendPending port)
    else
      let lo := (q.bar3Dword off.toNat).getD 0
      let hi := (q.bar3Dword (off.toNat + 4)).getD 0
      .next (s1.emit (.barData port (dwordBytes (if size = 8 then [lo, hi] else [lo]))))

/-! ### Configuration space (R599, R627, R650, R651, R660) -/

/-- Bits of a configuration dword that a host writes (R650; log entry 9). -/
def cfgWritable : Nat → Dword
  | 0x001 => 0x00000546
  | 0x003 => 0x000000FF
  | 0x004 => 0xFFC00000
  | 0x005 => 0xFFFC0000
  | 0x006 => 0xFF800000
  | 0x007 => 0xFFFF0000
  | 0x008 => 0x80000000
  | 0x009 => 0xFFFFFFFF
  | 0x00F => 0x000000FF
  | 0x011 => 0x00000003
  | 0x022 => 0x000071EF
  | 0x024 => 0x000000CB
  | 0x02A => 0x0000000F
  | 0x02C => 0x0000000F
  | 0x030 => 0xC0000000
  | 0x042 => 0x0017F010
  | 0x043 => 0x0017F010
  | 0x045 => 0x000031C1
  | 0x062 => 0xE3FF000F
  | 0x063 => 0x000000FB
  | _ => 0

/-- Bits of a configuration dword that a host clears by writing 1. -/
def cfgClearable : Nat → Dword
  | 0x001 => 0xF9000000
  | 0x022 => 0x000F0000
  | 0x041 => 0x0017F010
  | 0x044 => 0x000031C1
  | _ => 0

/-- Bits of a configuration dword that no host writes (R648, R650, R660; places and the rest by the PCI Express Base Specification, log entry 9). -/
def State.cfgFixed (s : State) (p : HostPort) (reg : Nat) : Dword :=
  let q := s.port p
  match reg with
  | 0x000 => 0x96161D3A
  | 0x001 => 0x00100000
  | 0x002 => BitVec.ofNat 32 (0x08800000 + Config.siliconRev.toNat)
  | 0x006 => 0x8
  | 0x008 => 0xC
  | 0x00B => 0x00011D3A
  | 0x00D => 0x40
  | 0x010 => 0x00038001
  | 0x011 => 0x8
  | 0x020 => 0x0002C010
  | 0x021 => 0x00008022
  | 0x023 => lo32 (fields [(3, 0), (4, 4), (3, 10), (3, 12), (4, 15), (1, 22)])
  | 0x024 => lo32 (fields [(q.speed.toNat, 16), (q.width.toNat, 20)])
  | 0x029 => 0x3
  | 0x02B => 0xE
  | 0x030 => 0x00FF0011
  | 0x031 => 0x3
  | 0x032 => 0x8003
  | 0x040 => 0x14020001
  | 0x050 => 0x16010003
  | 0x051 => lo32 Config.serial
  | 0x052 => hi32 Config.serial
  | 0x058 => 0x18010019
  | 0x060 => 0x0001001E
  | 0x061 => 0x1F
  | _ => 0

/-- A configuration dword as a host reads it. -/
def State.cfgDword (s : State) (p : HostPort) (reg : Nat) : Dword :=
  s.cfgFixed p reg ||| ((s.port p).cfg.look (BitVec.ofNat 10 reg) &&& (cfgWritable reg ||| cfgClearable reg))

/-- The dword as a write leaves it: a power state other than D0 and D3hot is not taken. -/
def cfgWritten (reg : Nat) (old data mask : Dword) : Dword :=
  let w := cfgWritable reg &&& mask
  let x := ((old &&& ~~~w) ||| (data &&& w)) &&& ~~~(cfgClearable reg &&& mask &&& data)
  if reg = 0x011 ∧ field x 1 0 ≠ 0 ∧ field x 1 0 ≠ 3 then old else x

/-- Bits of the bytes of a dword that are enabled. -/
def enableMask (e : BitVec 4) : Dword :=
  BitVec.ofNat 32 (255 * flag (bitAt e 0) + 65280 * flag (bitAt e 1) + 16711680 * flag (bitAt e 2) + 4278190080 * flag (bitAt e 3))

/-- A host writes a configuration dword; AER's header log is free again once its status is clear. -/
def Port.cfgWrite (q : Port) (reg : BitVec 10) (data mask : Dword) : Port :=
  let t : Tbl 10 Dword := q.cfg.upd reg fun d => cfgWritten reg.toNat d data mask
  { q with cfg := t, aerHeader := if t.look cfgAerUncor = 0 then none else q.aerHeader }

/-- A dword of the header log: what the header held beside the address is not known (log entry 9). -/
def State.readCfg (s : State) (p : HostPort) (reg : Nat) : State × Dword :=
  if 0x047 ≤ reg ∧ reg ≤ 0x04A ∧ (s.port p).aerHeader.isSome then (s.bump, lo32 (Config.freeWord s.fresh)) else (s, s.cfgDword p reg)

/-- CONFIGURATION_REQUEST (R599, R605, R627, R650): served in every device state; a write gives the function its bus, device and function number (R34); a host that reaches a port below LIT wakes the part. -/
def execConfigurationRequest (a : CfgRequest) (s : State) : Result :=
  if !(s.port a.port).linkUp then .next s
  else
    let s1 := s.wakeBy 0
    if a.write then
      .next ((s1.updPort a.port fun q => { q with requester := a.dest }.cfgWrite a.reg a.data (enableMask a.enables)).sendPending a.port)
    else
      match s1.readCfg a.port a.reg.toNat with
      | (s2, d) => .next (s2.emit (.barData a.port (leBytes 4 d.toNat)))

/-! ### Completions of the device's own reads (R471, R472, R651, R663, R664) -/

/-- What a request of a channel on a port has brought: its tag names the read. -/
def State.gotRead (s : State) (p : HostPort) (r : PortRead) (e : Ended) (bs : List Byte) : State :=
  let fill (n : Chan) : Chan :=
    match findIdx (fun (x : ReadReq) => hostOf x.addr == some p && x.tag == some r.tag && x.got.isNone) n.reads with
    | some (i, _) => { n with reads := n.reads.modify i fun x => { x with got := some (e, bs) } }
    | none => n
  (s.updPort p fun q => { q with reads := q.reads.filter fun x => x.tag != r.tag }).updChan r.chan fill

/-- A read of a port has failed, and its channel acts on it when it is the channel's oldest (R471). -/
def State.portReadFails (s : State) (p : HostPort) (r : PortRead) (e : Ended) : State := (s.gotRead p r e []).failOldest r.chan

/-- The outstanding request of a port with a tag. -/
def Port.request (q : Port) (tag : Byte) : Option PortRead := q.reads.find? fun r => r.tag == tag

/-- A bit of the Status register of a port, which no AER message goes with (R664). -/
def State.cfgStatus (s : State) (p : HostPort) (bit : Nat) : State :=
  s.updPort p fun q => { q with cfg := q.cfg.upd cfgCommand fun d => d ||| (1 <<< bit) }

/-- Data of a completion: the last of it makes the read complete; more than was asked for is a malformed TLP (R664). -/
def State.cplData (s : State) (p : HostPort) (r : PortRead) (bytes : List Byte) : State :=
  let all := r.got ++ bytes
  if r.len < all.length then s.aerReport p aerMalformed none
  else if all.length = r.len then s.gotRead p r .good all
  else s.updPort p fun q => { q with reads := q.reads.map fun x => if x.tag == r.tag then { x with got := all } else x }

/-- RECEIVED_COMPLETION (R471, R663, R664). -/
def execReceivedCompletion (port : HostPort) (tag : BitVec 8) (status : CplStatus) (bytes : List Byte) (s : State) : Result :=
  let q := s.port port
  if !q.linkUp then .next s
  else
    match q.request tag with
    | none => .next (s.aerAdvise port aerUnexpected)
    | some r =>
      match status with
      | .success => .next (s.cplData port r bytes)
      | .unsupported => .next (((s.cfgStatus port 29).portReadFails port r (.failed .unsupported)).go [r.chan])
      | .completerAbort => .next (((s.cfgStatus port 28).portReadFails port r (.failed .abort)).go [r.chan])
      | .poisoned => .next (((s.aerAdvise port aerPoisoned).portReadFails port r .poisoned).go [r.chan])

/-- The Completion Timeout of a port, in REFCLK periods of 10 ns (R651). -/
def Port.cplTimeout (q : Port) : Nat :=
  match field (q.cfg.look cfgDevCtl2) 3 0 with
  | 2 => 100000
  | 5 => 1600000
  | 6 => 6500000
  | _ => 5000

/-- COMPLETION_TIMEOUT (R471, R651, R664): the time has passed since the request was sent, and no completion has ended it. -/
def execCompletionTimeout (port : HostPort) (tag : BitVec 8) (s : State) : Result :=
  let q := s.port port
  match q.request tag with
  | none => .next s
  | some r =>
    if s.tb.refclkCount < r.sent + q.cplTimeout then .next s
    else .next (((s.aerAdvise port aerTimeout).portReadFails port r (.failed .timeout)).go [r.chan])

/-! ### Resets and training of a port (R619, R627, R649, R667, R968) -/

/-- The PCI Express logic and the configuration space of a port after its reset; writes that the port took before are still performed (R619, R968). -/
def Port.afterReset (q : Port) (perst : Bool) : Port := { perst := perst, sris := q.sris, posted := q.posted }

/-- Fetches and arrival read-backs out on a port that is reset end as bus errors with CAUSE 4 (R667). -/
def State.loseFetches (s : State) (p : HostPort) (c : ChanId) : State :=
  let n := s.chan c
  let s1 := match n.fetch with
    | some (a, _) => if hostOf a = some p ∧ n.retryWaits rFetch a = false then s.busFail c rFetch a n.unitBytes .linkDown else s
    | none => s
  let proofs := n.proving.filter fun q => n.proofOn && hostOf q.2 == some p && !(n.retryWaits rProof q.2)
  s1.forAll proofs fun q s => s.proofBad c q.1 q.2 (some .linkDown) 0

/-- A port is reset, and its outstanding requests end as bus errors with CAUSE 4 (R619, R667, R968). -/
def State.resetPort (s : State) (p : HostPort) (perst : Bool) : State :=
  let lost := (s.port p).reads
  let s1 := s.forAll lost fun r s => s.gotRead p r (.failed .linkDown) []
  let s2 := s1.updPort p fun q => q.afterReset perst
  ((s2.forAll (lost.map fun r => r.chan) fun c s => s.failOldest c).forAll allChans fun c s => s.loseFetches p c).go allChans

/-- PERST_N (R619, R667, R968): its assertion resets the port; after its release the link trains (HOST_LINK_UP). -/
def execPerstN (port : HostPort) (low : Bool) (s : State) : Result :=
  if low then .next (s.resetPort port true) else .next (s.updPort port fun q => { q with perst := false })

/-- HOT_RESET (R667): received over a link that is up. -/
def execHotReset (port : HostPort) (s : State) : Result :=
  if (s.port port).linkUp then .next (s.resetPort port (s.port port).perst) else .next s

/-- PCIE_LINK_DOWN (R667). -/
def execPcieLinkDown (port : HostPort) (s : State) : Result :=
  if (s.port port).linkUp then .next (s.resetPort port (s.port port).perst) else .next s

/-- HOST_LINK_UP (R627, R648, R649): the link is up at a speed and a width of R648; SRIS is as the training finds it, and messages that wait are sent (R660). -/
def execHostLinkUp (port : HostPort) (speed : BitVec 2) (width : BitVec 3) (s : State) : Result :=
  if speed = 0 ∨ (width ≠ 1 ∧ width ≠ 2 ∧ width ≠ 4) then .fault .malformedEvent
  else if (s.port port).perst then .next s
  else
    let sris := bitAt (s.devReg (match port with | .hp0 => 0x80 | .hp1 => 0x88)) 1
    .next ((s.updPort port fun q => { q with linkUp := true, speed := speed.zeroExtend 3, width := width, sris := sris }).sendPending port)

end Sys2Proof.Machine
end

