-- ==== Sys2Proof/Machine/HouseIo.lean ====
section
/-! DEFINITION. The frames of the House port: READ, WRITE, STATUS, MBOX_PUSH and MBOX_POP (R235 to R237, R670 to R684). -/

namespace Sys2Proof.Machine

/-- The state with the House port changed. -/
def State.updHouse (s : State) (f : House → House) : State := { s with house := f s.house }

/-- A malformed frame (R683). -/
def State.frameErr (s : State) : State := s.updHouse fun h => { h with frameErr := true }

/-- A malformed address: FRAME_ERR and ACCESS_ERR (R683). -/
def State.addrErr (s : State) : State := s.updHouse fun h => { h with frameErr := true, accessErr := true }

/-- A frame of the House: the port operates from the end of start-up step 2, the chip select is a wake event, and the mode is that of HOUSE_CFG as the frame begins (R40, R628, R670 to R672). -/
def State.houseFrame (s : State) (run : State → State) : Result :=
  if s.boot.step.toNat < 3 then .next s
  else
    let quad := bitAt (s.devReg 0x78) 32
    .next (run ((s.wakeBy 1).updHouse fun h => { h with quad := quad }))

/-- A frame whose address is zero unless it is malformed (R683). -/
def State.zeroAddr (s : State) (addr : Option Dword) (run : State → State) : State :=
  match addr with
  | none => s.frameErr
  | some a => if a = 0 then run s else s.addrErr

/-- A frame at a device-page offset: below 0x4_0000 and a multiple of 4 (R683). -/
def State.pageAddr (s : State) (addr : Option Dword) (run : Nat → State → State) : State :=
  match addr with
  | none => s.frameErr
  | some a => if 0x40000 ≤ a.toNat ∨ a.toNat % 4 ≠ 0 then s.addrErr else run a.toNat s

/-- The device sends bytes on the House port. -/
def State.sendSpi (s : State) (bs : List Byte) : State := if bs.isEmpty then s else s.emit (.spi s.house.quad bs)

/-! ### WRITE and the write buffer (R677, R678) -/

/-- One held word is performed as a register access (R677). -/
def State.performWord (s : State) : State :=
  match s.house.writes with
  | [] => s
  | w :: rest =>
    (s.updHouse fun h => { h with writes := rest }).requestWrite .house .device w.off fun s =>
      s.regWrite .house .device w.off w.eight w.data

/-- Every held word is performed, before an access of a later frame (R678). -/
def State.performAll (s : State) : State :=
  (List.range s.house.writes.length).foldl (fun s _ => s.performWord) s

/-- HOUSE_WORD_PERFORM (R678). -/
def execHouseWordPerform (s : State) : Result := .next s.performWord

/-- Bytes of WRITE data that the port holds. -/
def House.heldBytes (h : House) : Nat := (h.writes.map fun w => if w.eight then 8 else 4).sum

/-- The accesses of consecutive words: an aligned pair at a 64-bit register is one (R138, R677). -/
def State.pairWords (s : State) : Nat → List Dword → List HouseWord
  | a, x :: y :: rest =>
    let off : BitVec 18 := BitVec.ofNat 18 a
    let wide := decide (a % 8 = 0) && (match s.regAt .house .device off with | some (_, r) => r.wide | none => false)
    if wide then { off := off, data := join64 x y, eight := true } :: s.pairWords (a + 8) rest
    else { off := off, data := x.zeroExtend 64, eight := false } :: s.pairWords (a + 4) (y :: rest)
  | a, [x] => [{ off := BitVec.ofNat 18 a, data := x.zeroExtend 64, eight := false }]
  | _, [] => []

/-- WRITE (R677, R678, R683): the words that the frame may carry, the page holds and the buffer has room for are held. -/
def execWrite (addr : Option Dword) (bytes : List Byte) (s : State) : Result :=
  s.houseFrame fun s => s.pageAddr addr fun a s =>
    let n := bytes.length / 4
    let inPage := min n ((0x40000 - a) / 4)
    let held := min (min inPage 64) ((256 - s.house.heldBytes) / 4)
    let ws := s.pairWords a ((List.range held).map fun i => dwordAt bytes i)
    s.updHouse fun h =>
      { h with
        writes := h.writes ++ ws
        frameErr := h.frameErr || decide (bytes.length % 4 ≠ 0) || decide (held < n)
        accessErr := h.accessErr || decide (inPage < min n 64) }

/-! ### READ (R675, R676, R684) -/

/-- Natural width of the access at an address: 8 bytes for a 64-bit register at its low word, 4 otherwise (R675). -/
def State.readWidth (s : State) (a : Nat) : Nat :=
  match s.regAt .house .device (BitVec.ofNat 18 a) with
  | some (_, r) => if r.wide && decide (a % 8 = 0) then 8 else 4
  | none => 4

/-- One access of a READ whose token is sent: its data, free where the access is refused, with ACCESS_ERR (R152, R675). -/
def State.readAccess (s : State) (a : Nat) : State × List Byte :=
  let n := s.readWidth a
  let g := s.regRead .house .device (BitVec.ofNat 18 a) (decide (n = 8))
  if g.err then
    ((g.s.updHouse fun h => { h with accessErr := true }).bump, leBytes n (Config.freeWord g.s.fresh).toNat)
  else (g.s, leBytes n g.data.toNat)

/-- The accesses of a READ: `n` tokens, `last` data bytes after the last one, and perhaps one more access without its token, which has no effect (R675, R676, R683, R684). -/
def State.readAccesses (last : Nat) (more : Bool) : Nat → Nat → State → State × List Byte
  | 0, a, s => (if more && decide (0x40000 ≤ a) then s.addrErr else s, [])
  | n + 1, a, s =>
    if 0x40000 ≤ a then (s.addrErr, [])
    else
      let w := s.readWidth a
      match s.readAccess a with
      | (s1, bs) =>
        match s1.readAccesses last more n (a + w) with
        | (s2, rest) => (s2, (0x5A : Byte) :: (if n = 0 then bs.take last else bs) ++ rest)

/-- READ (R675, R676, R678, R683, R684). -/
def execRead (addr : Option Dword) (tokens : Nat) (last : Nat) (more : Bool) (s : State) : Result :=
  s.houseFrame fun s => s.pageAddr addr fun a s =>
    match s.performAll.readAccesses last more tokens a with
    | (s1, bs) => s1.sendSpi bs

/-! ### STATUS (R682) -/

/-- HOUSE_IRQ_STATUS has an enabled bit (R673). -/
def State.houseEvent (s : State) : Bool := lo32 (s.devReg 0x20) &&& hi32 (s.devReg 0x20) != 0

/-- Levels of the open-drain outputs, true for low: HIRQ_N (R237, R673), ALERT_N (R220, R908) and CURTAIN_CALL_N (R587). -/
def State.hirqLow (s : State) : Bool := !s.house.outbound.isEmpty || s.houseEvent
def State.alertLow (s : State) : Bool := s.devReg32 0x18 != 0 && bitAt (s.devReg 0x10) 0
def State.curtainCallLow (s : State) : Bool := s.health.curtainCall

/-- The STATUS byte. -/
def State.statusByte (s : State) : Byte :=
  let h := s.house
  BitVec.ofNat 8 (flag (!h.writes.isEmpty) + 2 * flag (!h.outbound.isEmpty) + 4 * flag s.houseEvent + 8 * flag h.mboxFull +
    16 * flag h.mboxEmpty + 32 * flag h.accessErr + 64 * flag h.frameErr)

/-- STATUS (R682, R683): the byte is delivered for a malformed address too, and its sticky bits clear when it was delivered whole. -/
def execStatus (addr : Option Dword) (full : Bool) (s : State) : Result :=
  s.houseFrame fun s =>
    match addr with
    | none => s.frameErr
    | some a =>
      let s1 := if a = 0 then s else s.addrErr
      let s2 := s1.sendSpi [s1.statusByte]
      if full then s2.updHouse fun h => { h with mboxFull := false, mboxEmpty := false, accessErr := false, frameErr := false }
      else s2

/-! ### The mailbox (R235, R236, R679, R680) -/

/-- Bytes of the body that a packet from the House implies (R679, R858, R876). -/
def impliedBody (dw : Vector Dword 16) : Nat :=
  let opcode := field (packetDw dw 0) 7 0
  if opcode = 0x40 then field (packetDw dw 4) 11 0
  else if opcode = 0x70 then field (packetDw dw 4) 16 0
  else 0

/-- MBOX_PUSH (R199, R235, R679): stamped as HCS_N rises. -/
def execMboxPush (addr : Option Dword) (bytes : List Byte) (s : State) : Result :=
  s.houseFrame fun s => s.zeroAddr addr fun s =>
    let dw : Vector Dword 16 := Vector.ofFn fun i => dwordAt bytes i.val
    if bytes.length < 64 ∨ bytes.length ≠ 64 + impliedBody dw then s.frameErr
    else if 4096 < s.house.used + bytes.length then s.updHouse fun h => { h with mboxFull := true }
    else
      let u : Untaken := { dw := dw, body := bytes.drop 64, stamp := s.now }
      s.updHouse fun h => { h with inbound := h.inbound ++ [u] }

/-- Bytes of an outbound record: the completion and its inline result, padded (R236, R680). -/
def recordBytes (r : Completion × List Byte) : List Byte := dwordBytes (r.1.dwords true) ++ pad16 r.2

/-- MBOX_POP (R236, R237, R680): the record goes once its last byte is clocked, and records that wait for space are placed. -/
def execMboxPop (addr : Option Dword) (bytes : Nat) (s : State) : Result :=
  s.houseFrame fun s => s.zeroAddr addr fun s =>
    match s.house.outbound with
    | [] => (s.sendSpi ((0x5A : Byte) :: (leBytes 2 0).take bytes)).updHouse fun h => { h with mboxEmpty := true }
    | r :: rest =>
      let rec_ := recordBytes r
      let sent := leBytes 2 rec_.length ++ rec_
      let s1 := s.sendSpi ((0x5A : Byte) :: sent.take bytes)
      if bytes < sent.length then s1
      else s1.updHouse fun h => House.settle (h.waiting.length + 1) { h with outbound := rest }

end Sys2Proof.Machine
end

