-- ==== Sys2Proof/Machine/Time.lean ====
section
/-! DEFINITION. The time base as commands and events steer it: TIME_SET, TIME_ADJUST, TIME_CAPTURE, PPS, strobe outputs, captures, and the clocks that fail and return (R47 to R90, R609, R873 to R875, R960). -/

namespace Sys2Proof.Machine

/-! ### A step of the time base (R62, R65, R87, R210) -/

/-- The state with the time base changed. -/
def State.updTb (s : State) (f : TimeBase → TimeBase) : State := { s with tb := f s.tb }

/-- A running slew ends, and its remainder is abandoned (R62, R67, R960). -/
def TimeBase.endSlew (t : TimeBase) : TimeBase := { t with slewRate := 0, slewNeg := false, slewLeft := 0 }

/-- A strobe output is not produced: STROBE_MISSED is set, and an absolute one is disarmed (R72 to R74). -/
def State.missStrobe (s : State) (n : BitVec 3) : State :=
  let off := 0x140 + 8 * n.toNat
  let w := s.devReg off
  let kept := if bitAt w 3 then w else w &&& ~~~(1 : Word)
  (s.setDevReg off (kept ||| (1 <<< 8))).note 9 0x93 none none (BitVec.ofNat 32 n.toNat)

/-- An armed strobe output whose absolute time is past at a time of the stepped time base (R65, R87). -/
def State.strobePast (s : State) (n : BitVec 3) (stepped : Tick) : Bool :=
  let w := s.devReg (0x140 + 8 * n.toNat)
  bitAt w 0 && !(bitAt w 3) && due (s.devReg (0x180 + 8 * n.toNat)) stepped

/-- An armed SYSREF pattern whose next pulse is now past is not produced (R65, R695). -/
def State.missSysref (s : State) (stepped : Tick) : State :=
  match s.conv.sysrefNext with
  | none => s
  | some t =>
    if bitAt (s.devReg 0x1850) 0 && due t stepped then
      let s1 := (s.setDevReg 0x1850 ((s.devReg 0x1850 &&& ~~~(1 : Word)) ||| (1 <<< 8))).note 9 0x93 none none 8
      { s1 with conv := { s1.conv with sysrefNext := none, sysrefLeft := none } }
    else s

/-- An armed timed update strobe whose time is now past is applied (R65). -/
def State.applyPast (s : State) (page : Page) (stepped : Tick) : State :=
  match (s.ctl page).armed with
  | some a => if due a.time stepped then (s.updCtl page fun c => { c with armed := none }).strobe page a.groups else s
  | none => s

/-- The ends of spans in progress that the part counts in its own cycles move with the step: pulses, pins, retries, unlock windows and running commands (log entry 23). -/
def PortView.shift (v : PortView) (d : Tick) : PortView := { v with openUntil := v.openUntil.map fun t => t + d }
def PageCtl.shift (k : PageCtl) (d : Tick) : PageCtl :=
  { k with hp0 := k.hp0.shift d, hp1 := k.hp1.shift d, house := k.house.shift d, mismatchSince := k.mismatchSince.map fun t => t + d }
def Pin.shift (q : Pin) (d : Tick) : Pin :=
  { q with parkEnd := q.parkEnd.map fun t => t + d, settleEnd := q.settleEnd.map fun t => t + d, pulseEnd := q.pulseEnd.map fun t => t + d }
def After.shift (a : After) (d : Tick) : After := 
  match a with | .reset t => .reset (t + d) | .resetWrites t dropped => .resetWrites (t + d) dropped | x => x
def Chan.shift (n : Chan) (d : Tick) : Chan :=
  { n with retries := n.retries.map fun r => { r with time := r.time + d }, after := n.after.map fun a => a.shift d }
def Tenant.shift (n : Tenant) (d : Tick) : Tenant :=
  { n with
    ctl := n.ctl.shift d
    sqs := n.sqs.map fun q => { q with retries := q.retries.map fun r => { r with time := r.time + d } }
    cqs := n.cqs.map fun q => { q with held := q.held.map fun x => { x with due := x.due + d } } }

/-- Every such span of the part moves. -/
def State.shiftSpans (s : State) (d : Tick) : State :=
  { s with
    tb := { s.tb with ppsOutFall := s.tb.ppsOutFall.map fun t => t + d, strobeFall := s.tb.strobeFall.map fun f => f.map fun t => t + d }
    dev := { s.dev with ctl := s.dev.ctl.shift d }
    tenants := s.tenants.map fun n => n.shift d
    chans := s.chans.map fun n => n.shift d
    pins := s.pins.map fun q => q.shift d
    conv := { s.conv with sysrefFall := s.conv.sysrefFall.map fun t => t + d }
    long := s.long.map fun l => { l with started := l.started + d }
    cplWrites := s.cplWrites.map fun w => { w with retryAt := w.retryAt.map fun t => t + d }
    lb := s.lb.map fun b => { b with since := b.since + d }
    lbTurn := s.lbTurn.map fun t => t + d
    health := { s.health with rotSince := s.health.rotSince + d, handovers := s.health.handovers.map fun h => { h with start := h.start + d } }
    power := { s.power with entered := s.power.entered + d, quietSince := s.power.quietSince.map fun t => t + d }
    boot := { s.boot with servingSince := s.boot.servingSince.map fun t => t + d } }

/-- The time base steps so that the present edge reads `value` and the edge that performs the step, `vernier` ticks later, reads the time that was set; all that a step brings about follows, judged at that time (R62, R65, R87, R210, R815). -/
def State.stepTime (s : State) (value vernier : Tick) : State :=
  let old := s.now
  let stepped := value + vernier
  let s1 := (s.shiftSpans (value - old)).updTb fun t =>
    { t.endSlew with time := value, refTime := value, timeValid := true, uncertain := true, atPps := none, strobeDue := Tbl.fill 3 none }
  let s2 := s1.note 9 0x90 none none (lo32 old)
  let s3 := s2.forAll ((indices 3 8).filter fun n => s2.strobePast n stepped) fun n s => s.missStrobe n
  let s4 := (s3.missSysref stepped).forAll allPages fun p s => s.applyPast p stepped
  s4.endProposal true

/-! ### TIME_SET (R61 to R65, R86, R873) -/

/-- The running acts as a mask (R63). -/
def State.actMask (s : State) : Dword := s.runningActs.foldl (fun m a => m ||| (1 <<< a.toNat)) 0

/-- WRONG_STATE while acts run: the lowest, with the mask (R63). -/
def State.actsRefuse (s : State) : Option Reply :=
  s.runningActs.head?.map fun a => { wrongState 3 1 a.toNat with dw3 := s.actMask }

/-- The waiting TIME_SET AT_PPS commands. -/
def State.timeSets (s : State) : List LongCmd := s.long.filter fun l => decide (field (packetDw l.dw 0) 7 0 = 0x68)

/-- A later TIME_SET ends the wait of an earlier one (R62, R873). -/
def State.endTimeSets (s : State) : State :=
  (s.forAll s.timeSets fun l s => s.finishLong l { status := 0x15, dw3 := 3 } []).updTb fun t => { t with atPps := none }

/-- REFCLK periods of the 2 s wait (R64). -/
def atPpsPeriods : Nat := 200000000

/-- The packet of TIME_SET (R62, R873). -/
def specTimeSet : CmdSpec :=
  { opcode := 0x68, used := [(2, 1), (4, 0xFFFFFFFF), (5, 0xFFFFFFFF)] }

/-- What TIME_SET judges (R62, R873). -/
def checksTimeSet : Cmd → State → Checks :=
  fun c s => { who := .smHouse, served := .houseFirst, state := s.actsRefuse, long := bitAt (c.dw 2) 0 }

/-- The effect of TIME_SET once it has passed its checks (R62, R873). -/
def runTimeSet : Cmd → State → State :=
  fun c s =>
      let s1 := s.endTimeSets
      if bitAt (c.dw 2) 0 then
        let wait : AtPps := { value := c.q 4, armedAt := s.now, deadline := s.tb.refclkCount + atPpsPeriods }
        (s1.startLong c).updTb fun t => { t with atPps := some wait }
      else (s1.stepTime (c.q 4) 0).answer c { dw2 := lo32 s.now, dw3 := hi32 s.now }

/-- TIME_SET (R62, R873). -/
def execTimeSet (p : Packet) (s : State) : Result :=
  serve specTimeSet checksTimeSet runTimeSet p s

/-! ### TIME_ADJUST (R66 to R68, R90, R874) -/

/-- The packet of TIME_ADJUST (R874). -/
def specTimeAdjust : CmdSpec :=
  { opcode := 0x69, used := [(2, 3), (3, 0xFFFFFFFF), (4, 0xFFFFFFFF), (5, 0xFFFFFFFF), (6, 0x7FFFFFFF)] }

/-- What TIME_ADJUST judges (R874). -/
def checksTimeAdjust : Cmd → State → Checks :=
  fun c s =>
      let setTrim := bitAt (c.dw 2) 0
      let slew := bitAt (c.dw 2) 1
      let trim := (if setTrim then c.dw 3 else s.tb.trim).toInt.natAbs
      let rate := if slew then (c.dw 6).toNat else if s.tb.slewing then s.tb.slewRate.toNat else 0
      { who := .smHouse, served := .houseFirst
        ranges := [(8, !setTrim && !slew), (12, !setTrim && c.dw 3 != 0), (16, !slew && c.q 4 != 0), (24, !slew && c.dw 6 != 0),
          (16, slew && decide (2 ^ 40 < (c.q 4).toInt.natAbs)), (24, slew && (decide (rate = 0) || decide (2 ^ 30 < rate))),
          (if setTrim then 12 else 24, decide (2 ^ 31 < trim + rate))] }

/-- The effect of TIME_ADJUST once it has passed its checks (R874). -/
def runTimeAdjust : Cmd → State → State :=
  fun c s =>
      let old := s.tb.trim
      let s1 := if bitAt (c.dw 2) 0 then s.updTb fun t => { t with trim := c.dw 3 } else s
      let s2 := if bitAt (c.dw 2) 1 then
          s1.updTb fun t => { t with slewRate := c.dw 6, slewNeg := decide ((c.q 4).toInt < 0), slewLeft := (c.q 4).toInt.natAbs * 2 ^ 40 }
        else s1
      (s2.note 9 0x91 none none s2.tb.trim).answer c { dw2 := old }

/-- TIME_ADJUST (R874). -/
def execTimeAdjust (p : Packet) (s : State) : Result :=
  serve specTimeAdjust checksTimeAdjust runTimeAdjust p s

/-- SLEW_END (R67). -/
def execSlewEnd (s : State) : Result :=
  if s.tb.slewRate ≠ 0 ∧ s.tb.slewLeft = 0 then .next (s.updTb fun t => t.endSlew) else .next s

/-! ### TIME_CAPTURE (R875) -/

/-- Stamp and sequence register of a source. -/
def State.captureOf (s : State) (source : Nat) : Tick × Dword :=
  if source < 8 then
    let c := s.tb.captures.look (BitVec.ofNat 3 source)
    (c.stamp, BitVec.ofNat 32 (c.seq.toNat + 2 ^ 31 * flag c.coarse))
  else if source = 8 then (s.tb.ppsInStamp, BitVec.ofNat 32 (s.tb.ppsInSeq.toNat + 2 ^ 24 * s.tb.ppsInIgnored.toNat))
  else if source = 9 then (s.conv.devclkStamp, s.conv.devclkSeq)
  else (s.conv.sysrefStamp, s.conv.sysrefSeq)

/-- The packet of TIME_CAPTURE (R875). -/
def specTimeCapture : CmdSpec :=
  { opcode := 0x6A, used := [(2, 0xFFFFFFFF), (3, 0xFFFFFFFF), (4, 0xF)] }

/-- What TIME_CAPTURE judges (R875). -/
def checksTimeCapture : Cmd → State → Checks :=
  fun c s =>
      let n := c.f 4 3 0
      { served := .houseFirst
        ranges := [(8, c.badResultAddr), (16, decide (10 < n))]
        denied := decide (n < 8) && !(c.allRights s || ((c.record s).enabled && bitAt (c.record s).pins n)) }

/-- The effect of TIME_CAPTURE once it has passed its checks (R875). -/
def runTimeCapture : Cmd → State → State :=
  fun c s =>
      let r := s.captureOf (c.f 4 3 0)
      let bytes := dwordBytes [lo32 r.1, hi32 r.1, r.2, 0]
      s.respond c bytes (firstWords bytes)

/-- TIME_CAPTURE (R875). -/
def execTimeCapture (p : Packet) (s : State) : Result :=
  serve specTimeCapture checksTimeCapture runTimeCapture p s

/-! ### PPS (R62 to R64, R69 to R71, R86) -/

/-- The stamp of an input edge: by the vernier, or the REFCLK edge that follows while fine time is invalid (R50, R76). -/
def State.edgeStamp (s : State) (vernier : BitVec 4) : Tick :=
  if s.tb.fineValid then s.now + vernier.zeroExtend 64 else s.refEdge

/-- A captured PPS_IN edge (R69). -/
def State.capturePps (s : State) (stamp : Tick) : State :=
  s.updTb fun t => { t with ppsInStamp := stamp, ppsInSeq := t.ppsInSeq + 1, ppsInSeen := true, lastPps := some t.refclkCount }

/-- The edge performs an armed step, or finds acts running (R62, R63, R873). -/
def State.ppsStep (s : State) (w : AtPps) (stamp : Tick) : State :=
  let done (s : State) (r : Reply) : State := s.forAll s.timeSets fun l s => s.finishLong l r []
  match s.actsRefuse with
  | some r => done (s.updTb fun t => { t with atPps := none }) r
  | none =>
    let s1 := (s.stepTime (w.value - (stamp - s.now)) (stamp - s.now)).updTb fun t => { t with ppsInStamp := w.value }
    done s1 { dw2 := lo32 stamp, dw3 := hi32 stamp }

/-- PPS_IN (R40, R64, R69, R86): an edge less than 1 ms after the one captured before is ignored and counted, and one after the 2 s of a waiting TIME_SET performs no step. -/
def execPpsIn (vernier : BitVec 4) (s0 : State) : Result :=
  let s := s0.wakeBy 4
  let soon := match s.tb.lastPps with | some k => decide (s.tb.refclkCount < k + 100000) | none => false
  if soon then .next (s.updTb fun t => { t with ppsInIgnored := satAdd t.ppsInIgnored 1 })
  else
    let stamp := s.edgeStamp vernier
    let s1 := s.capturePps stamp
    match s.tb.atPps with
    | some w => if future w.armedAt stamp || decide (w.deadline ≤ s.tb.refclkCount) then .next s1 else .next (s1.ppsStep w stamp)
    | none => .next s1

/-- AT_PPS_TIMEOUT (R64). -/
def execAtPpsTimeout (s : State) : Result :=
  match s.tb.atPps with
  | none => .next s
  | some w =>
    if s.tb.refclkCount < w.deadline then .next s
    else
      let s1 := s.updTb fun t => { t with atPps := none }
      .next (s1.forAll s.timeSets fun l s => s.finishLong l { status := 0x0E } [])

/-- Ticks of the time base in a second. -/
def secondTicks : Nat := 38400000000

/-- The newest PPS_OUT edge at or before now (R70). -/
def State.ppsDue (s : State) : Tick :=
  s.now - BitVec.ofNat 64 (((s.now.toNat : Int) - ((s.devReg 0x138).toNat : Int)) % secondTicks).toNat

/-- PPS_OUT (R70, R71): at the end of the CLK_TB cycle in which an edge falls due; a cycle is at most 17 ticks long (R49, R66). -/
def execPpsOut (s : State) : Result :=
  let t := s.ppsDue
  let w := s.devReg 0x130
  if 17 ≤ (s.now - t).toNat ∨ bitAt w 0 = false ∨ s.tb.fineValid = false ∨ s.tb.ppsOut = true then .next s
  else
    let fall := t + BitVec.ofNat 64 (16 * field w 35 4)
    .next ((s.updTb fun b => { b with ppsOut := true, ppsOutFall := some fall }).emit (.pulse .pps true t))

/-! ### Strobe outputs and captures (R72 to R76, R787) -/

/-- The strobe unit drives its pin. -/
def State.strobePin (s : State) (n : BitVec 3) : Bool :=
  let p : PinId := n.zeroExtend 6
  decide (s.pinFunc p = 7) && (s.pins.look p).parkEnd.isNone

/-- A strobe output takes a level; its pin shows the change. -/
def State.strobeTo (s : State) (n : BitVec 3) (level : Bool) (fall : Option Tick) (t : Tick) : State :=
  let was := s.tb.strobeLevel.look n
  let s1 := s.updTb fun b => { b with strobeLevel := b.strobeLevel.put n level, strobeFall := b.strobeFall.put n fall }
  if was != level && s.strobePin n then s1.emit (.pulse (.strobe n) level t) else s1

/-- A strobe event is produced (R72). -/
def State.produceStrobe (s : State) (n : BitVec 3) (t : Tick) : State :=
  let w := s.devReg (0x140 + 8 * n.toNat)
  match field w 2 1 with
  | 0 => s.strobeTo n true none t
  | 1 => s.strobeTo n false none t
  | 2 => s.strobeTo n (!(s.tb.strobeLevel.look n)) none t
  | _ => s.strobeTo n true (some (t + BitVec.ofNat 64 (max 38 (field w 47 16)))) t

/-- The due time of an armed strobe output. -/
def State.strobeTime (s : State) (n : BitVec 3) : Option Tick :=
  let w := s.devReg (0x140 + 8 * n.toNat)
  if !(bitAt w 0) then none else if bitAt w 3 then s.tb.strobeDue.look n else some (s.devReg (0x180 + 8 * n.toNat))

/-- STROBE_EVENT (R72 to R74, R88). -/
def execStrobeEvent (n : BitVec 3) (s : State) : Result :=
  match s.strobeTime n with
  | none => .next s
  | some t =>
    if future t s.now then .next s
    else
      let off := 0x140 + 8 * n.toNat
      let s1 := s.updTb fun b => { b with strobeDue := b.strobeDue.put n none }
      if !s.tb.fineValid then .next (s1.missStrobe n)
      else
        let w := s.devReg off
        let s2 := if bitAt w 3 then s1 else s1.setDevReg off (w &&& ~~~(1 : Word))
        .next (s2.produceStrobe n t)

/-- An edge qualifies for an edge code: 1 rise, 2 fall, 3 both. -/
def edgeQualifies (code : Nat) (rise : Bool) : Bool := if rise then code.testBit 0 else code.testBit 1

/-- An edge at the ball that an edge-sensitive input of a function sees (R780): the state with the edge taken, and whether it was one. -/
def State.seeEdge (s : State) (p : PinId) (func : Nat) (level : Bool) : State × Bool :=
  let s1 := s.ballMoves p level
  if s.pinFunc p ≠ func ∨ (s.pins.look p).live = false ∨ (s.pins.look p).seen = level then (s1, false)
  else (s1.updPin p fun q => { q with seen := level }, true)

/-- CAPTURE_EDGE (R75, R76, R787). -/
def execCaptureEdge (n : BitVec 3) (rise : Bool) (vernier : BitVec 4) (s : State) : Result :=
  let r := s.seeEdge (n.zeroExtend 6) 8 rise
  let ctrl := s.devReg32 (0x1C0 + 4 * n.toNat)
  if r.2 && bitAt ctrl 0 && edgeQualifies (field ctrl 2 1) rise then
    let stamp := s.edgeStamp vernier
    let coarse := !s.tb.fineValid
    .next (r.1.updTb fun t => { t with captures := t.captures.upd n fun c => { stamp := stamp, seq := c.seq + 1, coarse := coarse } })
  else .next r.1

/-- A pulse of a DONE pin ends; a queued one follows after a CLK_REG cycle low (R784). -/
def State.endDone (s : State) (p : PinId) (t : Tick) : State :=
  let q := s.pins.look p
  let s1 := s.emit (.pulse (.done p) false t)
  if q.queued = 0 then s1.updPin p fun q => { q with pulseEnd := none }
  else
    let again := t + BitVec.ofNat 64 clkReg
    (s1.updPin p fun q =>
      { q with queued := q.queued - 1, pulseEnd := some (again + BitVec.ofNat 64 (clkReg * (field (s.pinMux p) 11 8 + 1))) }).emit (.pulse (.done p) true again)

/-- PULSE_END (R70, R72, R695, R784). -/
def execPulseEnd (o : PulseOutput) (s : State) : Result :=
  let ended (t : Option Tick) : Option Tick := t.filter fun t => due t s.now
  match o with
  | .pps =>
    match ended s.tb.ppsOutFall with
    | some t => .next ((s.updTb fun b => { b with ppsOut := false, ppsOutFall := none }).emit (.pulse .pps false t))
    | none => .next s
  | .strobe n =>
    match ended (s.tb.strobeFall.look n) with
    | some t => .next (s.strobeTo n false none t)
    | none => .next s
  | .sysref =>
    match ended s.conv.sysrefFall with
    | some t =>
      let s1 : State := { s with conv := { s.conv with sysrefLevel := false, sysrefFall := none } }
      .next (s1.emit (.pulse .sysref false t))
    | none => .next s
  | .done p =>
    match ended (s.pins.look p).pulseEnd with
    | some t => .next (s.endDone p t)
    | none => .next s

/-! ### Pins that switch, and edges at inputs (R779, R780, R785, R788 to R792) -/

/-- PIN_PARK_END (R779, R792): the output function drives from here. -/
def execPinParkEnd (p : PinId) (s : State) : Result :=
  match (s.pins.look p).parkEnd with
  | none => .next s
  | some t =>
    if future t s.now then .next s
    else
      let s1 := s.updPin p fun q => { q with parkEnd := none }
      .next (s1.updPin p fun q => { q with ball := (s1.driven p).getD q.ball })

/-- A request line takes the ball level of its pin as its starting level, and banks no edge (R780, R791). -/
def State.lineStart (s : State) (i : Nat) (level : Bool) : State :=
  let l := s.onLine i
  (s.forAll l fun c s => s.updChan c fun n => { n with lineLevel := level ^^ n.lineLow }).go l

/-- PIN_SETTLE_END (R775, R780). -/
def execPinSettleEnd (p : PinId) (s : State) : Result :=
  match (s.pins.look p).settleEnd with
  | none => .next s
  | some t =>
    if future t s.now then .next s
    else
      let s1 := s.updPin p fun q => { q with parkEnd := none, settleEnd := none }
      let s2 := s1.updPin p fun q => { q with ball := (s1.driven p).getD q.ball, seen := q.ball }
      let s3 := if s.pinFunc p = 3 then s2.lineStart (s.pinIndex p % 32) (s2.pins.look p).ball else s2
      match s3.pinJob with
      | some j => if j.pin = p then .next (s3.finishPin j) else .next s3
      | none => .next s3

/-- CUE_IN (R785, R789). -/
def execCueIn (p : PinId) (rise : Bool) (s : State) : Result :=
  if 48 ≤ p.toNat then .fault .malformedEvent
  else
    let r := s.seeEdge p 5 rise
    if !(r.2 && edgeQualifies (field (s.pinMux p) 7 6) rise) then .next r.1
    else if s.belowHush then .next (r.1.holdEdge p rise)
    else .next (r.1.signal (BitVec.ofNat 10 (s.pinIndex p)) 1)

/-- WAKE (R605, R607, R788). -/
def execWake (p : PinId) (rise : Bool) (s : State) : Result :=
  if 48 ≤ p.toNat then .fault .malformedEvent
  else
    let r := s.seeEdge p 11 rise
    if r.2 && edgeQualifies (field (s.pinMux p) 7 6) rise && s.power.state != .lit then
      let s1 := r.1.wakeBy 2
      if bitAt s1.power.wakeCause 2 && !(s.power.waking && bitAt s.power.wakeCause 2) then
        .next { s1 with power := { s1.power with wakePin := p } }
      else .next s1
    else .next r.1

/-! ### Clocks that fail and return (R84, R85, R609, R960) -/

/-- Fine time ends: PPS_OUT goes low (R54, R71). -/
def State.loseFine (s : State) : State := s.dropPps.updTb fun t => { t with pllLock := false, fineValid := false }

/-- FAULTED is entered once (R242). -/
def State.faultOnce (s : State) (cause : Byte) : State := if s.devState = .faulted then s else s.enterFaulted cause

/-- REFCLK_LOSS (R84, R97, R609, R960): the time base goes back to its value at the last REFCLK edge. -/
def execRefclkLoss (s : State) : Result :=
  if !s.tb.refclkPresent then .next s
  else
    let shuttered := s.power.state == .shuttered
    let s1 := s.loseFine.loseTime.updTb fun t =>
      { t.endSlew with time := t.refTime, acc := t.refAcc, tbPhase := 0, refclkPresent := false, refclkLost := true }
    let s2 := s1.note 9 0x92 none none (if shuttered then 2 else 1)
    if shuttered then .next s2 else .next ((s2.raiseAlert 0).faultOnce 0)

/-- REFCLK_RETURN (R960): counting resumes from the held value on the REFCLK grid. -/
def execRefclkReturn (s : State) : Result := .next (s.updTb fun t => { t with refclkPresent := true, tbPhase := 0 })

/-- PLL_UNLOCK (R85). -/
def execPllUnlock (s : State) : Result :=
  if !s.tb.pllLock then .next s
  else
    let s1 := s.loseFine.updTb fun t => { t with pllUnlocked := true }
    .next ((s1.raiseAlert 1).faultOnce 1)

end Sys2Proof.Machine
end

