-- ==== Sys2Proof/Machine/TraceOut.lean ====
section
/-! DEFINITION. Trace as commands read it and as the pins and the TAP show it: TRACE_CONFIG, TRACE_READ, export frames and JTAG (R794 to R813, R871, R872). -/

namespace Sys2Proof.Machine

/-! ### Records as bytes (R794) -/

/-- The four dwords of a Glovix record. -/
def TraceRecord.dwords (r : TraceRecord) : List Dword :=
  [lo32 r.stamp, hi32 r.stamp,
   BitVec.ofNat 32 (r.event.toNat + 2 ^ 8 * r.cls.toNat + 2 ^ 12 * flag r.uncertain + 2 ^ 13 * flag r.coarse + 2 ^ 14 * flag r.lostBefore +
     2 ^ 15 * flag r.tenant.isSome + 2 ^ 16 * (r.tenant.getD 0).toNat + 2 ^ 20 * (r.chan.getD 0x7F).toNat), r.data]

/-- The 16 bytes of a record. -/
def TraceRecord.bytes (r : TraceRecord) : List Byte := dwordBytes r.dwords

/-- Sequence number of the oldest record in the buffer (R797). -/
def Trace.oldest (t : Trace) : Nat := t.written - t.ring.length

/-- Records from a first sequence number on: how many of a list that begins at number `oldest` lie before it; a number older than the oldest reads from the oldest (R801). -/
def skipTo (oldest : Nat) (first : Dword) : Nat :=
  let d := (first - BitVec.ofNat 32 oldest).toNat
  if d < 2 ^ 31 then d else 0

/-- What a read of the trace returns: the first sequence number, the records, and the header that precedes them (R801, R809, R872). -/
def Trace.readOut (t : Trace) (persist : Bool) (first : Dword) (count : Nat) : Nat × List TraceRecord × List Byte :=
  if persist then
    match t.persist with
    | none => (first.toNat, [], [])
    | some g =>
      let oldest := (g.newest.toNat + 2 ^ 32 + 1 - g.records.length) % 2 ^ 32
      let k := skipTo oldest first
      let header := dwordBytes [g.newest, g.boots, BitVec.ofNat 32 (g.trigger.toNat % 4), BitVec.ofNat 32 g.records.length]
      (oldest + k, (g.records.drop k).take count, if g.records.isEmpty then [] else header)
  else
    let k := skipTo t.oldest first
    (t.oldest + k, (t.ring.drop k).take count, [])

/-! ### TRACE_CONFIG and TRACE_READ (R801, R871, R872) -/

/-- Class bits of the mandatory classes, which read 1 (R795). -/
def mandatoryClasses : Word := 0xA100

/-- The packet of TRACE_CONFIG (R871). -/
def specTraceConfig : CmdSpec :=
  { opcode := 0x60, used := [(4, 0x000FFF1E), (5, 0x0000FFFF)] }

/-- What TRACE_CONFIG judges (R871). -/
def checksTraceConfig : Cmd → State → Checks :=
  fun _ _ => { who := .smHouse, served := .houseFirst }

/-- The effect of TRACE_CONFIG once it has passed its checks (R871). -/
def runTraceConfig : Cmd → State → State :=
  fun c s =>
      let old := s.devReg 0xBC0 ||| mandatoryClasses
      let s1 := ((s.setDevBoth 0xBC0 (c.q 4 ||| mandatoryClasses)).settleGroup 6).disturb .device
      s1.answer c { dw2 := lo32 old, dw3 := hi32 old }

/-- TRACE_CONFIG (R871). -/
def execTraceConfig (p : Packet) (s : State) : Result :=
  serve specTraceConfig checksTraceConfig runTraceConfig p s

/-- The packet of TRACE_READ (R801, R872). -/
def specTraceRead : CmdSpec :=
  { opcode := 0x61, used := [(2, 0xFFFFFFFF), (3, 0xFFFFFFFF), (4, 1), (5, 0xFFFFFFFF), (6, 0x7FFF)] }

/-- What TRACE_READ judges (R801, R872). -/
def checksTraceRead : Cmd → State → Checks :=
  fun c _ =>
      let persist := bitAt (c.dw 4) 0
      let count := c.f 6 14 0
      let most := if c.isHouse then (if persist then 223 else 224) else (if persist then 4095 else 16384)
      { who := .smHouse, served := .faultRead, long := true
        ranges := [(8, c.badResultAddr), (24, decide (count = 0) || decide (most < count))] }

/-- The effect of TRACE_READ once it has passed its checks (R801, R872). -/
def runTraceRead : Cmd → State → State :=
  fun c s =>
      let s1 := s.flushTrace
      let r := s1.trace.readOut (bitAt (c.dw 4) 0) (c.dw 5) (c.f 6 14 0)
      s1.startBulk c r.1 r.2.1.length (r.2.2 ++ r.2.1.flatMap TraceRecord.bytes)

/-- TRACE_READ (R801, R872): its result is sampled when service begins, and written by LONG_COMMAND_FINISH. -/
def execTraceRead (p : Packet) (s : State) : Result :=
  serve specTraceRead checksTraceRead runTraceRead p s

/-! ### TRACE_EXPORT (R804 to R807) -/

/-- MFP40 to MFP43 carry TRACE, and EXPORT_EN is 1. -/
def State.exports (s : State) : Bool :=
  bitAt (s.devReg 0xBC0) 2 && [(40 : PinId), 41, 42, 43].all fun p => decide (s.pinFunc p = 10)

/-- SEQ16, the record and the CRC-16 of a frame (R805). -/
def frameBytes (seq : Nat) (r : TraceRecord) : List Byte :=
  let body := leBytes 2 seq ++ r.bytes
  body ++ leBytes 2 (crc16 body).toNat

/-- The oldest record not yet exported leaves as one frame; records overwritten before are skipped (R805, R806). -/
def State.exportOne (s : State) : State :=
  let t := s.trace
  let next := max t.exported t.oldest
  match t.ring[next - t.oldest]? with
  | none => s
  | some r =>
    let s1 : State := { s with trace := { t with exported := next + 1 } }
    s1.emit (.traceFrame (frameBytes next r))

/-- TRACE_EXPORT (R804, R805). -/
def execTraceExport (s : State) : Result :=
  if s.exports ∧ s.belowHush = false then .next s.flushTrace.exportOne else .next s

/-! ### JTAG (R810 to R813) -/

/-- The levels of MFP0 to MFP47, as boundary cells see them. -/
def State.boundary (s : State) : BitVec 48 := (pinWord fun p => s.ballLevel p).truncate 48

/-- An instruction enters the TAP; `State.driven` says which take the pins from the part's own functions (R813). -/
def State.tap (s : State) (i : JtagInstr) : State := { s with jtag := { s.jtag with instr := i } }

/-- IDCODE of the part: version 0x1 as R811 gives it. -/
def idcodeValue : Dword := 0x19616C5B

/-- EXTEST (R813). -/
def execExtest (s : State) : Result := .next (s.tap .extest)

/-- IDCODE (R810, R811): the register is shifted out. -/
def execIdcode (s : State) : Result := .next ((s.tap .idcode).emit (.jtag idcodeValue))

/-- SAMPLE/PRELOAD (R810, R812): the boundary register takes the levels of the pins. -/
def execSamplePreload (s : State) : Result :=
  let s1 := s.tap .samplePreload
  .next { s1 with jtag := { s1.jtag with sampled := s.boundary } }

/-- HIGHZ (R813). -/
def execHighz (s : State) : Result := .next (s.tap .highz)

/-- CLAMP (R813). -/
def execClamp (s : State) : Result := .next (s.tap .clamp)

/-- EXTEST_PULSE (R812, R813). -/
def execExtestPulse (s : State) : Result := .next (s.tap .extestPulse)

/-- EXTEST_TRAIN (R812, R813). -/
def execExtestTrain (s : State) : Result := .next (s.tap .extestTrain)

/-- BYPASS (R810). -/
def execBypass (s : State) : Result := .next (s.tap .bypass)

/-- TRST_N (R810): Test-Logic-Reset selects IDCODE. -/
def execTrstN (s : State) : Result := .next (s.tap .idcode)

end Sys2Proof.Machine
end

