-- ==== Sys2Proof/Machine/Upgrade.lean ====
section
/-! DEFINITION. Field upgrade and configuration snapshots: PATCH_STAGE, PATCH_ACTIVATE, PATCH_LIST, CONFIG_SNAPSHOT and CONFIG_RESTORE (R632 to R646, R876 to R880). -/

namespace Sys2Proof.Machine

/-! ### Patch slots (R632, R637, R638) -/

/-- A dword of an image. -/
def PatchSlot.dword (x : PatchSlot) (i : Nat) : Dword := dwordAt (cellsReadN x.image (4 * i) 4) 0

/-- VERSION, LENGTH and ROM_VERSION of an image's header. -/
def PatchSlot.headerVersion (x : PatchSlot) : Dword := x.dword 2
def PatchSlot.headerLength (x : PatchSlot) : Nat := (x.dword 3).toNat
def PatchSlot.headerRom (x : PatchSlot) : Dword := x.dword 1

/-- The bytes of an image: LENGTH of them, at most a slot. -/
def PatchSlot.bytes (x : PatchSlot) : List Byte := cellsReadN x.image 0 (min x.headerLength 65536)

/-- SHA-256 of an image (R639, R878). -/
def PatchSlot.digest (x : PatchSlot) : List Byte := (Config.sha256 x.bytes).toList

/-- One more than the highest byte written. -/
def PatchSlot.extent (x : PatchSlot) : Nat := x.written.foldl (fun m r => max m (r.1 + r.2)) 0

/-- The chunks written cover exactly LENGTH bytes; offsets and lengths of chunks are multiples of 16. -/
def PatchSlot.covered (x : PatchSlot) : Bool :=
  decide (x.extent = x.headerLength) &&
    (List.range (x.headerLength / 16)).all fun i => x.written.any fun r => decide (r.1 ≤ 16 * i) && decide (16 * i < r.1 + r.2)

/-- R637 step 1. -/
def PatchSlot.formOk (x : PatchSlot) : Bool :=
  let len := x.headerLength
  x.dword 0 == 1 && decide (192 ≤ len) && decide (len ≤ 65536) && decide (len % 16 = 0) && x.covered && x.headerRom == Config.romVersion

/-- The status that R637 gives an image; none for one that passes. -/
def PatchSlot.judge (x : PatchSlot) (rollback : Dword) : Option Byte :=
  if !x.formOk then some 0x09
  else if !(Config.signatureGood x.bytes) then some 0x20
  else if x.headerVersion.toNat < rollback.toNat then some 0x24
  else none

/-- A chunk is written. -/
def PatchSlot.writeChunk (x : PatchSlot) (off : Nat) (bytes : List Byte) : PatchSlot :=
  { x with state := .writing, image := cellsWriteN x.image off bytes, written := x.written ++ [(off, bytes.length)] }

/-- An image that passes becomes STAGED. -/
def PatchSlot.close (x : PatchSlot) : PatchSlot :=
  { x with state := .staged, version := x.headerVersion, length := x.dword 3, hash := x.digest }

/-- Slots that PATCH_STAGE may not touch: those active in this boot, recorded for the next, or named by a held activation (R638, R646). -/
def State.slotBusy (s : State) (n : Nat) : Bool :=
  bitAt s.runningSet n || bitAt s.boot.activeSet n || bitAt (s.boot.pendingSet.getD 0) n ||
    match s.prot.held with | some h => h.patch && bitAt h.patchSet n | none => false

/-- The state with a patch slot changed. -/
def State.updPatch (s : State) (n : Nat) (f : PatchSlot → PatchSlot) : State :=
  { s with boot := { s.boot with patches := s.boot.patches.upd (BitVec.ofNat 4 n) f } }

/-- The packet of PATCH_STAGE (R637, R638, R876). -/
def specPatchStage : CmdSpec :=
  { opcode := 0x70, used := [(2, 0x10F), (3, 0x1FFFF), (4, 0x1FFFF), (6, 0xFFFFFFFF), (7, 0xFFFFFFFF)] }

/-- What PATCH_STAGE judges (R637, R638, R876). -/
def checksPatchStage : Cmd → State → Checks :=
  fun c s =>
      let off := c.f 3 16 0
      let len := c.f 4 16 0
      let a := c.q 6
      { who := .smHouse, served := .houseFirst, long := true
        ranges := [(12, decide (off % 16 ≠ 0) || decide (65536 ≤ off)),
          (16, decide (len < 16) || decide (65536 < len) || decide (len % 16 ≠ 0) || (c.isHouse && decide (2048 < len)) || decide (65536 < off + len)),
          (24, if c.isHouse then a != 0 else decide (3 < tagOf a) || decide (a.toNat % 16 ≠ 0))]
        resource := refuseIf (s.slotBusy (c.f 2 3 0)) { status := 0x0D } }

/-- The effect of PATCH_STAGE once it has passed its checks (R637, R638, R876). -/
def runPatchStage : Cmd → State → State :=
  fun c s =>
      match s.readBody c (c.q 6) (c.f 4 16 0) with
      | (s1, _, some r) => s1.answer c r
      | (s1, bytes, none) =>
        let s2 := s1.updPatch (c.f 2 3 0) fun x => if x.state = .writing then x else { state := .writing }
        let s3 := s2.startLong c
        { s3 with long := s3.long.map fun l => if l.order = s2.order then { l with body := bytes.take (c.f 4 16 0) } else l }

/-- PATCH_STAGE (R637, R638, R876): the chunk is read when service begins, and in the slot when LONG_COMMAND_FINISH comes. -/
def execPatchStage (p : Packet) (s : State) : Result :=
  serve specPatchStage checksPatchStage runPatchStage p s

/-- The chunk of a PATCH_STAGE is in its slot; with FINAL the image is judged (R637, R876). -/
def State.finishStage (s : State) (l : LongCmd) : State :=
  let slot := field (packetDw l.dw 2) 3 0
  let s1 := s.updPatch slot fun x => x.writeChunk (field (packetDw l.dw 3) 16 0) l.body
  let x := s1.boot.patches.look (BitVec.ofNat 4 slot)
  let extent : Dword := BitVec.ofNat 32 x.extent
  if !(bitAt (packetDw l.dw 2) 8) then s1.finishLong l { dw2 := extent } []
  else match x.judge s.boot.rollback with
    | some st => (s1.updPatch slot fun _ => {}).finishLong l { status := st, dw3 := if st = 0x09 then 9 else 0 } []
    | none => (s1.updPatch slot PatchSlot.close).finishLong l { dw2 := extent, dw3 := x.headerVersion } []

/-- Slots of a set. -/
def slotsOf (set : BitVec 16) : List Nat := (List.range 16).filter fun n => bitAt set n

/-- The activation record: the mask, and the hash of each named slot (R639). -/
def State.activation (s : State) (mask : BitVec 16) : List Byte :=
  leBytes 4 mask.toNat ++ (slotsOf mask).flatMap fun n => (s.boot.patches.look (BitVec.ofNat 4 n)).digest

/-- The packet of PATCH_ACTIVATE (R196, R198, R639, R877). -/
def specPatchActivate : CmdSpec :=
  { opcode := 0x71, used := [(2, 0xFFFF)] }

/-- What PATCH_ACTIVATE judges (R196, R198, R639, R877). -/
def checksPatchActivate : Cmd → State → Checks :=
  fun c s =>
      { who := .smHouse, served := .houseFirst
        ranges := [(8, (slotsOf ((c.dw 2).truncate 16)).any fun n => (s.boot.patches.look (BitVec.ofNat 4 n)).state != .staged)]
        resource := (s.expireBefore c.stamp).proposalBusy }

/-- The effect of PATCH_ACTIVATE once it has passed its checks (R196, R198, R639, R877). -/
def runPatchActivate : Cmd → State → State :=
  fun c s =>
      let mask : BitVec 16 := (c.dw 2).truncate 16
      let s1 := s.expireBefore c.stamp
      if (slotsOf mask).any fun n => decide ((s1.boot.patches.look (BitVec.ofNat 4 n)).headerVersion.toNat < s1.boot.rollback.toNat) then
        s1.answer c { status := 0x24 }
      else
        let r := s1.holdProposal c true mask (s1.activation mask)
        r.1.answer c { status := 0x02, dw2 := r.2.1, dw3 := r.2.2 }

/-- PATCH_ACTIVATE (R196, R198, R639, R877). -/
def execPatchActivate (p : Packet) (s : State) : Result :=
  serve specPatchActivate checksPatchActivate runPatchActivate p s

/-- The entry of a slot in PATCH_LIST (R878). -/
def State.patchEntry (s : State) (n : Nat) : List Byte :=
  let x := s.boot.patches.look (BitVec.ofNat 4 n)
  let code : Nat := match x.state with | .empty => 0 | .writing => 1 | .staged => 2
  let d0 : Dword := BitVec.ofNat 32 (code + 4 * flag (bitAt s.runningSet n) + 8 * flag (bitAt (s.boot.pendingSet.getD 0) n))
  if x.state = .empty then dwordBytes (d0 :: List.replicate 15 0)
  else dwordBytes [d0, x.headerVersion, x.dword 3, x.headerRom] ++ x.digest ++ List.replicate 16 0

/-- The packet of PATCH_LIST (R878). -/
def specPatchList : CmdSpec :=
  { opcode := 0x72, used := [(2, 0xFFFFFFFF), (3, 0xFFFFFFFF)] }

/-- What PATCH_LIST judges (R878). -/
def checksPatchList : Cmd → State → Checks :=
  fun c _ => { served := .always, ranges := [(8, c.badResultAddr)] }

/-- The effect of PATCH_LIST once it has passed its checks (R878). -/
def runPatchList : Cmd → State → State :=
  fun c s =>
      let header := dwordBytes [s.boot.rollback, BitVec.ofNat 32 (s.runningSet.toNat + 65536 * (s.boot.pendingSet.getD 0).toNat),
        s.boot.failedBoots.zeroExtend 32, 0]
      let bytes := header ++ (List.range 16).flatMap s.patchEntry
      s.respond c bytes (firstWords bytes)

/-- PATCH_LIST (R878). -/
def execPatchList (p : Packet) (s : State) : Result :=
  serve specPatchList checksPatchList runPatchList p s

/-! ### CONFIG_SNAPSHOT (R633, R879) -/

/-- The definition of an SQ or a CQ: empty, at expected marks 1 (R635). -/
def SubQueue.defined (q : SubQueue) : SubQueue :=
  if q.state = .absent then {} else { state := .active, base := q.base, log2 := q.log2, phase := true, cq := q.cq, slot := q.slot, prefetch := q.prefetch }
def CompQueue.defined (q : CompQueue) : CompQueue :=
  if q.state = .absent then {} else { state := .active, base := q.base, log2 := q.log2, phase := true, vector := q.vector }

/-- The definition of a channel: its binding, mode and CHANNEL_CONFIG values, and the active copy of its registers' staged fields (R633). -/
def Chan.defined (n : Chan) : Chan :=
  let put (t : Tbl 5 Staged) (p : Nat) : Tbl 5 Staged :=
    match n.spec (8 * p) with
    | some r => t.put (BitVec.ofNat 5 p) (Staged.both ((n.regs.look (BitVec.ofNat 5 p)).act &&& r.stg))
    | none => t
  let regs := (List.range 32).foldl put (Tbl.fill 5 {})
  { state := if n.state = .unbound then .unbound else .idle, mode := n.mode, sq := n.sq
    regs := regs.put 4 (Staged.both (n.reg 0x20))
    stagehand := n.stagehand, priority := n.priority, lead := n.lead, paceSrc := n.paceSrc, effective := n.effective, pace := n.pace
    paceTime := n.paceTime, actEn := n.actEn, actSel := n.actSel, vector := n.vector, retryLimit := n.retryLimit }

/-- The definition of a tenant: the active copy of its staged fields, its queues and its admin pair. -/
def Tenant.defined (n : Tenant) : Tenant :=
  let keep (p : Nat) : Staged :=
    let x := (n.regs.look (BitVec.ofNat 9 p)).act
    match tenSpec (8 * p) with
    | some r => Staged.both (if 8 * p = 0x100 ∨ 8 * p = 0x108 ∨ 8 * p = 0x110 then x else x &&& r.stg)
    | none => {}
  { Tenant.reset with
    regs := Vector.ofFn fun (i : Fin (2 ^ 9)) => keep i.val
    sqs := n.sqs.map SubQueue.defined
    cqs := n.cqs.map CompQueue.defined }

/-- The device page's staged fields in their active copy. -/
def State.devDefined (s : State) : Tbl 11 Staged :=
  Vector.ofFn fun (i : Fin (2 ^ 11)) =>
    match devSpec (8 * i.val) with
    | some r => Staged.both ((s.dev.regs.look (BitVec.ofFin i)).act &&& r.stg)
    | none => {}

/-- The sample of a configuration (R633). -/
def State.sample (s : State) (label : Dword) : Snapshot :=
  { stamp := s.now, boots := s.health.lifeBoots, label := label, dev := s.devDefined
    prot := { map := s.prot.map, designated := s.prot.designated }
    tenants := s.tenants.map Tenant.defined
    chans := s.chans.map Chan.defined
    cues := s.cues.map fun q => { q with count := 0 }
    props := { basePage := s.props.basePage, sizeLog2 := s.props.sizeLog2, count := s.props.count } }

/-- The packet of CONFIG_SNAPSHOT (R633, R879). -/
def specConfigSnapshot : CmdSpec :=
  { opcode := 0x78, used := [(2, 3), (3, 0xFFFFFFFF)] }

/-- What CONFIG_SNAPSHOT judges (R633, R879). -/
def checksConfigSnapshot : Cmd → State → Checks :=
  fun c s =>
      { who := .smHouse, served := .staged, long := true, ranges := [(8, decide (c.f 2 1 0 = 3))]
        resource := refuseIf s.boot.taking.isSome { status := 0x0D } }

/-- The effect of CONFIG_SNAPSHOT once it has passed its checks (R633, R879). -/
def runConfigSnapshot : Cmd → State → State :=
  fun c s =>
      let slot : BitVec 2 := BitVec.ofNat 2 (c.f 2 1 0)
      let s1 := s.startLong c
      { s1 with boot := { s1.boot with taking := some (slot, s.sample (c.dw 3)), snapshots := s1.boot.snapshots.put slot none } }

/-- CONFIG_SNAPSHOT (R633, R879): the sample is taken when service begins, and closed by LONG_COMMAND_FINISH. -/
def execConfigSnapshot (p : Packet) (s : State) : Result :=
  serve specConfigSnapshot checksConfigSnapshot runConfigSnapshot p s

/-- A snapshot is closed: its size and its CRC follow from a format that the spec does not give, and are free (R879, log entry 24). -/
def State.finishSnapshot (s : State) (l : LongCmd) : State :=
  match s.boot.taking with
  | none => s.finishLong l {} []
  | some (slot, g) =>
    let s1 : State := { s with boot := { s.boot with snapshots := s.boot.snapshots.put slot (some g), taking := none } }
    (s1.bump.bump).finishLong l { dw2 := lo32 (Config.freeWord s.fresh), dw3 := lo32 (Config.freeWord (s.fresh + 1)) } []

/-! ### CONFIG_RESTORE (R634, R635, R880) -/

/-- The map of a snapshot as a body that R184 judges against the present device. -/
def State.snapshotBody (s : State) (g : Snapshot) : List Byte :=
  let h := g.prot.map.header s.prot.epoch
  dwordBytes ((h.set 2 (nth h 2 0 ||| 0x100)) ++ allTenants.flatMap fun t => (g.prot.map.records.look t).dwords)

/-- A staged field set takes a snapshot's value in both copies. -/
def Staged.restored (x g : Staged) (stg : Word) : Staged :=
  let v := g.act &&& stg
  { act := (x.act &&& ~~~stg) ||| v, pend := (x.pend &&& ~~~stg) ||| v }

/-- The device page of a restore: pins switch, endpoints take their structure, and every other staged field its value. -/
def State.restoreDev (s : State) (g : Snapshot) : State :=
  let entry (p : Nat) : Word := (g.dev.look (BitVec.ofNat 11 (p / 8))).act
  let s1 := s.forAll allPins fun p s => s.switchPin p (entry (0x800 + 8 * p.toNat))
  let s2 := s1.forAll allEps fun e s => s.setEpCfg e (entry (0x1000 + 8 * e.toNat))
  let one (i : Fin (2 ^ 11)) : Staged :=
    let x := s2.dev.regs.look (BitVec.ofFin i)
    match devSpec (8 * i.val) with
    | some r => x.restored (g.dev.look (BitVec.ofFin i)) r.stg
    | none => x
  { s2 with dev := { s2.dev with regs := Vector.ofFn one, ctl := { s2.dev.ctl with pendingGroups := 0, disturbed := true } } }

/-- One tenant of a restore. -/
def Tenant.restored (n g : Tenant) : Tenant :=
  let one (i : Fin (2 ^ 9)) : Staged :=
    let x := n.regs.look (BitVec.ofFin i)
    let y := g.regs.look (BitVec.ofFin i)
    let p := 8 * i.val
    match tenSpec p with
    | some r => if p = 0x100 ∨ p = 0x108 ∨ p = 0x110 then y else x.restored y r.stg
    | none => x
  { n with regs := Vector.ofFn one, sqs := g.sqs, cqs := g.cqs, untaken := [], ctl := { n.ctl with pendingGroups := 0, disturbed := true } }

/-- A snapshot is installed at one edge, and counts as the first commit (R635). -/
def State.install (s : State) (g : Snapshot) : State :=
  let s1 := s.restoreDev g
  let s2 : State := { s1 with
    tenants := Vector.ofFn fun i => (s1.tenants.look (BitVec.ofFin i)).restored (g.tenants.look (BitVec.ofFin i))
    chans := g.chans, cues := g.cues, props := g.props
    acts := s1.acts.map fun a => { a with running := false, nextStart := 0 }
    prot := { s1.prot with designated := true } }
  s2.installMap g.prot.map

/-- The judgement of R634, against the present device: the reply of a failure. -/
def State.judgeSnapshot (s : State) (slot : BitVec 2) (crcGood : Bool) : Except Reply Snapshot :=
  match s.boot.snapshots.look slot with
  | none => .error { status := 0x09, dw3 := 8 }
  | some g =>
    if !crcGood then .error { status := 0x23 }
    else match s.bodyError (s.snapshotBody g) g.props.count.toNat true with
      | some off => .error { status := 0x09, dw3 := BitVec.ofNat 32 off }
      | none => .ok g

/-- The packet of CONFIG_RESTORE (R634, R880). -/
def specConfigRestore : CmdSpec :=
  { opcode := 0x79, used := [(2, 3)] }

/-- What CONFIG_RESTORE judges (R634, R880). -/
def checksConfigRestore : Cmd → State → Checks :=
  fun c s =>
      { who := .house, served := .houseOnly, long := true, ranges := [(8, decide (c.f 2 1 0 = 3))]
        state := refuseIf s.prot.designated (wrongState 0 2 0) }

/-- The effect of CONFIG_RESTORE once it has passed its checks (R634, R880). -/
def runConfigRestore : Cmd → State → State :=
  fun c s => s.startLong c

/-- CONFIG_RESTORE (R634, R880): the snapshot is judged and installed when LONG_COMMAND_FINISH comes. -/
def execConfigRestore (p : Packet) (s : State) : Result :=
  serve specConfigRestore checksConfigRestore runConfigRestore p s

/-- The end of a CONFIG_RESTORE. -/
def State.finishRestore (s : State) (l : LongCmd) (crcGood : Bool) : State :=
  if s.prot.designated ∨ s.devState ≠ .houseOnly then s.finishLong l (wrongState 0 s.devState.code 0) []
  else match s.judgeSnapshot (BitVec.ofNat 2 (field (packetDw l.dw 2) 1 0)) crcGood with
    | .error r => s.finishLong l r []
    | .ok g => let s1 := s.install g; s1.finishLong l { dw2 := s1.prot.epoch, dw3 := g.label } []

/-! ### LONG_COMMAND_FINISH (R223, R228, R238) -/

/-- A bulk read writes its result, and completes (R228, R251). -/
def State.finishBulk (s : State) (l : LongCmd) (ended : Ended) : State :=
  let ok : Reply := { dw2 := dwordAt l.body 0, dw3 := dwordAt l.body 1 }
  let bytes := l.body.drop 8
  match l.ref.src with
  | .house => s.finishLong l ok bytes
  | .tenant t =>
    if bytes.isEmpty then s.finishLong l ok []
    else match s.writeResult t (join64 (packetDw l.dw 2) (packetDw l.dw 3)) bytes ended with
      | (s1, none) => s1.finishLong l ok []
      | (s1, some r) => s1.finishLong l r []

/-- LONG_COMMAND_FINISH (R223): the oldest bulk or storage command of a source. -/
def execLongCommandFinish (source : Source) (ended : Ended) (s : State) : Result :=
  let op (l : LongCmd) : Nat := field (packetDw l.dw 0) 7 0
  match (s.longOf source).find? fun l => [0x50, 0x61, 0x70, 0x78, 0x79].contains (op l) with
  | none => .next s
  | some l =>
    .next (match op l with
      | 0x70 => s.finishStage l
      | 0x78 => s.finishSnapshot l
      | 0x79 => s.finishRestore l (ended == .good)
      | _ => s.finishBulk l ended)

/-! ### ABORT_COMMAND (R246 to R248, R252 to R254, R575) -/

/-- A stop that has not taken effect is withdrawn, unless another command on the channel asks for it (R247). -/
def State.withdrawStop (s : State) (l : LongCmd) (opcode : Nat) : State :=
  match s.longChan l with
  | none => s
  | some c =>
    if (s.longOn c [opcode]).any fun x => x.order != l.order then s
    else s.updChan c fun n => if opcode = 0x1C then { n with stopPending := false } else { n with drainPending := false }

/-- The test of a command: running, or waiting for a handover. -/
def State.abortBist (s : State) (l : LongCmd) : State :=
  let stopped : Reply := { status := 0x15 }
  match s.health.tests.find? fun j => (s.bistCommand j).map (fun x => x.order) = some l.order with
  | some j => s.abortTest j 0
  | none =>
    (s.updHealth fun h => { h with handovers := h.handovers.map fun j =>
      match j.test with
      | some t => if (s.bistCommand t).map (fun x => x.order) = some l.order then { j with test := none } else j
      | none => j }).finishLong l stopped []

/-- An aborted bulk read leaves RESULT_ADDR partly written: its first bytes, a free count of them, under the windows of its issuer (R247, R864, R872). -/
def State.abortBulk (s : State) (l : LongCmd) : State :=
  let bytes := l.body.drop 8
  match l.ref.src with
  | .house => s
  | .tenant t =>
    let part := bytes.take ((Config.freeWord s.fresh).toNat % (bytes.length + 1))
    let s1 := s.bump
    if part.isEmpty then s1 else (s1.writeResult t (join64 (packetDw l.dw 2) (packetDw l.dw 3)) part .good).1

/-- An abortable command ends with STOPPED; none for a command that is not abortable (R247). -/
def State.abortLong (s : State) (l : LongCmd) : Option State :=
  let stopped (s : State) : State := s.finishLong l { status := 0x15 } []
  let op := field (packetDw l.dw 0) 7 0
  if op = 0x1C ∨ op = 0x1D then some (stopped (s.withdrawStop l op))
  else if op = 0x31 then some (stopped (s.leaveLink (field (packetDw l.dw 2) 7 0) .down true))
  else if op = 0x54 then some (stopped { s with guard := { s.guard with scrubNow := none } })
  else if op = 0x68 then some (stopped (s.updTb fun t => { t with atPps := none }))
  else if op = 0x50 ∨ op = 0x61 then some (stopped (s.abortBulk l))
  else if op = 0x58 ∧ field (packetDw l.dw 2) 7 0 ≠ 0 then some (s.abortBist l)
  else none

/-- The packet of ABORT_COMMAND (R246, R248, R825). -/
def specAbortCommand : CmdSpec :=
  { opcode := 0x7E, used := [(2, 0xFFFF)] }

/-- What ABORT_COMMAND judges (R246, R248, R825). -/
def checksAbortCommand : Cmd → State → Checks :=
  fun _ _ => { served := .general }

/-- The effect of ABORT_COMMAND once it has passed its checks (R246, R248, R825). -/
def runAbortCommand : Cmd → State → State :=
  fun c s =>
      let src : Source := if c.foreign then .tenant c.target else c.p.src
      match (s.longOf src).find? fun l => decide (l.ref.tag.toNat = c.f 2 15 0) with
      | none => s.answer c { dw2 := 1 }
      | some l =>
        match s.abortLong l with
        | some s1 => s1.answer c {}
        | none => { s with long := s.long.map fun x => if x.order = l.order then { x with aborts := x.aborts ++ [(c.ref, 2)] } else x }

/-- ABORT_COMMAND (R246, R248, R825). -/
def execAbortCommand (p : Packet) (s : State) : Result :=
  serve specAbortCommand checksAbortCommand runAbortCommand p s

end Sys2Proof.Machine
end

