-- ==== Sys2Proof/Machine/Power.lean ====
section
/-! DEFINITION. The power ladder: POWER_STATE, idle descent, the entry into a lower state and the exit to LIT (R596 to R616, R863). -/

namespace Sys2Proof.Machine

/-! ### Quiescence and permission (R600 to R602) -/

/-- The power state of a code; codes above 4 are SHUTTERED. -/
def powerOf (n : Nat) : PowerState :=
  match n with
  | 0 => .lit
  | 1 => .hush
  | 2 => .interval
  | 3 => .dark
  | _ => .shuttered

/-- A channel does not hinder a descent below HUSH. -/
def Chan.resting (n : Chan) : Bool :=
  match n.shown with
  | .unbound => true
  | .idle => true
  | .armed => true
  | .stopped => true
  | .halted => true
  | _ => false

/-- A completion is held for CQ space. -/
def State.anyHeld (s : State) : Bool :=
  allTenants.any fun t => (indices 6 33).any fun q => !((s.tenants.look t).cqs.look q).held.isEmpty

/-- The first object that keeps the device from being quiescent, as R602 reports it: a channel, a link, or the device. -/
def State.blocker (s : State) : Option Reply :=
  match allChans.find? fun c => !(s.chan c).resting with
  | some c => some (wrongState 1 (s.chan c).shown.code c.toNat)
  | none =>
    match (List.range 12).find? fun i => s.linkState i != .down with
    | some i => some (wrongState 5 (s.linkState i).code i)
    | none =>
      refuseIf (s.anyHeld || !s.long.isEmpty || !s.lb.isEmpty || !s.health.handovers.isEmpty) (wrongState 0 s.devState.code 0)

/-- No stagehand has an occupant (R600). -/
def State.handsEmpty (s : State) : Bool := allSh.all fun h => (s.sh.look h).occupants.isEmpty

/-- The condition of R600 for a state. -/
def State.mayRest (s : State) (p : PowerState) : Bool :=
  match p with
  | .lit => true
  | .hush => s.handsEmpty
  | _ => s.blocker.isNone

/-- Entry time of a state in ticks (R596). -/
def PowerState.entry : PowerState → Nat
  | .lit => 0
  | .hush => 3840
  | .interval => 76800
  | .dark => 768000
  | .shuttered => 192000000

/-- PPS_OUT or a strobe output is enabled, which forbids DARK and SHUTTERED (R601). -/
def State.edgesArmed (s : State) : Bool :=
  bitAt (s.devReg 0x130) 0 || (List.range 8).any fun n => bitAt (s.devReg (0x140 + 8 * n)) 0

/-- R601 permits a state. -/
def State.permits (s : State) (p : PowerState) : Bool :=
  (allActs.all fun a => !(s.needsPath a) || futureBy p.entry (s.callAt a p) s.now) && !(decide (3 ≤ p.code) && s.edgesArmed)

/-- The deepest state permitted from a code upwards to the present state. -/
def State.permitted (s : State) : Nat → PowerState
  | 0 => s.power.state
  | n + 1 => if n + 1 ≤ s.power.state.code then s.power.state else if s.permits (powerOf (n + 1)) then powerOf (n + 1) else s.permitted n

/-- The packet of POWER_STATE (R602, R863). -/
def specPowerState : CmdSpec :=
  { opcode := 0x48, used := [(2, 7)] }

/-- What POWER_STATE judges (R602, R863). -/
def checksPowerState : Cmd → State → Checks :=
  fun c s =>
      let target := c.f 2 2 0
      { who := .smHouse, served := .houseFirst, ranges := [(8, decide (4 < target))]
        state := if 1 < target then s.blocker else none }

/-- The effect of POWER_STATE once it has passed its checks (R602, R863). -/
def runPowerState : Cmd → State → State :=
  fun c s =>
      let target := c.f 2 2 0
      if target = 0 then s.answer c {}
      else
        let p := s.permitted target
        let s1 := s.answer c { dw2 := BitVec.ofNat 32 p.code }
        if p = s.power.state then s1 else { s1 with power := { s1.power with target := some p } }

/-- POWER_STATE (R602, R863). -/
def execPowerState (p : Packet) (s : State) : Result :=
  serve specPowerState checksPowerState runPowerState p s

/-! ### Idle descent (R603) -/

/-- FLOOR of POWER_CTRL: 5 to 7 count as 4. -/
def State.floor (s : State) : Nat := min 4 (field (s.devReg 0xB80) 2 0)

/-- Ticks for which the condition of a rung must hold. -/
def State.idleTicks (s : State) (p : PowerState) : Nat :=
  let w := s.devReg 0xB80
  match p with
  | .lit => 0
  | .hush => 384 * field w 15 8
  | .interval => 38400 * field w 31 16
  | .dark => 384000 * field w 47 32
  | .shuttered => 38400000 * field w 63 48

/-- The rung below the present one. -/
def State.nextRung (s : State) : PowerState := powerOf (s.power.state.code + 1)

/-- The part notes since when the next rung's condition has held. -/
def State.watchIdle (s : State) : State :=
  if s.power.state.code = 4 then s
  else if s.mayRest s.nextRung then { s with power := { s.power with quietSince := s.power.quietSince <|> some s.now } }
  else { s with power := { s.power with quietSince := none } }

/-- IDLE_DESCENT (R603): the timer of the next rung has run out. -/
def execIdleDescent (s : State) : Result :=
  let p := s.nextRung
  let since := match s.power.quietSince with | some t => if future t s.power.entered then t else s.power.entered | none => s.now
  if bitAt (s.devReg 0xB80) 3 && decide (s.power.state.code < s.floor) && s.power.target.isNone && !s.power.waking &&
      decide (s.boot.step = 11) && s.power.quietSince.isSome && due (since + BitVec.ofNat 64 (s.idleTicks p)) s.now && s.mayRest p && s.permits p then
    .next { s with power := { s.power with target := some p } }
  else .next s

/-! ### Entry into a state (R604, R610, R612, R616, R807) -/

/-- Entries held on chip and not taken are discarded, to be read again (R604). -/
def State.dropEntries (s : State) : State :=
  { s with tenants := s.tenants.map fun n => { n with untaken := [], sqs := n.sqs.map fun q => { q with entries := [] } } }

/-- Records written and not yet exported (BACKLOG). -/
def Trace.backlog (t : Trace) : Nat := min (t.written - t.exported) t.ring.length

/-- The buffer is flushed to the export pins (R610). -/
def State.exportRest (s : State) : State :=
  if s.exports then (List.range s.trace.backlog).foldl (fun s _ => s.exportOne) s else s

/-- The SLEEP record of each entry to INTERVAL or deeper, one from a state below HUSH too, and the flush that follows it (R65, R610). -/
def State.sleepRecord (s : State) (p : PowerState) : State :=
  let s1 : State := { s with power := { s.power with state := .hush } }
  ((s1.updTb fun t => { t with uncertain := false }).note 0 0x02 none none (BitVec.ofNat 32 p.code)).flushTrace.exportRest

/-- The intermission snapshot of slot 3 (R612), and the trace, which persists where TRACE_PERSIST says so and is lost otherwise (R798, R808). -/
def State.intermit (s : State) : State :=
  let s1 := if bitAt (s.devReg 0xBC0) 3 then s.persistTrace 1 else s
  let g : Snapshot :=
    { stamp := s.now, boots := s.health.lifeBoots, label := 0, dev := s.dev.regs, prot := s.prot, tenants := s.tenants, chans := s.chans,
      cues := s.cues, props := s.props }
  { s1 with
    intermission := some g
    trace := { s1.trace with staging := [], ring := [], written := 0, exported := 0 } }

/-- The present state is left for a deeper one. -/
def State.sink (s : State) (p : PowerState) : State :=
  let w := s.power
  { s with power := { w with
    state := p, target := none, entered := s.now, quietSince := none, waking := false, deepest := p } }

/-- Entry into a state below HUSH, in the order of R604. -/
def State.sinkDeep (s : State) (p : PowerState) : State :=
  let s1 := s.dropEntries.sleepRecord p
  let s2 := if p = .shuttered then s1.intermit else s1
  let s3 : State := { s2 with dram := { s2.dram with selfRefresh := true } }
  let s4 := if 3 ≤ p.code then s3.updTb fun t => { t with pllLock := false, fineValid := false } else s3
  s4.sink p

/-- DESCENT (R604, R616): a state is to be entered, its conditions hold, and no backlog of more than eight records waits for export (R807). -/
def execDescent (s : State) : Result :=
  match s.power.target with
  | none => .next s
  | some want =>
    let p := s.permitted want.code
    if p = s.power.state ∨ s.power.waking = true then .next { s with power := { s.power with target := none } }
    else if s.mayRest p = false then .next s
    else if p = .hush then .next (s.sink p)
    else if s.exports ∧ 8 < s.trace.backlog then .next s
    else .next (s.sinkDeep p)

/-! ### Exit to LIT (R605 to R616) -/

/-- What SHUTTERED loses is refilled: Wing SRAM, stream FIFOs, whose new fill FILL pacing judges, unlock states and held words, and fetched instruction blocks (R442, R562, R597, R613). The restore disturbs the CRC pass of every scope (R168). -/
def State.refill (s0 : State) : State :=
  let s : State :=
    { s0 with
      mem := { s0.mem with wing := [] }
      guard := { s0.guard with wingBad := [] }
      eps := s0.eps.map fun p => { p with fifo := [], index := 0 }
      dev := { s0.dev with ctl := { s0.dev.ctl.forget with disturbed := true } }
      tenants := s0.tenants.map fun n => { n with ctl := { n.ctl.forget with disturbed := true } }
      chans := s0.chans.map fun n => { n with script := { n.script with blocks := [] } } }
  s.forAll allEps fun e s => s.judgeFill e

/-- The SQ entry that an ARMED channel holds goes back to its queue: the head is at it again (R613). -/
def State.returnHeld (s : State) (c : ChanId) : State :=
  let n := s.chan c
  match n.mode, n.armedWork with
  | .queue, some w =>
    if w.inChain then s
    else
      s.updSq (s.tenantOf c) n.sq fun q =>
        let h : BitVec 16 := BitVec.ofNat 16 ((q.head.toNat + ringSize q.log2 - 1) % ringSize q.log2)
        { q with head := h, phase := q.phase ^^ decide (q.head = 0), entries := [] }
  | _, _ => s

/-- An ARMED QUEUE channel gives back its scene's first descriptor, to fetch it again (R613). -/
def State.refetch (s : State) (c : ChanId) : State :=
  let n := s.chan c
  match n.mode, n.armedWork with
  | .queue, some w =>
    let s1 := s.returnHeld c
    s1.updChan c fun n => { n with
      armedWork := none
      chain := if w.inChain then n.chain.map fun h => { h with next := h.running, ahead := [] } else n.chain }
  | _, _ => s

/-- The clocks and the DRAM come up again (R608, R763). -/
def State.clocksUp (s : State) : State :=
  { s.updTb (fun t => { t with pllLock := true, fineValid := true }) with dram := { s.dram with selfRefresh := false } }

/-- The WAKE record (R611). -/
def State.wakeRecord (s : State) : State :=
  let w := s.power
  let data : Dword := BitVec.ofNat 32 (w.wakeCause.toNat + 64 * w.deepest.code + 65536 * w.suppressed.toNat)
  let s1 := (s.updTb fun t => { t with uncertain := false }).note 0 0x03 none none data
  { s1 with power := { s1.power with suppressed := 0 } }

/-- A timed update strobe whose time passed during the sleep is applied late (R165). -/
def State.applyMissed (s : State) (page : Page) : State :=
  match (s.ctl page).armed with
  | some a => if due a.time s.coreEdge then ((s.updCtl page fun c => { c with armed := none }).strobe page a.groups).lateUpdate page else s
  | none => s

/-- Doorbells held during the sleep take effect in their order (R39). -/
def State.ringHeldBells (s : State) : State :=
  let s1 : State := { s with power := { s.power with held := [] } }
  s1.forAll s.power.held fun d s => s.ring d.cq d.tenant d.queue d.value

/-- An edge that a pin held is delivered (R789). -/
def State.deliverEdge (s : State) (p : PinId) : State :=
  match (s.pins.look p).heldEdge with
  | none => s
  | some level =>
    let s1 := s.updPin p fun q => { q with heldEdge := none }
    if s.pinFunc p = 3 then s1.lineEvent (s.pinIndex p % 32) level
    else if s.pinFunc p = 5 then s1.signal (BitVec.ofNat 10 (s.pinIndex p)) 1
    else s1

/-- LIT is reached: the power state alone. -/
def State.rise (s : State) : State :=
  { s with power := { s.power with state := .lit, target := none, waking := false, entered := s.now, quietSince := none } }

/-- The exit from below HUSH: what waited during the sleep follows in the order strobes, doorbells, period starts and pins. -/
def State.climb (s : State) : State :=
  let s1 := if s.power.state = .shuttered then s.refill.forAll allChans fun c s => s.refetch c else s
  let s2 := s1.clocksUp.rise.wakeRecord
  let s3 : State := { s2 with guard := { s2.guard with sramRead := 0, thisPass := [] } }
  let s4 := s3.forAll allPages fun p s => s.applyMissed p
  let s5 := s4.ringHeldBells.forAll allChans fun c s => s.releasePending c
  (s5.forAll allPins fun p s => s.deliverEdge p).go allChans

/-- The snapshot fails its CRC: the effect of RESET_N, with RESTORE_FAILED and ALERT_N (R615). -/
def State.failRestore (s : State) : State :=
  let s1 := s.restart 4
  ({ s1 with power := { s1.power with restoreFailed := true } }).raiseAlert 7

/-- EXIT_TO_LIT (R605, R607, R609, R613, R615): a wake event has come, and REFCLK is there for the root PLL. -/
def execExitToLit (snapshotGood : Bool) (s : State) : Result :=
  let p := s.power.state
  if s.power.waking = false ∨ p = .lit then .next s
  else if p = .hush then .next s.rise
  else if 3 ≤ p.code ∧ s.tb.refclkPresent = false then .next s
  else if p = .shuttered ∧ snapshotGood = false then .next s.failRestore
  else .next s.climb

end Sys2Proof.Machine
end

