-- ==== Sys2Proof/Machine/Startup.lean ====
section
/-! DEFINITION. The start-up sequence and the confirmation of a boot (R562, R563, R621 to R628, R636, R641 to R645, R756 to R759). -/

namespace Sys2Proof.Machine

/-- The state with the start-up record changed. -/
def State.updBoot (s : State) (f : Boot → Boot) : State := { s with boot := f s.boot }

/-- The next start-up step begins. -/
def State.toStep (s : State) (n : Nat) : State := s.updBoot fun b => { b with step := BitVec.ofNat 4 n }

/-- A start-up step fails: ALERT_N and FAULTED (R622, R908). -/
def State.failStart (s : State) (alert : Nat) : State := (s.raiseAlert alert).enterFaulted (BitVec.ofNat 8 alert)

/-! ### Steps 1 to 4 -/

/-- Step 1: REFCLK is detected (R84). -/
def State.startRefclk (s : State) (i : StartupInput) : State :=
  if i.good then (s.updTb fun t => { t with refclkPresent := true }).toStep 2
  else (s.updTb fun t => { t with refclkLost := true }).failStart 0

/-- Step 2: the root PLL locks, and the straps are sampled after POR_N (R621). -/
def State.startPll (s : State) (i : StartupInput) : State :=
  if i.good then ((s.updTb fun t => { t with pllLock := true, fineValid := true }).updBoot fun b => { b with straps := i.straps }).toStep 3
  else s.failStart 1

/-- What runs in this boot: ROM alone where BOOT_SAFE is strapped or after three failed boots (R219, R644, R645). An empty active set is no ROM-only boot (DEDUCED). -/
def Boot.chooseSet (b : Boot) : Boot :=
  if !(bitAt b.straps 3) then { b with romOnly := true, romCause := 1 }
  else if b.failedBoots = 3 then { b with romOnly := true, romCause := 2, activeSet := 0, failedBoots := 0 }
  else b

/-- Step 3: the prompt book is loaded (R621, R624). -/
def State.startBook (s : State) (i : StartupInput) : State :=
  let s1 := if s.boot.resetCause = 0 then s else s.updBoot fun b => { b with straps := i.straps }
  if !(i.bootRecordOk && i.remapOk) then (s1.updBoot fun b => { b with bootRecord := true }).failStart 6
  else
    let s2 := if i.calibrationOk then s1 else (s1.updBoot fun b => { b with calDefault := true }).raiseAlert 5
    (s2.updBoot Boot.chooseSet).toStep 4

/-- Step 4: every image of the set to run is checked (R641). -/
def State.startPatches (s : State) (i : StartupInput) : State :=
  let bad := (slotsOf s.boot.activeSet).any fun n =>
    let x := s.boot.patches.look (BitVec.ofNat 4 n)
    x.state != .staged || (x.judge s.boot.rollback).isSome
  if !s.boot.romOnly && s.boot.activeSet != 0 && (bad || !i.imagesOk) then
    (s.updBoot fun b => { b with romOnly := true, romCause := 3, activeSet := 0 }).toStep 5
  else s.toStep 5

/-! ### Step 5: DRAM (R625, R750, R754 to R759) -/

/-- A geometry word without memory, for a cause. -/
def emptyGeom (cause position : Nat) (registered interleaved : Bool) : Dword :=
  BitVec.ofNat 32 (8 * flag registered + 16 * flag interleaved + 65536 * cause + 2 ^ 24 * position)

/-- A failing position is excused where a chip mark names it in its rank: training completes on the other 17 (R757). -/
def MemGuard.excuses (g : MemGuard) (dc1 : Bool) (found : Dword) : Bool :=
  decide (2 ≤ field found 19 16) && decide (field found 19 16 ≤ 5) &&
    g.marks.look (BitVec.ofNat 2 (2 * flag dc1 + flag (bitAt found 5))) == some (BitVec.ofNat 5 (field found 28 24))

/-- What training finds, without the failures that chip marks excuse. -/
def State.excused (s : State) (dc1 : Bool) (found : Dword) : Dword :=
  if s.guard.excuses dc1 found then found &&& ~~~(0x1F0F0000 : Dword) else found

/-- The geometry word of a channel after POR_N: what training finds, with the board's settings (R750, R756, R757). -/
def trainedGeom (populated registered interleaved : Bool) (found : Dword) : Dword :=
  let two := bitAt found 1
  let dense := bitAt found 2
  let cause := field found 19 16
  if !populated then emptyGeom 1 0x1F registered interleaved
  else if cause ≠ 0 then emptyGeom cause (field found 28 24) registered interleaved
  else if two && dense then emptyGeom 6 0x1F registered interleaved
  else BitVec.ofNat 32 (1 + 2 * flag two + 4 * flag dense + 8 * flag registered + 16 * flag interleaved +
    256 * (if two || dense then 32 else 16) + 2 ^ 24 * 0x1F)

/-- The geometry word of a channel after RESET_N: the stored results, unless the channel fails now (R618, R756). -/
def resumedGeom (stored found : Dword) : Dword :=
  let cause := field found 19 16
  if bitAt stored 0 && decide (cause ≠ 0) then emptyGeom cause (field found 28 24) (bitAt stored 3) (bitAt stored 4) else stored

/-- CAPACITY of a geometry word, and whether it stands for a failure. -/
def geomCapacity (g : Dword) : Nat := if bitAt g 0 then field g 15 8 else 0
def geomFailed (g : Dword) : Bool := decide (2 ≤ field g 19 16) && decide (field g 19 16 ≤ 7)

/-- A channel is treated as empty (R625). -/
def withoutMemory (g : Dword) : Dword := g &&& ~~~(0xFF01 : Dword)

/-- In interleaved mode the channels stand or fall together (R625, R758). -/
def pairGeoms (g0 g1 : Dword) : Dword × Dword :=
  if !(bitAt g0 4 || bitAt g1 4) then (g0, g1)
  else if geomFailed g0 || geomFailed g1 then (withoutMemory g0, withoutMemory g1)
  else if geomCapacity g0 ≠ geomCapacity g1 then (emptyGeom 7 0x1F (bitAt g0 3) true, emptyGeom 7 0x1F (bitAt g1 3) true)
  else (g0, g1)

/-- Step 5: the channels are trained, or resumed from self-refresh (R622, R625, R757, R759). -/
def State.startDram (s : State) (i : StartupInput) : State :=
  let board := s.devReg32 0xB08
  let inter := bitAt board 0
  let old := s.devReg 0xB10
  let por := decide (s.boot.resetCause = 0)
  let f0 := s.excused false i.geom0
  let f1 := s.excused true i.geom1
  let g0 := if por then trainedGeom (bitAt board 3) (bitAt board 1) inter f0 else resumedGeom (lo32 old) f0
  let g1 := if por then trainedGeom (bitAt board 4) (bitAt board 2) inter f1 else resumedGeom (hi32 old) f1
  let g := pairGeoms g0 g1
  let fail : BitVec 2 := BitVec.ofNat 2 (flag (geomFailed g.1) + 2 * flag (geomFailed g.2))
  let s1 : State := { s.setDevBoth 0xB10 (join64 g.1 g.2) with dram := { s.dram with selfRefresh := false } }
  let s2 := (s1.updBoot fun b => { b with dramFail := fail }).toStep 6
  if fail = 0 then s2 else s2.raiseAlert 4

/-! ### Steps 6 to 10 -/

/-- Step 7: every memory is written with zero data and valid check bits; after RESET_N the DRAM keeps its contents (R562, R622). -/
def State.startFill (s : State) : State :=
  let dram := if s.boot.resetCause = 0 then [] else s.mem.dram
  let s1 : State := { s with mem := { wing := [], dram := dram }, guard := { s.guard with wingBad := [] } }
  (s1.enterDev .check).toStep 8

/-- Step 8: the checkers are tested (R563). -/
def State.startCheck (s : State) (i : StartupInput) : State :=
  let pass := decide (i.selfCheck = 0)
  let word : Dword := BitVec.ofNat 32 (1 + 2 * flag pass + 4 * i.selfCheck.toNat)
  let s1 : State := { s with guard := { s.guard with selfCheck := word } }
  if pass then (s1.updHealth fun h => { h with lifeBoots := h.lifeBoots + 1 }).toStep 9 else s1.failStart 3

/-- HOUSE_ONLY is reached: the BOOT record, and the completion of a FULL_DEVICE test that led here (R574, R794). -/
def State.reachHouseOnly (s : State) : State :=
  let auto := bitAt s.boot.straps 2
  let s1 := s.enterDev .houseOnly
  let s2 := s1.updBoot fun b => { b with servingSince := some s.now, restoreStatus := if auto then 0 else 0xFF }
  let s3 := (s2.note 0 0x01 none none (lo32 s2.devBoot)).toStep (if auto then 10 else 11)
  match s3.boot.bistDue with
  | none => s3
  | some (r, st, a, b) => (s3.updBoot fun x => { x with bistDue := none }).complete r 0x58 { status := st, dw2 := a, dw3 := b } []

/-- Step 9: the prompter is released and Heline boots; a stall ends in FAULTED (R220, R643). -/
def State.startPrompter (s : State) (i : StartupInput) : State :=
  if i.good then s.reachHouseOnly else s.countFailedBoot.failStart 2

/-- The valid snapshot of slots 0 to 2 with the newest creation record: its boot, then its stamp (R621, R633). -/
def Boot.newest (b : Boot) : Option (BitVec 2) :=
  let order (k : BitVec 2) : Nat := match b.snapshots.look k with | some g => g.boots.toNat * 2 ^ 64 + g.stamp.toNat | none => 0
  ([0, 1, 2] : List (BitVec 2)).foldl (fun best k =>
    if (b.snapshots.look k).isNone then best
    else match best with
      | none => some k
      | some j => if order j < order k then some k else best) none

/-- RESTORE_SLOT of the straps; 0b11 names the newest snapshot (R621). -/
def Boot.restoreSlot (b : Boot) : Option (BitVec 2) :=
  let n := field b.straps 1 0
  if n = 3 then b.newest else some (BitVec.ofNat 2 n)

/-- Step 10: the automatic restore, its status to DEV_BOOT and the House (R636). -/
def State.autoRestore (s : State) (i : StartupInput) : State :=
  let ended (s : State) (st : Byte) (slot : BitVec 2) : State :=
    ((s.updBoot fun b => { b with restoreStatus := st, restoreSlotUsed := slot }).raiseHouse 12).toStep 11
  if s.prot.designated ∨ s.devState ≠ .houseOnly then ended s 0x0C 0
  else match s.boot.restoreSlot with
    | none => ended s 0x09 0
    | some slot =>
      match s.judgeSnapshot slot i.good with
      | .error r => ended s r.status 0
      | .ok g => ended (s.install g) 0 slot

/-- STARTUP_STEP (R622): the step in progress ends, and the next begins. -/
def execStartupStep (i : StartupInput) (s : State) : Result :=
  if s.devState = .faulted then .next s
  else .next (match s.boot.step.toNat with
    | 1 => s.startRefclk i
    | 2 => s.startPll i
    | 3 => s.startBook i
    | 4 => s.startPatches i
    | 5 => s.startDram i
    | 6 => s.toStep 7
    | 7 => s.startFill
    | 8 => s.startCheck i
    | 9 => s.startPrompter i
    | 10 => s.autoRestore i
    | _ => s)

/-! ### Confirmation (R642) -/

/-- Ticks of service that confirm a boot: 10 s of time base. -/
def confirmTicks : Nat := 384000000000

/-- BOOT_CONFIRMATION (R642). -/
def execBootConfirmation (s : State) : Result :=
  let served := match s.boot.servingSince with | some t => due (t + BitVec.ofNat 64 confirmTicks) s.now | none => false
  let serving := s.devState == .houseOnly || s.devState == .staged
  if s.runningSet != 0 && !s.boot.confirmed && serving && served then
    let top := (slotsOf s.runningSet).foldl (fun m n => max m (s.patchVersion n).toNat) s.boot.rollback.toNat
    .next (s.updBoot fun b => { b with confirmed := true, failedBoots := 0, rollback := BitVec.ofNat 32 top })
  else .next s

end Sys2Proof.Machine
end

