-- ==== Sys2Proof/Machine/Dispatch.lean ====
section
/-! DEFINITION. The meaning of every command: one arm per constructor. -/

namespace Sys2Proof.Machine

def exec (i : Instr) (s : State) : Host.Outcome State Fault Refusal :=
  match i with
  | .identify p => Sys2Proof.Machine.execIdentify p s
  | .getState p => Sys2Proof.Machine.execGetState p s
  | .setFeature p => Sys2Proof.Machine.execSetFeature p s
  | .getFeature p => Sys2Proof.Machine.execGetFeature p s
  | .echo p => Sys2Proof.Machine.execEcho p s
  | .abortCommand p => Sys2Proof.Machine.execAbortCommand p s
  | .createCq p => Sys2Proof.Machine.execCreateCq p s
  | .createSq p => Sys2Proof.Machine.execCreateSq p s
  | .deleteSq p => Sys2Proof.Machine.execDeleteSq p s
  | .deleteCq p => Sys2Proof.Machine.execDeleteCq p s
  | .bindChannel p => Sys2Proof.Machine.execBindChannel p s
  | .unbindChannel p => Sys2Proof.Machine.execUnbindChannel p s
  | .channelConfig p => Sys2Proof.Machine.execChannelConfig p s
  | .channelStart p => Sys2Proof.Machine.execChannelStart p s
  | .channelStop p => Sys2Proof.Machine.execChannelStop p s
  | .channelDrain p => Sys2Proof.Machine.execChannelDrain p s
  | .channelReset p => Sys2Proof.Machine.execChannelReset p s
  | .channelStatus p => Sys2Proof.Machine.execChannelStatus p s
  | .cueAlloc p => Sys2Proof.Machine.execCueAlloc p s
  | .cueFree p => Sys2Proof.Machine.execCueFree p s
  | .cueSet p => Sys2Proof.Machine.execCueSet p s
  | .propPoolConfig p => Sys2Proof.Machine.execPropPoolConfig p s
  | .actConfig p => Sys2Proof.Machine.execActConfig p s
  | .actStart p => Sys2Proof.Machine.execActStart p s
  | .actStop p => Sys2Proof.Machine.execActStop p s
  | .streamConfig p => Sys2Proof.Machine.execStreamConfig p s
  | .linkUp p => Sys2Proof.Machine.execLinkUp p s
  | .linkDown p => Sys2Proof.Machine.execLinkDown p s
  | .pinAssign p => Sys2Proof.Machine.execPinAssign p s
  | .protectPropose p => Sys2Proof.Machine.execProtectPropose p s
  | .protectCountersign p => Sys2Proof.Machine.execProtectCountersign p s
  | .protectWithdraw p => Sys2Proof.Machine.execProtectWithdraw p s
  | .protectRead p => Sys2Proof.Machine.execProtectRead p s
  | .powerState p => Sys2Proof.Machine.execPowerState p s
  | .memLogRead p => Sys2Proof.Machine.execMemLogRead p s
  | .retirePage p => Sys2Proof.Machine.execRetirePage p s
  | .markChip p => Sys2Proof.Machine.execMarkChip p s
  | .scrubConfig p => Sys2Proof.Machine.execScrubConfig p s
  | .scrubNow p => Sys2Proof.Machine.execScrubNow p s
  | .runBist p => Sys2Proof.Machine.execRunBist p s
  | .bistResult p => Sys2Proof.Machine.execBistResult p s
  | .traceConfig p => Sys2Proof.Machine.execTraceConfig p s
  | .traceRead p => Sys2Proof.Machine.execTraceRead p s
  | .timeSet p => Sys2Proof.Machine.execTimeSet p s
  | .timeAdjust p => Sys2Proof.Machine.execTimeAdjust p s
  | .timeCapture p => Sys2Proof.Machine.execTimeCapture p s
  | .patchStage p => Sys2Proof.Machine.execPatchStage p s
  | .patchActivate p => Sys2Proof.Machine.execPatchActivate p s
  | .patchList p => Sys2Proof.Machine.execPatchList p s
  | .configSnapshot p => Sys2Proof.Machine.execConfigSnapshot p s
  | .configRestore p => Sys2Proof.Machine.execConfigRestore p s
  | .move c => Sys2Proof.Machine.execMove c s
  | .runScript c => Sys2Proof.Machine.execRunScript c s
  | .fill c => Sys2Proof.Machine.execFill c s
  | .cue c => Sys2Proof.Machine.execCue c s
  | .callChain c => Sys2Proof.Machine.execCallChain c s
  | .link c => Sys2Proof.Machine.execLink c s
  | .scriptMove c => Sys2Proof.Machine.execScriptMove c s
  | .move3 c => Sys2Proof.Machine.execMove3 c s
  | .nop c => Sys2Proof.Machine.execNop c s
  | .seta c => Sys2Proof.Machine.execSeta c s
  | .adda c => Sys2Proof.Machine.execAdda c s
  | .setk c => Sys2Proof.Machine.execSetk c s
  | .addk c => Sys2Proof.Machine.execAddk c s
  | .loop c => Sys2Proof.Machine.execLoop c s
  | .branch c => Sys2Proof.Machine.execBranch c s
  | .endScript c => Sys2Proof.Machine.execEndScript c s
  | .halt c => Sys2Proof.Machine.execHalt c s
  | .waitCue c => Sys2Proof.Machine.execWaitCue c s
  | .waitt c => Sys2Proof.Machine.execWaitt c s
  | .signal c => Sys2Proof.Machine.execSignal c s
  | .fence c => Sys2Proof.Machine.execFence c s
  | .take c => Sys2Proof.Machine.execTake c s
  | .give c => Sys2Proof.Machine.execGive c s
  | .stamp c => Sys2Proof.Machine.execStamp c s
  | .irq c => Sys2Proof.Machine.execIrq c s
  | .waitTimeout c => Sys2Proof.Machine.execWaitTimeout c s
  | .takeTimeout c => Sys2Proof.Machine.execTakeTimeout c s
  | .waittInstant c => Sys2Proof.Machine.execWaittInstant c s
  | .sqTailDoorbell via t q value => Sys2Proof.Machine.execSqTailDoorbell via t q value s
  | .cqHeadDoorbell via t q value => Sys2Proof.Machine.execCqHeadDoorbell via t q value s
  | .sqEntryFetch t q idx ended bytes ecc => Sys2Proof.Machine.execSqEntryFetch t q idx ended bytes ecc s
  | .periodStart a => Sys2Proof.Machine.execPeriodStart a s
  | .curtain c => Sys2Proof.Machine.execCurtain c s
  | .callTime => Sys2Proof.Machine.execCallTime s
  | .timePaceRelease c => Sys2Proof.Machine.execTimePaceRelease c s
  | .rateCredit c => Sys2Proof.Machine.execRateCredit c s
  | .admission h => Sys2Proof.Machine.execAdmission h s
  | .beat h => Sys2Proof.Machine.execBeat h s
  | .readDataReturn c ended bytes ecc => Sys2Proof.Machine.execReadDataReturn c ended bytes ecc s
  | .retry c => Sys2Proof.Machine.execRetry c s
  | .writeArrivalReadback c target ended bytes ecc => Sys2Proof.Machine.execWriteArrivalReadback c target ended bytes ecc s
  | .stopTakesEffect c => Sys2Proof.Machine.execStopTakesEffect c s
  | .shadowSwap c => Sys2Proof.Machine.execShadowSwap c s
  | .watchmanScan => Sys2Proof.Machine.execWatchmanScan s
  | .prompterStall => Sys2Proof.Machine.execPrompterStall s
  | .cfgCrcPass => Sys2Proof.Machine.execCfgCrcPass s
  | .proposalExpiry => Sys2Proof.Machine.execProposalExpiry s
  | .unlock a => Sys2Proof.Machine.execUnlock a s
  | .updateStrobe a => Sys2Proof.Machine.execUpdateStrobe a s
  | .timedStrobeArm a => Sys2Proof.Machine.execTimedStrobeArm a s
  | .discard a => Sys2Proof.Machine.execDiscard a s
  | .timedStrobeApply page => Sys2Proof.Machine.execTimedStrobeApply page s
  | .cfgRefWrite a => Sys2Proof.Machine.execCfgRefWrite a s
  | .tPropAlloc a => Sys2Proof.Machine.execTPropAlloc a s
  | .tPropFree a => Sys2Proof.Machine.execTPropFree a s
  | .tCueSet a => Sys2Proof.Machine.execTCueSet a s
  | .traceMark a => Sys2Proof.Machine.execTraceMark a s
  | .softReset a => Sys2Proof.Machine.execSoftReset a s
  | .adminEnable a => Sys2Proof.Machine.execAdminEnable a s
  | .adminDisable a => Sys2Proof.Machine.execAdminDisable a s
  | .shadowArm a => Sys2Proof.Machine.execShadowArm a s
  | .shadowDisarm a => Sys2Proof.Machine.execShadowDisarm a s
  | .strobeArm a => Sys2Proof.Machine.execStrobeArm a s
  | .ppsOutConfig a => Sys2Proof.Machine.execPpsOutConfig a s
  | .stageManagerDesignation a => Sys2Proof.Machine.execStageManagerDesignation a s
  | .memBoardWrite a => Sys2Proof.Machine.execMemBoardWrite a s
  | .apertureMove a => Sys2Proof.Machine.execApertureMove a s
  | .sysrefArm a => Sys2Proof.Machine.execSysrefArm a s
  | .prbsErrRead a => Sys2Proof.Machine.execPrbsErrRead a s
  | .pinOutWrite a => Sys2Proof.Machine.execPinOutWrite a s
  | .viewWrite a => Sys2Proof.Machine.execViewWrite a s
  | .lowWordRead a => Sys2Proof.Machine.execLowWordRead a s
  | .lowWordWrite a => Sys2Proof.Machine.execLowWordWrite a s
  | .rearm a => Sys2Proof.Machine.execRearm a s
  | .registerWrite a => Sys2Proof.Machine.execRegisterWrite a s
  | .read addr tokens last more => Sys2Proof.Machine.execRead addr tokens last more s
  | .write addr bytes => Sys2Proof.Machine.execWrite addr bytes s
  | .houseWordPerform => Sys2Proof.Machine.execHouseWordPerform s
  | .status addr full => Sys2Proof.Machine.execStatus addr full s
  | .mboxPush addr bytes => Sys2Proof.Machine.execMboxPush addr bytes s
  | .mboxPop addr bytes => Sys2Proof.Machine.execMboxPop addr bytes s
  | .bar2Access a => Sys2Proof.Machine.execBar2Access a s
  | .bar4Access a => Sys2Proof.Machine.execBar4Access a s
  | .postedWriteDrain port ecc => Sys2Proof.Machine.execPostedWriteDrain port ecc s
  | .bar3Access port write off size data => Sys2Proof.Machine.execBar3Access port write off size data s
  | .configurationRequest a => Sys2Proof.Machine.execConfigurationRequest a s
  | .receivedCompletion port tag status bytes => Sys2Proof.Machine.execReceivedCompletion port tag status bytes s
  | .completionTimeout port tag => Sys2Proof.Machine.execCompletionTimeout port tag s
  | .lbReadyTimeout => Sys2Proof.Machine.execLbReadyTimeout s
  | .perstN port low => Sys2Proof.Machine.execPerstN port low s
  | .hotReset port => Sys2Proof.Machine.execHotReset port s
  | .pcieLinkDown port => Sys2Proof.Machine.execPcieLinkDown port s
  | .ppsIn vernier => Sys2Proof.Machine.execPpsIn vernier s
  | .atPpsTimeout => Sys2Proof.Machine.execAtPpsTimeout s
  | .slewEnd => Sys2Proof.Machine.execSlewEnd s
  | .ppsOut => Sys2Proof.Machine.execPpsOut s
  | .strobeEvent n => Sys2Proof.Machine.execStrobeEvent n s
  | .captureEdge n rise vernier => Sys2Proof.Machine.execCaptureEdge n rise vernier s
  | .refclkLoss => Sys2Proof.Machine.execRefclkLoss s
  | .refclkReturn => Sys2Proof.Machine.execRefclkReturn s
  | .pllUnlock => Sys2Proof.Machine.execPllUnlock s
  | .dreq p level => Sys2Proof.Machine.execDreq p level s
  | .cueIn p rise => Sys2Proof.Machine.execCueIn p rise s
  | .wake p rise => Sys2Proof.Machine.execWake p rise s
  | .pinSettleEnd p => Sys2Proof.Machine.execPinSettleEnd p s
  | .rxUnitAppend e bytes stamp => Sys2Proof.Machine.execRxUnitAppend e bytes stamp s
  | .txTake e len ecc => Sys2Proof.Machine.execTxTake e len ecc s
  | .tdmMasterFrame n => Sys2Proof.Machine.execTdmMasterFrame n s
  | .tdmFrameSync n bit => Sys2Proof.Machine.execTdmFrameSync n bit s
  | .tdmLockLoss n => Sys2Proof.Machine.execTdmLockLoss n s
  | .sysrefEvent vernier edge misses => Sys2Proof.Machine.execSysrefEvent vernier edge misses s
  | .sysrefPulse => Sys2Proof.Machine.execSysrefPulse s
  | .devclkStamp vernier => Sys2Proof.Machine.execDevclkStamp vernier s
  | .devclkLoss => Sys2Proof.Machine.execDevclkLoss s
  | .codeGroupSync n => Sys2Proof.Machine.execCodeGroupSync n s
  | .ilas n mismatch => Sys2Proof.Machine.execIlas n mismatch s
  | .frameRelease n fits => Sys2Proof.Machine.execFrameRelease n fits s
  | .syncinHigh n => Sys2Proof.Machine.execSyncinHigh n s
  | .syncinLow n octets => Sys2Proof.Machine.execSyncinLow n octets s
  | .codeGroupError lane => Sys2Proof.Machine.execCodeGroupError lane s
  | .laneLockLoss lane => Sys2Proof.Machine.execLaneLockLoss lane s
  | .linkUpTimeout l bitClock => Sys2Proof.Machine.execLinkUpTimeout l bitClock s
  | .idleDescent => Sys2Proof.Machine.execIdleDescent s
  | .descent => Sys2Proof.Machine.execDescent s
  | .exitToLit snapshotGood => Sys2Proof.Machine.execExitToLit snapshotGood s
  | .porN => Sys2Proof.Machine.execPorN s
  | .resetN => Sys2Proof.Machine.execResetN s
  | .startupStep answer => Sys2Proof.Machine.execStartupStep answer s
  | .bootConfirmation => Sys2Proof.Machine.execBootConfirmation s
  | .dramScrubRead dc line ecc => Sys2Proof.Machine.execDramScrubRead dc line ecc s
  | .sramScrub fifo word ecc => Sys2Proof.Machine.execSramScrub fifo word ecc s
  | .scrubNowDone found => Sys2Proof.Machine.execScrubNowDone found s
  | .retirementSwitch found => Sys2Proof.Machine.execRetirementSwitch found s
  | .summaryWrite => Sys2Proof.Machine.execSummaryWrite s
  | .refresh rank postpone => Sys2Proof.Machine.execRefresh rank postpone s
  | .dramTemperaturePoll hot => Sys2Proof.Machine.execDramTemperaturePoll hot s
  | .thermalSample tj => Sys2Proof.Machine.execThermalSample tj s
  | .thermalBudgetUpdate => Sys2Proof.Machine.execThermalBudgetUpdate s
  | .lifeWriteback => Sys2Proof.Machine.execLifeWriteback s
  | .healthEvaluation => Sys2Proof.Machine.execHealthEvaluation s
  | .rotatingTest => Sys2Proof.Machine.execRotatingTest s
  | .inServiceFault f => Sys2Proof.Machine.execInServiceFault f s
  | .handoverSwitch => Sys2Proof.Machine.execHandoverSwitch s
  | .bistTestEnd target unit observed failing passed => Sys2Proof.Machine.execBistTestEnd target unit observed failing passed s
  | .traceExport => Sys2Proof.Machine.execTraceExport s
  | .extest => Sys2Proof.Machine.execExtest s
  | .idcode => Sys2Proof.Machine.execIdcode s
  | .samplePreload => Sys2Proof.Machine.execSamplePreload s
  | .highz => Sys2Proof.Machine.execHighz s
  | .clamp => Sys2Proof.Machine.execClamp s
  | .extestPulse => Sys2Proof.Machine.execExtestPulse s
  | .extestTrain => Sys2Proof.Machine.execExtestTrain s
  | .bypass => Sys2Proof.Machine.execBypass s
  | .trstN => Sys2Proof.Machine.execTrstN s
  | .fetchReturn c ended bytes ecc => Sys2Proof.Machine.execFetchReturn c ended bytes ecc s
  | .longCommandFinish source ended => Sys2Proof.Machine.execLongCommandFinish source ended s
  | .resetProofTimeout c => Sys2Proof.Machine.execResetProofTimeout c s
  | .hostLinkUp port speed width => Sys2Proof.Machine.execHostLinkUp port speed width s
  | .unlockWindowExpiry page via => Sys2Proof.Machine.execUnlockWindowExpiry page via s
  | .pulseEnd o => Sys2Proof.Machine.execPulseEnd o s
  | .pinParkEnd p => Sys2Proof.Machine.execPinParkEnd p s
  | .lbBeatEnd data => Sys2Proof.Machine.execLbBeatEnd data s
  | .writeBurstComplete w ended ecc => Sys2Proof.Machine.execWriteBurstComplete w ended ecc s
  | .laneLock lane => Sys2Proof.Machine.execLaneLock lane s
  | .misplacedAlignmentCharacter lane => Sys2Proof.Machine.execMisplacedAlignmentCharacter lane s
  | .devclkReturn => Sys2Proof.Machine.execDevclkReturn s
  | .lmfcBoundary l => Sys2Proof.Machine.execLmfcBoundary l s

end Sys2Proof.Machine
end

