-- ==== Sys2Proof/Machine/Tick.lean ====
section
/-! DEFINITION. The passing of time while no command waits (R47 to R51, R66, R67, R598, R796; log entry 2). -/

namespace Sys2Proof.Machine

/-- What a number of ticks adds to the accumulator beyond the ticks themselves, in units of 2^-40 tick: the trim, and the slew while it lasts, which ends at the offset exactly (R49, R66, R67). -/
def TimeBase.extra (t : TimeBase) (n : Nat) : Int × Nat :=
  let corr := min (n * t.slewRate.toNat) t.slewLeft
  ((n : Int) * t.trim.toInt + (if t.slewNeg then -(corr : Int) else (corr : Int)), corr)

/-- The time base counts `n` ticks of an unadjusted clock (R49, R51). -/
def TimeBase.count (t : TimeBase) (n : Nat) : TimeBase :=
  let x := t.extra n
  let sum : Int := (t.acc.toNat : Int) + (n : Int) * 2 ^ 40 + x.1
  { t with
    time := t.time + BitVec.ofInt 64 (sum / 2 ^ 40)
    acc := BitVec.ofInt 40 (sum % 2 ^ 40)
    slewLeft := t.slewLeft - x.2 }

/-- A REFCLK edge: what the time base then reads is what it keeps if REFCLK is lost (R960). -/
def TimeBase.refEdge (t : TimeBase) : TimeBase :=
  { t with tbPhase := 0, refclkCount := t.refclkCount + 1, refTime := t.time, refAcc := t.acc }

/-- One CLK_TB cycle, of 24 in a REFCLK period (R47, R49). -/
def TimeBase.fineTick (t : TimeBase) : TimeBase :=
  let u := t.count 16
  if t.tbPhase < 23 then { u with tbPhase := t.tbPhase + 1 } else u.refEdge

/-- The rest of a REFCLK period, while the root PLL is off (R51). -/
def TimeBase.coast (t : TimeBase) : TimeBase :=
  (t.count (16 * (24 - t.tbPhase % 24))).refEdge

/-- The time base after one cycle; without REFCLK it holds its value (R51, R84, R960). -/
def TimeBase.tick (t : TimeBase) : TimeBase :=
  if !t.refclkPresent then t else if t.pllLock then t.fineTick else t.coast

/-- One cycle passes: the time base counts, one staged trace record is written at a CLK_CORE edge, the local bus takes a configuration that waited (R743), and the part sees whether it may descend (R602, R796); with a new CLK_CORE edge the signals of the last are past (R846); at a CLK_REG edge the W1C bits are noted (R18); SLEW_END ends a slew that has reached its offset. -/
def tick (s : State) : State :=
  let t := s.tb.tick
  let s1 : State := { s with tb := t }
  let s2 : State := if t.tbPhase % 3 = 0 then { s1 with trace := s1.trace.drainOne (bitAt (s1.devReg 0x0BC0) 1) } else s1
  let s3 := s2.watchIdle.freeLb
  let s4 := if s3.coreEdge = s.coreEdge then s3 else { s3 with edgeSignals := [] }
  if t.tbPhase = 0 then s4.sampleBits else s4

end Sys2Proof.Machine
end

