-- ==== Sys2Proof/WellFormed.lean ====
section
/-! DEFINITION. Which commands and events the hardware can bring: numbers within the part, byte enables that fit their bytes, link speeds and widths of R648. -/

namespace Sys2Proof

/-- The part has channels 0 to 95 (R181). -/
def chanOk (c : ChanId) : Bool := decide (c.toNat < 96)

/-- The part has pins MFP0 to MFP47 (chapter 22). -/
def pinOk (p : PinId) : Bool := decide (p.toNat < 48)

/-- The part has stagehand units 0 to 13 (chapter 15). -/
def unitOk (u : UnitId) : Bool := decide (u.toNat < 14)

/-- The part has logical stagehands SH0 to SH11 (R427). -/
def shOk (h : ShId) : Bool := decide (h.toNat < 12)

/-- A tenant has SQ 0 to 64 (R262). -/
def sqOk (q : QueueId) : Bool := decide (q.toNat ≤ 64)

/-- A tenant has CQ 0 to 32 (R262). -/
def cqOk (q : QueueId) : Bool := decide (q.toNat ≤ 32)

/-- A memory write carries one enable for each byte (R655). -/
def barOk (a : BarAccess) : Bool := !a.write || a.bytes.length == a.enables.length

/-- A host link trains to a speed of 2.5 to 8 GT/s and a width of 1, 2 or 4 lanes (R648). -/
def hostLinkOk (speed : BitVec 2) (width : BitVec 3) : Bool := speed != 0 && (width == 1 || width == 2 || width == 4)

/-- A pulse ends on an output of the part. -/
def pulseOk : PulseOutput → Bool
  | .pps => true
  | .strobe _ => true
  | .sysref => true
  | .done p => pinOk p

/-- A write of a channel of the part, or a completion. -/
def writeKindOk : WriteKind → Bool
  | .channel c _ => chanOk c
  | .completion _ => true

/-- The operands of a command are such as the hardware can bring. -/
def Instr.wf : Instr → Bool
  | .identify _ => true
  | .getState _ => true
  | .setFeature _ => true
  | .getFeature _ => true
  | .echo _ => true
  | .abortCommand _ => true
  | .createCq _ => true
  | .createSq _ => true
  | .deleteSq _ => true
  | .deleteCq _ => true
  | .bindChannel _ => true
  | .unbindChannel _ => true
  | .channelConfig _ => true
  | .channelStart _ => true
  | .channelStop _ => true
  | .channelDrain _ => true
  | .channelReset _ => true
  | .channelStatus _ => true
  | .cueAlloc _ => true
  | .cueFree _ => true
  | .cueSet _ => true
  | .propPoolConfig _ => true
  | .actConfig _ => true
  | .actStart _ => true
  | .actStop _ => true
  | .streamConfig _ => true
  | .linkUp _ => true
  | .linkDown _ => true
  | .pinAssign _ => true
  | .protectPropose _ => true
  | .protectCountersign _ => true
  | .protectWithdraw _ => true
  | .protectRead _ => true
  | .powerState _ => true
  | .memLogRead _ => true
  | .retirePage _ => true
  | .markChip _ => true
  | .scrubConfig _ => true
  | .scrubNow _ => true
  | .runBist _ => true
  | .bistResult _ => true
  | .traceConfig _ => true
  | .traceRead _ => true
  | .timeSet _ => true
  | .timeAdjust _ => true
  | .timeCapture _ => true
  | .patchStage _ => true
  | .patchActivate _ => true
  | .patchList _ => true
  | .configSnapshot _ => true
  | .configRestore _ => true
  | .move c => chanOk c
  | .runScript c => chanOk c
  | .fill c => chanOk c
  | .cue c => chanOk c
  | .callChain c => chanOk c
  | .link c => chanOk c
  | .scriptMove c => chanOk c
  | .move3 c => chanOk c
  | .nop c => chanOk c
  | .seta c => chanOk c
  | .adda c => chanOk c
  | .setk c => chanOk c
  | .addk c => chanOk c
  | .loop c => chanOk c
  | .branch c => chanOk c
  | .endScript c => chanOk c
  | .halt c => chanOk c
  | .waitCue c => chanOk c
  | .waitt c => chanOk c
  | .signal c => chanOk c
  | .fence c => chanOk c
  | .take c => chanOk c
  | .give c => chanOk c
  | .stamp c => chanOk c
  | .irq c => chanOk c
  | .waitTimeout c => chanOk c
  | .takeTimeout c => chanOk c
  | .waittInstant c => chanOk c
  | .sqTailDoorbell _ _ q _ => sqOk q
  | .cqHeadDoorbell _ _ q _ => cqOk q
  | .sqEntryFetch _ q _ _ _ _ => sqOk q
  | .periodStart _ => true
  | .curtain c => chanOk c
  | .callTime => true
  | .timePaceRelease c => chanOk c
  | .rateCredit c => chanOk c
  | .admission h => shOk h
  | .beat h => shOk h
  | .readDataReturn c _ _ _ => chanOk c
  | .retry c => chanOk c
  | .writeArrivalReadback c _ _ _ _ => chanOk c
  | .stopTakesEffect c => chanOk c
  | .shadowSwap c => chanOk c
  | .watchmanScan => true
  | .prompterStall => true
  | .cfgCrcPass => true
  | .proposalExpiry => true
  | .unlock _ => true
  | .updateStrobe _ => true
  | .timedStrobeArm _ => true
  | .discard _ => true
  | .timedStrobeApply _ => true
  | .cfgRefWrite _ => true
  | .tPropAlloc _ => true
  | .tPropFree _ => true
  | .tCueSet _ => true
  | .traceMark _ => true
  | .softReset _ => true
  | .adminEnable _ => true
  | .adminDisable _ => true
  | .shadowArm _ => true
  | .shadowDisarm _ => true
  | .strobeArm _ => true
  | .ppsOutConfig _ => true
  | .stageManagerDesignation _ => true
  | .memBoardWrite _ => true
  | .apertureMove _ => true
  | .sysrefArm _ => true
  | .prbsErrRead _ => true
  | .pinOutWrite _ => true
  | .viewWrite _ => true
  | .lowWordRead _ => true
  | .lowWordWrite _ => true
  | .rearm _ => true
  | .registerWrite _ => true
  | .read _ _ _ _ => true
  | .write _ _ => true
  | .houseWordPerform => true
  | .status _ _ => true
  | .mboxPush _ _ => true
  | .mboxPop _ _ => true
  | .bar2Access a => barOk a
  | .bar4Access a => barOk a
  | .postedWriteDrain _ _ => true
  | .bar3Access _ _ _ _ _ => true
  | .configurationRequest _ => true
  | .receivedCompletion _ _ _ _ => true
  | .completionTimeout _ _ => true
  | .lbReadyTimeout => true
  | .perstN _ _ => true
  | .hotReset _ => true
  | .pcieLinkDown _ => true
  | .ppsIn _ => true
  | .atPpsTimeout => true
  | .slewEnd => true
  | .ppsOut => true
  | .strobeEvent _ => true
  | .captureEdge _ _ _ => true
  | .refclkLoss => true
  | .refclkReturn => true
  | .pllUnlock => true
  | .dreq p _ => pinOk p
  | .cueIn p _ => pinOk p
  | .wake p _ => pinOk p
  | .pinSettleEnd p => pinOk p
  | .rxUnitAppend _ _ _ => true
  | .txTake _ _ _ => true
  | .tdmMasterFrame _ => true
  | .tdmFrameSync _ _ => true
  | .tdmLockLoss _ => true
  | .sysrefEvent _ _ _ => true
  | .sysrefPulse => true
  | .devclkStamp _ => true
  | .devclkLoss => true
  | .codeGroupSync _ => true
  | .ilas _ _ => true
  | .frameRelease _ _ => true
  | .syncinHigh _ => true
  | .syncinLow _ _ => true
  | .codeGroupError _ => true
  | .laneLockLoss _ => true
  | .linkUpTimeout l _ => decide (l.toNat < 12)
  | .idleDescent => true
  | .descent => true
  | .exitToLit _ => true
  | .porN => true
  | .resetN => true
  | .startupStep _ => true
  | .bootConfirmation => true
  | .dramScrubRead _ _ _ => true
  | .sramScrub _ _ _ => true
  | .scrubNowDone _ => true
  | .retirementSwitch _ => true
  | .summaryWrite => true
  | .refresh _ _ => true
  | .dramTemperaturePoll _ => true
  | .thermalSample _ => true
  | .thermalBudgetUpdate => true
  | .lifeWriteback => true
  | .healthEvaluation => true
  | .rotatingTest => true
  | .inServiceFault f => unitOk f.unit && f.stale.all chanOk
  | .handoverSwitch => true
  | .bistTestEnd _ unit _ _ _ => unitOk unit
  | .traceExport => true
  | .extest => true
  | .idcode => true
  | .samplePreload => true
  | .highz => true
  | .clamp => true
  | .extestPulse => true
  | .extestTrain => true
  | .bypass => true
  | .trstN => true
  | .fetchReturn c _ _ _ => chanOk c
  | .longCommandFinish _ _ => true
  | .resetProofTimeout c => chanOk c
  | .hostLinkUp _ speed width => hostLinkOk speed width
  | .unlockWindowExpiry _ _ => true
  | .pulseEnd o => pulseOk o
  | .pinParkEnd p => pinOk p
  | .lbBeatEnd _ => true
  | .writeBurstComplete w _ _ => writeKindOk w
  | .laneLock _ => true
  | .misplacedAlignmentCharacter _ => true
  | .devclkReturn => true
  | .lmfcBoundary _ => true

end Sys2Proof
end

