-- ==== Sys2Proof/Safety.lean ====
section
/-! DEFINITION. What statements speak of: a command that runs, a command packet that passes its checks, what reports leave alone, and the form of the state that every step keeps. -/

namespace Sys2Proof.Machine

/-- The command runs and leaves a state with a property. -/
def Ends (i : Instr) (s : State) (P : State → Prop) : Prop := ∃ t, exec i s = .next t ∧ P t

/-- The command runs to this state. -/
def Runs (i : Instr) (s t : State) : Prop := exec i s = .next t

/-- A packet that the prompter may take, whose opcode is that of the row, and that passes the checks of R243. -/
structure Serves (spec : CmdSpec) (checks : Cmd → State → Checks) (p : Packet) (s : State) : Prop where
  taken : s.mayTake p = true
  opcode : (s.cmdOf p).opcode.toNat = spec.opcode
  passes : (s.cmdOf p).judge spec (checks (s.cmdOf p) (s.takeOff p)) (s.takeOff p) = none

/-- A script whose next instruction, of the row's kind, may begin and passes its judgement (R359 to R361, R390, R397). -/
structure Executes (s : State) (c : ChanId) (op : ScriptOp) (i : Insn) (k : InsnCheck) : Prop where
  ready : s.scriptReady c = true
  held : (s.chan c).script.held = some i
  kind : scriptOp i.d0 = some op
  curtain : s.curtainHolds c (some op) = false
  spin : (s.chan c).script.spin < 65536 ∨ restsSpin op = true
  passes : s.judgeInsn c i op k = none

/-- A QUEUE channel with nothing in hand, outside a late scene, whose next entry is a descriptor of a type that keeps every rule of its check, where a chain has not spun (R259, R334, R340). -/
structure Takes (s : State) (c : ChanId) (ty : DescType) (w : Taken) : Prop where
  ready : s.readyToTake c = true
  next : s.nextEntry c = some w
  kind : descType w.dw = some ty
  spin : w.inChain = true → (s.chan c).spin < 256
  scene : (s.chan c).discard = none
  fields : descOffsets ty w.dw (s.chan c).actEn (s.profile (s.tenantOf c) (field (packetDw w.dw 0) 23 16 % 64)) = []
  place : (ty = .link → w.inChain = true) ∧ (ty = .callChain → w.inChain = false)
  cue : usesCue ty w.dw = true → (s.record (s.tenantOf c)).holdsCue (descCue w.dw).toNat = true

/-- The state in which a register write of a port is performed: the part is woken, and the posted writes of a host port have drained (R40, R484). -/
def State.arrival (s : State) (via : Via) : State :=
  match viaHost via with
  | some p => (s.touched via).drainAllPosted p
  | none => s.touched via

/-- The data of a register write, in place, and the bits that it names (R131, R132). -/
def partOf (a : RegWrite) : WritePart :=
  if a.eight then { view := viewOf a.off, data := a.data, sel := allBits }
  else if a.off.toNat % 8 = 4 then { view := viewOf a.off, data := (lo32 a.data).zeroExtend 64 <<< 32, sel := bits 63 32 }
  else { view := viewOf a.off, data := (lo32 a.data).zeroExtend 64, sel := bits 31 0 }

/-- A register write as its register sees it. -/
def State.written (s : State) (a : RegWrite) (h : Home) (r : RegSpec) : Write :=
  (s.arrival a.via).writeOf a.via a.page a.off h r [partOf a]

/-- A write that reaches a register whole, over a port that is up, while pages answer, and that neither its register, its guard nor WONCE turns away (R131, R141, R146, R148, R627). -/
structure Lands (a : RegWrite) (s : State) (h : Home) (r : RegSpec) : Prop where
  reaches : s.reaches a.via = true
  answers : (s.touched a.via).barsShut = false
  even : a.odd = false
  there : (s.arrival a.via).regAt a.via a.page a.off = some (h, r)
  size : sizeOk a.off a.eight = true
  whole : a.eight = r.wide
  only : r.only4 = true → a.eight = false
  bell : a.eight = true → (doorbellAt (baseOf a.off / 8 * 8)).isSome = false
  noHalf : (((s.arrival a.via).ctl a.page).view a.via).heldLow = none
  takes : (s.arrival a.via).judgeWrite (s.written a h r) = .takes
  once : (s.written a h r).onceHit = false
  guarded : (s.written a h r).guardHit = true → (s.arrival a.via).isOpen a.page a.via = true

/-- The state in which a write that lands is performed: a guarded one has closed its page (R141). -/
def State.opened (s : State) (a : RegWrite) (h : Home) (r : RegSpec) : State :=
  if (s.written a h r).guardHit then (s.arrival a.via).closePage a.page a.via else s.arrival a.via

/-- A write that lands, without the clears that an event of the same cycle wins over (R18). -/
def State.performed (s : State) (a : RegWrite) (h : Home) (r : RegSpec) : Write :=
  (s.opened a h r).eventsWin (s.written a h r)

/-- The state in which a write that lands has reached the copies of its register. -/
def State.landing (s : State) (a : RegWrite) (h : Home) (r : RegSpec) : State := (s.opened a h r).store1 (s.performed a h r)

/-- The rows of register writes, each with what a write must be to be a command of that row. -/
def rowsOf (a : RegWrite) : List (Bool × Instr) :=
  let both (p : Nat) := onDevice a p || onTenant a p
  [(true, .registerWrite a), (both 0x40, .unlock a),
    (both 0x48 && !(updateBit a 16) && !(updateBit a 17), .updateStrobe a),
    (both 0x48 && updateBit a 16 && !(updateBit a 17), .timedStrobeArm a), (both 0x48 && updateBit a 17, .discard a),
    (both 0x60, .cfgRefWrite a), (onTenant a 0x78, .tPropFree a), (onTenant a 0x80, .tCueSet a), (onDevice a 0xBD0, .traceMark a),
    (onDevice a 0x68 && decide (baseOf a.off % 8 = 4), .softReset a), (onTenant a 0x110 && lowBit a 31, .adminEnable a),
    (onTenant a 0x110 && !(lowBit a 31), .adminDisable a), (onSlot a 0x50 && lowBit a 0, .shadowArm a),
    (onSlot a 0x50 && !(lowBit a 0), .shadowDisarm a),
    (decide (a.page = .device) && decide (0x140 ≤ placeOf a) && decide (placeOf a < 0x180), .strobeArm a),
    (onDevice a 0x130, .ppsOutConfig a), (onDevice a 0x68 && decide (baseOf a.off % 8 = 0), .stageManagerDesignation a),
    (onDevice a 0xB08, .memBoardWrite a), (onDevice a 0x90 || onDevice a 0x98, .apertureMove a), (onDevice a 0x1850, .sysrefArm a),
    (onDevice a 0x988 || onTenant a 0x98, .pinOutWrite a), (decide (viewOf a.off ≠ 0), .viewWrite a), (both 0x28, .rearm a)]

/-- The rows of the prompter, with what they judge, part 1 of 3. -/
def prompterRows1 : List ((Packet → Instr) × CmdSpec × (Cmd → State → Checks)) :=
  [(.identify, specIdentify, checksIdentify),
    (.getState, specGetState, checksGetState),
    (.setFeature, specSetFeature, checksSetFeature),
    (.getFeature, specGetFeature, checksGetFeature),
    (.echo, specEcho, checksEcho),
    (.abortCommand, specAbortCommand, checksAbortCommand),
    (.createCq, specCreateCq, checksCreateCq),
    (.createSq, specCreateSq, checksCreateSq),
    (.deleteSq, specDeleteSq, checksDeleteSq),
    (.deleteCq, specDeleteCq, checksDeleteCq),
    (.bindChannel, specBindChannel, checksBindChannel),
    (.unbindChannel, specUnbindChannel, checksUnbindChannel),
    (.channelConfig, specChannelConfig, checksChannelConfig),
    (.channelStart, specChannelStart, checksChannelStart),
    (.channelStop, specChannelStop, stopChecks),
    (.channelDrain, specChannelDrain, stopChecks),
    (.channelReset, specChannelReset, stopChecks)]

/-- The rows of the prompter, with what they judge, part 2 of 3. -/
def prompterRows2 : List ((Packet → Instr) × CmdSpec × (Cmd → State → Checks)) :=
  [(.channelStatus, specChannelStatus, checksChannelStatus),
    (.cueAlloc, specCueAlloc, checksCueAlloc),
    (.cueFree, specCueFree, checksCueFree),
    (.cueSet, specCueSet, checksCueSet),
    (.propPoolConfig, specPropPoolConfig, checksPropPoolConfig),
    (.actConfig, specActConfig, checksActConfig),
    (.actStart, specActStart, checksActStart),
    (.actStop, specActStop, checksActStop),
    (.streamConfig, specStreamConfig, checksStreamConfig),
    (.linkUp, specLinkUp, checksLinkUp),
    (.linkDown, specLinkDown, checksLinkDown),
    (.pinAssign, specPinAssign, checksPinAssign),
    (.protectPropose, specProtectPropose, checksProtectPropose),
    (.protectCountersign, specProtectCountersign, checksProtectCountersign),
    (.protectWithdraw, specProtectWithdraw, checksProtectWithdraw),
    (.protectRead, specProtectRead, checksProtectRead),
    (.powerState, specPowerState, checksPowerState)]

/-- The rows of the prompter, with what they judge, part 3 of 3. -/
def prompterRows3 : List ((Packet → Instr) × CmdSpec × (Cmd → State → Checks)) :=
  [(.memLogRead, specMemLogRead, checksMemLogRead),
    (.retirePage, specRetirePage, checksRetirePage),
    (.markChip, specMarkChip, checksMarkChip),
    (.scrubConfig, specScrubConfig, checksScrubConfig),
    (.scrubNow, specScrubNow, checksScrubNow),
    (.runBist, specRunBist, checksRunBist),
    (.bistResult, specBistResult, checksBistResult),
    (.traceConfig, specTraceConfig, checksTraceConfig),
    (.traceRead, specTraceRead, checksTraceRead),
    (.timeSet, specTimeSet, checksTimeSet),
    (.timeAdjust, specTimeAdjust, checksTimeAdjust),
    (.timeCapture, specTimeCapture, checksTimeCapture),
    (.patchStage, specPatchStage, checksPatchStage),
    (.patchActivate, specPatchActivate, checksPatchActivate),
    (.patchList, specPatchList, checksPatchList),
    (.configSnapshot, specConfigSnapshot, checksConfigSnapshot),
    (.configRestore, specConfigRestore, checksConfigRestore)]

/-- The 51 rows of the prompter, each with its packet and what it judges (R221, R243). -/
def prompterRows : List ((Packet → Instr) × CmdSpec × (Cmd → State → Checks)) := prompterRows1 ++ prompterRows2 ++ prompterRows3

/-- What completions, interrupts and trace records leave alone of a tenant: every register but T_IRQ_STATUS, the page, the work SQs, the features. -/
structure TenantKept (n m : Tenant) : Prop where
  regs : ∀ i : BitVec 9, i ≠ 3 → m.regs.look i = n.regs.look i
  ctl : m.ctl = n.ctl
  sqs : ∀ q : QueueId, q ≠ 0 → m.sqs.look q = n.sqs.look q
  adminErr : m.adminErr = n.adminErr
  label : m.label = n.label
  failTrace : m.failTrace = n.failTrace
  starved : m.starved = n.starved

/-- What taking a packet, completions, interrupts and trace records leave alone: everything but the queues and rings, the mailbox, Wing SRAM, pending vectors, the trace and what has been sent out. -/
structure Kept (s t : State) : Prop where
  tb : t.tb = s.tb
  acts : t.acts = s.acts
  dev : t.dev = s.dev
  chans : t.chans = s.chans
  cues : t.cues = s.cues
  sh : t.sh = s.sh
  eps : t.eps = s.eps
  props : t.props = s.props
  prot : t.prot = s.prot
  devState : t.devState = s.devState
  long : t.long = s.long
  pinJob : t.pinJob = s.pinJob
  order : t.order = s.order
  hp0 : t.hp0 = { s.hp0 with pba := t.hp0.pba }
  hp1 : t.hp1 = { s.hp1 with pba := t.hp1.pba }
  dramBytes : t.mem.dram = s.mem.dram
  guard : t.guard = { s.guard with wingBad := t.guard.wingBad }
  health : t.health = s.health
  power : t.power = { s.power with suppressed := t.power.suppressed }
  boot : t.boot = s.boot
  intermission : t.intermission = s.intermission
  conv : t.conv = s.conv
  tdm : t.tdm = s.tdm
  lb : t.lb = s.lb
  lbDue : t.lbDue = s.lbDue
  lbTurn : t.lbTurn = s.lbTurn
  edgeBits : t.edgeBits = s.edgeBits
  edgeSignals : t.edgeSignals = s.edgeSignals
  dram : t.dram = s.dram
  pins : t.pins = s.pins
  jtag : t.jtag = s.jtag
  fresh : t.fresh = s.fresh
  pending : t.pending = s.pending
  tenants : ∀ u, TenantKept (s.tenants.look u) (t.tenants.look u)

/-- Address of the `k`-th entry of a CQ from its tail on. -/
def CompQueue.place (q : CompQueue) (k : Nat) : Addr := q.base + BitVec.ofNat 64 (16 * ((q.tail.toNat + k) % ringSize q.log2))

/-- An offset of Wing SRAM lies in the `n` bytes at a tagged address. -/
def inWing (a : Addr) (n off : Nat) : Prop := tagOf a = 0 ∧ offOf a ≤ off ∧ off < offOf a + n

/-- The form that every step keeps: both memories in canonical form (R27, R562). -/
def Inv (s : State) : Prop := s.mem.wf = true

end Sys2Proof.Machine
end

