-- ==== Sys2Proof/Certificates/Slice0/Obligations.lean ====
section
/-! DEFINITION. The statements about the ZFN-9616 that the provers settle. -/

open Sys2Proof Sys2Proof.Machine

/-- A step runs the command at the front of the queue. -/
def Obligations.StepRunsFront : Prop :=
  ∀ (c : Instr) (rest : List Instr) (s : State),
    step { s with pending := c :: rest } = exec c { s with pending := rest }

/-- On an empty queue one clock cycle passes (the model's choice, log entry 2). -/
def Obligations.StepIdleTicks : Prop :=
  ∀ s : State, s.pending = [] → ∃ t : State, step s = .next t ∧
    (s.tb.refclkPresent = false → t.tb = s.tb) ∧
    (s.tb.refclkPresent = true → s.tb.pllLock = true →
      let corr : Nat := min (16 * s.tb.slewRate.toNat) s.tb.slewLeft
      let sum : Int := (s.tb.acc.toNat : Int) + 16 * 2 ^ 40 + 16 * s.tb.trim.toInt + (if s.tb.slewNeg then -(corr : Int) else corr)
      t.tb.time = s.tb.time + BitVec.ofInt 64 (sum / 2 ^ 40) ∧ t.tb.acc = BitVec.ofInt 40 (sum % 2 ^ 40) ∧
      t.tb.slewLeft = s.tb.slewLeft - corr ∧ t.tb.tbPhase = (if s.tb.tbPhase < 23 then s.tb.tbPhase + 1 else 0)) ∧
    (s.lbDue = false → t.dev = s.dev) ∧ (t.coreEdge ≠ s.coreEdge → t.edgeSignals = []) ∧ (t.tb.tbPhase ≠ 0 → t.edgeBits = s.edgeBits) ∧
    t.mem = s.mem ∧ t.chans = s.chans ∧ t.tenants = s.tenants ∧ t.prot = s.prot ∧ t.house = s.house ∧
    t.out = s.out ∧ t.pending = []

/-- No word spells a command. -/
def Obligations.NoWordSpellsACommand : Prop :=
  ∀ (s : State) (nbits w : Nat), decodeTableWord nbits w = none ∧ s.withFetchWord nbits w = s

/-- What POR_N leaves by the rules. -/
def Obligations.ResetState : Prop :=
  State.reset.devState = .fill ∧ State.reset.boot.step = 1 ∧ State.reset.tb.time = 0 ∧ State.reset.tb.acc = 0 ∧
    State.reset.tb.timeValid = false ∧ State.reset.prot.designated = false ∧ State.reset.prot.epoch = 0 ∧
    (∀ t, (State.reset.record t).enabled = false) ∧
    (∀ c, (State.reset.chan c).state = .unbound ∧ (State.reset.chan c).retryLimit = 3) ∧
    (∀ a, (State.reset.acts.look a).running = false) ∧
    (∀ l, (State.reset.conv.links.look l).state = .down) ∧ (∀ n, (State.reset.tdm.look n).state = .down) ∧
    (∀ t, State.reset.tenReg t 0x10 = 3) ∧ hi32 (State.reset.devReg 0x20) = 0x3FFF ∧ State.reset.pending = []

/-- The memories are in canonical form after reset. -/
def Obligations.ResetInv : Prop :=
  Inv State.reset

/-- Every step keeps the memories in canonical form. -/
def Obligations.StepKeepsInv : Prop :=
  ∀ s t : State, Inv s → step s = .next t → Inv t

/-- The only stop is an event that no hardware brings. -/
def Obligations.OnlyMalformedFaults : Prop :=
  ∀ (i : Instr) (s : State), (∀ r, exec i s ≠ .refused r) ∧
    ∀ f, exec i s = .fault f → f = .malformedEvent ∧ i.wf = false ∧ ∀ s', exec i s' = .fault .malformedEvent

/-- A command that fails a check has no other effect, and an unassigned opcode is answered with INVALID_OPCODE. -/
def Obligations.FailedAndUnassignedCommandsAnswer : Prop :=
  (∀ (row : (Packet → Instr) × CmdSpec × (Cmd → State → Checks)), row ∈ prompterRows → ∀ (p : Packet) (s : State) (r : Reply),
    s.mayTake p = true → (s.cmdOf p).opcode.toNat = row.2.1.opcode →
    (s.cmdOf p).judge row.2.1 (row.2.2 (s.cmdOf p) (s.takeOff p)) (s.takeOff p) = some r →
    ∃ t : State, exec (row.1 p) s = .next t ∧ t = (s.takeOff p).complete (s.cmdOf p).ref (s.cmdOf p).opcode r [] ∧ Kept s t) ∧
  (∀ (row : (Packet → Instr) × CmdSpec × (Cmd → State → Checks)), row ∈ prompterRows → ∀ (p : Packet) (s : State),
    (s.mayTake p = false → exec (row.1 p) s = .next s) ∧
    (s.mayTake p = true → (s.cmdOf p).opcode.toNat ≠ row.2.1.opcode →
      exec (row.1 p) s = .next (if assignedOpcodes.contains (s.cmdOf p).opcode.toNat then s
        else (s.takeOff p).complete (s.cmdOf p).ref (s.cmdOf p).opcode { status := 0x08 } [])))

/-- A completion to the House, and one in an admin CQ in Wing SRAM. -/
def Obligations.CompletionsReachTheSender : Prop :=
  (∀ (s : State) (r : CmdRef) (op : Byte) (a : Reply) (result : List Byte), r.src = .house →
    s.house.waiting = [] → s.house.used + 16 + (pad16 result).length ≤ 4096 →
    let t := s.complete r op a result
    t.tenants = s.tenants ∧ t.mem = s.mem ∧ t.house.inbound = s.house.inbound ∧ t.house.waiting = [] ∧
    ∃ head : BitVec 16, t.house.outbound = s.house.outbound ++
      [({ status := a.status, sqId := 0xFF, covered := 1, tag := r.tag, head := head, dw2 := a.dw2, dw3 := a.dw3 }, result)]) ∧
  (∀ (s : State) (r : CmdRef) (op : Byte) (a : Reply) (u : TenantId), r.src = .tenant u → s.mem.wf = true →
    (s.cq u 0).state = .active → (s.cq u 0).held = [] → (s.cq u 0).full = false → (s.sq u 0).faultDue = none →
    (∀ x ∈ s.cplWrites, x.tenant = u → x.cq = 0 → x.sent = true) →
    let at_ := (s.cq u 0).place 0
    (s.cq u 0).tail.toNat < ringSize (s.cq u 0).log2 → tagOf at_ = 0 → s.checkAccess u at_ 16 true = none →
    let entry : Completion := ⟨a.status, 0, 1, r.tag, r.head, a.dw2, a.dw3⟩
    let t := s.complete r op a []
    (∀ i, (h : i < 16) → cellsRead t.mem.wing (offOf at_ + i) =
      nth (dwordBytes (entry.dwords (s.cq u 0).phase)) i 0) ∧
    (∀ off, ¬ inWing at_ 16 off → cellsRead t.mem.wing off = cellsRead s.mem.wing off) ∧ t.mem.dram = s.mem.dram ∧
    (t.cq u 0).tail = ringNext (s.cq u 0).log2 (s.cq u 0).tail ∧
    (t.cq u 0).phase = ((s.cq u 0).phase ^^ decide ((s.cq u 0).tail.toNat + 1 = ringSize (s.cq u 0).log2)) ∧
    (t.tenants.look u).taken = (s.tenants.look u).taken - 1 ∧ Kept s t)

/-- IDENTIFY, GET_STATE, SET_FEATURE, GET_FEATURE and ECHO. -/
def Obligations.GeneralCommands : Prop :=
  ∀ (p : Packet) (s : State), let c := s.cmdOf p; let u := s.takeOff p
    (Serves specEcho checksEcho p s → exec (.echo p) s = .next (u.answer c { dw2 := c.dw 2, dw3 := c.dw 3 })) ∧
    (Serves specGetState checksGetState p s → ∃ d, exec (.getState p) s = .next (u.answer c { dw2 := d, dw3 := u.prot.epoch }) ∧
      field d 3 0 = u.devState.code ∧ field d 7 5 = u.power.state.code ∧ bitAt d 8 = u.tb.timeValid ∧ bitAt d 9 = u.tb.fineValid ∧
      bitAt d 10 = u.prot.held.isSome) ∧
    (Serves specGetFeature checksGetFeature p s → ∃ v, u.feature c.target (c.f 2 7 0) = some v ∧
      exec (.getFeature p) s = .next (u.answer c { dw2 := v.1, dw3 := v.2 })) ∧
    (Serves specSetFeature checksSetFeature p s → ∃ v w, u.feature c.target (c.f 2 7 0) = some v ∧
      exec (.setFeature p) s = .next (w.answer c { dw2 := v.1 }) ∧
      (c.f 2 7 0 = 1 → w = u.updTenant c.target fun n => { n with label := c.dw 3 }) ∧
      (c.f 2 7 0 = 2 → w = u.updTenant c.target fun n => { n with failTrace := bitAt (c.dw 3) 0 }) ∧
      (c.f 2 7 0 = 1 ∨ c.f 2 7 0 = 2)) ∧
    (Serves specIdentify checksIdentify p s → ∃ r, r.length = 128 ∧
      exec (.identify p) s = .next (u.respond c r (dwordAt r 0, dwordAt r 1)))

/-- CREATE_CQ, CREATE_SQ, DELETE_SQ and DELETE_CQ, and what they leave unchanged. -/
def Obligations.QueueCommands : Prop :=
  (∀ (p : Packet) (s : State), let c := s.cmdOf p; let u := s.takeOff p; let q : QueueId := BitVec.ofNat 7 c.object
    (Serves specCreateSq checksCreateSq p s → ∃ w : State, exec (.createSq p) s = .next (w.answer c {}) ∧
      w = u.updSq c.target q (fun _ => w.sq c.target q) ∧
      w.sq c.target q = { state := .active, base := c.q 2, log2 := BitVec.ofNat 4 (c.f 4 3 0), phase := true, cq := BitVec.ofNat 6 (c.f 4 13 8), prefetch := BitVec.ofNat 3 (c.f 4 17 16) }) ∧
    (Serves specDeleteSq checksDeleteSq p s → ∃ w : State, exec (.deleteSq p) s = .next (w.answer c {}) ∧
      w = u.updSq c.target q (fun _ => {}) ∧ (w.sq c.target q).state = .absent ∧ (w.sq c.target q).entries = []) ∧
    (Serves specCreateCq checksCreateCq p s → ∃ w : State, exec (.createCq p) s = .next (w.answer c {}) ∧
      w = u.updCq c.target q (fun _ => w.cq c.target q) ∧
      w.cq c.target q = { state := .active, base := c.q 2, log2 := BitVec.ofNat 4 (c.f 4 3 0), phase := true, vector := BitVec.ofNat 8 (c.f 4 15 8) }) ∧
    (Serves specDeleteCq checksDeleteCq p s → ∃ w : State, exec (.deleteCq p) s = .next (w.answer c {}) ∧
      w = (u.settleRing c.target q).updCq c.target q (fun _ => {}) ∧ (w.cq c.target q).state = .absent ∧
      (∀ x ∈ w.cplWrites, x.tenant = c.target → x.cq ≠ q) ∧
      ((∀ x ∈ s.cplWrites, x.tenant = c.target → x.cq ≠ q) → w = u.updCq c.target q (fun _ => {})))) ∧
  (∀ (p : Packet) (s t : State),
    let other (u : TenantId) (r : QueueId) : Prop := u ≠ (s.cmdOf p).target ∨ r ≠ BitVec.ofNat 7 (s.cmdOf p).object
    (exec (.createSq p) s = .next t ∨ exec (.deleteSq p) s = .next t → Kept { s with tenants := t.tenants } t ∧
      ∀ (u : TenantId) (r : QueueId), r ≠ 0 → (r.toNat ≤ 32 → t.cq u r = s.cq u r) ∧ (other u r → t.sq u r = s.sq u r) ∧
        ∀ i : BitVec 9, i ≠ 3 → (t.tenants.look u).regs.look i = (s.tenants.look u).regs.look i) ∧
    (exec (.createCq p) s = .next t ∨ exec (.deleteCq p) s = .next t →
      (exec (.createCq p) s = .next t ∨ s.cplWrites = [] → Kept { s with tenants := t.tenants } t) ∧
      ∀ (u : TenantId) (r : QueueId), r ≠ 0 → t.sq u r = s.sq u r ∧ (r.toNat ≤ 32 → other u r → t.cq u r = s.cq u r) ∧
        ∀ i : BitVec 9, i ≠ 3 → (t.tenants.look u).regs.look i = (s.tenants.look u).regs.look i))

/-- BIND_CHANNEL, UNBIND_CHANNEL and CHANNEL_CONFIG. -/
def Obligations.ChannelBinding : Prop :=
  (∀ (p : Packet) (s : State), let c := s.cmdOf p; let u := s.takeOff p; let ch := c.chan u
    (Serves specBindChannel checksBindChannel p s → ∃ w : State, exec (.bindChannel p) s = .next (w.answer c { dw2 := ch.zeroExtend 32 }) ∧
      (w.chan ch).state = .idle ∧ (w.chan ch).mode = c.bindMode ∧ (w.chan ch).priority = 0 ∧ (w.chan ch).lead = false ∧
      (w.chan ch).stagehand = 0 ∧ (w.chan ch).paceSrc = 0 ∧ (w.chan ch).pace = 0 ∧ (w.chan ch).paceTime = 0 ∧
      (w.chan ch).actEn = false ∧ (w.chan ch).vector = 0 ∧ (w.chan ch).retryLimit = 3 ∧ (w.chan ch).work = none ∧
      (c.bindMode = .queue → (w.chan ch).sq = BitVec.ofNat 7 (c.f 2 14 8) ∧ (w.sq c.target (BitVec.ofNat 7 (c.f 2 14 8))).slot = some ch) ∧
      (∀ d, d ≠ ch → w.chan d = s.chan d) ∧
      Kept { s with chans := w.chans, tenants := w.tenants, health := w.health } w) ∧
    (Serves specUnbindChannel checksUnbindChannel p s → ∃ w : State, exec (.unbindChannel p) s = .next (w.answer c {}) ∧
      (w.chan ch).state = .unbound ∧ (w.chan ch).script = {} ∧ (w.chan ch).shadow = {} ∧ (w.chan ch).chain = none ∧
      (w.chan ch).rateBank = 0 ∧ (w.chan ch).lineCredits = 0 ∧ (w.chan ch).released = 0 ∧ (w.chan ch).periodPending = none ∧
      (w.chan ch).discardMark = false ∧ (w.chan ch).spin = 0 ∧
      ((u.chan ch).mode = .queue → (w.sq c.target (u.chan ch).sq).slot = none) ∧
      (∀ d, d ≠ ch → w.chan d = s.chan d) ∧ Kept { s with chans := w.chans, tenants := w.tenants } w)) ∧
  (∀ (p : Packet) (s : State), let c := s.cmdOf p; let u := s.takeOff p; let ch := c.chan u
    Serves specChannelConfig checksChannelConfig p s → ∃ w : State, exec (.channelConfig p) s = .next (w.answer c {}) ∧
      (w.chan ch).state = (s.chan ch).state ∧
      (w.chan ch).priority = (if c.changes 0 then BitVec.ofNat 3 (c.f 3 6 4) else (s.chan ch).priority) ∧
      (w.chan ch).lead = (if c.changes 0 then bitAt (c.dw 3) 7 else (s.chan ch).lead) ∧
      (w.chan ch).stagehand = (if c.changes 0 then BitVec.ofNat 4 (c.f 3 3 0) else (s.chan ch).stagehand) ∧
      (w.chan ch).paceSrc = (if c.changes 1 then BitVec.ofNat 3 (c.f 3 10 8) else (s.chan ch).paceSrc) ∧
      (w.chan ch).pace = (if c.changes 1 then (c.q 4).truncate 34 else (s.chan ch).pace) ∧
      (w.chan ch).paceTime = (if c.changes 1 then c.q 6 else (s.chan ch).paceTime) ∧
      (w.chan ch).actEn = (if c.changes 2 then bitAt (c.dw 3) 11 else (s.chan ch).actEn) ∧
      (w.chan ch).actSel = (if c.changes 2 then BitVec.ofNat 4 (c.f 3 15 12) else (s.chan ch).actSel) ∧
      (w.chan ch).vector = (if c.changes 4 then BitVec.ofNat 8 (c.f 3 23 16) else (s.chan ch).vector) ∧
      (w.chan ch).retryLimit = (if c.changes 5 then BitVec.ofNat 4 (c.f 3 27 24) else (s.chan ch).retryLimit) ∧
      (c.changes 3 = true → (w.chan ch).regs.look 5 = Staged.both (c.q 8) ∧ (w.chan ch).regs.look 6 = Staged.both (c.q 10) ∧
        (w.chan ch).regs.look 7 = Staged.both (c.q 12)) ∧
      (c.changes 3 = false → (w.chan ch).regs = (s.chan ch).regs) ∧
      w.acts = s.acts ∧ w.cues = s.cues ∧ w.prot = s.prot ∧ w.tb = s.tb ∧ w.mem = s.mem)

/-- CHANNEL_START, CHANNEL_STOP, CHANNEL_DRAIN, CHANNEL_RESET and CHANNEL_STATUS. -/
def Obligations.ChannelControl : Prop :=
  ∀ (p : Packet) (s : State), let c := s.cmdOf p; let u := s.takeOff p; let ch := c.chan u
    (Serves specChannelStart checksChannelStart p s → ∃ w : State, w = u.startChan ch ∧
      exec (.channelStart p) s = .next (w.answer c { dw2 := (wrongState 1 (w.chan ch).shown.code (w.slotOf (w.tenantOf ch) ch)).dw2 })) ∧
    (∀ drain : Bool, (if drain then Serves specChannelDrain stopChecks p s else Serves specChannelStop stopChecks p s) →
      ∃ t : State, (drain = true → exec (.channelDrain p) s = .next t) ∧ (drain = false → exec (.channelStop p) s = .next t) ∧
        ((u.chan ch).live = false → t = u.answer c { dw2 := u.chanReport ch }) ∧
        ((u.chan ch).live = true → (∃ l : LongCmd, t.long = s.long ++ [l] ∧ l.ref = c.ref ∧ l.started = s.now) ∧
          (t.chan ch).stopPending = (!drain || (s.chan ch).stopPending) ∧
          (t.chan ch).drainPending = (drain || (s.chan ch).drainPending) ∧ (t.chan ch).state = (s.chan ch).state ∧
          (∀ d, d ≠ ch → t.chan d = s.chan d) ∧ Kept { s with chans := t.chans, long := t.long, order := t.order } t)) ∧
    (Serves specChannelReset stopChecks p s →
      let v := u.startLong c; let x := v.cutChannel ch
      exec (.channelReset p) s = .next (match (u.chan ch).after with | some (.reset _) => v | some (.resetWrites _ _) => v | _ => x.go [ch]) ∧
      (x.chan ch).work = none ∧ (x.chan ch).xfer = none ∧ (x.chan ch).armedWork = none ∧ (x.chan ch).reads = [] ∧
      (x.chan ch).fetch = none ∧ (x.chan ch).wait = none ∧ (x.chan ch).after = some (.reset s.now)) ∧
    (Serves specChannelStatus checksChannelStatus p s →
      let r := u.chanRecord ch
      r.length = 128 ∧ exec (.channelStatus p) s = .next (u.respond c r (dwordAt r 0, dwordAt r 1)))

/-- CUE_ALLOC, CUE_FREE, CUE_SET, PROP_POOL_CONFIG, ACT_CONFIG, ACT_START and ACT_STOP. -/
def Obligations.CueAndActCommands : Prop :=
  (∀ (p : Packet) (s : State), let c := s.cmdOf p; let u := s.takeOff p
    (Serves specCueAlloc checksCueAlloc p s → ∃ (q : CueId) (x : Cue), c.allocated u = some q ∧
      x = Cue.mk (satAdd (BitVec.ofNat 16 (c.f 4 15 0)) (s.signalsNow q)) true (if bitAt (c.dw 3) 0 then u.physical c.target (c.f 3 14 8) else none) ∧
      (bitAt (c.dw 2) 16 = false → q = BitVec.ofNat 10 (c.f 2 9 0)) ∧
      (bitAt (c.dw 2) 16 = true → (s.cues.look q).allocated = false ∧ (s.record c.target).holdsCue q.toNat = true ∧
        ∀ q' : CueId, q'.toNat < q.toNat → (s.record c.target).holdsCue q'.toNat = true → (s.cues.look q').allocated = true) ∧
      ∃ w : State, exec (.cueAlloc p) s = .next (w.answer c { dw2 := q.zeroExtend 32 }) ∧ w = u.setCue q (fun _ => x) ∧
        ((u.updCue q fun _ => x).waitersOf q = [] → w.cues = s.cues.put q x ∧ w.chans = s.chans)) ∧
    (Serves specCueSet checksCueSet p s →
      let q : CueId := BitVec.ofNat 10 (c.f 2 9 0); let now := (s.cues.look q).count; let n := s.signalsNow q; let v := c.f 4 15 0
      ∃ (old new : BitVec 16) (w : State), exec (.cueSet p) s = .next (w.answer c { dw2 := old.zeroExtend 32, dw3 := new.zeroExtend 32 }) ∧
        old.toNat = now.toNat - n ∧ (c.f 3 1 0 = 0 → new.toNat = min (v + n) 0xFFFF) ∧ (c.f 3 1 0 = 1 → new.toNat = min (now.toNat + v) 0xFFFF) ∧
        (c.f 3 1 0 = 2 → new.toNat = now.toNat - v) ∧ c.f 3 1 0 < 3 ∧
        w = u.setCue q (fun x => { x with count := new }) ∧
        ((u.updCue q fun x => { x with count := new }).waitersOf q = [] →
          w.cues = s.cues.put q { s.cues.look q with count := new } ∧ w.chans = s.chans)) ∧
    (Serves specCueFree checksCueFree p s →
      let q : CueId := BitVec.ofNat 10 (c.f 2 9 0)
      ∃ w : State, exec (.cueFree p) s = .next (w.answer c { dw2 := (s.cues.look q).count.zeroExtend 32 }) ∧
        w.cues = (if (s.cues.look q).allocated then s.cues.put q {} else s.cues) ∧ Kept { s with cues := w.cues } w) ∧
    (Serves specPropPoolConfig checksPropPoolConfig p s → ∃ w : State, exec (.propPoolConfig p) s = .next (w.answer c {}) ∧
        w.props.basePage = BitVec.ofNat 11 (c.f 2 10 0) ∧ w.props.sizeLog2 = BitVec.ofNat 4 (c.f 2 19 16) ∧
        w.props.count = BitVec.ofNat 16 (c.f 3 15 0) ∧ w.props.held = [] ∧ Kept { s with props := w.props } w)) ∧
  (∀ (p : Packet) (s : State), let c := s.cmdOf p
    (Serves specActConfig checksActConfig p s →
      let b := actBase (BitVec.ofNat 4 (c.f 2 3 0))
      ∃ w : State, exec (.actConfig p) s = .next (w.answer c {}) ∧ w.devReg b = c.q 4 ∧ w.devReg (b + 8) = c.q 6 ∧ w.devReg (b + 16) = c.q 8 ∧
        w.devReg (b + 24) = (c.dw 10).zeroExtend 64 ∧
        (∀ i : BitVec 11, (i.toNat < b / 8 ∨ b / 8 + 4 ≤ i.toNat) → w.dev.regs.look i = s.dev.regs.look i) ∧ Kept { s with dev := w.dev } w) ∧
    (Serves specActStart checksActStart p s → ∃ w : State, exec (.actStart p) s = .next (w.answer c { dw2 := lo32 s.now, dw3 := hi32 s.now }) ∧
        (∀ a : ActId, bitAt (c.dw 2) a.toNat = true → (w.acts.look a).running = true ∧ (w.acts.look a).periodCount = 0 ∧
          (w.acts.look a).nextIndex = s.firstPeriod a ∧ (w.acts.look a).nextStart = s.periodAt a (s.firstPeriod a)) ∧
        (∀ a : ActId, bitAt (c.dw 2) a.toNat = false → w.acts.look a = s.acts.look a) ∧ Kept { s with acts := w.acts } w) ∧
    (Serves specActStop checksActStop p s → ∃ (w : State) (m : Dword), exec (.actStop p) s = .next (w.answer c { dw2 := m }) ∧
        (∀ a : ActId, bitAt m a.toNat = (bitAt (c.dw 2) a.toNat && (s.acts.look a).running)) ∧
        (∀ a : ActId, bitAt m a.toNat = true → (w.acts.look a).running = false ∧ (w.acts.look a).stopCause = 1 ∧ (w.acts.look a).nextStart = 0) ∧
        (∀ a : ActId, bitAt m a.toNat = false → w.acts.look a = s.acts.look a) ∧
        Kept { s with acts := w.acts, tb := w.tb, tdm := w.tdm } w))

/-- STREAM_CONFIG, LINK_UP, LINK_DOWN and PIN_ASSIGN. -/
def Obligations.LinkAndPinCommands : Prop :=
  ∀ (p : Packet) (s : State), let c := s.cmdOf p
    (Serves specStreamConfig checksStreamConfig p s →
      let e : EpId := BitVec.ofNat 6 (c.f 2 5 0)
      ∃ w : State, exec (.streamConfig p) s = .next (w.answer c { dw2 := BitVec.ofNat 32 (w.eps.look e).fifo.length }) ∧
        w.epSilence e = (if bitAt (c.dw 2) 17 then c.q 6 else s.epSilence e) ∧
        w.epCfg e = (if bitAt (c.dw 2) 16 then c.q 4 else s.epCfg e) ∧ w.cues = s.cues ∧ w.acts = s.acts ∧ w.prot = s.prot ∧ w.mem = s.mem) ∧
    (Serves specLinkUp checksLinkUp p s → c.f 2 7 0 < 12 → ∃ t : State, exec (.linkUp p) s = .next t ∧
        (∃ l : LongCmd, t.long = s.long ++ [l] ∧ l.ref = c.ref) ∧ t.linkState (c.f 2 7 0) = .training ∧
        (∀ i < 12, i ≠ c.f 2 7 0 → t.linkState i = s.linkState i) ∧ t.broughtBy (c.f 2 7 0) = some c.p.src ∧
        Kept { s with conv := t.conv, tdm := t.tdm, long := t.long, order := t.order } t) ∧
    (Serves specLinkDown checksLinkDown p s → c.f 2 7 0 < 12 → ∃ w : State, exec (.linkDown p) s = .next (w.answer c {}) ∧
        w.linkState (c.f 2 7 0) = .down ∧ (∀ i < 12, i ≠ c.f 2 7 0 → w.linkState i = s.linkState i) ∧ w.cues = s.cues ∧ w.acts = s.acts ∧ w.prot = s.prot) ∧
    (Serves specPinAssign checksPinAssign p s →
      let m : PinId := BitVec.ofNat 6 (c.f 2 5 0); let x : Word := c.q 4 ||| (c.target.zeroExtend 64 <<< 32)
      ∃ w : State, w.dev.regs.look (BitVec.ofNat 11 (0x100 + m.toNat)) = Staged.both x ∧ w.cues = s.cues ∧ w.acts = s.acts ∧ w.prot = s.prot ∧
        ((w.pins.look m).settleEnd.isSome = true → exec (.pinAssign p) s = .next { w with pinJob := some ⟨m, x, c.ref⟩ }) ∧
        ((w.pins.look m).settleEnd = none →
          exec (.pinAssign p) s = .next (({ w with pinJob := none } : State).complete c.ref 0x38 { dw2 := lo32 x, dw3 := hi32 x } [])))

/-- PROTECT_COUNTERSIGN is judged in the order of the seven outcomes. -/
def Obligations.CountersignOrder : Prop :=
  ∀ (p : Packet) (s : State), let c := s.cmdOf p; let u := s.takeOff p
    Serves specProtectCountersign checksProtectCountersign p s → ∃ w : State, ∃ r : Reply, exec (.protectCountersign p) s = .next (w.answer c r) ∧
      match s.prot.held with
      | none => w = u ∧ r = { status := if s.prot.lastExpired = some (c.dw 2) then 0x22 else 0x21 }
      | some h =>
        if h.byHouse = c.isHouse then w = u ∧ r = { status := 0x0A }
        else if future c.stamp h.expiry then r = { status := 0x22 } ∧ w.prot.map = s.prot.map ∧ (u.waitsBefore h.expiry = true → w = u) ∧
          (u.waitsBefore h.expiry = false → w.prot.held = none ∧ w.prot.lastExpired = some h.nonce)
        else if c.dw 2 ≠ h.nonce then w.prot.held = none ∧ w.prot.map = s.prot.map ∧ r = { status := 0x21 }
        else if c.dw 3 ≠ h.digest then w.prot.held = none ∧ w.prot.map = s.prot.map ∧ r = { status := 0x23 }
        else if h.patch then w.prot.held = none ∧ w.boot.pendingSet = some h.patchSet ∧ w.prot.map = s.prot.map ∧ r = { dw2 := s.prot.epoch }
        else match u.blocking (s.prot.map.apply h.body) with
          | some (k, t, o) => w = u ∧ r = { status := 0x0D, dw3 := BitVec.ofNat 32 (k + 16 * t + 65536 * o) }
          | none => w.prot.held = none ∧ w.prot.map = s.prot.map.apply h.body ∧ w.prot.epoch = s.prot.epoch + 1 ∧ r = { dw2 := s.prot.epoch + 1 }

/-- PROTECT_WITHDRAW. -/
def Obligations.WithdrawEndsTheProposal : Prop :=
  ∀ (p : Packet) (s : State), let c := s.cmdOf p; let u := s.takeOff p
    Serves specProtectWithdraw checksProtectWithdraw p s →
      (∀ h, s.prot.held = some h → (future c.stamp h.expiry = false ∨ u.waitsBefore h.expiry = true) → c.dw 2 = h.nonce →
        ∃ w : State, exec (.protectWithdraw p) s = .next (w.answer c {}) ∧ w.prot.held = none ∧ w.prot.map = s.prot.map ∧ w.prot.epoch = s.prot.epoch ∧
          bitAt (w.devReg 0x20) 1 = true ∧ (s.prot.designated = true → bitAt (w.tenReg s.prot.map.smTenant 0x18) 17 = true)) ∧
      ((∀ h, s.prot.held = some h → c.dw 2 ≠ h.nonce ∨ (future c.stamp h.expiry = true ∧ u.waitsBefore h.expiry = false)) → ∃ w : State, w.prot.epoch = s.prot.epoch ∧ w.prot.map = s.prot.map ∧
        exec (.protectWithdraw p) s = .next (w.answer c { status := 0x21, dw2 := s.prot.epoch }))

/-- An accepted PROTECT_PROPOSE, and PROTECT_READ. -/
def Obligations.ProposeAndRead : Prop :=
  (∀ (p : Packet) (s : State), let c := s.cmdOf p; let u := (s.takeOff p).expireBefore c.stamp
    Serves specProtectPropose checksProtectPropose p s → ∀ (v : State) (body : List Byte) (e : Option Reply),
      u.readBody c (c.q 2) (c.f 4 11 0) = (v, body, e) →
      (∀ r, e = some r → exec (.protectPropose p) s = .next (v.answer c r)) ∧
      (e = none → (body.length ≠ c.f 4 11 0 ∨ body.length ≠ bodyLength body) →
        exec (.protectPropose p) s = .next (v.answer c { status := 0x09, dw3 := 16 })) ∧
      (e = none → body.length = c.f 4 11 0 → body.length = bodyLength body →
        match v.bodyError body v.props.count.toNat (!v.committed) with
        | some off => exec (.protectPropose p) s = .next (v.answer c { status := 0x09, dw3 := BitVec.ofNat 32 (off + 2 ^ 28) })
        | none => ∃ w : State, ∃ h : Proposal, exec (.protectPropose p) s = .next (w.answer c { status := 0x02, dw2 := h.nonce, dw3 := h.digest }) ∧
            w.prot.held = some h ∧ h.nonce ≠ 0 ∧ h.digest = crc32c body ∧ h.body = body ∧ h.byHouse = c.isHouse ∧ h.patch = false ∧
            h.stamp = c.stamp ∧ h.expiry = c.stamp + BitVec.ofNat 64 (38400 * (s.prot.windowAt c.stamp).toNat) ∧ w.prot.map = s.prot.map)) ∧
  (∀ (p : Packet) (s : State), let c := s.cmdOf p
    Serves specProtectRead checksProtectRead p s → ∃ w : State, w.prot.map = s.prot.map ∧ w.prot.epoch = s.prot.epoch ∧ w.chans = s.chans ∧
      let bytes := ((w.protImage c).drop (c.f 5 11 0)).take (c.f 6 11 0)
      exec (.protectRead p) s = .next (w.respond c bytes (BitVec.ofNat 32 bytes.length, s.prot.epoch)))

/-- No command but PROTECT_COUNTERSIGN changes the map in force. -/
def Obligations.MapOnlyByCountersign : Prop :=
  ∀ (row : (Packet → Instr) × CmdSpec × (Cmd → State → Checks)), row ∈ prompterRows → ∀ (p : Packet) (s t : State),
    row.2.1.opcode ≠ 0x41 → exec (row.1 p) s = .next t →
    t.prot.map = s.prot.map ∧ t.prot.epoch = s.prot.epoch ∧ t.prot.designated = s.prot.designated

/-- POWER_STATE, RUN_BIST and BIST_RESULT. -/
def Obligations.PowerAndTestCommands : Prop :=
  ∀ (p : Packet) (s : State), let c := s.cmdOf p; let u := s.takeOff p
    (Serves specPowerState checksPowerState p s → ∃ t : State, exec (.powerState p) s = .next t ∧
      (c.f 2 2 0 = 0 → t = u.answer c {}) ∧
      (c.f 2 2 0 ≠ 0 → ∃ rung : PowerState, rung = u.permitted (c.f 2 2 0) ∧
        t.power.target = (if rung = s.power.state then s.power.target else some rung) ∧ t.power.state = s.power.state ∧
        (u.answer c { dw2 := BitVec.ofNat 32 rung.code }) = { t with power := (u.answer c { dw2 := BitVec.ofNat 32 rung.code }).power })) ∧
    (Serves specRunBist checksRunBist p s → ∃ j : TestJob, j.target.toNat = c.f 2 7 0 ∧ j.unit = c.bistUnit ∧ j.cmd = some c.ref ∧ j.retest = bitAt (c.dw 2) 16 ∧
      exec (.runBist p) s = .next ((u.startLong c).startBist j)) ∧
    (Serves specBistResult checksBistResult p s → ∃ r : Reply, exec (.bistResult p) s = .next (u.answer c r) ∧ r.status = 0 ∧
      match s.health.results.find? (fun x => decide (x.target.toNat = c.f 2 7 0) && x.unit == c.bistUnit) with
      | some x => r.dw2 = x.observed ∧ bitAt r.dw3 0 = true ∧ bitAt r.dw3 1 = x.pass ∧ bitAt r.dw3 2 = x.aborted
      | none => r.dw2 = 0 ∧ r.dw3 = 0)

/-- MEM_LOG_READ, RETIRE_PAGE, MARK_CHIP, SCRUB_CONFIG and SCRUB_NOW. -/
def Obligations.MemoryCommands : Prop :=
  ∀ (p : Packet) (s : State), let c := s.cmdOf p
    (Serves specMemLogRead checksMemLogRead p s → ∃ t : State, exec (.memLogRead p) s = .next t ∧ (∃ l : LongCmd, t.long.getLast? = some l ∧ l.ref = c.ref) ∧
      Kept { s with long := t.long, order := t.order } t) ∧
    (Serves specRetirePage checksRetirePage p s → ∃ t : State, exec (.retirePage p) s = .next t ∧ (∃ l : LongCmd, t.long = s.long ++ [l] ∧ l.ref = c.ref) ∧
      (∃ j : Retirement, t.guard.retiring = some j ∧ j.addr = c.q 2 ∧ j.cmd = c.ref) ∧ Kept { s with long := t.long, order := t.order, guard := t.guard } t) ∧
    (Serves specScrubNow checksScrubNow p s → ∃ t : State, exec (.scrubNow p) s = .next t ∧ (∃ l : LongCmd, t.long = s.long ++ [l] ∧ l.ref = c.ref) ∧
      t.guard.scrubNow = some ⟨c.q 2, (c.q 4).toNat, c.ref⟩ ∧ Kept { s with long := t.long, order := t.order, guard := t.guard } t) ∧
    (Serves specMarkChip checksMarkChip p s → ∃ w : State, exec (.markChip p) s = .next (w.answer c { dw2 := BitVec.ofNat 32 w.guard.marked }) ∧
      let i : BitVec 2 := BitVec.ofNat 2 (2 * c.f 2 0 0 + c.f 2 1 1)
      w.guard.marks.look i = (if bitAt (c.dw 2) 16 then none else some (BitVec.ofNat 5 (c.f 2 8 4))) ∧
      (∀ j, j ≠ i → w.guard.marks.look j = s.guard.marks.look j) ∧ w.chans = s.chans ∧ w.prot = s.prot ∧ w.mem = s.mem) ∧
    (Serves specScrubConfig checksScrubConfig p s → ∃ w,
      exec (.scrubConfig p) s = .next (w.answer c { dw2 := BitVec.ofNat 32 (field (s.devReg 0xB20) 13 0), dw3 := BitVec.ofNat 32 (field (s.devReg 0xB20) 31 16) }) ∧
      field (w.devReg 0xB20) 13 0 = (if c.f 2 13 0 = 0 then field (s.devReg 0xB20) 13 0 else c.f 2 13 0) ∧
      field (w.devReg 0xB20) 31 16 = (if c.f 3 15 0 = 0 then field (s.devReg 0xB20) 31 16 else c.f 3 15 0) ∧
      field (w.devReg 0xB20) 15 14 = field (s.devReg 0xB20) 15 14 ∧ hi32 (w.devReg 0xB20) = hi32 (s.devReg 0xB20) ∧ Kept { s with dev := w.dev } w)

/-- TIME_SET, TIME_ADJUST, TIME_CAPTURE, TRACE_CONFIG and TRACE_READ. -/
def Obligations.TimeAndTraceCommands : Prop :=
  ∀ (p : Packet) (s : State), let c := s.cmdOf p; let u := s.takeOff p
    (Serves specTimeSet checksTimeSet p s →
      (bitAt (c.dw 2) 0 = false → ∃ w : State, exec (.timeSet p) s = .next (w.answer c { dw2 := lo32 s.now, dw3 := hi32 s.now }) ∧ w.tb.time = c.q 4 ∧
        w.tb.timeValid = true ∧ w.tb.slewLeft = 0 ∧ w.tb.slewRate = 0 ∧ w.tb.acc = s.tb.acc ∧ w.tb.trim = s.tb.trim ∧ w.prot.held = none) ∧
      (bitAt (c.dw 2) 0 = true → ∃ t : State, exec (.timeSet p) s = .next t ∧ (∃ l : LongCmd, t.long.getLast? = some l ∧ l.ref = c.ref) ∧
        (∃ x : AtPps, t.tb.atPps = some x ∧ x.value = c.q 4 ∧ x.deadline = s.tb.refclkCount + 200000000) ∧ t.tb.time = s.tb.time ∧ t.chans = s.chans)) ∧
    (Serves specTimeAdjust checksTimeAdjust p s → ∃ w : State, exec (.timeAdjust p) s = .next (w.answer c { dw2 := s.tb.trim }) ∧
      w.tb.trim = (if bitAt (c.dw 2) 0 then c.dw 3 else s.tb.trim) ∧
      (bitAt (c.dw 2) 1 = true → w.tb.slewRate = c.dw 6 ∧ w.tb.slewNeg = decide ((c.q 4).toInt < 0) ∧ w.tb.slewLeft = (c.q 4).toInt.natAbs * 2 ^ 40) ∧
      (bitAt (c.dw 2) 1 = false → w.tb.slewLeft = s.tb.slewLeft ∧ w.tb.slewRate = s.tb.slewRate) ∧ w.tb.time = s.tb.time ∧ Kept { s with tb := w.tb } w) ∧
    (Serves specTimeCapture checksTimeCapture p s → ∃ r, r = u.captureOf (c.f 4 3 0) ∧
      exec (.timeCapture p) s = .next (u.respond c (dwordBytes [lo32 r.1, hi32 r.1, r.2, 0]) (lo32 r.1, hi32 r.1))) ∧
    (Serves specTraceConfig checksTraceConfig p s → ∃ w : State, ∃ old : Word, exec (.traceConfig p) s = .next (w.answer c { dw2 := lo32 old, dw3 := hi32 old }) ∧
      old = s.devReg 0xBC0 ||| mandatoryClasses ∧ w.dev.regs.look (BitVec.ofNat 11 (0xBC0 / 8)) = Staged.both (c.q 4 ||| mandatoryClasses) ∧ Kept { s with dev := w.dev } w) ∧
    (Serves specTraceRead checksTraceRead p s → ∃ t : State, exec (.traceRead p) s = .next t ∧ (∃ l : LongCmd, t.long.getLast? = some l ∧ l.ref = c.ref) ∧
      t.trace = u.flushTrace.trace ∧ t.chans = s.chans ∧ t.tb = s.tb)

/-- PATCH_STAGE, PATCH_ACTIVATE, PATCH_LIST, CONFIG_SNAPSHOT, CONFIG_RESTORE and ABORT_COMMAND. -/
def Obligations.UpgradeCommands : Prop :=
  ∀ (p : Packet) (s : State), let c := s.cmdOf p; let u := s.takeOff p
    (Serves specPatchStage checksPatchStage p s → ∀ (v : State) (bytes : List Byte) (e : Option Reply),
      u.readBody c (c.q 6) (c.f 4 16 0) = (v, bytes, e) → (∀ r, e = some r → exec (.patchStage p) s = .next (v.answer c r)) ∧
      (e = none → ∃ t : State, exec (.patchStage p) s = .next t ∧
        (∃ l : LongCmd, t.long.getLast? = some l ∧ l.ref = c.ref ∧ l.body = bytes.take (c.f 4 16 0)) ∧
        (t.boot.patches.look (BitVec.ofNat 4 (c.f 2 3 0))).state = .writing ∧ t.prot = s.prot ∧ t.chans = s.chans)) ∧
    (Serves specPatchActivate checksPatchActivate p s → ∃ w : State, ∃ r : Reply, exec (.patchActivate p) s = .next (w.answer c r) ∧
      (r.status = 0x24 ∨ (r.status = 0x02 ∧ ∃ h : Proposal, w.prot.held = some h ∧ h.patch = true ∧ h.patchSet = (c.dw 2).truncate 16 ∧
        r.dw2 = h.nonce ∧ r.dw3 = h.digest)) ∧ w.prot.map = s.prot.map ∧ w.boot = s.boot) ∧
    (Serves specPatchList checksPatchList p s → ∃ r, r = dwordBytes [s.boot.rollback,
        BitVec.ofNat 32 (s.runningSet.toNat + 65536 * (s.boot.pendingSet.getD 0).toNat), s.boot.failedBoots.zeroExtend 32, 0] ++
        (List.range 16).flatMap u.patchEntry ∧ exec (.patchList p) s = .next (u.respond c r (dwordAt r 0, dwordAt r 1))) ∧
    (Serves specConfigSnapshot checksConfigSnapshot p s → ∃ t : State, exec (.configSnapshot p) s = .next t ∧
      (∃ l : LongCmd, t.long = s.long ++ [l] ∧ l.ref = c.ref) ∧ t.boot.snapshots.look (BitVec.ofNat 2 (c.f 2 1 0)) = none ∧
      (∃ g : Snapshot, t.boot.taking = some (BitVec.ofNat 2 (c.f 2 1 0), g) ∧ g.label = c.dw 3) ∧ Kept { s with boot := t.boot, long := t.long, order := t.order } t) ∧
    (Serves specConfigRestore checksConfigRestore p s → ∃ t : State, exec (.configRestore p) s = .next t ∧
      (∃ l : LongCmd, t.long = s.long ++ [l] ∧ l.ref = c.ref) ∧ Kept { s with long := t.long, order := t.order } t) ∧
    (Serves specAbortCommand checksAbortCommand p s → ∃ t : State, exec (.abortCommand p) s = .next t ∧
      let src : Source := if c.foreign then .tenant c.target else c.p.src
      match (u.longOf src).find? (fun l => decide (l.ref.tag.toNat = c.f 2 15 0)) with
      | none => t = u.answer c { dw2 := 1 }
      | some l => (∃ v : State, u.abortLong l = some v ∧ t = v.answer c {}) ∨
          (u.abortLong l = none ∧ t.out = u.out ∧ ∀ x ∈ t.long, x.order = l.order → (c.ref, 2) ∈ x.aborts))

/-- MOVE, RUN_SCRIPT, FILL, CUE, CALL_CHAIN and LINK: the descriptor that a channel takes, and what taking an entry leaves. -/
def Obligations.TakenDescriptors : Prop :=
  ((let row (ty : DescType) (cmd : ChanId → Instr) : Prop := ∀ (c : ChanId) (s : State) (w : Taken), Takes s c ty w →
      let n := s.chan c
      let p := s.passEntry c w
      let v := p.updChan c fun n => { n with spin := if w.inChain then n.spin + 1 else n.spin, work := some w }
      let x := descXfer w.dw (0, 0)
      let tables := (ty = .move ∨ ty = .fill) ∧ (x.srcInd.isSome = true ∨ x.dstInd.isSome = true)
      let cu : Option Tick := if descFlag w.dw fCurtain then some (n.sceneStart + BitVec.ofNat 64 (256 * (packetDw w.dw 14).toNat)) else n.curtain
      (tables → exec (cmd c) s = .next
        ((v.updChan c fun n => { n with walk := some (if x.srcInd.isSome then walkFrom x.src false else walkFrom x.dst true) }).go [c])) ∧
      (¬ tables → n.actEn = true → n.atBoundary = true → n.periodPending = none →
        exec (cmd c) s = .next ((v.updChan c fun n => { n with work := none, armedWork := some w, state := .armed }).go [c])) ∧
      (¬ tables → (n.actEn && n.atBoundary) = false → s.curtainDue c = false → (∀ t, cu = some t → n.atBoundary = true ∨ due t s.coreEdge = false) →
        exec (cmd c) s = .next
          ((v.updChan c fun n => { n with armedWork := none, state := .running, curtain := cu, after := some .startUnit }).go [c]))
    row .move (fun c => .move c) ∧ row .runScript (fun c => .runScript c) ∧ row .fill (fun c => .fill c) ∧ row .cue (fun c => .cue c)) ∧
  (∀ (c : ChanId) (s : State) (w : Taken),
    let p := s.passEntry c w
    (Takes s c .callChain w → exec (.callChain c) s = .next ((p.updChan c fun n => { n with work := none, spin := 0, chain := some ⟨descSrc w.dw, w.head, 0, []⟩ }).go [c])) ∧
    (Takes s c .link w →
      let v := p.updChan c fun n => { n with spin := n.spin + 1, work := some w }
      (((s.chan c).chain.map fun h => h.next) ≠ some (descSrc w.dw) → exec (.link c) s = .next ((v.updChan c fun n => { n with work := none, chain := n.chain.map fun h => { h with next := descSrc w.dw, ahead := [] } }).go [c])) ∧
      (((s.chan c).chain.map fun h => h.next) = some (descSrc w.dw) → exec (.link c) s = .next ((v.failPlain c 0x17 2).go [c]))))) ∧
  (∀ (c : ChanId) (s : State) (w : Taken),
    let t := s.tenantOf c; let q := (s.chan c).sq; let p := s.passEntry c w
    (w.inChain = false →
      (p.sq t q).head = w.head ∧ (p.sq t q).phase = ((s.sq t q).phase ^^ decide ((s.sq t q).head.toNat + 1 = ringSize (s.sq t q).log2)) ∧
      (p.sq t q).tail = (s.sq t q).tail ∧ (∀ r, r ∈ (p.sq t q).retries ↔ r ∈ (s.sq t q).retries ∧ r.index ≠ (s.sq t q).head) ∧
      (∀ e, e ∈ (p.sq t q).entries ↔ e ∈ (s.sq t q).entries ∧ e.index ≠ (s.sq t q).head) ∧
      (∀ u r, (u ≠ t ∨ r ≠ q) → p.sq u r = s.sq u r) ∧ (∀ d, p.chan d = s.chan d) ∧ Kept { s with tenants := p.tenants } p) ∧
    (w.inChain = true → (∀ u r, p.sq u r = s.sq u r) ∧ (∀ d, d ≠ c → p.chan d = s.chan d) ∧ p.tenants = s.tenants ∧
      (∀ h, (s.chan c).chain = some h → ∃ k, (p.chan c).chain = some k ∧ k.next = h.next + 64 ∧ k.running = h.next ∧ k.head = h.head) ∧
      Kept { s with chans := p.chans } p))

/-- NOP, SETA, ADDA, SETK and ADDK. -/
def Obligations.ScriptRegisters : Prop :=
  ∀ (c : ChanId) (s : State) (i : Insn),
    let next (f : Script → Script) : State :=
      if (s.chan c).script.pc = 4095 then ((s.updScript c fun p => { f p with spin := p.spin + 1 }).failPlain c 0x09 0).go [c]
      else (s.updScript c fun p => { ((f p).goto (p.pc.toNat + 1)) with spin := p.spin + 1 }).go [c]
    let a : BitVec 2 := i.d0.extractLsb' 8 2
    (Executes s c .nop i {} → exec (.nop c) s = .next (next id)) ∧
    (Executes s c .seta i {} → exec (.seta c) s = .next (next fun p => { p with a := p.a.put a (i.d2 ++ i.d1) })) ∧
    (Executes s c .adda i { offsets := if i.d0.getLsbD 10 = true ∧ i.d1 ≠ 0 then [4] else [] } → exec (.adda c) s = .next (next fun p =>
      { p with a := p.a.put a (p.a.look a +
        (if i.d0.getLsbD 10 then p.k.look (i.d0.extractLsb' 11 2) else i.d1).signExtend 64) })) ∧
    (Executes s c .setk i {} → exec (.setk c) s = .next (next fun p => { p with k := p.k.put a i.d1 })) ∧
    (Executes s c .addk i {} → exec (.addk c) s = .next (next fun p => { p with k := p.k.put a (p.k.look a + i.d1) }))

/-- LOOP and BRANCH. -/
def Obligations.ScriptLoopAndBranch : Prop :=
  (∀ (c : ChanId) (s : State) (i : Insn), Executes s c .loop i {} →
    let r : BitVec 2 := i.d0.extractLsb' 8 2; let k := (s.chan c).script.k.look r
    let u := s.updScript c fun p => { p with k := p.k.put r (if k = 0 then 0 else k - 1), spin := p.spin + 1 }
    (k ≠ 0 → k - 1 ≠ 0 → exec (.loop c) s = .next ((u.updScript c fun p => p.goto (i.d1.extractLsb' 0 12).toNat).go [c])) ∧
    (k = 0 ∨ k - 1 = 0 → (s.chan c).script.pc ≠ 4095 →
      exec (.loop c) s = .next ((u.updScript c fun p => p.goto (p.pc.toNat + 1)).go [c])) ∧
    (k = 0 ∨ k - 1 = 0 → (s.chan c).script.pc = 4095 → exec (.loop c) s = .next ((u.failPlain c 0x09 0).go [c]))) ∧
  (∀ (c : ChanId) (s : State) (i : Insn), let m := (i.d0.extractLsb' 8 4).toNat
    Executes s c .branch i
      { offsets := if 4 < m then [1] else [], cue := if m = 3 then some (i.d0.extractLsb' 16 10) else none,
        ep := if m = 4 then some (i.d2.extractLsb' 0 6) else none } →
    let k := (s.chan c).script.k.look (i.d0.extractLsb' 12 2)
    let holds := m = 0 ∨ (m = 1 ∧ k = 0) ∨ (m = 2 ∧ k ≠ 0) ∨ (m = 3 ∧ (s.cues.look (i.d0.extractLsb' 16 10)).count ≠ 0) ∨
      (m = 4 ∧ 64 * (i.d2.extractLsb' 16 16).toNat < (s.eps.look (i.d2.extractLsb' 0 6)).fifo.length)
    (holds → exec (.branch c) s = .next ((s.updScript c fun p => { p.goto (i.d1.extractLsb' 0 12).toNat with spin := p.spin + 1 }).go [c])) ∧
    (¬ holds → (s.chan c).script.pc ≠ 4095 →
      exec (.branch c) s = .next ((s.updScript c fun p => { p.goto (p.pc.toNat + 1) with spin := p.spin + 1 }).go [c])) ∧
    (¬ holds → (s.chan c).script.pc = 4095 → exec (.branch c) s = .next (((s.updScript c fun p => { p with spin := p.spin + 1 }).failPlain c 0x09 0).go [c])))

/-- WAIT_CUE, WAITT and the end of the waits of WAIT_CUE, TAKE and WAITT. -/
def Obligations.ScriptWaits : Prop :=
  (∀ (c : ChanId) (s : State) (i : Insn),
    let waits (k : WaitKind) (timeout : Nat) : State :=
      (({ s with order := s.order + 1 } : State).updChan c fun n => { n with wait := some ⟨k, s.coreEdge, s.order, if timeout = 0 then none else some (s.coreEdge + BitVec.ofNat 64 (256 * timeout))⟩ }).go [c]
    (Executes s c .waitCue i { offsets := if i.d3.extractLsb' 0 16 = 0 then [12] else [], cue := some (i.d0.extractLsb' 8 10) } →
      exec (.waitCue c) s = .next (waits (.cue (i.d0.extractLsb' 8 10) (i.d3.extractLsb' 0 16) (i.d0.getLsbD 18)
        (if i.d0.getLsbD 19 then some (i.d2.extractLsb' 0 12) else none)) i.d1.toNat)) ∧
    (∀ k, Executes s c .waitt i k → k.offsets = [] →
      let base := (i.d0.extractLsb' 8 2).toNat
      let t := (if base = 0 then (s.chan c).script.tt else (s.chan c).sceneStart) + (i.d2 ++ i.d1)
      let setTt := i.d0.getLsbD 10
      (base < 2 → ((s.chan c).actEn = true ∨ base = 0) → future t s.coreEdge = true → exec (.waitt c) s = .next (waits (.instant t setTt) 0)) ∧
      (base < 2 → ((s.chan c).actEn = true ∨ base = 0) → future t s.coreEdge = false → (s.chan c).script.pc ≠ 4095 → exec (.waitt c) s = .next ((s.updScript c fun p => { p.goto (p.pc.toNat + 1) with spin := 0, tt := if setTt then t else p.tt, waittPast := true }).go [c])) ∧
      (base = 2 → (s.chan c).actEn = true → (s.chan c).mode = .script → setTt = false → i.d1 = 0 → i.d2.extractLsb' 0 31 = 0 →
        (s.chan c).periodPending = none → exec (.waitt c) s = .next ((s.updChan c fun n =>
          { n with state := .armed, atBoundary := true, curtain := none, lateEps := [], script := { n.script with atNext := true, spin := 0 } }).go [c])))) ∧
  (∀ (c : ChanId) (s : State) (w : Wait), (s.chan c).wait = some w → s.curtainDue c = false →
    let fails (target : BitVec 12) (p : Script) : Script :=
      { p.goto target.toNat with failTaken := true, failCause := 1, detail := p.pc.zeroExtend 32 }
    (∀ e, w.expiry = some e → due e s.coreEdge = true →
      (∀ q k keep target, w.kind = .cue q k keep (some target) → exec (.waitTimeout c) s = .next ((s.updChan c fun n => { n with wait := none, state := .running, script := { fails target n.script with spin := 0 } }).go [c])) ∧
      (∀ q k keep, w.kind = .cue q k keep none → exec (.waitTimeout c) s = .next (((s.updScript c fun p => { p with spin := 0 }).failPlain c 0x1A (s.chan c).script.pc.toNat).go [c])) ∧
      (∀ r target, w.kind = .prop r target → exec (.takeTimeout c) s = .next ((s.updChan c fun n => { n with wait := none, state := .running, script := fails target n.script }).go [c]))) ∧
    (∀ t setTt, w.kind = .instant t setTt → due t s.coreEdge = true → (s.chan c).script.pc ≠ 4095 → exec (.waittInstant c) s = .next ((s.updChan c fun n => { n with wait := none, state := .running, script :=
        { n.script.goto (n.script.pc.toNat + 1) with spin := 0, tt := if setTt then t else n.script.tt } }).go [c])) ∧
    ((∀ e, w.expiry = some e → due e s.coreEdge = false) → (∀ t setTt, w.kind = .instant t setTt → due t s.coreEdge = false) →
      exec (.waitTimeout c) s = .next s ∧ exec (.takeTimeout c) s = .next s ∧ exec (.waittInstant c) s = .next s))

/-- SIGNAL, FENCE, IRQ, END and HALT, what follows their proof, and channels that have nothing to do. -/
def Obligations.ScriptSignals : Prop :=
  (∀ (c : ChanId) (s : State) (i : Insn),
    let then_ (a : After) : State := ((s.updScript c fun p => { p with spin := p.spin + 1 }).updChan c fun n => { n with after := some a }).go [c]
    (Executes s c .signal i { offsets := if i.d1.extractLsb' 0 16 = 0 then [4] else [], cue := some (i.d0.extractLsb' 8 10) } →
      exec (.signal c) s = .next (then_ (.signal (i.d0.extractLsb' 8 10) (i.d1.extractLsb' 0 16)))) ∧
    (Executes s c .fence i {} → exec (.fence c) s = .next (then_ .fence)) ∧
    (Executes s c .irq i {} → exec (.irq c) s = .next (then_ (.irq (i.d1.extractLsb' 0 16)))) ∧
    (Executes s c .endScript i {} →
      (i.d0.getLsbD 9 = true → (s.chan c).actEn = true) →
      ((s.chan c).mode ≠ .script → i.d0.getLsbD 8 = false ∧ i.d0.getLsbD 9 = false) →
      exec (.endScript c) s = .next ((s.updChan c fun n => { n with after := some (if n.mode = .script then .endScript (i.d0.getLsbD 8) (i.d0.getLsbD 9) else .finish) }).go [c])) ∧
    (Executes s c .halt i {} → ∃ w : State, exec (.halt c) s = .next ((w.failPlain c 0x15 (2 ^ 31 + (i.d1.extractLsb' 0 16).toNat)).go [c]) ∧
      (w.chan c).script = { (s.chan c).script with haltCode := i.d1.extractLsb' 0 16 } ∧
      (∀ d, d ≠ c → w.chan d = s.chan d) ∧ Kept { s with chans := w.chans } w)) ∧
  ((∀ (c : ChanId) (s : State) (a : After), (s.chan c).after = some a → (s.chan c).proofOn = false → (s.chan c).writes = [] →
    (s.chan c).unproven = [] → s.startWaiting c = none → ((s.chan c).curtainCuts a && s.curtainDue c) = false →
    (a ≠ .late → (∀ t d, a = .resetWrites t d → s.cplOut c = false) → s.actOnce c = some (s.runAfter c a)) ∧
    (∀ (q : CueId) (k : BitVec 16), a = .signal q k → (s.chan c).script.pc ≠ 4095 → let r := (s.runAfter c a).1
      (r.cues.look q).count.toNat = min ((s.cues.look q).count.toNat + k.toNat) 0xFFFF ∧
      (∀ p, p ≠ q → r.cues.look p = s.cues.look p) ∧
      (r.chan c).script.signalSat = ((s.chan c).script.signalSat || decide (0xFFFF < (s.cues.look q).count.toNat + k.toNat)) ∧
      (r.chan c).script.pc = (s.chan c).script.pc + 1) ∧
    (a = .fence → (s.chan c).script.pc ≠ 4095 → let r := (s.runAfter c a).1
      (r.chan c).script.pc = (s.chan c).script.pc + 1 ∧ (r.chan c).after = none ∧ r.cues = s.cues ∧ ∀ d, d ≠ c → r.chan d = s.chan d) ∧
    (∀ code : BitVec 16, a = .irq code → (s.chan c).script.pc ≠ 4095 → let r := (s.runAfter c a).1
      (r.chan c).script.irqCode = code ∧ (r.chan c).script.pc = (s.chan c).script.pc + 1 ∧ r.cues = s.cues) ∧
    (∀ irq : Bool, a = .endScript irq false → (s.chan c).stopPending = false → (s.chan c).drainPending = false → let r := (s.runAfter c a).1
      (r.chan c).state = .idle ∧ (r.chan c).script.running = false ∧ (r.chan c).script.lastStatus = 0 ∧ (r.chan c).curtain = none ∧ r.cues = s.cues)) ∧
  ((∀ (l : List ChanId) (s : State), (∀ c ∈ l, s.actOnce c = none) → s.go l = s) ∧
    (∀ (k : Nat) (c : ChanId) (l more : List ChanId) (s t : State), s.actOnce c = some (t, more) →
      State.run (k + 1) (c :: l) s = State.run k (more ++ l) t)))

/-- TAKE and GIVE. -/
def Obligations.ScriptProps : Prop :=
  ∀ (c : ChanId) (s : State) (i : Insn), let t := s.tenantOf c; let r : BitVec 2 := i.d0.extractLsb' 8 2
    let short (n : Chan) : Chan := { n with starved := satAdd n.starved 1, script := { n.script with spin := n.script.spin + 1 } }
    let pr := s.props.atEdge s.coreEdge; let rivals := s.propRivals.filter fun x => x.2 != c.toNat
    let g := ({ s with props := pr } : State).propFor t c.toNat rivals
    let far := takerAfter pr.first c.toNat
    let granted (k : Nat) : PropRoom :=
      if (pr.reach.map fun d => decide (far < d)) = some true then { pr with held := ⟨BitVec.ofNat 16 k, t, c.toNat⟩ :: s.props.held }
      else { pr with held := ⟨BitVec.ofNat 16 k, t, c.toNat⟩ :: s.props.held, pointer := (c.toNat + 1) % 98, reach := some far }
    (rivals = [] → g = if s.propsLeft t then s.freeProp else none) ∧
    (∀ k, g = some k → k < s.props.count.toNat ∧ ∀ h ∈ s.props.held, h.index.toNat ≠ k) ∧
    (Executes s c .take i { offsets := if i.d0.getLsbD 10 = false ∧ i.d1 ≠ 0 then [4] else [] } →
      (∀ k, g = some k → (s.chan c).script.pc ≠ 4095 →
        exec (.take c) s = .next ((({ s with props := granted k } : State).updScript c fun p =>
          { p.goto (p.pc.toNat + 1) with spin := p.spin + 1, a := p.a.put r (BitVec.ofNat 64 (s.props.basePage.toNat * 4096 + k * 2 ^ s.props.sizeLog2.toNat)) }).go [c])) ∧
      (g = none → i.d0.getLsbD 10 = false → exec (.take c) s = .next ((({ s with props := pr } : State).updChan c fun n =>
        { short n with wait := none, state := .running, script := { ((short n).script.goto (i.d2.extractLsb' 0 12).toNat) with
            failTaken := true, failCause := 3, detail := n.script.pc.zeroExtend 32 } }).go [c])) ∧
      (g = none → i.d0.getLsbD 10 = true → exec (.take c) s = .next ((({ s with props := pr, order := s.order + 1 } : State).updChan c fun n =>
        { short n with wait := some ⟨.prop r (i.d2.extractLsb' 0 12), s.coreEdge, s.order,
            if i.d1 = 0 then none else some (s.coreEdge + BitVec.ofNat 64 (256 * i.d1.toNat))⟩ }).go [c]))) ∧
    (Executes s c .give i {} → ∀ k, s.propAt t ((s.chan c).script.a.look r) = some k → s.propBusy c ((s.chan c).script.a.look r) = false →
      (s.chan c).script.pc ≠ 4095 →
      let u : State := { s with props := { s.props with held := s.props.held.filter fun h => !(h.tenant == t && h.index.toNat == k) } }
      exec (.give c) s = .next (((u.updScript c fun p => { p.goto (p.pc.toNat + 1) with spin := p.spin + 1 }).go (u.propWaiters t)).go [c]))

/-- SCRIPT_MOVE, MOVE3 and STAMP begin a unit. -/
def Obligations.ScriptUnits : Prop :=
  ∀ (c : ChanId) (s : State) (i : Insn), let n := s.chan c; n.paceSrc ≠ 3 → n.paceSrc ≠ 5 →
    let prof := s.profile (s.tenantOf c) (i.d0.extractLsb' 16 6).toNat
    let starts (x : Xfer) : State := (s.updChan c fun n => { n with xfer := some x }).go [c]
    (let x := scriptMoveXfer n.script i prof;
      Executes s c .move i { offsets := x.scriptOffsets i .move } → exec (.scriptMove c) s = .next (starts x)) ∧
    (let x := move3Xfer n.script i (n.template i) prof;
      Executes s c .move3 i { offsets := x.scriptOffsets i .move3 } → exec (.move3 c) s = .next (starts x)) ∧
    (let source := (i.d0.extractLsb' 10 2).toNat;
      Executes s c .stamp i { offsets := if source = 3 ∨ (source = 2 ∧ n.actEn = false) then [1] else [] } →
      ∃ x : Xfer, exec (.stamp c) s = .next (((s.updScript c fun p => { p with spin := p.spin + 1 }).updChan c fun n => { n with xfer := some x }).go [c]) ∧
        x.dst = n.script.a.look (i.d0.extractLsb' 8 2) ∧ x.stamp = true ∧ x.stampNow = decide (source = 0) ∧ x.total = 1 ∧
        x.element = 3 ∧ (source = 1 → x.pattern = some n.script.tt) ∧ (source = 2 → x.pattern = some n.sceneStart))

/-- Every row of a register write performs its write. -/
def Obligations.RegisterWritesLand : Prop :=
  ∀ (a : RegWrite) (s : State) (h : Home) (r : RegSpec), Lands a s h r →
    let u := s.arrival a.via; let v := s.landing a h r; let w := s.performed a h r
    (∀ row ∈ rowsOf a, row.1 = true → exec row.2 s = .next (v.afterWrite w)) ∧
    ((∀ t, h ≠ .ten t 0x98) →
      (v.staged h).pend = ((u.staged h).pend &&& ~~~r.stg) ||| ((w.stored (u.staged h)).pend &&& r.stg) ∧
      (v.staged h).act &&& ~~~(r.imm ||| r.once ||| r.w1c) = (u.staged h).act &&& ~~~(r.imm ||| r.once ||| r.w1c) ∧
      (r.w1c &&& (r.imm ||| r.once) = 0 → (v.staged h).act &&& r.w1c = (u.staged h).act &&& r.w1c &&& ~~~w.ones) ∧
      (h ≠ .dev 0xBC0 → (v.staged h).act &&& (r.imm &&& ~~~r.w1c) = w.new &&& (r.imm &&& ~~~r.w1c)) ∧
      v.prot = u.prot ∧ v.cues = u.cues ∧ v.acts = u.acts ∧ v.mem = u.mem ∧ v.tb = u.tb ∧
      match h with
      | .dev p => ∀ i, i ≠ BitVec.ofNat 11 (p / 8) → v.dev.regs.look i = u.dev.regs.look i
      | .ten t p => v.dev.regs = u.dev.regs ∧ (∀ i, i ≠ BitVec.ofNat 9 (p / 8) → (v.tenants.look t).regs.look i = (u.tenants.look t).regs.look i) ∧
          ∀ t', t' ≠ t → v.tenants.look t' = u.tenants.look t'
      | .chan _ c p => v.dev.regs = u.dev.regs ∧ (∀ i, i ≠ BitVec.ofNat 5 (p / 8) → (v.chan c).regs.look i = (u.chan c).regs.look i) ∧
          ∀ d, d ≠ c → v.chan d = u.chan d)

/-- UNLOCK, REARM, CFG_REF_WRITE and UNLOCK_WINDOW_EXPIRY. -/
def Obligations.UnlockAndErrorLog : Prop :=
  ∀ (a : RegWrite) (s : State) (h : Home) (r : RegSpec), Lands a s h r →
    let v := s.landing a h r; let x := lo32 a.data; let isTen (p : Nat) := (∃ k : TenantId, a.page = .tenant k ∧ h = .ten k p) ∨ (a.page = .device ∧ h = .dev p)
    (isTen 0x40 → viewOf a.off = 0 → a.off.toNat % 8 = 0 → ∃ t : State, exec (.unlock a) s = .next t ∧
      ((t.ctl a.page).view a.via).openUntil = (if x = 0xC0DA then some (v.now + 38400) else none) ∧
      (t.ctl a.page).errLog.lockFaults = (if x = 0xC0DA then (v.ctl a.page).errLog.lockFaults else satAdd (v.ctl a.page).errLog.lockFaults 1) ∧
      (∀ via, via ≠ a.via → (t.ctl a.page).view via = (v.ctl a.page).view via) ∧ (∀ q, q ≠ a.page → t.ctl q = v.ctl q) ∧
      t.chans = v.chans ∧ t.prot = v.prot ∧ t.cues = v.cues) ∧
    (isTen 0x28 → viewOf a.off = 0 → ∃ t : State, exec (.rearm a) s = .next t ∧
      let e := (v.ctl a.page).errLog; let f := (t.ctl a.page).errLog
      f.lockViolation = (e.lockViolation && !(bitAt a.data 8)) ∧ f.pairDropped = (e.pairDropped && !(bitAt a.data 9)) ∧
      f.reservedHit = (e.reservedHit && !(bitAt a.data 10)) ∧ f.updateLate = (e.updateLate && !(bitAt a.data 11)) ∧
      f.lockFaults = (if bitAt a.data 12 then 0 else e.lockFaults) ∧
      f.firstKind = (if bitAt a.data 13 then 0 else e.firstKind) ∧ f.firstOffset = (if bitAt a.data 13 then 0 else e.firstOffset) ∧ t.chans = v.chans) ∧
    (isTen 0x60 → (v.ctl a.page).frozen = true → ∃ t : State, exec (.cfgRefWrite a) s = .next t ∧ (t.ctl a.page).frozen = false ∧
      (t.staged h).act &&& bits 33 0 = (v.staged h).pend &&& bits 33 0 ∧ t.chans = v.chans ∧ t.prot = v.prot) ∧
    (isTen 0x60 → (v.ctl a.page).frozen = false → exec (.cfgRefWrite a) s = .next v) ∧
    (∀ (page : Page) (via : Via) (t : Tick), ((s.ctl page).view via).openUntil = some t →
      (future s.now (t + 383) = true → exec (.unlockWindowExpiry page via) s = .next (s.closePage page via) ∧
        (s.closePage page via).isOpen page via = false ∧ (∀ q, q ≠ via → ((s.closePage page via).ctl page).view q = (s.ctl page).view q)) ∧
      (future s.now (t + 383) = false → exec (.unlockWindowExpiry page via) s = .next s))

/-- UPDATE_STROBE, TIMED_STROBE_ARM, DISCARD and TIMED_STROBE_APPLY. -/
def Obligations.StrobesAndDiscard : Prop :=
  ∀ (a : RegWrite) (s : State) (h : Home) (r : RegSpec), Lands a s h r → viewOf a.off = 0 → a.off.toNat % 8 = 0 →
    ((∃ k : TenantId, a.page = .tenant k ∧ h = .ten k 0x48) ∨ (a.page = .device ∧ h = .dev 0x48)) →
    let v := s.landing a h r; let x := lo32 a.data; let groups : BitVec 16 := x.extractLsb' 0 16
    let left (t : State) (p : Nat) (m : Word) : Prop := (t.devReg p &&& m) = ((v.staged (.dev p)).pend &&& m) ∧ (t.devReg p &&& ~~~m) = (v.devReg p &&& ~~~m)
    (x.getLsbD 16 = false → x.getLsbD 17 = false → exec (.updateStrobe a) s = .next (v.strobe a.page groups) ∧
      ((v.ctl a.page).frozen = true → v.strobe a.page groups = v) ∧
      ((v.ctl a.page).frozen = false → a.page = .device → groups = 0x40 → let t := v.strobe a.page groups
        left t 0xBC0 (bits 4 1 ||| bits 19 8 ||| bits 47 32) ∧ bitAt t.dev.ctl.pendingGroups 6 = false ∧ t.chans = v.chans ∧ t.acts = v.acts ∧ t.tenants = v.tenants) ∧
      ((v.ctl a.page).frozen = false → a.page = .device → groups = 0x20 → let t := v.strobe a.page groups
        left t 0xB80 (bits 3 0 ||| bits 63 8) ∧ t.devReg 0xBC0 = v.devReg 0xBC0 ∧ t.chans = v.chans)) ∧
    (x.getLsbD 17 = true → exec (.discard a) s = .next (v.discardGroups a.page groups) ∧
      (a.page = .device → groups = 0x40 → let t := v.discardGroups a.page groups; let m := bits 4 1 ||| bits 19 8 ||| bits 47 32
        (t.staged (.dev 0xBC0)).pend &&& m = (v.staged (.dev 0xBC0)).act &&& m ∧ (t.staged (.dev 0xBC0)).act = (v.staged (.dev 0xBC0)).act) ∧
      (∀ k, (v.ctl a.page).armed = some k →
        (k.groups &&& ~~~groups = 0 → ((v.discardGroups a.page groups).ctl a.page).armed = none) ∧
        (k.groups &&& ~~~groups ≠ 0 → ((v.discardGroups a.page groups).ctl a.page).armed = some { k with groups := k.groups &&& ~~~groups }))) ∧
    (x.getLsbD 16 = true → x.getLsbD 17 = false → let at_ := match a.page with | .device => v.devReg 0x50 | .tenant t => v.tenReg t 0x50
      (futureBy 64 at_ v.now = true → exec (.timedStrobeArm a) s = .next (v.updCtl a.page fun c => { c with armed := if (v.ctl a.page).frozen then none else some ⟨at_, groups⟩ })) ∧
      (futureBy 64 at_ v.now = false → ∃ t : State, exec (.timedStrobeArm a) s = .next t ∧ (t.ctl a.page).errLog.updateLate = true ∧
        t = ((v.updCtl a.page fun c => { c with armed := none }).strobe a.page groups).lateUpdate a.page)) ∧
    (∀ k, (s.ctl a.page).armed = some k →
      let clocked := s.power.state ≠ .interval ∧ s.power.state ≠ .dark ∧ s.power.state ≠ .shuttered
      (future k.time s.coreEdge = false → clocked → (a.page = .device → bitAt k.groups 2 = true → s.coreEdge = s.refEdge) → exec (.timedStrobeApply a.page) s = .next ((s.updCtl a.page fun c => { c with armed := none }).strobe a.page k.groups)) ∧
      (future k.time s.coreEdge = true ∨ ¬clocked → exec (.timedStrobeApply a.page) s = .next s))

/-- T_PROP_FREE, T_CUE_SET, ADMIN_ENABLE, ADMIN_DISABLE and PIN_OUT_WRITE. -/
def Obligations.TenantWrites : Prop :=
  ∀ (a : RegWrite) (s : State) (t : TenantId) (p : Nat) (r : RegSpec), Lands a s (.ten t p) r → a.page = .tenant t → viewOf a.off = 0 →
    let v := s.landing a (.ten t p) r; let x := lo32 a.data
    (p = 0x78 → a.off.toNat % 8 = 0 → let i := (x.extractLsb' 0 16).toNat; let mine (h : HeldProp) : Bool := h.tenant == t && decide (h.index.toNat = i)
      ((∃ h ∈ v.props.held, mine h = true) →
        let u : State := { v with props := { v.props with held := v.props.held.filter fun h => !(h.tenant == t && h.index.toNat == i) } }
        exec (.tPropFree a) s = .next (u.go (u.propWaiters t))) ∧
      ((∀ h ∈ v.props.held, mine h = false) → ∃ u, exec (.tPropFree a) s = .next u ∧ bitAt (u.tenReg t 0x88) 48 = true ∧ u.props = v.props ∧ u.chans = v.chans)) ∧
    (p = 0x80 → a.off.toNat % 8 = 0 → let q : CueId := x.extractLsb' 0 10
      ∃ u, exec (.tCueSet a) s = .next (u.go (u.waitersOf q)) ∧
        (u.cues.look q).count.toNat = min ((v.cues.look q).count.toNat + (x.extractLsb' 16 16).toNat) 0xFFFF ∧
        (∀ k, k ≠ q → u.cues.look k = v.cues.look k) ∧ Kept { v with cues := u.cues, edgeSignals := u.edgeSignals } u) ∧
    (p = 0x110 → a.off.toNat % 8 = 0 → x.getLsbD 31 = true → bitAt (s.written a (.ten t p) r).old 31 = false →
      let e := (s.written a (.ten t p) r).new
      (v.adminReady t e = true → ∃ u, exec (.adminEnable a) s = .next u ∧ (u.sq t 0).state = .active ∧ (u.sq t 0).base = v.tenReg t 0x100 ∧
        (u.sq t 0).head = 0 ∧ (u.sq t 0).tail = 0 ∧ (u.sq t 0).log2.toNat = field e 3 0 ∧ (u.cq t 0).state = .active ∧
        (u.cq t 0).base = v.tenReg t 0x108 ∧ (u.cq t 0).log2.toNat = field e 7 4 ∧ (u.cq t 0).vector.toNat = field e 15 8 ∧
        (u.tenants.look t).adminErr = false ∧ (u.tenants.look t).untaken = [] ∧ (∀ q, q ≠ 0 → u.sq t q = v.sq t q) ∧ u.chans = v.chans) ∧
      (v.adminReady t e = false → ∃ u, exec (.adminEnable a) s = .next u ∧ (u.tenants.look t).adminErr = true ∧ bitAt (u.tenReg t 0x110) 31 = false ∧
        (∀ q, u.sq t q = v.sq t q) ∧ u.chans = v.chans)) ∧
    (p = 0x110 → a.off.toNat % 8 = 0 → x.getLsbD 31 = false → bitAt (s.written a (.ten t p) r).old 31 = true →
      ∃ u, exec (.adminDisable a) s = .next u ∧ (u.tenants.look t).untaken = [] ∧ (u.sq t 0).stamps = [] ∧ (u.sq t 0).head = (v.sq t 0).head ∧
        (∀ q, q ≠ 0 → u.sq t q = v.sq t q) ∧ u.chans = v.chans) ∧
    (p = 0x98 → a.eight = true → exec (.pinOutWrite a) s = .next v ∧ ∀ m : PinId, m.toNat < 48 →
      bitAt (v.devReg 0x988) m.toNat = (if (s.arrival a.via).ownsPin t m = true ∧ (s.arrival a.via).pinFunc m = 2 then bitAt a.data m.toNat
        else bitAt ((s.arrival a.via).devReg 0x988) m.toNat))

/-- TRACE_MARK, SOFT_RESET, STAGE_MANAGER_DESIGNATION, MEM_BOARD_WRITE, STROBE_ARM and PPS_OUT_CONFIG. -/
def Obligations.DeviceWrites : Prop :=
  (∀ (a : RegWrite) (s : State) (p : Nat) (r : RegSpec), a.page = .device → viewOf a.off = 0 → a.off.toNat = p → 
    let u := s.arrival a.via; let v := s.landing a (.dev p) r; let x := lo32 a.data
    (p = 0xBD0 → Lands a s (.dev p) r → exec (.traceMark a) s = .next (v.note 0 0x05 none none x)) ∧
    (∀ n : BitVec 3, p = 0x140 + 8 * n.toNat → Lands a s (.dev p) r → bitAt a.data 0 = true → bitAt a.data 3 = false →
      ∃ t : State, exec (.strobeArm a) s = .next t ∧ t.tb.strobeDue.look n = none ∧
        (futureBy 64 (v.devReg (0x180 + 8 * n.toNat)) v.now = true → bitAt (t.devReg p) 0 = true ∧ t.dev = v.dev) ∧
        (futureBy 64 (v.devReg (0x180 + 8 * n.toNat)) v.now = false → bitAt (t.devReg p) 0 = false ∧ bitAt (t.devReg p) 8 = true)) ∧
    (p = 0x130 → Lands a s (.dev p) r → ∃ t : State, exec (.ppsOutConfig a) s = .next t ∧ (bitAt a.data 0 = false → t.tb.ppsOut = false) ∧
        (bitAt a.data 0 = true → t = v) ∧ bitAt (t.devReg p) 0 = bitAt a.data 0 ∧ t.chans = v.chans ∧ t.acts = v.acts ∧ t.prot = v.prot) ∧
    (p = 0xB08 → Lands a s (.dev p) r → ∃ t : State, exec (.memBoardWrite a) s = .next t ∧ t.boot.boardRecord = some (x &&& 0x1F) ∧
        t.chans = v.chans ∧ t.prot = v.prot ∧ t.guard = v.guard) ∧
    (p = 0x68 → a.off.toNat % 8 = 0 → a.odd = false → s.reaches a.via = true → (s.touched a.via).barsShut = false → u.regAt a.via .device a.off = some (.dev 0x68, r) →
      a.eight = false → a.via = .house → u.devState = .houseOnly → u.prot.designated = false →
      ∃ t : State, exec (.stageManagerDesignation a) s = .next t ∧ t.prot.designated = true ∧ t.prot.map.smTenant = x.extractLsb' 0 4 ∧
        t.prot.map.smPort = x.getLsbD 4 ∧ (∃ w : Window, (t.prot.map.records.look (x.extractLsb' 0 4)).windows.look 0 = w ∧ w.valid = true ∧
          w.tag = (if x.getLsbD 4 then 3 else 2) ∧ w.base = 0 ∧ w.last = BitVec.allOnes 60 ∧ w.read = true ∧ w.write = true) ∧
        (∀ k, k ≠ x.extractLsb' 0 4 → t.prot.map.records.look k = u.prot.map.records.look k) ∧ t.chans = u.chans ∧ t.tenants = u.tenants)) ∧
  (∀ (a : RegWrite) (s : State) (r : RegSpec), a.page = .device → a.off = 0x6C → Lands a s (.dev 0x68) r →
    let v := s.landing a (.dev 0x68) r
    (lo32 a.data = 0x5E7A → exec (.softReset a) s = .next (v.restart 2)) ∧
    (lo32 a.data ≠ 0x5E7A → ∃ t : State, exec (.softReset a) s = .next t ∧ t.dev.ctl.errLog.lockViolation = true ∧
      t.chans = v.chans ∧ t.acts = v.acts ∧ t.prot = v.prot ∧ t.mem = v.mem ∧ t.tb = v.tb ∧ t.tenants = v.tenants))

/-- SHADOW_ARM, SHADOW_DISARM, APERTURE_MOVE and SYSREF_ARM. -/
def Obligations.ShadowApertureSysref : Prop :=
  ∀ (a : RegWrite) (s : State) (h : Home) (r : RegSpec), Lands a s h r → viewOf a.off = 0 →
    let v := s.landing a h r
    (∀ t c, a.page = .tenant t → h = .chan t c 0x50 → (v.chan c).mode = .shadow →
      (bitAt a.data 0 = true →
        (v.setError c = none → exec (.shadowArm a) s = .next (v.go [c]) ∧ bitAt ((v.chan c).reg 0x50) 0 = true) ∧
        (∀ off kind, v.setError c = some (off, kind) → ∃ u, exec (.shadowArm a) s = .next u ∧ bitAt ((u.chan c).reg 0x50) 0 = false ∧
          bitAt ((u.chan c).reg 0x50) 1 = true ∧ (u.chan c).shadow.armErrOffset = BitVec.ofNat 8 off ∧ (u.chan c).shadow.armErrKind = BitVec.ofNat 4 kind ∧
          (∀ d, d ≠ c → u.chan d = v.chan d) ∧ u.cues = v.cues)) ∧
      (bitAt a.data 0 = false → exec (.shadowDisarm a) s = .next v ∧ bitAt ((v.chan c).reg 0x50) 0 = false ∧
        (∀ k : Nat, k < 8 → (v.chan c).reg (0xC0 + 8 * k) = ((s.arrival a.via).chan c).reg (0xC0 + 8 * k)) ∧ ∀ d, d ≠ c → v.chan d = (s.arrival a.via).chan d)) ∧
    (∀ k : Nat, k < 2 → a.page = .device → h = .dev (0x90 + 8 * k) → exec (.apertureMove a) s = .next v ∧
      field (v.devReg (0x90 + 8 * k)) 35 20 = field a.data 35 20 ∧ v.chans = (s.arrival a.via).chans ∧ v.prot = (s.arrival a.via).prot) ∧
    (a.page = .device → h = .dev 0x1850 → ∃ u, exec (.sysrefArm a) s = .next u ∧
      (bitAt a.data 0 = false → u.conv.sysrefNext = none ∧ u.conv.sysrefLeft = none ∧ bitAt (u.devReg 0x1850) 0 = false) ∧
      (bitAt a.data 0 = true → field a.data 2 1 = 0 → bitAt a.data 3 = false → futureBy 64 (v.devReg 0x1858) v.now = true →
        u.conv.sysrefNext = some (v.devReg 0x1858) ∧ u.conv.sysrefLeft = some 1 ∧ bitAt (u.devReg 0x1850) 0 = true) ∧
      u.chans = v.chans ∧ u.acts = v.acts ∧ u.prot = v.prot)

/-- VIEW_WRITE, LOW_WORD_WRITE and the commit of a pair. -/
def Obligations.ViewsAndHalves : Prop :=
  ∀ (a : RegWrite) (s : State) (h : Home) (r : RegSpec), (partOf a).view = viewOf a.off ∧
    (Lands a s h r → viewOf a.off ≠ 0 → let w := s.performed a h r; let d := (partOf a).data &&& (partOf a).sel
      exec (.viewWrite a) s = .next ((s.landing a h r).afterWrite w) ∧ w.ones = 0 ∧ w.new &&& ~~~r.rw = w.old &&& ~~~r.rw ∧
      (viewOf a.off = 1 → w.new &&& r.rw = (w.old ||| d) &&& r.rw) ∧
      (viewOf a.off = 2 → w.new &&& r.rw = (w.old &&& ~~~d) &&& r.rw) ∧
      (viewOf a.off = 3 → w.new &&& r.rw = (w.old ^^^ d) &&& r.rw)) ∧
    (let u := s.arrival a.via; s.reaches a.via = true → (s.touched a.via).barsShut = false → a.odd = false → a.eight = false → a.off.toNat % 8 = 0 →
      u.regAt a.via a.page a.off = some (h, r) → r.wide = true → ((u.ctl a.page).view a.via).heldLow = none →
      let v := u.setHeld a.page a.via (some ⟨a.off, lo32 a.data⟩)
      exec (.lowWordWrite a) s = .next v ∧ v.staged h = u.staged h ∧ ((v.ctl a.page).view a.via).heldLow = some ⟨a.off, lo32 a.data⟩) ∧
    (let u := s.arrival a.via; ∀ k : HalfWord, s.reaches a.via = true → (s.touched a.via).barsShut = false → a.odd = false → a.eight = false → a.off.toNat % 8 = 4 →
      u.regAt a.via a.page a.off = some (h, r) → r.wide = true → viewOf a.off = 0 → ((u.ctl a.page).view a.via).heldLow = some k → k.off = a.off - 4 →
      let v := u.setHeld a.page a.via none
      let w := v.writeOf a.via a.page a.off h r [⟨0, k.word.zeroExtend 64, bits 31 0⟩, ⟨0, (lo32 a.data).zeroExtend 64 <<< 32, bits 63 32⟩]
      v.judgeWrite w = .takes → w.guardHit = false → w.onceHit = false → exec (.registerWrite a) s = .next ((v.store1 (v.eventsWin w)).afterWrite (v.eventsWin w)) ∧
        w.new &&& r.rw = (lo32 a.data ++ k.word) &&& r.rw)

/-- LOW_WORD_READ, T_PROP_ALLOC and PRBS_ERR_READ. -/
def Obligations.RegisterReads : Prop :=
  ∀ (a : RegRead) (s : State) (h : Home) (r : RegSpec), let u := s.arrival a.via
    s.reaches a.via = true → (s.touched a.via).barsShut = false → a.odd = false → sizeOk a.off a.eight = true → u.regAt a.via a.page a.off = some (h, r) →
    (a.eight = false → a.off.toNat % 8 = 0 → r.wide = true → (∀ t, h ≠ .ten t 0x70) → h ≠ .dev 0x1898 →
      let x := u.regValue a.via h r
      let v := u.updCtl a.page fun c => c.updView a.via fun y => { y with shadow := some ⟨BitVec.ofNat 18 (baseOf a.off / 8 * 8), hi32 x⟩ }
      exec (.lowWordRead a) s = .next (v.emit (.regData a.via false (x &&& bits 31 0))) ∧
      (∀ b : RegRead, b.via = a.via → b.page = a.page → b.odd = false → b.eight = false → b.off = a.off + 4 → viewOf a.off = 0 →
        v.arrival a.via = v → (v.touched a.via).barsShut = false → v.reaches a.via = true →
        exec (.lowWordRead b) v = .next (v.emit (.regData a.via false ((hi32 x).zeroExtend 64))))) ∧
    (∀ t, a.page = .tenant t → h = .ten t 0x70 → a.eight = false → baseOf a.off = 0x70 →
      let taker := if a.via = .hp1 then 97 else 96; let pr := u.props.atEdge u.coreEdge; let rivals := u.propRivals.filter fun x => x.2 != taker
      let g := ({ u with props := pr } : State).propFor t taker rivals; let far := takerAfter pr.first taker
      (rivals = [] → g = if u.propsLeft t then u.freeProp else none) ∧
      (∀ i, g = some i → let held := ⟨BitVec.ofNat 16 i, t, taker⟩ :: u.props.held
        exec (.tPropAlloc a) s = .next (({ u with props := if (pr.reach.map fun d => decide (far < d)) = some true then { pr with held := held }
          else { pr with held := held, pointer := (taker + 1) % 98, reach := some far } } : State).emit (.regData a.via false (BitVec.ofNat 64 i &&& bits 31 0)))) ∧
      (g = none → exec (.tPropAlloc a) s = .next ((({ u with props := pr } : State).updTenant t fun n => { n with starved := satAdd n.starved 1 }).emit (.regData a.via false 0xFFFF)))) ∧
    (a.page = .device → h = .dev 0x1898 → a.eight = true → ∃ v : State, exec (.prbsErrRead a) s = .next (v.emit (.regData a.via true (u.regValue a.via h r))) ∧
      v.conv.prbsErr = 0 ∧ v.conv.links = u.conv.links ∧ v.chans = u.chans ∧ v.dev = u.dev)

/-- SQ_TAIL_DOORBELL, CQ_HEAD_DOORBELL, SQ_ENTRY_FETCH and FETCH_RETURN. -/
def Obligations.DoorbellsAndFetches : Prop :=
  (∀ (via : Via) (t : TenantId) (q : QueueId) (value : Dword) (s : State), let u := s.arrival via
      s.reaches via = true → (s.touched via).barsShut = false →
      ((u.bellAt via (.tenant t) (bellOffset false q)).isSome = true →
        (u.clocksOff = true → exec (.sqTailDoorbell via t q value) s = .next { u with power := { u.power with held := u.power.held ++ [⟨false, t, q, value⟩] } }) ∧
        (u.clocksOff = false → (u.sq t q).state = .faulted → exec (.sqTailDoorbell via t q value) s = .next u) ∧
        (u.clocksOff = false → (u.sq t q).state = .active → let n := ringSize (u.sq t q).log2; let x := u.sq t q
          (n ≤ value.toNat → exec (.sqTailDoorbell via t q value) s = .next (u.faultSq t q 1 0x09 (BitVec.ofNat 32 (1 + 65536 * (value.toNat % 65536))))) ∧
          (value.toNat < n → value.toNat < 65536 → ringDiff x.log2 (value.truncate 16) x.tail ≤ n - 1 - ringDiff x.log2 x.tail x.head →
            let v := u.updSq t q fun x => { x with tail := value.truncate 16, ownWait := false, stamps := if q = 0 then x.stamps ++ [(value.truncate 16, u.now)] else [] }
            exec (.sqTailDoorbell via t q value) s = .next (match x.slot with | some c => v.go [c] | none => v)))) ∧
      ((u.bellAt via (.tenant t) (bellOffset true q)).isSome = true → u.clocksOff = false → (u.cq t q).state = .active → (u.cq t q).held = [] →
        (∀ c ∈ u.chansOnCq t q, (u.chan c).state ≠ .stopped) → let x := u.cq t q
        value.toNat < ringSize x.log2 → value.toNat < 65536 → ringDiff x.log2 (value.truncate 16) x.head ≤ ringDiff x.log2 x.tail x.head →
        exec (.cqHeadDoorbell via t q value) s = .next ((u.updCq t q fun c => { c with head := value.truncate 16 }).go (u.chansOnCq t q)))) ∧
    (∀ (s : State) (t : TenantId) (q : QueueId) (i : BitVec 16) (bytes : List Byte) (ecc : Ecc),
      let x := s.sq t q; let a := x.base + BitVec.ofNat 64 (64 * i.toNat); let dw := descOf (bytes.take 64)
      s.entryReadable t q i = some true → x.retryOf i = none → s.checkAccess t a 64 false = none → bytes.length = 64 →
      (∃ p, hostOf a = some p ∧ (s.port p).usable = true) →
      (bitAt (packetDw dw 0) 31 = x.markAt i → q ≠ 0 → ∀ c, x.slot = some c → exec (.sqEntryFetch t q i .good bytes ecc) s = .next ((s.updSq t q fun x => { x.forget i with entries := x.entries ++ [⟨i, dw⟩] }).go [c])) ∧
      (bitAt (packetDw dw 0) 31 ≠ x.markAt i → exec (.sqEntryFetch t q i .good bytes ecc) s = .next (s.updSq t q fun x => { x.forget i with ownWait := true, waitAt := i }))) ∧
    (∀ (s : State) (c : ChanId) (a : Addr) (bytes : List Byte) (ecc : Ecc), (s.chan c).retries = [] →
      (∃ p, hostOf a = some p ∧ (s.port p).usable = true) →
      ((s.chan c).fetch = some (a, .chain) → bytes.length = 64 → exec (.fetchReturn c .good bytes ecc) s = .next ((s.updChan c fun n => { n with fetch := none, chain := n.chain.map fun h => { h with ahead := h.ahead ++ [(a, descOf bytes)] } }).go [c])) ∧
      ((s.chan c).fetch = some (a, .block) → bytes.length = 256 → exec (.fetchReturn c .good bytes ecc) s = .next ((s.updChan c fun n => { n with fetch := none, script := { n.script with blocks := n.script.blocks ++ [(a, bytes)] } }).go [c])))

/-- PERIOD_START, CALL_TIME, TIME_PACE_RELEASE and RATE_CREDIT. -/
def Obligations.PeriodsAndPacing : Prop :=
  ((∀ (a : ActId) (s : State), let x := s.acts.look a
      (x.running = true → s.tb.timeValid = true → due x.nextStart s.actEdge = true → let u := s.strobesFirst; let y := u.acts.look a; ∃ w : State,
        let v := match s.actCue a with | some q => w.signal q 1 | none => w
        let l := v.boundTo a
        exec (.periodStart a) s = .next ((v.forAll l fun c s => s.reachChan c y.nextStart).go l) ∧
        (w.acts.look a).nextIndex = y.nextIndex + 1 ∧ (w.acts.look a).periodCount = y.periodCount + 1 ∧
        (w.acts.look a).nextStart = u.periodAt a (y.nextIndex + 1) ∧ (w.acts.look a).running = y.running ∧
        (∀ b, b ≠ a → w.acts.look b = u.acts.look b) ∧ w.prot = u.prot ∧ w.mem = u.mem ∧ w.chans = u.chans ∧ w.cues = u.cues) ∧
      (x.running = false ∨ s.tb.timeValid = false ∨ due x.nextStart s.actEdge = false → exec (.periodStart a) s = .next s)) ∧
    (∀ (s : State) (c : ChanId) (p : Tick), bitAt ((s.chan c).reg 0x40) 1 = false →
      ((s.chan c).state ≠ .armed → ((s.reachChan c p).chan c).periodPending = some p ∧
        ((s.reachChan c p).chan c).sceneSkip = (if (s.chan c).periodPending.isSome then satAdd (s.chan c).sceneSkip 1 else (s.chan c).sceneSkip) ∧
        ∀ d, d ≠ c → (s.reachChan c p).chan d = s.chan d) ∧
      ((s.chan c).state = .armed → s.actMay c = false → s.reachChan c p = s) ∧
      ((s.chan c).holdsScene = true → s.actMay c = true → s.dataOn = true → s.reachChan c p = s.release c p) ∧
      (∀ w, (s.chan c).mode = .queue → (s.chan c).armedWork = some w → descFlag w.dw fCurtain = false → (s.chan c).curtain = none →
        let r := (s.release c p).chan c
        r.state = .running ∧ r.work = some w ∧ r.armedWork = none ∧ r.sceneStart = p ∧ r.script.tt = p ∧ r.atBoundary = false ∧ r.after = some .startUnit)) ∧
    (∀ (s : State) (a : ActId), s.called = some a → s.power.state ≠ .lit →
      ∃ t : State, exec .callTime s = .next t ∧ t.power.waking = true ∧ (s.power.waking = false → t.power.wakeAct = a ∧ t.power.wakeAt = s.tb.refclkCount ∧ t.power.wakeCause = 1 <<< 3) ∧
        Kept { s with power := t.power } t) ∧
    (∀ s : State, s.called = none ∨ s.power.state = .lit → exec .callTime s = .next s)) ∧
  (∀ (c : ChanId) (s : State),
    (let n := s.chan c; let i := if n.actEn then n.sceneStart + n.paceTime else n.paceTime;
      (s.paces c 5 = true → n.timeOpen = false → n.xfer.isSome = true → due i s.coreEdge = true →
        exec (.timePaceRelease c) s = .next ((s.updChan c fun n => { n with timeOpen := true }).go [c])) ∧
      (due i s.coreEdge = false → exec (.timePaceRelease c) s = .next s)) ∧
    (let v := s.strobesFirst; let n := v.chan c; v.paces c 3 = true → n.rateOk = true →
      let inc := field (n.reg 0x28) 47 0; let m := field (n.reg 0x30) 47 0; let sum := n.rateAcc.toNat + inc
      let steps (f : Chan → Chan) : Prop := exec (.rateCredit c) s = .next ((v.updChan c f).go [c])
      (bitAt (n.reg 0x40) 0 = true → let scaled := inc * v.tb.factor + n.rateFrac; let total := n.rateAcc.toNat + scaled / 2 ^ 40
        steps fun n => { Chan.credits (total / m) { n with rateFrac := scaled % 2 ^ 40 } with rateAcc := BitVec.ofNat 48 (total % m) }) ∧
      (bitAt (n.reg 0x40) 0 = false → n.rateAcc.toNat < m → (sum < m → steps fun n => { n with rateAcc := BitVec.ofNat 48 sum }) ∧
      (m ≤ sum → n.wantsCredit = true → steps fun n => { n with rateAcc := BitVec.ofNat 48 (sum - m), released := n.released + 1 }) ∧
      (m ≤ sum → n.wantsCredit = false → n.rateBank ≠ 255 → steps fun n => { n with rateAcc := BitVec.ofNat 48 (sum - m), rateBank := n.rateBank + 1 }) ∧
      (m ≤ sum → n.wantsCredit = false → n.rateBank = 255 →
        steps fun n => { n with rateAcc := BitVec.ofNat 48 (sum - m), rateOverrun := true, rateSlip := satAdd n.rateSlip 1 }))))

/-- CURTAIN, STOP_TAKES_EFFECT and SHADOW_SWAP. -/
def Obligations.CurtainsStopsSwaps : Prop :=
  ∀ (c : ChanId) (s0 : State),
    (let s := s0.strobesFirst; let n := s.chan c
      (n.mode = .queue → n.live = true → s.curtainDue c = true → s.frozenUnit c = false → n.haltDue = false →
      (n.work.isSome = true → n.after = some .startUnit ∨ (n.after = none ∧ ∃ x, n.xfer = some x ∧ x.done = false) →
        exec (.curtain c) s0 = .next ((s.startLate c).go [c]) ∧ ((s.startLate c).chan c).after = some .late ∧ ((s.startLate c).chan c).reads = [] ∧
        ((s.startLate c).chan c).fetch = none ∧ ((s.startLate c).chan c).walk = none ∧ ((s.startLate c).chan c).retries = [] ∧ ((s.startLate c).chan c).wait = none) ∧
      (n.work = none → n.discard = none → exec (.curtain c) s0 = .next ((s.updChan c fun n => { n with discard := some ⟨true, 0, 0, 0, 0, false⟩, state := .waiting }).go [c]))) ∧
      (s.curtainDue c = false → exec (.curtain c) s0 = .next s0)) ∧
    (let s := s0; let n := s.chan c
    (n.live = true → n.stopping = true → n.haltDue = false → s.shFrozen n.effective = false →
      (match n.mode with | .queue => s.stopQueue c | .script => s.stopScript c | .shadow => n.stopShadow) = true →
      ∃ t : State, exec (.stopTakesEffect c) s = .next t ∧ (t.chan c).state = .stopped ∧ (t.chan c).stopPending = false ∧ (t.chan c).drainPending = false ∧
        (t.chan c).periodPending = none ∧ (t.chan c).wait = none ∧ (t.chan c).work = n.work ∧ (∀ d, d ≠ c → t.chan d = s.chan d) ∧
        t.cues = s.cues ∧ t.acts = s.acts ∧ t.prot = s.prot) ∧
    (s.swapDue c = true → exec (.shadowSwap c) s = .next ((s.swapPoint c).go [c])) ∧
    (s.swapDue c = true → bitAt (n.reg 0x50) 0 = true → let r := (s.swapPoint c).chan c
      (∀ k : Nat, k < 8 → r.reg (0x80 + 8 * k) = n.reg (0xC0 + 8 * k) ∧ r.reg (0xC0 + 8 * k) = n.reg (0xC0 + 8 * k)) ∧ bitAt (r.reg 0x50) 0 = false ∧
      r.shadow.swapCount = n.shadow.swapCount + 1 ∧ r.shadow.setValid = true ∧ r.state = .running ∧ ∀ d, d ≠ c → (s.swapPoint c).chan d = s.chan d))

/-- ADMISSION, BEAT and READ_DATA_RETURN. -/
def Obligations.StagehandCommands : Prop :=
  (∀ (h : ShId) (s : State) (c : ChanId) (x : Xfer), let occ := (s.sh.look h).occupants
      s.dataOn = true → s.shFrozen h = false → bestOf (s.betterCandidate h) (allChans.filter fun c => s.candidate h c && s.qualifies occ c) = some c →
      (s.chan c).xfer = some x → x.profile = 0 → ∃ w : State, exec (.admission h) s = .next (w.go [c]) ∧
        (w.sh.look h).occupants = occ ++ [c] ∧ (w.chan c).slot = some (s.freeSlotOf occ) ∧ (∀ k, k ≠ h → w.sh.look k = s.sh.look k) ∧
        ((w.sh.look h).pointers.look (s.chan c).priority).toNat = (c.toNat + 1) % 96 ∧ (∀ d, d ≠ c → w.chan d = s.chan d) ∧
        Kept { s with sh := w.sh, chans := w.chans } w) ∧
    (∀ (h : ShId) (s : State), s.dataOn = true → s.shFrozen h = false →
      (∀ c m, s.beatWinner h = some (c, m) → let v := (s.wakeBy 5).passBeat h c; let w := v.beatOf c m; let y := w.go [c]
        let occ := (y.sh.look h).occupants
        exec (.beat h) s = .next ((y.issueFirst (y.serveOrder occ)).go occ) ∧
        (∀ x a bs planned, (v.chan c).xfer = some x → x.burst = some (a, bs, planned) → x.dstEp = none → x.pattern = none →
          bs.length + m < planned → ({ x with written := x.written + m } : Xfer).done = false →
          ∃ z : Xfer, (w.chan c).xfer = some z ∧ z.written = x.written + m ∧ z.burst = some (a, bs ++ x.dstBuf.take m, planned) ∧
            z.dstBuf = x.dstBuf.drop m ∧ z.moved = x.movedAt (x.written + m) ∧ ∀ d, d ≠ c → w.chan d = v.chan d)) ∧
      (s.beatWinner h = none → (s.sh.look h).writing = none → let occ := (s.sh.look h).occupants
        exec (.beat h) s = .next ((s.issueFirst (s.serveOrder occ)).go occ))) ∧
    (∀ (s : State) (c : ChanId) (r : ReadReq) (rest : List ReadReq) (x : Xfer) (p : HostPort) (bytes : List Byte) (ecc : Ecc),
      (s.chan c).reads = r :: rest → (s.chan c).xfer = some x → (s.chan c).retries = [] → hostOf r.addr = some p → r.got = none →
      bytes.length = r.len → let v := s.dropPortRead r.addr r.tag
      let y : Xfer := { x with srcBuf := x.srcBuf ++ bytes }
      let w := v.updChan c fun n => { n with reads := rest, xfer := some (Xfer.convert (y.srcBuf.length + 1) y) }
      exec (.readDataReturn c .good bytes ecc) s = .next ((w.failOldest c).go [c]))

/-- WRITE_BURST_COMPLETE, RETRY, WRITE_ARRIVAL_READBACK and RESET_PROOF_TIMEOUT. -/
def Obligations.WritesRetriesProofs : Prop :=
  (∀ (s : State) (c : ChanId) (land : LandAt) (w : WriteReq) (p : HostPort) (ecc : Ecc), s.nextLanding c land = some w → w.stand = .out →
      (s.chan c).retries = [] → hostOf w.addr = some p → (s.port p).usable = true →
      let t : ProofTarget := match p with | .hp0 => .hp0 | .hp1 => .hp1
      exec (.writeBurstComplete (.channel c land) .good ecc) s = .next ((s.updChan c fun n => { n with writes := n.writes.filter fun x => x != w, unproven := (t, w.addr + BitVec.ofNat 64 (w.bytes.length - 1)) :: n.unproven.filter fun p => p.1 != t }).go [c])) ∧
    (∀ (s : State) (land : LandAt) (w : CplWrite) (p : HostPort) (ecc : Ecc), s.cplLanding land = some w → hostOf w.addr = some p →
      (s.port p).usable = true → exec (.writeBurstComplete (.completion land) .good ecc) s = .next (((s.sendVectors w.tenant w.vectors).cplLeaves w).go allChans)) ∧
    (∀ (s : State) (c : ChanId) (r : Retry) (w : WriteReq), let u := s.retryCpls c; u.dueRetry c = some r → r.what = rWrite → u.dataOn = true →
      u.curtainDue c = false → u.frozenUnit c = false → (u.chan c).writes.find? (fun w => w.addr == r.addr) = some w →
      u.checkAccess (u.tenantOf c) w.addr w.bytes.length true = none →
      let v := u.updChan c fun n => { n with retries := n.retries.map fun q => if q = r then { q with waiting := false } else q }
      exec (.retry c) s = .next ((v.sendWrite c w).go allChans)) ∧
    (∀ (s : State) (c : ChanId), let u := s.retryCpls c; (u.dueRetry c = none → exec (.retry c) s = .next (u.go allChans)) ∧
      ((∀ w ∈ s.cplWrites, w.retryAt = none) → u = s)) ∧
    (∀ (s : State) (c : ChanId) (t : ProofTarget) (a : Addr) (p : HostPort) (bytes : List Byte) (ecc : Ecc), (s.chan c).proofOn = true →
      (s.chan c).proving.find? (fun p => p.1 == t) = some (t, a) → (s.chan c).retries = [] → hostOf a = some p → (s.port p).usable = true →
      (s.chan c).verified = none →
      exec (.writeArrivalReadback c (some t) .good bytes ecc) s = .next ((s.updChan c fun n => { n with proving := n.proving.filter fun p => p.1 != t }).go [c])) ∧
    (∀ (s : State) (c : ChanId) (t0 : Tick) (k : Nat), (s.chan c).after = some (.resetWrites t0 k) → due (t0 + 57600000) s.coreEdge = true →
      exec (.resetProofTimeout c) s = .next (({ s with cplWrites := s.cplWrites.filter fun w => w.chan != some c } : State).go [c])) ∧
    (∀ (s : State) (c : ChanId) (t0 : Tick), (s.chan c).after = some (.reset t0) →
      (due (t0 + 57600000) s.coreEdge = true → ∃ w : State, exec (.resetProofTimeout c) s = .next (w.go [c]) ∧ (w.chan c).proving = [] ∧ (w.chan c).unproven = [] ∧
        (w.chan c).writes = [] ∧ (∀ x ∈ (s.chan c).proving ++ (s.chan c).unproven, (w.chan c).unprovenMask.getLsbD (proofBit x.1) = true) ∧
        (∀ d, d ≠ c → w.chan d = s.chan d) ∧ Kept { s with chans := w.chans } w) ∧
      (due (t0 + 57600000) s.coreEdge = false → exec (.resetProofTimeout c) s = .next s))

/-- WATCHMAN_SCAN, CFG_CRC_PASS, PROMPTER_STALL, PROPOSAL_EXPIRY and LONG_COMMAND_FINISH. -/
def Obligations.SupervisionEvents : Prop :=
  (∀ (s : State) (v : ChanId) (k : Nat), s.dataOn = true → s.deadVictims = [(v, k)] → exec .watchmanScan s = .next ((s.breakWait v k).go [v])) ∧
    (∀ s : State, s.dataOn = false ∨ s.deadVictims = [] → exec .watchmanScan s = .next s) ∧
    (∀ (s : State) (c : ChanId) (k : Nat) (w : Wait) (q : CueId) (n : BitVec 16) (keep : Bool), (s.chan c).wait = some w →
      (∀ target, w.kind = .cue q n keep (some target) → let r := ((s.breakWait c k).chan c).script
        r.failTaken = true ∧ r.failCause = 2 ∧ r.pc = target ∧ r.detail = (s.chan c).script.pc.zeroExtend 32 ∧ (s.breakWait c k).cues = s.cues) ∧
      (w.kind = .cue q n keep none → ∃ u : State, s.breakWait c k = u.failPlain c 0x16 k ∧ u.cues = s.cues ∧ ∀ d, d ≠ c → u.chan d = s.chan d)) ∧
    (∀ s : State, s.clocksOff = false → exec .cfgCrcPass s = .next (s.forAll (.device :: allTenants.map .tenant) fun page s => s.passScope page)) ∧
    (∀ (s : State) (page : Page), let c := s.ctl page; let d := (s.passScope page).ctl page
      (c.disturbed = true → d = { c with disturbed := false }) ∧
      (c.disturbed = false → d.crc = s.scopeCrc page ∧ d.crcValid = true ∧
        (bitAt (s.cfgRef page) 32 = true → d.mismatch = decide (lo32 (s.cfgRef page) ≠ s.scopeCrc page)) ∧
        (bitAt (s.cfgRef page) 32 = true → bitAt (s.cfgRef page) 33 = true → lo32 (s.cfgRef page) ≠ s.scopeCrc page → d.frozen = true))) ∧
    (∀ s : State, s.devState ≠ .faulted → ∃ t : State, exec .prompterStall s = .next t ∧ t.devState = .faulted ∧ bitAt (t.devReg 0x18) 2 = true ∧
      t.long = [] ∧ t.chans = s.chans ∧ t.prot = s.prot) ∧
    (∀ s : State, s.devState = .faulted → ∃ t : State, exec .prompterStall s = .next t ∧ t.boot.faultLog = s.boot.faultLog ++ [⟨2, t.now⟩] ∧ bitAt (t.devReg 0x18) 2 = true ∧
      t.devState = .faulted ∧ t.chans = s.chans ∧ t.prot = s.prot) ∧
    (∀ (s : State) (h : Proposal), s.prot.held = some h → (future s.now h.expiry = true → s.waitsBefore h.expiry = false →
        ∃ t : State, exec .proposalExpiry s = .next t ∧ t.prot.held = none ∧ t.prot.lastExpired = some h.nonce ∧ t.prot.map = s.prot.map ∧ t.chans = s.chans) ∧
      (future s.now h.expiry = false ∨ s.waitsBefore h.expiry = true → exec .proposalExpiry s = .next s)) ∧
    (∀ (s : State) (src : Source) (e : Ended) (l : LongCmd), let op (l : LongCmd) : Nat := field (packetDw l.dw 0) 7 0
      (s.longOf src).find? (fun l => [0x50, 0x61, 0x70, 0x78, 0x79].contains (op l)) = some l →
      (op l = 0x70 → exec (.longCommandFinish src e) s = .next (s.finishStage l)) ∧ (op l = 0x78 → exec (.longCommandFinish src e) s = .next (s.finishSnapshot l)) ∧
      (op l = 0x79 → exec (.longCommandFinish src e) s = .next (s.finishRestore l (e == .good))) ∧
      (op l = 0x50 ∨ op l = 0x61 → l.ref.src = .house → exec (.longCommandFinish src e) s = .next (s.finishLong l { dw2 := dwordAt l.body 0, dw3 := dwordAt l.body 1 } (l.body.drop 8))))

/-- READ, WRITE, STATUS, MBOX_PUSH, MBOX_POP and HOUSE_WORD_PERFORM. -/
def Obligations.HouseFrames : Prop :=
  ∀ s : State, let u := (s.wakeBy 1).updHouse fun h => { h with quad := bitAt (s.devReg 0x78) 32 }
    (s.boot.step.toNat < 3 → (∀ a b, exec (.status a b) s = .next s) ∧ (∀ a b, exec (.write a b) s = .next s) ∧ (∀ a n l m, exec (.read a n l m) s = .next s) ∧
      (∀ a b, exec (.mboxPush a b) s = .next s) ∧ ∀ a n, exec (.mboxPop a n) s = .next s) ∧
    (s.house.writes = [] → exec .houseWordPerform s = .next s) ∧
    (∀ w rest, s.house.writes = w :: rest → exec .houseWordPerform s = .next ((s.updHouse fun h => { h with writes := rest }).requestWrite .house .device w.off fun s =>
      s.regWrite .house .device w.off w.eight w.data)) ∧
    (3 ≤ s.boot.step.toNat →
      (exec (.status (some 0) false) s = .next (u.emit (.spi u.house.quad [u.statusByte])) ∧
        exec (.status (some 0) true) s = .next ((u.emit (.spi u.house.quad [u.statusByte])).updHouse fun h =>
          { h with mboxFull := false, mboxEmpty := false, accessErr := false, frameErr := false })) ∧
      (∀ bytes : List Byte, let dw : Vector Dword 16 := Vector.ofFn fun i => dwordAt bytes i.val
        (bytes.length < 64 → exec (.mboxPush (some 0) bytes) s = .next (u.updHouse fun h => { h with frameErr := true })) ∧
        (64 ≤ bytes.length → bytes.length = 64 + impliedBody dw → 4096 < u.house.used + bytes.length →
          exec (.mboxPush (some 0) bytes) s = .next (u.updHouse fun h => { h with mboxFull := true })) ∧
        (64 ≤ bytes.length → bytes.length = 64 + impliedBody dw → u.house.used + bytes.length ≤ 4096 →
          exec (.mboxPush (some 0) bytes) s = .next (u.updHouse fun h => { h with inbound := h.inbound ++ [⟨dw, bytes.drop 64, u.now⟩] }))) ∧
      (∀ n : Nat, u.house.outbound = [] → exec (.mboxPop (some 0) n) s = .next ((u.emit (.spi u.house.quad (0x5A :: (leBytes 2 0).take n))).updHouse fun h => { h with mboxEmpty := true })) ∧
      (∀ (n : Nat) (r : Completion × List Byte) (rest : List (Completion × List Byte)), u.house.outbound = r :: rest →
        let sent := leBytes 2 (recordBytes r).length ++ recordBytes r
        let v := u.emit (.spi u.house.quad (0x5A :: sent.take n))
        (n < sent.length → exec (.mboxPop (some 0) n) s = .next v) ∧
        (sent.length ≤ n → exec (.mboxPop (some 0) n) s = .next (v.updHouse fun h => House.settle (h.waiting.length + 1) { h with outbound := rest }))) ∧
      (∀ (a : Dword) (bytes : List Byte), a.toNat < 0x40000 → a.toNat % 4 = 0 → bytes.length = 4 → u.house.heldBytes + 4 ≤ 256 →
        exec (.write (some a) bytes) s = .next (u.updHouse fun h =>
          { h with writes := h.writes ++ [⟨BitVec.ofNat 18 a.toNat, (dwordAt bytes 0).zeroExtend 64, false⟩] })) ∧
      (∀ (a : Dword), a.toNat < 0x40000 → a.toNat % 4 = 0 → u.house.writes = [] → u.readWidth a.toNat = 4 →
        let g := u.regRead .house .device (BitVec.ofNat 18 a.toNat) false
        g.err = false → exec (.read (some a) 1 4 false) s = .next (g.s.emit (.spi g.s.house.quad (0x5A :: leBytes 4 g.data.toNat)))))

/-- BAR2_ACCESS, BAR4_ACCESS, POSTED_WRITE_DRAIN and BAR3_ACCESS. -/
def Obligations.HostMemoryAccesses : Prop :=
  ∀ s : State,
    (∀ a : BarAccess, let u := s.wakeBy 0; let off := a.off.toNat; let n := a.bytes.length
      (s.port a.port).linkUp = true → u.barsShut = false → s.devState ≠ .faulted → a.write = true → a.poisoned = false → a.enables = List.replicate n true → 0 < n →
      (off + n ≤ 2 ^ 23 → (s.hostWin a.port).sramOk off (off + n - 1) true = true → Inv s → ∃ t : State, exec (.bar2Access a) s = .next t ∧
        (∀ i (h : i < n), cellsRead t.mem.wing (off + i) = a.bytes[i]) ∧
        (∀ x, x < off ∨ off + n ≤ x → cellsRead t.mem.wing x = cellsRead s.mem.wing x) ∧ t.mem.dram = s.mem.dram ∧
        t.chans = s.chans ∧ t.dev = s.dev ∧ t.tenants = s.tenants ∧ t.prot = s.prot) ∧
      (2 ^ 23 < off + n ∨ (s.hostWin a.port).sramOk off (off + n - 1) true = false →
        exec (.bar2Access a) s = .next (u.barRefused a.port 2 a.off true a.len (u.strict (viaOf a.port)))) ∧
      (let d := s.aperture a.port + off % 2 ^ 30; off < 2 ^ 30 → d + n ≤ 2 ^ 36 → (u.checkRange (BitVec.ofNat 64 (2 ^ 60 + d)) n).isNone = true →
        (s.hostWin a.port).dramOk d (d + n - 1) true = true → (s.port a.port).postedRoom n = true →
        exec (.bar4Access a) s = .next (u.updPort a.port fun q => { q with posted := q.posted ++ [⟨d, a.bytes, a.enables⟩] }))) ∧
    (∀ (p : HostPort) (ecc : Ecc), ((s.port p).posted = [] → exec (.postedWriteDrain p ecc) s = .next s) ∧
      (∀ w rest, (s.port p).posted = w :: rest → exec (.postedWriteDrain p ecc) s = .next ((s.updPort p fun q => { q with posted := rest }).hostStore p w ecc))) ∧
    (∀ (p : HostPort) (off : BitVec 16) (data : Word), let u := s.wakeBy 0
      (s.port p).linkUp = true → u.barsShut = false → u.somePage = true → off.toNat < 0x1000 → off.toNat % 4 = 0 →
      exec (.bar3Access p true off 4 data) s = .next ((u.updPort p fun q => q.setBar3 off.toNat (lo32 data)).sendPending p) ∧
      (∀ x, (s.port p).bar3Dword off.toNat = some x → exec (.bar3Access p false off 4 data) s = .next (u.emit (.barData p (dwordBytes [x])))))

/-- CONFIGURATION_REQUEST, RECEIVED_COMPLETION, COMPLETION_TIMEOUT, LB_BEAT_END and LB_READY_TIMEOUT. -/
def Obligations.HostTransactions : Prop :=
  ∀ s : State,
    (∀ a : CfgRequest, (s.port a.port).linkUp = true →
      (a.write = true → let u := (s.wakeBy 0).updPort a.port fun q => { q with requester := a.dest }.cfgWrite a.reg a.data (enableMask a.enables)
        exec (.configurationRequest a) s = .next (u.sendPending a.port) ∧ (∀ r, r ≠ a.reg → (u.port a.port).cfg.look r = (s.port a.port).cfg.look r) ∧
        ((u.port a.port).cfg.look a.reg) &&& ~~~(cfgWritable a.reg.toNat ||| cfgClearable a.reg.toNat) =
          ((s.port a.port).cfg.look a.reg) &&& ~~~(cfgWritable a.reg.toNat ||| cfgClearable a.reg.toNat)) ∧
      (a.write = false → (s.port a.port).aerHeader = none → exec (.configurationRequest a) s = .next ((s.wakeBy 0).emit (.barData a.port (leBytes 4 ((s.wakeBy 0).cfgDword a.port a.reg.toNat).toNat))))) ∧
    (∀ (p : HostPort) (tag : BitVec 8) (bytes : List Byte), (s.port p).linkUp = true →
      ((s.port p).request tag = none → ∀ st, exec (.receivedCompletion p tag st bytes) s = .next (s.aerAdvise p aerUnexpected)) ∧
      (∀ r, (s.port p).request tag = some r →
        (r.got.length + bytes.length = r.len → exec (.receivedCompletion p tag .success bytes) s = .next (s.gotRead p r .good (r.got ++ bytes)) ∧
          (∀ x, x ∈ ((s.gotRead p r .good (r.got ++ bytes)).port p).reads ↔ x ∈ (s.port p).reads ∧ x.tag ≠ r.tag)) ∧
        (r.got.length + bytes.length < r.len → exec (.receivedCompletion p tag .success bytes) s = .next (s.updPort p fun q =>
          { q with reads := q.reads.map fun x => if x.tag == r.tag then { x with got := r.got ++ bytes } else x })) ∧
        exec (.receivedCompletion p tag .unsupported bytes) s = .next (((s.cfgStatus p 29).portReadFails p r (.failed .unsupported)).go [r.chan]) ∧
        exec (.receivedCompletion p tag .completerAbort bytes) s = .next (((s.cfgStatus p 28).portReadFails p r (.failed .abort)).go [r.chan]))) ∧
    (∀ (p : HostPort) (tag : BitVec 8) (r : PortRead), (s.port p).request tag = some r →
      (r.sent + (s.port p).cplTimeout ≤ s.tb.refclkCount →
        exec (.completionTimeout p tag) s = .next (((s.aerAdvise p aerTimeout).portReadFails p r (.failed .timeout)).go [r.chan])) ∧
      (s.tb.refclkCount < r.sent + (s.port p).cplTimeout → exec (.completionTimeout p tag) s = .next s)) ∧
    (∀ (b : LbBurst) (rest : List LbBurst) (data : Dword), s.lb = b :: rest →
      let v := s.emit (.lbBeat (csOf b.addr) b.write ((b.addr + BitVec.ofNat 64 b.done) &&& ~~~(3 : Word)) ((b.bytes.drop b.done).take b.beat))
      let n : LbBurst := { b.step data with since := s.coreEdge }
      (b.beatless = true → exec (.lbBeatEnd data) s = .next ((s.lbPop.busAbandoned b).go [b.chan])) ∧
      (b.beatless = false → s.beatOver b = false → exec (.lbBeatEnd data) s = .next s) ∧
      (b.beatless = false → s.beatOver b = true → n.done = b.done + b.beat ∧
        (b.abandoned = true → exec (.lbBeatEnd data) s = .next ((v.lbPop.busAbandoned n).go [b.chan])) ∧
        (b.abandoned = false → b.done + b.beat < b.len → exec (.lbBeatEnd data) s = .next { v with lb := n :: rest }) ∧
        (b.abandoned = false → b.len ≤ b.done + b.beat → b.write = false → exec (.lbBeatEnd data) s = .next ((v.lbPop.busRead b.chan .good n.got).go [b.chan]))) ∧
      (bitAt (s.lbCs (csOf b.addr)) 4 = true → due (b.since + 384000) s.coreEdge = true → b.write = false → b.abandoned = false → exec .lbReadyTimeout s = .next (((s.lbPop.busRead b.chan (.failed .lbReady) []).failOldest b.chan).go [b.chan])) ∧
      (bitAt (s.lbCs (csOf b.addr)) 4 = false ∨ due (b.since + 384000) s.coreEdge = false → exec .lbReadyTimeout s = .next s))

/-- POR_N, RESET_N, STARTUP_STEP, BOOT_CONFIRMATION, PERST_N, HOT_RESET, PCIE_LINK_DOWN and HOST_LINK_UP. -/
def Obligations.ResetsAndStartup : Prop :=
  (∀ s : State,
    (∃ t : State, exec .porN s = .next t ∧ t.devState = .fill ∧ t.boot.step = 1 ∧ t.boot.resetCause = 0 ∧ t.mem.wing = [] ∧ t.mem.dram = [] ∧
      t.chans = State.reset.chans ∧ t.cues = State.reset.cues ∧ t.acts = State.reset.acts ∧ t.prot = State.reset.prot ∧ t.tb = State.reset.tb ∧
      t.health.failed = s.health.failed ∧ t.guard.marks = s.guard.marks ∧ t.pending = s.pending) ∧
    (∃ t : State, exec .resetN s = .next t ∧ t.devState = .fill ∧ t.boot.step = 3 ∧ t.boot.resetCause = 1 ∧ t.mem = s.mem ∧ t.tb.time = s.tb.time ∧
      t.tb.timeValid = s.tb.timeValid ∧ t.prot.epoch = s.prot.epoch ∧ t.prot.map = State.reset.prot.map ∧ t.prot.held = none ∧
      t.chans = State.reset.chans ∧ t.cues = State.reset.cues ∧ t.acts = State.reset.acts ∧ t.tenants = State.reset.tenants ∧
      t.hp0.linkUp = s.hp0.linkUp ∧ t.hp1.linkUp = s.hp1.linkUp ∧ t.pending = s.pending) ∧
    (∀ i : StartupInput,
      (s.devState = .faulted → exec (.startupStep i) s = .next s) ∧
      (s.devState ≠ .faulted → i.good = true →
        (s.boot.step = 1 → exec (.startupStep i) s = .next { s with tb := { s.tb with refclkPresent := true }, boot := { s.boot with step := 2 } }) ∧
        (s.boot.step = 2 → exec (.startupStep i) s = .next { s with tb := { s.tb with pllLock := true, fineValid := true }, boot := { s.boot with straps := i.straps, step := 3 } })) ∧
      (s.devState ≠ .faulted → s.boot.step = 6 → exec (.startupStep i) s = .next { s with boot := { s.boot with step := 7 } }) ∧
      (s.devState ≠ .faulted → s.boot.step = 7 → ∃ t : State, exec (.startupStep i) s = .next t ∧ t.boot.step = 8 ∧ t.devState = .check ∧ t.mem.wing = [] ∧
        t.mem.dram = (if s.boot.resetCause = 0 then [] else s.mem.dram) ∧ t.chans = s.chans) ∧
      (s.devState ≠ .faulted → s.boot.step = 8 → i.selfCheck = 0 → ∃ t : State, exec (.startupStep i) s = .next t ∧ t.boot.step = 9 ∧
        t.health.lifeBoots = s.health.lifeBoots + 1 ∧ bitAt t.guard.selfCheck 1 = true ∧ t.mem = s.mem) ∧
      (s.devState ≠ .faulted → s.boot.step = 8 → i.selfCheck ≠ 0 → ∃ t : State, exec (.startupStep i) s = .next t ∧ t.devState = .faulted)) ∧
    (∀ t0, s.boot.servingSince = some t0 → s.runningSet ≠ 0 → s.boot.confirmed = false → (s.devState = .houseOnly ∨ s.devState = .staged) →
      (due (t0 + 384000000000) s.now = true → ∃ t : State, exec .bootConfirmation s = .next t ∧ t.boot.confirmed = true ∧ t.boot.failedBoots = 0 ∧
        s.boot.rollback.toNat ≤ t.boot.rollback.toNat ∧ { t with boot := s.boot } = s) ∧
      (due (t0 + 384000000000) s.now = false → exec .bootConfirmation s = .next s))) ∧
  (∀ (p : HostPort) (s : State),
    ((s.port p).reads = [] → (∀ c a k, (s.chan c).fetch = some (a, k) → hostOf a ≠ some p) → (∀ c, ∀ q ∈ (s.chan c).proving, hostOf q.2 ≠ some p) →
      let down (perst : Bool) : State := s.updPort p fun q => { perst := perst, sris := q.sris, posted := q.posted }
      exec (.perstN p true) s = .next ((down true).go allChans) ∧ exec (.perstN p false) s = .next (s.updPort p fun q => { q with perst := false }) ∧
      ((s.port p).linkUp = true → exec (.hotReset p) s = .next ((down (s.port p).perst).go allChans) ∧ exec (.pcieLinkDown p) s = .next ((down (s.port p).perst).go allChans)) ∧
      ((s.port p).linkUp = false → exec (.hotReset p) s = .next s ∧ exec (.pcieLinkDown p) s = .next s)) ∧
    (∀ (speed : BitVec 2) (width : BitVec 3), speed ≠ 0 → (width = 1 ∨ width = 2 ∨ width = 4) → (s.port p).perst = false →
      let sris := bitAt (s.devReg (match p with | .hp0 => 0x80 | .hp1 => 0x88)) 1
      exec (.hostLinkUp p speed width) s = .next ((s.updPort p fun q => { q with linkUp := true, speed := speed.zeroExtend 3, width := width, sris := sris }).sendPending p)))

/-- PPS_IN, AT_PPS_TIMEOUT, SLEW_END, PPS_OUT, STROBE_EVENT and CAPTURE_EDGE. -/
def Obligations.TimeEvents : Prop :=
  ∀ s : State,
    (∀ v : BitVec 4, let u := s.wakeBy 4
      (∀ k, u.tb.lastPps = some k → u.tb.refclkCount < k + 100000 → exec (.ppsIn v) s = .next (u.updTb fun t => { t with ppsInIgnored := satAdd t.ppsInIgnored 1 })) ∧
      ((∀ k, u.tb.lastPps = some k → k + 100000 ≤ u.tb.refclkCount) → u.tb.atPps = none → u.tb.fineValid = true →
        exec (.ppsIn v) s = .next (u.updTb fun t => { t with ppsInStamp := u.now + v.zeroExtend 64, ppsInSeq := t.ppsInSeq + 1, ppsInSeen := true, lastPps := some t.refclkCount })) ∧
      (∀ w, (∀ k, u.tb.lastPps = some k → k + 100000 ≤ u.tb.refclkCount) → u.tb.atPps = some w → w.deadline ≤ u.tb.refclkCount → u.tb.fineValid = true →
        exec (.ppsIn v) s = .next (u.updTb fun t => { t with ppsInStamp := u.now + v.zeroExtend 64, ppsInSeq := t.ppsInSeq + 1, ppsInSeen := true, lastPps := some t.refclkCount }))) ∧
    (∀ w, s.tb.atPps = some w → (s.tb.refclkCount < w.deadline → exec .atPpsTimeout s = .next s) ∧
      (w.deadline ≤ s.tb.refclkCount → exec .atPpsTimeout s = .next ((s.updTb fun t => { t with atPps := none }).forAll s.timeSets fun l s => s.finishLong l { status := 0x0E } []))) ∧
    (s.tb.slewRate ≠ 0 → s.tb.slewLeft = 0 → exec .slewEnd s = .next { s with tb := { s.tb with slewRate := 0, slewNeg := false } }) ∧
    (s.tb.slewLeft ≠ 0 → exec .slewEnd s = .next s) ∧
    (let t := s.ppsDue; (s.now - t).toNat < 17 → bitAt (s.devReg 0x130) 0 = true → s.tb.fineValid = true → s.tb.ppsOut = false →
      exec .ppsOut s = .next ((s.updTb fun b => { b with ppsOut := true, ppsOutFall := some (t + BitVec.ofNat 64 (16 * field (s.devReg 0x130) 35 4)) }).emit (.pulse .pps true t))) ∧
    (∀ (n : BitVec 3) (t : Tick), s.strobeTime n = some t → let off := 0x140 + 8 * n.toNat; let u := s.updTb fun b => { b with strobeDue := b.strobeDue.put n none }
      (future t s.now = true → exec (.strobeEvent n) s = .next s) ∧
      (future t s.now = false → s.tb.fineValid = false → exec (.strobeEvent n) s = .next (u.missStrobe n) ∧ bitAt ((u.missStrobe n).devReg off) 8 = true) ∧
      (future t s.now = false → s.tb.fineValid = true → bitAt (s.devReg off) 3 = false → ∃ w : State, exec (.strobeEvent n) s = .next (w.produceStrobe n t) ∧
        bitAt (w.devReg off) 0 = false ∧ w.tb.strobeDue.look n = none ∧ field (w.devReg off) 2 1 = field (s.devReg off) 2 1 ∧ Kept { s with tb := w.tb, dev := w.dev } w) ∧
      (future t s.now = false → s.tb.fineValid = true → bitAt (s.devReg off) 3 = true → exec (.strobeEvent n) s = .next (u.produceStrobe n t))) ∧
    (∀ (n : BitVec 3) (rise : Bool) (v : BitVec 4), let r := s.seeEdge (n.zeroExtend 6) 8 rise; let c := s.devReg32 (0x1C0 + 4 * n.toNat)
      ((r.2 && bitAt c 0 && edgeQualifies (field c 2 1) rise) = true → ∃ t : State, exec (.captureEdge n rise v) s = .next t ∧ let x := t.tb.captures.look n
        x.stamp = s.edgeStamp v ∧ x.seq = (s.tb.captures.look n).seq + 1 ∧ x.coarse = !s.tb.fineValid ∧
        (∀ k, k ≠ n → t.tb.captures.look k = s.tb.captures.look k) ∧ Kept { s with tb := t.tb, pins := t.pins } t) ∧
      ((r.2 && bitAt c 0 && edgeQualifies (field c 2 1) rise) = false → exec (.captureEdge n rise v) s = .next r.1))

/-- REFCLK_LOSS, REFCLK_RETURN, PLL_UNLOCK and PULSE_END. -/
def Obligations.ClockLossAndPulses : Prop :=
  ∀ s : State,
    (s.tb.refclkPresent = true → s.power.state ≠ .shuttered → ∃ t : State, exec .refclkLoss s = .next t ∧ t.devState = .faulted ∧ t.tb.timeValid = false ∧ t.tb.fineValid = false ∧
      t.tb.refclkPresent = false ∧ t.tb.refclkLost = true ∧ t.tb.slewRate = 0 ∧ t.tb.slewLeft = 0 ∧ t.tb.time = s.tb.refTime ∧ t.tb.acc = s.tb.refAcc ∧ bitAt (t.devReg 0x18) 0 = true ∧
      (∀ a, (s.acts.look a).running = true → (t.acts.look a).running = false ∧ (t.acts.look a).stopCause = 2) ∧
      (∀ a, (s.acts.look a).running = false → t.acts.look a = s.acts.look a) ∧ t.prot = s.prot ∧ t.chans = s.chans) ∧
    (s.tb.refclkPresent = false → exec .refclkLoss s = .next s) ∧
    exec .refclkReturn s = .next { s with tb := { s.tb with refclkPresent := true, tbPhase := 0 } } ∧
    (s.tb.pllLock = true → ∃ t : State, exec .pllUnlock s = .next t ∧ t.devState = .faulted ∧ t.tb.pllLock = false ∧ t.tb.fineValid = false ∧ t.tb.pllUnlocked = true ∧
      t.tb.time = s.tb.time ∧ t.tb.timeValid = s.tb.timeValid ∧ t.acts = s.acts ∧ t.prot = s.prot) ∧
    (∀ t, s.tb.ppsOutFall = some t → (due t s.now = true → exec (.pulseEnd .pps) s = .next ((s.updTb fun b => { b with ppsOut := false, ppsOutFall := none }).emit (.pulse .pps false t))) ∧
      (due t s.now = false → exec (.pulseEnd .pps) s = .next s)) ∧
    (∀ (n : BitVec 3) t, s.tb.strobeFall.look n = some t → due t s.now = true → exec (.pulseEnd (.strobe n)) s = .next (s.strobeTo n false none t) ∧
      (s.strobeTo n false none t).tb.strobeLevel.look n = false) ∧
    (∀ t, s.conv.sysrefFall = some t → due t s.now = true → exec (.pulseEnd .sysref) s = .next (({ s with conv := { s.conv with sysrefLevel := false, sysrefFall := none } } : State).emit (.pulse .sysref false t))) ∧
    (∀ (p : PinId) t, (s.pins.look p).pulseEnd = some t → due t s.now = true → exec (.pulseEnd (.done p)) s = .next (s.endDone p t) ∧
      ((s.pins.look p).queued = 0 → ((s.endDone p t).pins.look p).pulseEnd = none) ∧
      ((s.pins.look p).queued ≠ 0 → ((s.endDone p t).pins.look p).queued = (s.pins.look p).queued - 1))

/-- DREQ, CUE_IN, WAKE, PIN_PARK_END and PIN_SETTLE_END. -/
def Obligations.PinEvents : Prop :=
  ∀ (p : PinId) (s : State), p.toNat < 48 →
    (∀ level, let q := s.pins.look p; let u := s.updPin p fun q => { q with ball := level }
      (s.pinFunc p ≠ 3 ∨ q.live = false ∨ q.seen = level → exec (.dreq p level) s = .next u) ∧
      (s.pinFunc p = 3 → q.live = true → q.seen ≠ level → let v := u.updPin p fun q => { q with seen := level }
        (s.belowHush = false → exec (.dreq p level) s = .next (v.lineEvent (s.pinIndex p % 32) level)) ∧
        (s.belowHush = true → q.heldEdge = none → exec (.dreq p level) s = .next (v.updPin p fun q => { q with heldEdge := some level })) ∧
        (s.belowHush = true → q.heldEdge ≠ none → ∃ t : State, exec (.dreq p level) s = .next t ∧ bitAt (t.devReg 0x9A0) p.toNat = true ∧ t.pins = v.pins ∧ t.chans = s.chans))) ∧
    (∀ rise, let r := s.seeEdge p 5 rise; let on := r.2 && edgeQualifies (field (s.pinMux p) 7 6) rise
      (r.1.pins.look p).ball = rise ∧ { s with pins := r.1.pins } = r.1 ∧
      (on = false → exec (.cueIn p rise) s = .next r.1) ∧
      (on = true → s.belowHush = false → exec (.cueIn p rise) s = .next (r.1.signal (BitVec.ofNat 10 (s.pinIndex p)) 1)) ∧
      (on = true → s.belowHush = true → exec (.cueIn p rise) s = .next (r.1.holdEdge p rise))) ∧
    (∀ rise, let r := s.seeEdge p 11 rise; let on := r.2 && edgeQualifies (field (s.pinMux p) 7 6) rise
      (on = false ∨ s.power.state = .lit → exec (.wake p rise) s = .next r.1) ∧
      (on = true → s.power.state ≠ .lit → s.power.waking = false → exec (.wake p rise) s = .next { r.1 with power := { s.power with waking := true, wakeAt := s.tb.refclkCount, wakeCause := 4, wakePin := p } }) ∧
      (on = true → s.power.state ≠ .lit → s.power.waking = true → ∃ t : State, exec (.wake p rise) s = .next t ∧ { r.1 with power := t.power } = t ∧
        t.power.waking = true ∧ t.power.wakeAt = s.power.wakeAt ∧ t.power.state = s.power.state)) ∧
    ((s.pins.look p).parkEnd = none → exec (.pinParkEnd p) s = .next s) ∧
    (∀ t, (s.pins.look p).parkEnd = some t → (future t s.now = true → exec (.pinParkEnd p) s = .next s) ∧
      (future t s.now = false → let v := s.updPin p fun q => { q with parkEnd := none }; exec (.pinParkEnd p) s = .next (v.updPin p fun q => { q with ball := (v.driven p).getD q.ball }))) ∧
    ((s.pins.look p).settleEnd = none → exec (.pinSettleEnd p) s = .next s) ∧
    (∀ t, (s.pins.look p).settleEnd = some t → (future t s.now = true → exec (.pinSettleEnd p) s = .next s) ∧
      (future t s.now = false →
        let w := s.updPin p fun q => { q with parkEnd := none, settleEnd := none }
        let u := w.updPin p fun q => { q with ball := (w.driven p).getD q.ball, seen := q.ball }
        let v := if s.pinFunc p = 3 then u.lineStart (s.pinIndex p % 32) (u.pins.look p).ball else u
        (v.pinJob = none → exec (.pinSettleEnd p) s = .next v) ∧
        (∀ j, v.pinJob = some j → (j.pin = p → exec (.pinSettleEnd p) s = .next (v.finishPin j)) ∧ (j.pin ≠ p → exec (.pinSettleEnd p) s = .next v))))

/-- SYSREF_EVENT, SYSREF_PULSE, DEVCLK_STAMP, DEVCLK_LOSS, DEVCLK_RETURN, LMFC_BOUNDARY, CODE_GROUP_SYNC and ILAS. -/
def Obligations.ConverterClocks : Prop :=
  ∀ s : State,
    (∀ (v : BitVec 4) (edge : Tick) (miss : Byte) (l : ConvLink), s.tb.devclkPresent = false →
      exec (.sysrefEvent v edge miss) s = .next s ∧ exec (.devclkStamp v) s = .next s ∧ exec (.lmfcBoundary l) s = .next s) ∧
    (∀ v : BitVec 4, s.tb.devclkPresent = true → exec (.devclkStamp v) s = .next { s with conv := { s.conv with devclkStamp := s.now + v.zeroExtend 64, devclkSeq := s.conv.devclkSeq + 1 } }) ∧
    (∀ (v : BitVec 4) (edge : Tick) (miss : Byte), s.tb.devclkPresent = true →
      let u : State := { s with conv := { s.conv with sysrefStamp := s.now + v.zeroExtend 64, sysrefSeq := s.conv.sysrefSeq + 1 } }
      let links := (List.range 8).filter fun i => s.linkState i != .down && (convParams (s.convCfg i)).subclass1
      (2 ≤ field (s.devReg 0x1840) 41 40 → exec (.sysrefEvent v edge miss) s = .next u) ∧
      (field (s.devReg 0x1840) 41 40 < 2 → (∀ i, i ∈ links → (s.conv1 i).aligned = false) → ∃ t : State, exec (.sysrefEvent v edge miss) s = .next t ∧
        (∀ i, i ∈ links → t.conv1 i = { s.conv1 i with aligned := true, lmfcStamp := edge }) ∧ (∀ i, i < 8 → i ∉ links → t.conv1 i = s.conv1 i) ∧
        t.conv.sysrefSeq = s.conv.sysrefSeq + 1 ∧ { s with conv := t.conv } = t) ∧
      (field (s.devReg 0x1840) 41 40 = 0 → miss = 0 → (∀ i, i ∈ links → (s.conv1 i).aligned = true) → exec (.sysrefEvent v edge miss) s = .next u)) ∧
    (s.conv.sysrefNext = none → exec .sysrefPulse s = .next s) ∧
    (∀ t, s.conv.sysrefNext = some t → let on := bitAt (s.devReg 0x1850) 0 && bitAt (s.devReg 0x1840) 24 && due t s.now
      (on = false → exec .sysrefPulse s = .next s) ∧
      (on = true → exec .sysrefPulse s = .next ((s.sysrefOut t).sysrefAdvance t)) ∧
      (on = true → s.tb.fineValid = true → s.conv.sysrefLeft = none → let w := s.devReg 0x1850; let c := s.conv
        exec .sysrefPulse s = .next (({ s with conv := { c with sysrefLevel := true, sysrefFall := some (t + BitVec.ofNat 64 (16 * field w 47 32)), sysrefNext := some (t + s.devReg 0x1860) } } : State).emit (.pulse .sysref true t))) ∧
      (on = true → s.conv.sysrefLeft = some 1 → ∃ u, exec .sysrefPulse s = .next u ∧ bitAt (State.devReg u 0x1850) 0 = false ∧ u.conv.sysrefNext = none)) ∧
    (let u : State := { s with tb := { s.tb with devclkPresent := false } };
      exec .devclkLoss s = .next (u.forAll ((List.range 8).filter fun i => s.linkState i != .down) fun i s => s.leaveLink i .down false) ∧
      ((∀ i, i < 8 → s.linkState i = .down) → exec .devclkLoss s = .next u)) ∧
    (let u : State := { s with tb := { s.tb with devclkPresent := true } };
      (field (s.devReg 0x1840) 41 40 ≠ 2 → exec .devclkReturn s = .next u) ∧
      (field (s.devReg 0x1840) 41 40 = 2 → ∃ t : State, exec .devclkReturn s = .next t ∧ { u with conv := t.conv } = t ∧
        ∀ i, i < 8 → t.conv1 i = if s.linkState i = .training then { s.conv1 i with aligned := true } else s.conv1 i)) ∧
    (∀ n : BitVec 2, s.tb.devclkPresent = true → let i := n.toNat; let j := 4 + n.toNat
      (∃ t : State, exec (.lmfcBoundary (.rx n)) s = .next t ∧ { s with conv := t.conv } = t ∧
        (∀ k ∈ s.lanesOfLink i, t.conv.laneErrors.look k = 0) ∧ (∀ k, k ∉ s.lanesOfLink i → t.conv.laneErrors.look k = s.conv.laneErrors.look k) ∧
        t.conv1 i = if s.linkState i = .training ∧ (s.conv1 i).step = 3 ∧ (s.conv1 i).aligned = true then { s.conv1 i with step := 4, syncHigh := true } else s.conv1 i) ∧
      (s.linkState j ≠ .training → exec (.lmfcBoundary (.tx n)) s = .next s) ∧
      (s.linkState j = .training → let l := s.conv1 j; let sub1 := (convParams (s.convCfg j)).subclass1
        (l.step = 1 → l.syncHigh = false ∨ sub1 = true → exec (.lmfcBoundary (.tx n)) s = .next (s.updConv j fun l => { l with step := 2 })) ∧
        (l.step = 1 → l.syncHigh = true → sub1 = false → exec (.lmfcBoundary (.tx n)) s = .next (s.startIlas j)) ∧
        (l.step = 2 → l.syncHigh = true → l.aligned = true ∨ sub1 = false → exec (.lmfcBoundary (.tx n)) s = .next (s.updConv j fun l => { l with step := 3, ilasLeft := 4 })) ∧
        (l.step = 3 → 1 < l.ilasLeft → exec (.lmfcBoundary (.tx n)) s = .next (s.updConv j fun l => { l with ilasLeft := l.ilasLeft - 1 })) ∧
        (l.step = 3 → l.ilasLeft ≤ 1 → exec (.lmfcBoundary (.tx n)) s = .next (s.enterUp j)))) ∧
    (∀ n : BitVec 2, let i := n.toNat; let ready := s.linkState i = .training ∧ (s.conv1 i).step = 2 ∧ s.lanesLocked i = true
      (¬ready → exec (.codeGroupSync n) s = .next s) ∧
      (ready → ∃ t : State, exec (.codeGroupSync n) s = .next t ∧ { s with conv := t.conv } = t ∧ (∀ k ∈ s.lanesOfLink i, bitAt t.conv.laneSync k.toNat = true) ∧
        t.conv1 i = if (convParams (s.convCfg i)).subclass1 then { s.conv1 i with step := 3 } else { s.conv1 i with step := 4, syncHigh := true })) ∧
    (∀ n : BitVec 2, let i := n.toNat; let ready := s.linkState i = .training ∧ (s.conv1 i).step = 4
      (∀ m, ¬ready → exec (.ilas n m) s = .next s) ∧
      (ready → exec (.ilas n none) s = .next (s.updConv i fun l => { l with step := 5 })) ∧
      (∀ o, ready → ∃ t : State, exec (.ilas n (some o)) s = .next t ∧ { s with conv := t.conv } = t ∧ (t.conv1 i).ilasMismatch = true ∧
        (t.conv1 i).firstMismatch = (if (s.conv1 i).mismatched then (s.conv1 i).firstMismatch else o) ∧
        (t.conv1 i).step = (if (convParams (s.convCfg i)).strictIlas then 2 else 5)))

/-- FRAME_RELEASE, SYNCIN_HIGH, SYNCIN_LOW, CODE_GROUP_ERROR, LANE_LOCK, LANE_LOCK_LOSS, MISPLACED_ALIGNMENT_CHARACTER and LINK_UP_TIMEOUT. -/
def Obligations.ConverterLinksComeAndGo : Prop :=
  ∀ s : State,
    (∀ n : BitVec 2, let i := n.toNat; let ready := s.linkState i = .training ∧ (s.conv1 i).step = 5
      (∀ fits, ¬ready → exec (.frameRelease n fits) s = .next s) ∧ (ready → exec (.frameRelease n true) s = .next (s.enterUp i)) ∧
      (ready → let u := s.updConv i fun l => { l with elasticErr := true, step := 6 }
        (s.linkUps i ≠ [] → exec (.frameRelease n false) s = .next u) ∧ (s.linkUps i = [] → exec (.frameRelease n false) s = .next (u.leaveLink i .down false)))) ∧
    (∀ n : BitVec 2, let i := 4 + n.toNat; let u := s.updConv i fun l => { l with syncHigh := true }
      (s.linkState i = .down ∨ s.linkState i = .up → exec (.syncinHigh n) s = .next u) ∧
      (s.linkState i = .training → let now := (s.conv1 i).step = 2 ∧ (convParams (s.convCfg i)).subclass1 = false
        (now → exec (.syncinHigh n) s = .next (s.updConv i fun l => { l with syncHigh := true, step := 3, ilasLeft := 4 })) ∧ (¬now → exec (.syncinHigh n) s = .next u))) ∧
    (∀ (n : BitVec 2) (octets : Nat), let i := 4 + n.toNat; let long := 5 * (convParams (s.convCfg i)).f + 9 ≤ octets
      let k := s.updConv i fun l => { l with step := 1, syncHigh := false, ilasLeft := 4 }
      (s.linkState i = .down → exec (.syncinLow n octets) s = .next (s.updConv i fun l => { l with syncHigh := false })) ∧
      (s.linkState i = .training → (long → exec (.syncinLow n octets) s = .next k) ∧ (¬long → exec (.syncinLow n octets) s = .next (s.updConv i fun l => { l with syncHigh := false }))) ∧
      (s.linkState i = .up → (¬long → exec (.syncinLow n octets) s = .next (s.updConv i fun l => { l with errCount := satAdd l.errCount 1 })) ∧
        (long → ∃ t : State, exec (.syncinLow n octets) s = .next t ∧ t.linkState i = .training ∧ (t.conv1 i).step = 1 ∧ (t.conv1 i).linkLost = true ∧
          (t.conv1 i).resyncCount = satAdd (s.conv1 i).resyncCount 1 ∧ ∀ j, j < 8 → j ≠ i → t.conv1 j = s.conv1 j))) ∧
    (∀ lane : BitVec 3, s.linkOfLane lane = none → exec (.codeGroupError lane) s = .next s ∧ exec (.laneLock lane) s = .next s ∧ exec (.laneLockLoss lane) s = .next s ∧
      exec (.misplacedAlignmentCharacter lane) s = .next s) ∧
    (∀ (lane : BitVec 3) (i : Nat), s.linkOfLane lane = some i →
      let locked : State := { s with conv := { s.conv with laneLocked := s.conv.laneLocked ||| (1 <<< lane.toNat) } }
      let lost : State := { s with conv := { s.conv with laneLocked := s.conv.laneLocked &&& ~~~((1 : Byte) <<< lane.toNat) } }
      (s.linkState i = .training ∧ s.tb.devclkPresent = true →
        ((s.conv1 i).step = 1 ∧ locked.lanesLocked i = true → exec (.laneLock lane) s = .next (locked.updConv i fun l => { l with step := 2 })) ∧
        (¬((s.conv1 i).step = 1 ∧ locked.lanesLocked i = true) → exec (.laneLock lane) s = .next locked)) ∧
      (¬(s.linkState i = .training ∧ s.tb.devclkPresent = true) → exec (.laneLock lane) s = .next s) ∧
      (s.linkState i ≠ .up → exec (.laneLockLoss lane) s = .next lost ∧ exec (.misplacedAlignmentCharacter lane) s = .next s ∧ exec (.codeGroupError lane) s = .next s) ∧
      (s.linkState i = .up → exec (.laneLockLoss lane) s = .next (lost.loseRx i) ∧ exec (.misplacedAlignmentCharacter lane) s = .next (s.loseRx i) ∧
        let k := s.conv.laneErrors.look lane + 1
        let counted := s.updConv i fun l => { l with errCount := satAdd l.errCount 1 }
        let noted : State := { counted with conv := { counted.conv with laneErrors := s.conv.laneErrors.put lane k } }
        let u := if (convParams (s.convCfg i)).subclass1 then noted.emit (.syncReport (BitVec.ofNat 2 i)) else noted
        (k < 4 → exec (.codeGroupError lane) s = .next u) ∧ (4 ≤ k → exec (.codeGroupError lane) s = .next (u.loseRx i)) ∧
        (s.loseRx i).linkState i = (if (convParams (s.convCfg i)).auto then .training else .down) ∧ ((s.loseRx i).conv1 i).linkLost = true)) ∧
    (∀ (l : BitVec 8) (bit : Bool), let ready := (s.linkUps l.toNat).filter fun x => s.linkTimedOut x
      (12 ≤ l.toNat ∨ ready = [] → exec (.linkUpTimeout l bit) s = .next s) ∧
      (∀ x, l.toNat < 12 → ready = [x] → exec (.linkUpTimeout l bit) s = .next ((s.leaveLink l.toNat .down true).finishLong x { status := 0x0E, dw3 := s.timeoutDetail l.toNat bit } [])))

/-- RX_UNIT_APPEND, TX_TAKE, TDM_MASTER_FRAME, TDM_FRAME_SYNC and TDM_LOCK_LOSS. -/
def Obligations.StreamsAndTdm : Prop :=
  ∀ s : State,
    (∀ (e : EpId) (stamp : Tick),
      let into (v : State) (bs : List Byte) (t : Tick) : State :=
        if (v.eps.look e).cut.any fun c => future c t then v
        else if v.epSize e < (v.eps.look e).fifo.length + bs.length then v.updEp e fun p => { p with overflow := satAdd p.overflow 1 }
        else ((v.updEp e fun p => { p with cut := none }).epAppend e (bs.map fun b => { byte := b, stamp := t })).go (v.watchers e)
      (∀ bytes : List Byte, let named := s.tdmUnit e false = none ∧ s.upUnit e false = some bytes.length ∧ bytes ≠ []
        (¬named → exec (.rxUnitAppend e (.bytes bytes) stamp) s = .next s) ∧ (named → exec (.rxUnitAppend e (.bytes bytes) stamp) s = .next (into s bytes stamp)) ∧
        (((s.updEp e fun p => { p with cut := none }).epAppend e (bytes.map fun b => { byte := b, stamp := stamp })).eps.look e).fifo =
          (s.eps.look e).fifo ++ bytes.map fun b => { byte := b, stamp := stamp }) ∧
      (∀ rise fall : List Bool, (s.tdmUnit e false = none → exec (.rxUnitAppend e (.wire rise fall) stamp) s = .next s) ∧
        ∀ n g, s.tdmUnit e false = some (n, g) → let p := s.tdm.look n; let frame := s.tdmFrame n; let grp := s.tdmGrp n g
          let wire := if bitAt frame 24 then fall else rise
          let origin := if frameBits frame ≤ lastBit frame grp then p.prevStart else p.lastStart
          let here := bitAt p.given g = false ∧ s.framePassed n (givePhase frame grp (s.tdmBitp n).toNat) = true ∧ lastBit frame grp < wire.length
          (origin = none ∨ ¬here → exec (.rxUnitAppend e (.wire rise fall) stamp) s = .next s) ∧
          (∀ t, origin = some t → here → exec (.rxUnitAppend e (.wire rise fall) stamp) s = .next (into (s.updTdm n fun p => { p with given := p.given ||| (1 <<< g) }) (unitOfWire frame grp wire) t)))) ∧
    (∀ (e : EpId) (len : Nat) (ecc : Ecc), let named := s.upUnit e true = some len ∧ len ≠ 0 ∧ s.takePoint e = true; let v := s.markTaken e
      (¬named → exec (.txTake e len ecc) s = .next s) ∧
      (named → (s.eps.look e).landed < len → exec (.txTake e len ecc) s = .next ((v.updEp e fun p => { p with underrun := satAdd p.underrun 1 }).sendUnit e ((List.range len).map fun i => v.silenceByte e i))) ∧
      (named → len ≤ (s.eps.look e).landed → exec (.txTake e len ecc) s = .next (v.takeUnit e len ecc)) ∧
      (named → len ≤ (s.eps.look e).landed → ecc = .clean → (∀ b ∈ (s.eps.look e).fifo, b.bad = false) → (s.eps.look e).deficit = 0 → s.watchers e = [] →
        ∃ t : State, exec (.txTake e len ecc) s = .next t ∧ (t.eps.look e).fifo = (s.eps.look e).fifo.drop len)) ∧
    (∀ n : BitVec 2, let p := s.tdm.look n; let t := s.frameAt n p.frame; let go := p.state ≠ .down ∧ bitAt (s.tdmFrame n) 48 = true ∧ due t s.now = true
      let u := (s.updTdm n fun p => ({ p with frame := p.frame + 1 } : TdmPort).startFrame t true).emit (.frameSync n t (s.syncEnd n p.frame) (bitAt (s.tdmFrame n) 14))
      let v : State := { s with tdm := s.tdm.upd n fun p => { p with frame := p.frame + 1 } }
      (¬go → exec (.tdmMasterFrame n) s = .next s) ∧
      (go → s.tb.fineValid = true → p.state = .up → exec (.tdmMasterFrame n) s = .next (u.driveUnused n)) ∧
      (go → s.tb.fineValid = true → p.state = .training → exec (.tdmMasterFrame n) s = .next ((u.enterUp (8 + n.toNat)).driveUnused n)) ∧
      (go → s.tb.fineValid = false → p.state = .up → exec (.tdmMasterFrame n) s = .next (v.leaveLink (8 + n.toNat) .down false)) ∧
      (go → s.tb.fineValid = false → p.state = .training → exec (.tdmMasterFrame n) s = .next v)) ∧
    (∀ (n : BitVec 2) (bit : Nat), let p := s.tdm.look n; let slave := bitAt (s.tdmFrame n) 48 = false; let apart := bit = frameBits (s.tdmFrame n)
      let u := s.updTdm n fun p => p.startFrame s.now true
      let f : State := { s with tdm := s.tdm.upd n fun p => { p with lastStart := none } }
      (¬slave ∨ p.state = .down → exec (.tdmFrameSync n bit) s = .next s ∧ exec (.tdmLockLoss n) s = .next s) ∧
      (slave → p.state = .training → (p.lastStart ≠ none → apart → exec (.tdmFrameSync n bit) s = .next ((u.enterUp (8 + n.toNat)).driveUnused n)) ∧
        (p.lastStart = none ∨ ¬apart → exec (.tdmFrameSync n bit) s = .next u) ∧ exec (.tdmLockLoss n) s = .next f) ∧
      (slave → p.state = .up → (apart → exec (.tdmFrameSync n bit) s = .next (u.driveUnused n)) ∧
        (¬apart → ∃ t : State, exec (.tdmFrameSync n bit) s = .next t ∧ t.tdm.look n = { p with slipCount := satAdd p.slipCount 1, lastStart := some s.now, prevStart := none, taken := 0, given := 0 } ∧
          Kept { s with tdm := t.tdm } t) ∧
        (bitAt (s.tdmFrame n) 49 = false → exec (.tdmLockLoss n) s = .next (f.leaveLink (8 + n.toNat) .down false)) ∧
        (bitAt (s.tdmFrame n) 49 = true → ∃ t : State, exec (.tdmLockLoss n) s = .next t ∧ (t.tdm.look n).state = .training ∧ (t.tdm.look n).resyncCount = satAdd p.resyncCount 1 ∧
          (t.tdm.look n).lastStart = none ∧ (t.tdm.look n).linkLost = true)))

/-- IDLE_DESCENT, DESCENT, EXIT_TO_LIT, THERMAL_SAMPLE, THERMAL_BUDGET_UPDATE, LIFE_WRITEBACK and HEALTH_EVALUATION. -/
def Obligations.DescentAndHealth : Prop :=
  ∀ s : State,
    ((bitAt (s.devReg 0xB80) 3 = false ∨ s.power.target ≠ none ∨ s.power.waking = true ∨ s.boot.step ≠ 11 ∨ s.floor ≤ s.power.state.code ∨ s.power.quietSince = none) →
      exec .idleDescent s = .next s) ∧
    (∀ t, bitAt (s.devReg 0xB80) 3 = true → s.power.target = none → s.power.waking = false → s.boot.step = 11 → s.power.state.code < s.floor →
      s.power.quietSince = some t → future t s.power.entered = true → s.mayRest s.nextRung = true → s.permits s.nextRung = true →
      (due (t + BitVec.ofNat 64 (s.idleTicks s.nextRung)) s.now = true → exec .idleDescent s = .next { s with power := { s.power with target := some s.nextRung } }) ∧
      (due (t + BitVec.ofNat 64 (s.idleTicks s.nextRung)) s.now = false → exec .idleDescent s = .next s)) ∧
    (s.power.target = none → exec .descent s = .next s) ∧
    (∀ want, s.power.target = some want → let p := s.permitted want.code
      (p = s.power.state ∨ s.power.waking = true → exec .descent s = .next { s with power := { s.power with target := none } }) ∧
      (p ≠ s.power.state → s.power.waking = false → s.mayRest p = false → exec .descent s = .next s) ∧
      (p ≠ s.power.state → s.power.waking = false → s.mayRest p = true →
        (p = .hush → exec .descent s = .next { s with power := { s.power with state := .hush, target := none, entered := s.now, quietSince := none, waking := false, deepest := .hush } }) ∧
        (p ≠ .hush → s.exports = true → 8 < s.trace.backlog → exec .descent s = .next s) ∧
        (p ≠ .hush → s.exports = false ∨ s.trace.backlog ≤ 8 → ∃ t : State, exec .descent s = .next t ∧ t.power.state = p ∧ t.power.target = none ∧ t.power.entered = s.now ∧
          t.dram.selfRefresh = true ∧ (3 ≤ p.code → t.tb.pllLock = false ∧ t.tb.fineValid = false) ∧ (p.code < 3 → t.tb.pllLock = s.tb.pllLock ∧ t.tb.fineValid = s.tb.fineValid) ∧
          (∀ k q, ((t.tenants.look k).sqs.look q).entries = []) ∧ t.tb.time = s.tb.time ∧ t.chans = s.chans ∧ t.mem = s.mem ∧ t.prot = s.prot))) ∧
    (∀ good, s.power.waking = false ∨ s.power.state = .lit → exec (.exitToLit good) s = .next s) ∧
    (∀ good, s.power.waking = true →
      (s.power.state = .hush → exec (.exitToLit good) s = .next { s with power := { s.power with state := .lit, target := none, waking := false, entered := s.now, quietSince := none } }) ∧
      (3 ≤ s.power.state.code → s.tb.refclkPresent = false → exec (.exitToLit good) s = .next s) ∧
      (s.power.state = .shuttered → s.tb.refclkPresent = true → ∃ t : State, exec (.exitToLit false) s = .next t ∧ t.power.restoreFailed = true ∧ t.chans = State.reset.chans ∧
        bitAt (t.devReg 0x18) 7 = true) ∧
      (s.power.state = .interval → exec (.exitToLit good) s = .next s.climb) ∧
      (3 ≤ s.power.state.code → s.tb.refclkPresent = true → s.power.state = .shuttered → exec (.exitToLit true) s = .next s.climb) ∧
      (s.power.state = .dark → s.tb.refclkPresent = true → exec (.exitToLit good) s = .next s.climb)) ∧
    (∀ tj : BitVec 16, (s.boot.step.toNat < 3 → exec (.thermalSample tj) s = .next s) ∧
      (3 ≤ s.boot.step.toNat → ∃ t : State, exec (.thermalSample tj) s = .next t ∧ t.health.tj = tj ∧ t.health.tjValid = true ∧
        (tj.sle t.health.lifeTjMax = true ∧ (t.health.lifeTjMax = tj ∨ t.health.lifeTjMax = s.health.lifeTjMax)) ∧
        (s.health.thermalArmed = true → ((s.devReg 0xA20).extractLsb' 16 16).toInt ≤ tj.toInt → t.health.highSeen = true ∧ t.health.thermalArmed = false) ∧
        (s.health.thermalArmed = false → tj.toInt ≤ ((s.devReg 0xA20).extractLsb' 16 16).toInt - 4 → t.health.thermalArmed = true) ∧
        { t.health with tj := s.health.tj, tjValid := s.health.tjValid, lifeTjMax := s.health.lifeTjMax, highSeen := s.health.highSeen, thermalArmed := s.health.thermalArmed } = s.health)) ∧
    (s.health.tjValid = false → exec .thermalBudgetUpdate s = .next s) ∧
    (s.health.tjValid = true → ∃ t : State, exec .thermalBudgetUpdate s = .next t ∧ { s with health := t.health } = t ∧ (s.health.lifeThermal.toNat ≤ t.health.lifeThermal.toNat) ∧
      (s.health.lifeThermal.toNat * 2 ^ 80 + s.health.lifeThermalFrac + budgetOf s.health.tj < 2 ^ 111 →
        t.health.lifeThermal.toNat * 2 ^ 80 + t.health.lifeThermalFrac = s.health.lifeThermal.toNat * 2 ^ 80 + s.health.lifeThermalFrac + budgetOf s.health.tj)) ∧
    (s.health.hourSince + hourPeriods ≤ s.tb.refclkCount → exec .lifeWriteback s = .next { s with health := { s.health with lifePowerHours := satAdd s.health.lifePowerHours 1, hourSince := s.health.hourSince + hourPeriods } }) ∧
    (s.tb.refclkCount < s.health.hourSince + hourPeriods → exec .lifeWriteback s = .next s) ∧
    (s.devState = .fill ∨ s.devState = .check → exec .healthEvaluation s = .next s) ∧
    (s.devState ≠ .fill → s.devState ≠ .check → ∃ t : State, exec .healthEvaluation s = .next t ∧ t.health.present = s.conditions ∧ t.health.seen = s.health.seen ||| s.conditions ∧
      t.health.curtainCall = decide (s.conditions ≠ 0) ∧ t.chans = s.chans ∧ t.mem.dram = s.mem.dram ∧
      (s.conditions &&& ~~~s.health.present = 0 → t.boot = s.boot))

/-- DRAM_SCRUB_READ, SRAM_SCRUB, SCRUB_NOW_DONE, RETIREMENT_SWITCH, SUMMARY_WRITE, REFRESH, DRAM_TEMPERATURE_POLL, ROTATING_TEST, IN_SERVICE_FAULT, HANDOVER_SWITCH and BIST_TEST_END. -/
def Obligations.MemoryCareAndUnits : Prop :=
  ∀ s : State,
    (∀ (dc : Bool) (line : BitVec 30) (ecc : Ecc),
      (s.belowHush = true ∨ s.dram.selfRefresh = true ∨ s.dramCapacity dc ≤ line.toNat * 64 → exec (.dramScrubRead dc line ecc) s = .next s) ∧
      (s.belowHush = false → s.dram.selfRefresh = false → line.toNat * 64 < s.dramCapacity dc →
        let u := match s.lineAt dc (line.toNat * 64) with | some l => s.scrubLine l ecc srcScrub | none => s
        let g := { u.guard with dramRead0 := (if dc then u.guard.dramRead0 else u.guard.dramRead0 + 1), dramRead1 := (if dc then u.guard.dramRead1 + 1 else u.guard.dramRead1) }
        exec (.dramScrubRead dc line ecc) s = .next ({ u with guard := g } : State).countPass ∧ (ecc = .clean → u = s) ∧
        (g.dramRead0 < u.dramCapacity false / 64 ∨ g.dramRead1 < u.dramCapacity true / 64 → ({ u with guard := g } : State).countPass = { u with guard := g }))) ∧
    (∀ (fifo : Bool) (word : BitVec 21) (ecc : Ecc), let w := word.toNat; let out := if fifo then fifoWords ≤ w else wingWords + bankWords ≤ w
      (s.belowHush = true ∨ out → exec (.sramScrub fifo word ecc) s = .next s) ∧
      (s.belowHush = false → ¬out → (fifo = true → exec (.sramScrub fifo word ecc) s = .next (s.scrubWord true (8 * w) ecc true).countWord) ∧
        (∀ off, fifo = false → s.wingAt w = some off → exec (.sramScrub fifo word ecc) s = .next (s.scrubWord false off ecc true).countWord ∧
          (ecc = .clean → (∀ b ∈ s.guard.wingBad, b / 8 ≠ off / 8) → s.scrubWord false off ecc true = s)) ∧
        (fifo = false → s.wingAt w = none → exec (.sramScrub fifo word ecc) s = .next s.countWord) ∧
        (s.guard.sramRead + 1 < wingWords + bankWords + fifoWords → s.countWord = { s with guard := { s.guard with sramRead := s.guard.sramRead + 1 } }))) ∧
    (∀ found, (s.guard.scrubNow = none → exec (.scrubNowDone found) s = .next s) ∧ (s.guard.retiring = none → exec (.retirementSwitch found) s = .next s)) ∧
    (∀ j l, s.guard.scrubNow = some j → s.longRef j.cmd 0x54 = some l → tagOf j.first = 0 → s.knownBad (offOf j.first) j.len [] = [] →
      exec (.scrubNowDone []) s = .next (({ s with guard := { s.guard with scrubNow := none } } : State).finishLong l { dw2 := 0, dw3 := 0 } [])) ∧
    (∀ found, (∃ t : State, exec (.scrubNowDone found) s = .next t ∧ t.guard.scrubNow = none ∧ t.chans = s.chans) ∧ (∃ t : State, exec (.retirementSwitch found) s = .next t ∧ t.guard.retiring = none ∧ t.chans = s.chans)) ∧
    (∀ j l, s.guard.retiring = some j → s.longRef j.cmd 0x51 = some l → let u := ({ s with guard := { s.guard with retiring := none } } : State).remap j
      exec (.retirementSwitch []) s = .next (u.finishLong l { dw2 := j.spare.zeroExtend 32, dw3 := BitVec.ofNat 32 (u.guard.spares0 + u.guard.spares1) } []) ∧
      (tagOf j.addr = 1 → (offOf j.addr, j.spare) ∈ u.guard.remaps) ∧ (tagOf j.addr = 0 → u.guard.spareBank = some (BitVec.ofNat 5 (offOf j.addr / 262144)))) ∧
    (∃ t : State, exec .summaryWrite s = .next t ∧ t.guard.unsummarised = [] ∧ t.mem.dram = s.mem.dram ∧ t.chans = s.chans ∧ (s.guard.unsummarised = [] → t = s)) ∧
    (∀ (rank : BitVec 2) (late : Bool), let present := s.rankPresent (bitAt rank 1) (bitAt rank 0)
      (s.dram.selfRefresh = true ∨ present = false → exec (.refresh rank late) s = .next s) ∧
      (s.dram.selfRefresh = false → present = true → let n := s.dram.postponed.look rank
        exec (.refresh rank late) s = .next { s with dram := { s.dram with postponed := s.dram.postponed.put rank (if late = true ∧ n < 8 then n + 1 else 0) } })) ∧
    (∀ hot n : BitVec 4, (∀ r : BitVec 2, bitAt n r.toNat = (bitAt hot r.toNat && s.rankPresent (bitAt r 1) (bitAt r 0))) →
      (s.dram.selfRefresh = true → exec (.dramTemperaturePoll hot) s = .next s) ∧
      (s.dram.selfRefresh = false → let u : State := { s with dram := { s.dram with hot := n } }
        exec (.dramTemperaturePoll hot) s = .next (if n &&& ~~~s.dram.hot = 0 then u else (u.raiseSm 21).raiseHouse 5))) ∧
    ((bitAt (s.devReg32 0xA14) 0 = false ∨ s.belowHush = true ∨ (s.devState ≠ .houseOnly ∧ s.devState ≠ .staged)) → exec .rotatingTest s = .next s) ∧
    (∀ u, bitAt (s.devReg32 0xA14) 0 = true → bitAt (s.devReg32 0xA14) 1 = false → s.devState = .staged → s.belowHush = false →
      due (s.health.rotSince + BitVec.ofNat 64 (max 1 (field (s.devReg32 0xA14) 19 8) * 38400000000)) s.now = true → s.nextUnit = some u →
      (s.health.carried u = none → exec .rotatingTest s = .next { s with health := { s.health with
        tests := s.health.tests ++ [{ target := 1, unit := u, cmd := none, retest := false }], lastTested := u, rotSince := s.now } }) ∧
      (∀ h, s.health.carried u = some h → exec .rotatingTest s = .next (s.rotate u))) ∧
    (∀ f : UnitFault, 14 ≤ f.unit.toNat → exec (.inServiceFault f) s = .fault .malformedEvent) ∧
    (∀ f : UnitFault, f.unit.toNat < 14 → exec (.inServiceFault f) s = .next (((s.faultUnit f.unit).copyFinds (s.stagehandOf f.unit) f.stale).go allChans) ∧
      (s.health.carried f.unit = none → (∀ j ∈ s.health.handovers, j.unit ≠ f.unit) → exec (.inServiceFault f) s = .next (s.go allChans))) ∧
    (let jo := s.health.handovers.find? fun j => due (j.start + BitVec.ofNat 64 handoverTicks) s.coreEdge;
      (jo = none ∨ s.belowHush = true → exec .handoverSwitch s = .next s) ∧
      (∀ j, jo = some j → s.belowHush = false → exec .handoverSwitch s = .next (((s.switchOver j).staleStaging j).go (s.servedBy j.sh)) ∧
        (j.sourceFailed = false ∨ j.dropped = true ∨ j.stale = [] → (s.switchOver j).staleStaging j = s.switchOver j) ∧
        (j.dropped = false → (s.switchOver j).health.map.look j.sh = some j.unit))) ∧
    (∀ (target : Byte) (unit : UnitId) (seen : Dword) (failing : BitVec 12) (passed : BitVec 14),
      let jo := s.health.tests.find? fun j => j.target == target && j.unit == unit
      (jo = none → exec (.bistTestEnd target unit seen failing passed) s = .next s) ∧
      (∀ j, jo = some j → ∃ t : State, exec (.bistTestEnd target unit seen failing passed) s = .next t ∧
        (target ≠ 0 → t.health.lastResult = some { target := target, unit := unit, observed := seen, expected := Config.romSignature target unit, pass := (seen == Config.romSignature target unit), aborted := false }) ∧
        (target = 1 → unit.toNat < 14 → seen ≠ Config.romSignature target unit → bitAt t.health.failed unit.toNat = true) ∧
        (target = 1 → seen = Config.romSignature target unit → t.health.failed = s.health.failed)))

/-- TRACE_EXPORT, EXTEST, IDCODE, SAMPLE/PRELOAD, HIGHZ, CLAMP, EXTEST_PULSE, EXTEST_TRAIN, BYPASS and TRST_N. -/
def Obligations.TraceExportAndJtag : Prop :=
  ∀ s : State,
    (s.exports = false ∨ s.belowHush = true → exec .traceExport s = .next s) ∧
    (s.exports = true → s.belowHush = false → let u := s.flushTrace; let next := max u.trace.exported u.trace.oldest
      (u.trace.ring.length ≤ next - u.trace.oldest → exec .traceExport s = .next u) ∧
      (∀ r, u.trace.ring[next - u.trace.oldest]? = some r → exec .traceExport s = .next (({ u with trace := { u.trace with exported := next + 1 } } : State).emit (.traceFrame (frameBytes next r))) ∧
        (frameBytes next r).length = 20)) ∧
    (let v (j : JtagInstr) : State := { s with jtag := { s.jtag with instr := j } };
      exec .extest s = .next (v .extest) ∧ exec .highz s = .next (v .highz) ∧ exec .clamp s = .next (v .clamp) ∧
      exec .extestPulse s = .next (v .extestPulse) ∧ exec .extestTrain s = .next (v .extestTrain)) ∧
    exec .idcode s = .next (({ s with jtag := { s.jtag with instr := .idcode } } : State).emit (.jtag 0x19616C5B)) ∧
    (∃ t : State, exec .samplePreload s = .next t ∧ { s with jtag := t.jtag } = t ∧ t.jtag.instr = .samplePreload ∧
      ∀ p : PinId, p.toNat < 48 → t.jtag.sampled.getLsbD p.toNat = s.ballLevel p) ∧
    (∀ p : PinId, ({ s with jtag := { s.jtag with instr := .highz } } : State).driven p = none ∧
      ({ s with jtag := { s.jtag with instr := .extest } } : State).driven p = (s.ownDrive p).map fun _ => s.jtag.sampled.getLsbD p.toNat) ∧
    exec .bypass s = .next { s with jtag := { s.jtag with instr := .bypass } } ∧
    exec .trstN s = .next { s with jtag := { s.jtag with instr := .idcode } }

/-- Each of the 51 commands of the prompter completes where its packet passes the checks. -/
def Obligations.CommandsComplete : Prop :=
  ∀ (p : Packet) (s : State), let c := s.cmdOf p; let u := s.takeOff p
    (Serves specIdentify checksIdentify p s → exec (.identify p) s = .next (runIdentify c u)) ∧
    (Serves specGetState checksGetState p s → exec (.getState p) s = .next (runGetState c u)) ∧
    (Serves specSetFeature checksSetFeature p s → exec (.setFeature p) s = .next (runSetFeature c u)) ∧
    (Serves specGetFeature checksGetFeature p s → exec (.getFeature p) s = .next (runGetFeature c u)) ∧
    (Serves specEcho checksEcho p s → exec (.echo p) s = .next (runEcho c u)) ∧
    (Serves specAbortCommand checksAbortCommand p s → exec (.abortCommand p) s = .next (runAbortCommand c u)) ∧
    (Serves specCreateCq checksCreateCq p s → exec (.createCq p) s = .next (runCreateCq c u)) ∧
    (Serves specCreateSq checksCreateSq p s → exec (.createSq p) s = .next (runCreateSq c u)) ∧
    (Serves specDeleteSq checksDeleteSq p s → exec (.deleteSq p) s = .next (runDeleteSq c u)) ∧
    (Serves specDeleteCq checksDeleteCq p s → exec (.deleteCq p) s = .next (runDeleteCq c u)) ∧
    (Serves specBindChannel checksBindChannel p s → exec (.bindChannel p) s = .next (runBindChannel c u)) ∧
    (Serves specUnbindChannel checksUnbindChannel p s → exec (.unbindChannel p) s = .next (runUnbindChannel c u)) ∧
    (Serves specChannelConfig checksChannelConfig p s → exec (.channelConfig p) s = .next (runChannelConfig c u)) ∧
    (Serves specChannelStart checksChannelStart p s → exec (.channelStart p) s = .next (runChannelStart c u)) ∧
    (Serves specChannelStop stopChecks p s → exec (.channelStop p) s = .next (runChannelStop c u)) ∧
    (Serves specChannelDrain stopChecks p s → exec (.channelDrain p) s = .next (runChannelDrain c u)) ∧
    (Serves specChannelReset stopChecks p s → exec (.channelReset p) s = .next (runChannelReset c u)) ∧
    (Serves specChannelStatus checksChannelStatus p s → exec (.channelStatus p) s = .next (runChannelStatus c u)) ∧
    (Serves specCueAlloc checksCueAlloc p s → exec (.cueAlloc p) s = .next (runCueAlloc c u)) ∧
    (Serves specCueFree checksCueFree p s → exec (.cueFree p) s = .next (runCueFree c u)) ∧
    (Serves specCueSet checksCueSet p s → exec (.cueSet p) s = .next (runCueSet c u)) ∧
    (Serves specPropPoolConfig checksPropPoolConfig p s → exec (.propPoolConfig p) s = .next (runPropPoolConfig c u)) ∧
    (Serves specActConfig checksActConfig p s → exec (.actConfig p) s = .next (runActConfig c u)) ∧
    (Serves specActStart checksActStart p s → exec (.actStart p) s = .next (runActStart c u)) ∧
    (Serves specActStop checksActStop p s → exec (.actStop p) s = .next (runActStop c u)) ∧
    (Serves specStreamConfig checksStreamConfig p s → exec (.streamConfig p) s = .next (runStreamConfig c u)) ∧
    (Serves specLinkUp checksLinkUp p s → exec (.linkUp p) s = .next (runLinkUp c u)) ∧
    (Serves specLinkDown checksLinkDown p s → exec (.linkDown p) s = .next (runLinkDown c u)) ∧
    (Serves specPinAssign checksPinAssign p s → exec (.pinAssign p) s = .next (runPinAssign c u)) ∧
    (Serves specProtectPropose checksProtectPropose p s → exec (.protectPropose p) s = .next (runProtectPropose c u)) ∧
    (Serves specProtectCountersign checksProtectCountersign p s → exec (.protectCountersign p) s = .next (runProtectCountersign c u)) ∧
    (Serves specProtectWithdraw checksProtectWithdraw p s → exec (.protectWithdraw p) s = .next (runProtectWithdraw c u)) ∧
    (Serves specProtectRead checksProtectRead p s → exec (.protectRead p) s = .next (runProtectRead c u)) ∧
    (Serves specPowerState checksPowerState p s → exec (.powerState p) s = .next (runPowerState c u)) ∧
    (Serves specMemLogRead checksMemLogRead p s → exec (.memLogRead p) s = .next (runMemLogRead c u)) ∧
    (Serves specRetirePage checksRetirePage p s → exec (.retirePage p) s = .next (runRetirePage c u)) ∧
    (Serves specMarkChip checksMarkChip p s → exec (.markChip p) s = .next (runMarkChip c u)) ∧
    (Serves specScrubConfig checksScrubConfig p s → exec (.scrubConfig p) s = .next (runScrubConfig c u)) ∧
    (Serves specScrubNow checksScrubNow p s → exec (.scrubNow p) s = .next (runScrubNow c u)) ∧
    (Serves specRunBist checksRunBist p s → exec (.runBist p) s = .next (runRunBist c u)) ∧
    (Serves specBistResult checksBistResult p s → exec (.bistResult p) s = .next (runBistResult c u)) ∧
    (Serves specTraceConfig checksTraceConfig p s → exec (.traceConfig p) s = .next (runTraceConfig c u)) ∧
    (Serves specTraceRead checksTraceRead p s → exec (.traceRead p) s = .next (runTraceRead c u)) ∧
    (Serves specTimeSet checksTimeSet p s → exec (.timeSet p) s = .next (runTimeSet c u)) ∧
    (Serves specTimeAdjust checksTimeAdjust p s → exec (.timeAdjust p) s = .next (runTimeAdjust c u)) ∧
    (Serves specTimeCapture checksTimeCapture p s → exec (.timeCapture p) s = .next (runTimeCapture c u)) ∧
    (Serves specPatchStage checksPatchStage p s → exec (.patchStage p) s = .next (runPatchStage c u)) ∧
    (Serves specPatchActivate checksPatchActivate p s → exec (.patchActivate p) s = .next (runPatchActivate c u)) ∧
    (Serves specPatchList checksPatchList p s → exec (.patchList p) s = .next (runPatchList c u)) ∧
    (Serves specConfigSnapshot checksConfigSnapshot p s → exec (.configSnapshot p) s = .next (runConfigSnapshot c u)) ∧
    (Serves specConfigRestore checksConfigRestore p s → exec (.configRestore p) s = .next (runConfigRestore c u))

/-- Each row of a register write or a register read completes at its place. -/
def Obligations.RegisterRowsComplete : Prop :=
  (∀ (a : RegWrite) (s : State) (h : Home) (r : RegSpec), Lands a s h r → let v := (s.landing a h r).afterWrite (s.performed a h r)
    exec (.registerWrite a) s = .next v ∧
    ((onDevice a 0x40 || onTenant a 0x40) → exec (.unlock a) s = .next v) ∧
    ((onDevice a 0x48 || onTenant a 0x48) && !(updateBit a 16) && !(updateBit a 17) → exec (.updateStrobe a) s = .next v) ∧
    ((onDevice a 0x48 || onTenant a 0x48) && updateBit a 16 && !(updateBit a 17) → exec (.timedStrobeArm a) s = .next v) ∧
    ((onDevice a 0x48 || onTenant a 0x48) && updateBit a 17 → exec (.discard a) s = .next v) ∧
    ((onDevice a 0x60 || onTenant a 0x60) → exec (.cfgRefWrite a) s = .next v) ∧
    (onTenant a 0x78 → exec (.tPropFree a) s = .next v) ∧
    (onTenant a 0x80 → exec (.tCueSet a) s = .next v) ∧
    (onDevice a 0xBD0 → exec (.traceMark a) s = .next v) ∧
    (onDevice a 0x68 && decide (baseOf a.off % 8 = 4) → exec (.softReset a) s = .next v) ∧
    (onTenant a 0x110 && lowBit a 31 → exec (.adminEnable a) s = .next v) ∧
    (onTenant a 0x110 && !(lowBit a 31) → exec (.adminDisable a) s = .next v) ∧
    (onSlot a 0x50 && lowBit a 0 → exec (.shadowArm a) s = .next v) ∧
    (onSlot a 0x50 && !(lowBit a 0) → exec (.shadowDisarm a) s = .next v) ∧
    (decide (a.page = .device) && decide (0x140 ≤ placeOf a) && decide (placeOf a < 0x180) → exec (.strobeArm a) s = .next v) ∧
    (onDevice a 0x130 → exec (.ppsOutConfig a) s = .next v) ∧
    (onDevice a 0x68 && decide (baseOf a.off % 8 = 0) → exec (.stageManagerDesignation a) s = .next v) ∧
    (onDevice a 0xB08 → exec (.memBoardWrite a) s = .next v) ∧
    (onDevice a 0x90 || onDevice a 0x98 → exec (.apertureMove a) s = .next v) ∧
    (onDevice a 0x1850 → exec (.sysrefArm a) s = .next v) ∧
    (onDevice a 0x988 || onTenant a 0x98 → exec (.pinOutWrite a) s = .next v) ∧
    (decide (viewOf a.off ≠ 0) → exec (.viewWrite a) s = .next v) ∧
    ((onDevice a 0x28 || onTenant a 0x28) → exec (.rearm a) s = .next v)) ∧
  (∀ (a : RegWrite) (s : State) (r : RegSpec), let u := s.arrival a.via
    s.reaches a.via = true → (s.touched a.via).barsShut = false → a.odd = false → u.regAt a.via .device a.off = some (.dev 0x68, r) →
    a.page = .device → viewOf a.off = 0 → a.off = 0x68 → a.eight = false → a.via = .house → u.devState = .houseOnly → u.prot.designated = false →
    exec (.stageManagerDesignation a) s = .next (u.designate (u.writeOf a.via a.page a.off (.dev 0x68) r [⟨0, (lo32 a.data).zeroExtend 64, bits 31 0⟩]).new)) ∧
  (∀ (a : RegRead) (s : State), s.reaches a.via = true → (s.touched a.via).barsShut = false → a.odd = false →
    let v := State.readDone ((s.arrival a.via).regRead a.via a.page a.off a.eight) a.via a.eight
    exec (.lowWordRead a) s = .next v ∧ (∀ t : TenantId, a.page = .tenant t → baseOf a.off = 0x70 → exec (.tPropAlloc a) s = .next v) ∧
    (a.page = .device → baseOf a.off / 8 * 8 = 0x1898 → exec (.prbsErrRead a) s = .next v)) ∧
  (∀ (page : Page) (s : State), s.strobeDue page = true → exec (.timedStrobeApply page) s = .next (s.applyArmed page))

/-- Where further commands of the outside, the clocks and the engines complete. -/
def Obligations.EventsComplete : Prop :=
  ∀ s : State,
    (∀ (h : ShId) (c : ChanId), s.dataOn = true → s.shFrozen h = false →
      bestOf (s.betterCandidate h) (allChans.filter fun c => s.candidate h c && s.qualifies (s.sh.look h).occupants c) = some c →
      exec (.admission h) s = .next (s.admitAct h c)) ∧
    (∀ c : ChanId, let n := s.chan c; n.live = true → n.stopping = true → n.haltDue = false → s.shFrozen n.effective = false →
      (match n.mode with | .queue => s.stopQueue c | .script => s.stopScript c | .shadow => n.stopShadow) = true →
      exec (.stopTakesEffect c) s = .next (s.takeStop c)) ∧
    (∀ (c : ChanId) (i : Insn), Executes s c .halt i {} → exec (.halt c) s = .next
      ((((s.updScript c fun p => { p with haltCode := i.d1.truncate 16 }).noteChan 2 0x25 c (BitVec.ofNat 32 (field i.d1 15 0))).failPlain c 0x15
        (2 ^ 31 + field i.d1 15 0)).go [c])) ∧
    (∀ a, s.called = some a → s.power.state ≠ .lit → s.power.waking = false → exec .callTime s = .next
      { s with power := { s.power with waking := true, wakeAt := s.tb.refclkCount, wakeCause := 8, wakeAct := a } }) ∧
    (s.devState ≠ .faulted → exec .prompterStall s = .next (((s.raiseAlert 2).countFailedBoot).enterFaulted 2)) ∧
    (∀ h, s.prot.held = some h → future s.now h.expiry = true → s.waitsBefore h.expiry = false →
      exec .proposalExpiry s = .next (s.endProposal true)) ∧
    (∀ t0, s.boot.servingSince = some t0 → s.runningSet ≠ 0 → s.boot.confirmed = false → (s.devState = .houseOnly ∨ s.devState = .staged) →
      due (t0 + 384000000000) s.now = true → exec .bootConfirmation s = .next (s.updBoot fun b => { b with
        confirmed := true, failedBoots := 0
        rollback := BitVec.ofNat 32 ((slotsOf s.runningSet).foldl (fun m n => max m (s.patchVersion n).toNat) s.boot.rollback.toNat) })) ∧
    exec .porN s = .next s.powerOn ∧ exec .resetN s = .next (s.restart 1) ∧
    (∀ i, s.devState ≠ .faulted → (s.boot.step = 7 → exec (.startupStep i) s = .next s.startFill) ∧
      (s.boot.step = 8 → exec (.startupStep i) s = .next (s.startCheck i)) ∧ (s.boot.step = 9 → exec (.startupStep i) s = .next (s.startPrompter i))) ∧
    (∀ want, s.power.target = some want → s.permitted want.code ≠ s.power.state → s.power.waking = false → s.mayRest (s.permitted want.code) = true →
      s.permitted want.code ≠ .hush → s.exports = false ∨ s.trace.backlog ≤ 8 → exec .descent s = .next (s.sinkDeep (s.permitted want.code))) ∧
    (s.power.waking = true → s.power.state = .shuttered → s.tb.refclkPresent = true → exec (.exitToLit false) s = .next s.failRestore) ∧
    (s.tb.refclkPresent = true → s.power.state ≠ .shuttered → exec .refclkLoss s = .next
      ((((s.loseFine.loseTime.updTb fun t =>
        { t.endSlew with time := t.refTime, acc := t.refAcc, tbPhase := 0, refclkPresent := false, refclkLost := true }).note 9 0x92 none none 1).raiseAlert 0).faultOnce 0)) ∧
    (s.tb.pllLock = true → exec .pllUnlock s = .next (((s.loseFine.updTb fun t => { t with pllUnlocked := true }).raiseAlert 1).faultOnce 1)) ∧
    (∀ n : BitVec 2, s.linkState n.toNat = .training → (s.conv1 n.toNat).step = 2 → s.lanesLocked n.toNat = true →
      let v : State := { s with conv := { s.conv with laneSync := s.conv.laneSync ||| (s.lanesOfLink n.toNat).foldl (fun (m : Byte) k => m ||| (1 <<< k.toNat)) 0 } }
      exec (.codeGroupSync n) s = .next (if (convParams (s.convCfg n.toNat)).subclass1 then v.updConv n.toNat fun l => { l with step := 3 }
        else v.updConv n.toNat fun l => { l with step := 4, syncHigh := true })) ∧
    (∀ (n : BitVec 2) (o : Byte), s.linkState n.toNat = .training → (s.conv1 n.toNat).step = 4 →
      let v := s.updConv n.toNat fun l => { l with ilasMismatch := true, firstMismatch := if l.mismatched then l.firstMismatch else o, mismatched := true }
      exec (.ilas n (some o)) s = .next (if (convParams (s.convCfg n.toNat)).strictIlas then v.backToSync n.toNat else v.updConv n.toNat fun l => { l with step := 5 })) ∧
    (∀ (v : BitVec 4) (edge : Tick) (miss : Byte), s.tb.devclkPresent = true → field (s.devReg 0x1840) 41 40 < 2 →
      exec (.sysrefEvent v edge miss) s = .next
        (({ s with conv := { s.conv with sysrefStamp := s.now + v.zeroExtend 64, sysrefSeq := s.conv.sysrefSeq + 1 } } : State).forAll
          ((List.range 8).filter fun i => s.linkState i != .down && (convParams (s.convCfg i)).subclass1) fun i s => s.judgeSysref i edge (bitAt miss i))) ∧
    (field (s.devReg 0x1840) 41 40 = 2 → exec .devclkReturn s = .next
      (({ s with tb := { s.tb with devclkPresent := true } } : State).forAll ((List.range 8).filter fun i => s.linkState i == .training)
        fun i s => s.updConv i fun l => { l with aligned := true })) ∧
    (∀ n : BitVec 2, s.tb.devclkPresent = true → exec (.lmfcBoundary (.rx n)) s = .next (s.rxBoundary n.toNat)) ∧
    (∀ (n : BitVec 2) (octets : Nat), s.linkState (4 + n.toNat) = .up → 5 * (convParams (s.convCfg (4 + n.toNat))).f + 9 ≤ octets →
      exec (.syncinLow n octets) s = .next (((s.backToK (4 + n.toNat)).updConv (4 + n.toNat) fun l =>
        { l with resyncCount := satAdd l.resyncCount 1 }).leaveLink (4 + n.toNat) .training false)) ∧
    (∀ n : BitVec 2, bitAt (s.tdmFrame n) 48 = false → (s.tdm.look n).state = .up → bitAt (s.tdmFrame n) 49 = true →
      exec (.tdmLockLoss n) s = .next (((s.updTdm n fun p => { p with lastStart := none }).updTdm n fun p =>
        { p with resyncCount := satAdd p.resyncCount 1 }).leaveLink (8 + n.toNat) .training false)) ∧
    (∀ (n : BitVec 3) (t : Tick), s.strobeTime n = some t → future t s.now = false → s.tb.fineValid = true → bitAt (s.devReg (0x140 + 8 * n.toNat)) 3 = false →
      exec (.strobeEvent n) s = .next (((s.updTb fun b => { b with strobeDue := b.strobeDue.put n none }).setDevReg (0x140 + 8 * n.toNat)
        (s.devReg (0x140 + 8 * n.toNat) &&& ~~~(1 : Word))).produceStrobe n t)) ∧
    (∀ (n : BitVec 3) (rise : Bool) (v : BitVec 4), let r := s.seeEdge (n.zeroExtend 6) 8 rise; let c := s.devReg32 (0x1C0 + 4 * n.toNat)
      (r.2 && bitAt c 0 && edgeQualifies (field c 2 1) rise) = true → exec (.captureEdge n rise v) s = .next (r.1.updTb fun t =>
        { t with captures := t.captures.upd n fun c => { stamp := s.edgeStamp v, seq := c.seq + 1, coarse := !s.tb.fineValid } })) ∧
    (∀ (p : PinId) (level : Bool), p.toNat < 48 → s.pinFunc p = 3 → (s.pins.look p).live = true → (s.pins.look p).seen ≠ level →
      s.power.state ≠ .lit → s.power.state ≠ .hush →
      exec (.dreq p level) s = .next (((s.ballMoves p level).updPin p fun q => { q with seen := level }).holdEdge p level)) ∧
    (∀ (p : PinId) (rise : Bool), let r := s.seeEdge p 11 rise
      p.toNat < 48 → (r.2 && edgeQualifies (field (s.pinMux p) 7 6) rise) = true → s.power.state ≠ .lit → s.power.waking = false →
      exec (.wake p rise) s = .next { r.1 with power := { s.power with waking := true, wakeAt := s.tb.refclkCount, wakeCause := 4, wakePin := p } }) ∧
    exec .summaryWrite s = .next (s.guard.unsummarised.foldl (fun s r => s.summarise r) { s with guard := { s.guard with unsummarised := [] } }) ∧
    (∀ tj, 3 ≤ s.boot.step.toNat → exec (.thermalSample tj) s = .next (s.sampleTj tj)) ∧
    (s.health.tjValid = true → exec .thermalBudgetUpdate s = .next (s.updHealth fun h =>
      { h with lifeThermal := satAdd h.lifeThermal ((h.lifeThermalFrac + budgetOf h.tj) / 2 ^ 80), lifeThermalFrac := (h.lifeThermalFrac + budgetOf h.tj) % 2 ^ 80 })) ∧
    (s.devState ≠ .fill → s.devState ≠ .check → exec .healthEvaluation s = .next s.evaluate) ∧
    (∀ (unit : UnitId) (seen : Dword) (failing : BitVec 12) (passed : BitVec 14) (j : TestJob),
      s.health.tests.find? (fun j => j.target == 1 && j.unit == unit) = some j → j.cmd = none →
      let r : BistRecord := ⟨1, unit, seen, Config.romSignature 1 unit, seen == Config.romSignature 1 unit, false⟩
      exec (.bistTestEnd 1 unit seen failing passed) s = .next
        ((s.updHealth fun h => { h.record r with tests := h.tests.filter fun x => x != j }).endUnitTest j (seen == Config.romSignature 1 unit))) ∧
    exec .samplePreload s = .next { s with jtag := { s.jtag with instr := .samplePreload, sampled := (s.tap .samplePreload).boundary } } ∧
    (∀ (c : ChanId) (t0 : Tick), (s.chan c).after = some (.reset t0) → due (t0 + 57600000) s.coreEdge = true →
      let out := ((s.chan c).proving.map fun p => p.1) ++ ((s.chan c).unproven.map fun p => p.1) ++ (s.chan c).writes.filterMap fun w => s.proofTarget w.addr
      exec (.resetProofTimeout c) s = .next ((s.updChan c fun n => { n with
        proving := [], unproven := [], writes := [], unprovenMask := out.foldl (fun m t => m ||| (1 <<< proofBit t : BitVec 6)) (s.chan c).unprovenMask }).go [c]))
end

