-- ==== Sys2Proof/Laws/State.lean ====
section
/-! SUPPORT. What each named update of the state leaves in each field: true by unfolding, so that no later proof unfolds a record update. -/

namespace Sys2Proof

namespace Tbl
variable {w : Nat} {α : Type}

@[simp] theorem look_fill (x : α) (i : BitVec w) : (fill w x).look i = x := by simp [look, fill]

@[simp] theorem look_put_same (t : Tbl w α) (i : BitVec w) (x : α) : (t.put i x).look i = x := by simp [look, put]

theorem look_put_other (t : Tbl w α) {i j : BitVec w} (x : α) (h : i ≠ j) : (t.put i x).look j = t.look j := by
  have hn : i.toNat ≠ j.toNat := fun e => h (BitVec.eq_of_toNat_eq e)
  simp [look, put, hn]

theorem look_put (t : Tbl w α) (i j : BitVec w) (x : α) : (t.put i x).look j = if i = j then x else t.look j := by
  by_cases h : i = j
  · simp [h]
  · simp [h, look_put_other]

@[simp] theorem look_upd_same (t : Tbl w α) (i : BitVec w) (f : α → α) : (t.upd i f).look i = f (t.look i) := by simp [upd]

theorem look_upd_other (t : Tbl w α) {i j : BitVec w} (f : α → α) (h : i ≠ j) : (t.upd i f).look j = t.look j := by
  simp [upd, look_put_other _ _ h]

theorem look_upd (t : Tbl w α) (i j : BitVec w) (f : α → α) : (t.upd i f).look j = if i = j then f (t.look i) else t.look j := by
  simp [upd, look_put]

/-- Two changes of one entry are one. -/
@[simp] theorem upd_upd (t : Tbl w α) (i : BitVec w) (f g : α → α) : (t.upd i f).upd i g = t.upd i fun x => g (f x) := by
  simp [upd, put, look]

end Tbl

namespace Machine

variable (s : State)

/-! ### `setDevReg` -/

@[simp] theorem State.setDevReg_tb (off : Nat) (x : Word) : (s.setDevReg off x).tb = s.tb := rfl
@[simp] theorem State.setDevReg_acts (off : Nat) (x : Word) : (s.setDevReg off x).acts = s.acts := rfl
@[simp] theorem State.setDevReg_dev (off : Nat) (x : Word) : (s.setDevReg off x).dev = { s.dev with regs := s.dev.regs.upd (BitVec.ofNat 11 (off / 8)) fun r => { r with act := x } } := rfl
@[simp] theorem State.setDevReg_tenants (off : Nat) (x : Word) : (s.setDevReg off x).tenants = s.tenants := rfl
@[simp] theorem State.setDevReg_chans (off : Nat) (x : Word) : (s.setDevReg off x).chans = s.chans := rfl
@[simp] theorem State.setDevReg_cues (off : Nat) (x : Word) : (s.setDevReg off x).cues = s.cues := rfl
@[simp] theorem State.setDevReg_sh (off : Nat) (x : Word) : (s.setDevReg off x).sh = s.sh := rfl
@[simp] theorem State.setDevReg_eps (off : Nat) (x : Word) : (s.setDevReg off x).eps = s.eps := rfl
@[simp] theorem State.setDevReg_props (off : Nat) (x : Word) : (s.setDevReg off x).props = s.props := rfl
@[simp] theorem State.setDevReg_prot (off : Nat) (x : Word) : (s.setDevReg off x).prot = s.prot := rfl
@[simp] theorem State.setDevReg_devState (off : Nat) (x : Word) : (s.setDevReg off x).devState = s.devState := rfl
@[simp] theorem State.setDevReg_long (off : Nat) (x : Word) : (s.setDevReg off x).long = s.long := rfl
@[simp] theorem State.setDevReg_pinJob (off : Nat) (x : Word) : (s.setDevReg off x).pinJob = s.pinJob := rfl
@[simp] theorem State.setDevReg_cplWrites (off : Nat) (x : Word) : (s.setDevReg off x).cplWrites = s.cplWrites := rfl
@[simp] theorem State.setDevReg_order (off : Nat) (x : Word) : (s.setDevReg off x).order = s.order := rfl
@[simp] theorem State.setDevReg_hp0 (off : Nat) (x : Word) : (s.setDevReg off x).hp0 = s.hp0 := rfl
@[simp] theorem State.setDevReg_hp1 (off : Nat) (x : Word) : (s.setDevReg off x).hp1 = s.hp1 := rfl
@[simp] theorem State.setDevReg_house (off : Nat) (x : Word) : (s.setDevReg off x).house = s.house := rfl
@[simp] theorem State.setDevReg_mem (off : Nat) (x : Word) : (s.setDevReg off x).mem = s.mem := rfl
@[simp] theorem State.setDevReg_guard (off : Nat) (x : Word) : (s.setDevReg off x).guard = s.guard := rfl
@[simp] theorem State.setDevReg_health (off : Nat) (x : Word) : (s.setDevReg off x).health = s.health := rfl
@[simp] theorem State.setDevReg_power (off : Nat) (x : Word) : (s.setDevReg off x).power = s.power := rfl
@[simp] theorem State.setDevReg_boot (off : Nat) (x : Word) : (s.setDevReg off x).boot = s.boot := rfl
@[simp] theorem State.setDevReg_intermission (off : Nat) (x : Word) : (s.setDevReg off x).intermission = s.intermission := rfl
@[simp] theorem State.setDevReg_conv (off : Nat) (x : Word) : (s.setDevReg off x).conv = s.conv := rfl
@[simp] theorem State.setDevReg_tdm (off : Nat) (x : Word) : (s.setDevReg off x).tdm = s.tdm := rfl
@[simp] theorem State.setDevReg_lb (off : Nat) (x : Word) : (s.setDevReg off x).lb = s.lb := rfl
@[simp] theorem State.setDevReg_lbDue (off : Nat) (x : Word) : (s.setDevReg off x).lbDue = s.lbDue := rfl
@[simp] theorem State.setDevReg_lbTurn (off : Nat) (x : Word) : (s.setDevReg off x).lbTurn = s.lbTurn := rfl
@[simp] theorem State.setDevReg_edgeBits (off : Nat) (x : Word) : (s.setDevReg off x).edgeBits = s.edgeBits := rfl
@[simp] theorem State.setDevReg_edgeSignals (off : Nat) (x : Word) : (s.setDevReg off x).edgeSignals = s.edgeSignals := rfl
@[simp] theorem State.setDevReg_dram (off : Nat) (x : Word) : (s.setDevReg off x).dram = s.dram := rfl
@[simp] theorem State.setDevReg_pins (off : Nat) (x : Word) : (s.setDevReg off x).pins = s.pins := rfl
@[simp] theorem State.setDevReg_trace (off : Nat) (x : Word) : (s.setDevReg off x).trace = s.trace := rfl
@[simp] theorem State.setDevReg_jtag (off : Nat) (x : Word) : (s.setDevReg off x).jtag = s.jtag := rfl
@[simp] theorem State.setDevReg_fresh (off : Nat) (x : Word) : (s.setDevReg off x).fresh = s.fresh := rfl
@[simp] theorem State.setDevReg_out (off : Nat) (x : Word) : (s.setDevReg off x).out = s.out := rfl
@[simp] theorem State.setDevReg_pending (off : Nat) (x : Word) : (s.setDevReg off x).pending = s.pending := rfl

/-! ### `setDevBoth` -/

@[simp] theorem State.setDevBoth_tb (off : Nat) (x : Word) : (s.setDevBoth off x).tb = s.tb := rfl
@[simp] theorem State.setDevBoth_acts (off : Nat) (x : Word) : (s.setDevBoth off x).acts = s.acts := rfl
@[simp] theorem State.setDevBoth_dev (off : Nat) (x : Word) : (s.setDevBoth off x).dev = { s.dev with regs := s.dev.regs.put (BitVec.ofNat 11 (off / 8)) (Staged.both x) } := rfl
@[simp] theorem State.setDevBoth_tenants (off : Nat) (x : Word) : (s.setDevBoth off x).tenants = s.tenants := rfl
@[simp] theorem State.setDevBoth_chans (off : Nat) (x : Word) : (s.setDevBoth off x).chans = s.chans := rfl
@[simp] theorem State.setDevBoth_cues (off : Nat) (x : Word) : (s.setDevBoth off x).cues = s.cues := rfl
@[simp] theorem State.setDevBoth_sh (off : Nat) (x : Word) : (s.setDevBoth off x).sh = s.sh := rfl
@[simp] theorem State.setDevBoth_eps (off : Nat) (x : Word) : (s.setDevBoth off x).eps = s.eps := rfl
@[simp] theorem State.setDevBoth_props (off : Nat) (x : Word) : (s.setDevBoth off x).props = s.props := rfl
@[simp] theorem State.setDevBoth_prot (off : Nat) (x : Word) : (s.setDevBoth off x).prot = s.prot := rfl
@[simp] theorem State.setDevBoth_devState (off : Nat) (x : Word) : (s.setDevBoth off x).devState = s.devState := rfl
@[simp] theorem State.setDevBoth_long (off : Nat) (x : Word) : (s.setDevBoth off x).long = s.long := rfl
@[simp] theorem State.setDevBoth_pinJob (off : Nat) (x : Word) : (s.setDevBoth off x).pinJob = s.pinJob := rfl
@[simp] theorem State.setDevBoth_cplWrites (off : Nat) (x : Word) : (s.setDevBoth off x).cplWrites = s.cplWrites := rfl
@[simp] theorem State.setDevBoth_order (off : Nat) (x : Word) : (s.setDevBoth off x).order = s.order := rfl
@[simp] theorem State.setDevBoth_hp0 (off : Nat) (x : Word) : (s.setDevBoth off x).hp0 = s.hp0 := rfl
@[simp] theorem State.setDevBoth_hp1 (off : Nat) (x : Word) : (s.setDevBoth off x).hp1 = s.hp1 := rfl
@[simp] theorem State.setDevBoth_house (off : Nat) (x : Word) : (s.setDevBoth off x).house = s.house := rfl
@[simp] theorem State.setDevBoth_mem (off : Nat) (x : Word) : (s.setDevBoth off x).mem = s.mem := rfl
@[simp] theorem State.setDevBoth_guard (off : Nat) (x : Word) : (s.setDevBoth off x).guard = s.guard := rfl
@[simp] theorem State.setDevBoth_health (off : Nat) (x : Word) : (s.setDevBoth off x).health = s.health := rfl
@[simp] theorem State.setDevBoth_power (off : Nat) (x : Word) : (s.setDevBoth off x).power = s.power := rfl
@[simp] theorem State.setDevBoth_boot (off : Nat) (x : Word) : (s.setDevBoth off x).boot = s.boot := rfl
@[simp] theorem State.setDevBoth_intermission (off : Nat) (x : Word) : (s.setDevBoth off x).intermission = s.intermission := rfl
@[simp] theorem State.setDevBoth_conv (off : Nat) (x : Word) : (s.setDevBoth off x).conv = s.conv := rfl
@[simp] theorem State.setDevBoth_tdm (off : Nat) (x : Word) : (s.setDevBoth off x).tdm = s.tdm := rfl
@[simp] theorem State.setDevBoth_lb (off : Nat) (x : Word) : (s.setDevBoth off x).lb = s.lb := rfl
@[simp] theorem State.setDevBoth_lbDue (off : Nat) (x : Word) : (s.setDevBoth off x).lbDue = s.lbDue := rfl
@[simp] theorem State.setDevBoth_lbTurn (off : Nat) (x : Word) : (s.setDevBoth off x).lbTurn = s.lbTurn := rfl
@[simp] theorem State.setDevBoth_edgeBits (off : Nat) (x : Word) : (s.setDevBoth off x).edgeBits = s.edgeBits := rfl
@[simp] theorem State.setDevBoth_edgeSignals (off : Nat) (x : Word) : (s.setDevBoth off x).edgeSignals = s.edgeSignals := rfl
@[simp] theorem State.setDevBoth_dram (off : Nat) (x : Word) : (s.setDevBoth off x).dram = s.dram := rfl
@[simp] theorem State.setDevBoth_pins (off : Nat) (x : Word) : (s.setDevBoth off x).pins = s.pins := rfl
@[simp] theorem State.setDevBoth_trace (off : Nat) (x : Word) : (s.setDevBoth off x).trace = s.trace := rfl
@[simp] theorem State.setDevBoth_jtag (off : Nat) (x : Word) : (s.setDevBoth off x).jtag = s.jtag := rfl
@[simp] theorem State.setDevBoth_fresh (off : Nat) (x : Word) : (s.setDevBoth off x).fresh = s.fresh := rfl
@[simp] theorem State.setDevBoth_out (off : Nat) (x : Word) : (s.setDevBoth off x).out = s.out := rfl
@[simp] theorem State.setDevBoth_pending (off : Nat) (x : Word) : (s.setDevBoth off x).pending = s.pending := rfl

/-! ### `updTenant` -/

@[simp] theorem State.updTenant_tb (t : TenantId) (f : Tenant → Tenant) : (s.updTenant t f).tb = s.tb := rfl
@[simp] theorem State.updTenant_acts (t : TenantId) (f : Tenant → Tenant) : (s.updTenant t f).acts = s.acts := rfl
@[simp] theorem State.updTenant_dev (t : TenantId) (f : Tenant → Tenant) : (s.updTenant t f).dev = s.dev := rfl
@[simp] theorem State.updTenant_tenants (t : TenantId) (f : Tenant → Tenant) : (s.updTenant t f).tenants = s.tenants.upd t f := rfl
@[simp] theorem State.updTenant_chans (t : TenantId) (f : Tenant → Tenant) : (s.updTenant t f).chans = s.chans := rfl
@[simp] theorem State.updTenant_cues (t : TenantId) (f : Tenant → Tenant) : (s.updTenant t f).cues = s.cues := rfl
@[simp] theorem State.updTenant_sh (t : TenantId) (f : Tenant → Tenant) : (s.updTenant t f).sh = s.sh := rfl
@[simp] theorem State.updTenant_eps (t : TenantId) (f : Tenant → Tenant) : (s.updTenant t f).eps = s.eps := rfl
@[simp] theorem State.updTenant_props (t : TenantId) (f : Tenant → Tenant) : (s.updTenant t f).props = s.props := rfl
@[simp] theorem State.updTenant_prot (t : TenantId) (f : Tenant → Tenant) : (s.updTenant t f).prot = s.prot := rfl
@[simp] theorem State.updTenant_devState (t : TenantId) (f : Tenant → Tenant) : (s.updTenant t f).devState = s.devState := rfl
@[simp] theorem State.updTenant_long (t : TenantId) (f : Tenant → Tenant) : (s.updTenant t f).long = s.long := rfl
@[simp] theorem State.updTenant_pinJob (t : TenantId) (f : Tenant → Tenant) : (s.updTenant t f).pinJob = s.pinJob := rfl
@[simp] theorem State.updTenant_cplWrites (t : TenantId) (f : Tenant → Tenant) : (s.updTenant t f).cplWrites = s.cplWrites := rfl
@[simp] theorem State.updTenant_order (t : TenantId) (f : Tenant → Tenant) : (s.updTenant t f).order = s.order := rfl
@[simp] theorem State.updTenant_hp0 (t : TenantId) (f : Tenant → Tenant) : (s.updTenant t f).hp0 = s.hp0 := rfl
@[simp] theorem State.updTenant_hp1 (t : TenantId) (f : Tenant → Tenant) : (s.updTenant t f).hp1 = s.hp1 := rfl
@[simp] theorem State.updTenant_house (t : TenantId) (f : Tenant → Tenant) : (s.updTenant t f).house = s.house := rfl
@[simp] theorem State.updTenant_mem (t : TenantId) (f : Tenant → Tenant) : (s.updTenant t f).mem = s.mem := rfl
@[simp] theorem State.updTenant_guard (t : TenantId) (f : Tenant → Tenant) : (s.updTenant t f).guard = s.guard := rfl
@[simp] theorem State.updTenant_health (t : TenantId) (f : Tenant → Tenant) : (s.updTenant t f).health = s.health := rfl
@[simp] theorem State.updTenant_power (t : TenantId) (f : Tenant → Tenant) : (s.updTenant t f).power = s.power := rfl
@[simp] theorem State.updTenant_boot (t : TenantId) (f : Tenant → Tenant) : (s.updTenant t f).boot = s.boot := rfl
@[simp] theorem State.updTenant_intermission (t : TenantId) (f : Tenant → Tenant) : (s.updTenant t f).intermission = s.intermission := rfl
@[simp] theorem State.updTenant_conv (t : TenantId) (f : Tenant → Tenant) : (s.updTenant t f).conv = s.conv := rfl
@[simp] theorem State.updTenant_tdm (t : TenantId) (f : Tenant → Tenant) : (s.updTenant t f).tdm = s.tdm := rfl
@[simp] theorem State.updTenant_lb (t : TenantId) (f : Tenant → Tenant) : (s.updTenant t f).lb = s.lb := rfl
@[simp] theorem State.updTenant_lbDue (t : TenantId) (f : Tenant → Tenant) : (s.updTenant t f).lbDue = s.lbDue := rfl
@[simp] theorem State.updTenant_lbTurn (t : TenantId) (f : Tenant → Tenant) : (s.updTenant t f).lbTurn = s.lbTurn := rfl
@[simp] theorem State.updTenant_edgeBits (t : TenantId) (f : Tenant → Tenant) : (s.updTenant t f).edgeBits = s.edgeBits := rfl
@[simp] theorem State.updTenant_edgeSignals (t : TenantId) (f : Tenant → Tenant) : (s.updTenant t f).edgeSignals = s.edgeSignals := rfl
@[simp] theorem State.updTenant_dram (t : TenantId) (f : Tenant → Tenant) : (s.updTenant t f).dram = s.dram := rfl
@[simp] theorem State.updTenant_pins (t : TenantId) (f : Tenant → Tenant) : (s.updTenant t f).pins = s.pins := rfl
@[simp] theorem State.updTenant_trace (t : TenantId) (f : Tenant → Tenant) : (s.updTenant t f).trace = s.trace := rfl
@[simp] theorem State.updTenant_jtag (t : TenantId) (f : Tenant → Tenant) : (s.updTenant t f).jtag = s.jtag := rfl
@[simp] theorem State.updTenant_fresh (t : TenantId) (f : Tenant → Tenant) : (s.updTenant t f).fresh = s.fresh := rfl
@[simp] theorem State.updTenant_out (t : TenantId) (f : Tenant → Tenant) : (s.updTenant t f).out = s.out := rfl
@[simp] theorem State.updTenant_pending (t : TenantId) (f : Tenant → Tenant) : (s.updTenant t f).pending = s.pending := rfl

/-! ### `updChan` -/

@[simp] theorem State.updChan_tb (c : ChanId) (f : Chan → Chan) : (s.updChan c f).tb = s.tb := rfl
@[simp] theorem State.updChan_acts (c : ChanId) (f : Chan → Chan) : (s.updChan c f).acts = s.acts := rfl
@[simp] theorem State.updChan_dev (c : ChanId) (f : Chan → Chan) : (s.updChan c f).dev = s.dev := rfl
@[simp] theorem State.updChan_tenants (c : ChanId) (f : Chan → Chan) : (s.updChan c f).tenants = s.tenants := rfl
@[simp] theorem State.updChan_chans (c : ChanId) (f : Chan → Chan) : (s.updChan c f).chans = s.chans.upd c f := rfl
@[simp] theorem State.updChan_cues (c : ChanId) (f : Chan → Chan) : (s.updChan c f).cues = s.cues := rfl
@[simp] theorem State.updChan_sh (c : ChanId) (f : Chan → Chan) : (s.updChan c f).sh = s.sh := rfl
@[simp] theorem State.updChan_eps (c : ChanId) (f : Chan → Chan) : (s.updChan c f).eps = s.eps := rfl
@[simp] theorem State.updChan_props (c : ChanId) (f : Chan → Chan) : (s.updChan c f).props = s.props := rfl
@[simp] theorem State.updChan_prot (c : ChanId) (f : Chan → Chan) : (s.updChan c f).prot = s.prot := rfl
@[simp] theorem State.updChan_devState (c : ChanId) (f : Chan → Chan) : (s.updChan c f).devState = s.devState := rfl
@[simp] theorem State.updChan_long (c : ChanId) (f : Chan → Chan) : (s.updChan c f).long = s.long := rfl
@[simp] theorem State.updChan_pinJob (c : ChanId) (f : Chan → Chan) : (s.updChan c f).pinJob = s.pinJob := rfl
@[simp] theorem State.updChan_cplWrites (c : ChanId) (f : Chan → Chan) : (s.updChan c f).cplWrites = s.cplWrites := rfl
@[simp] theorem State.updChan_order (c : ChanId) (f : Chan → Chan) : (s.updChan c f).order = s.order := rfl
@[simp] theorem State.updChan_hp0 (c : ChanId) (f : Chan → Chan) : (s.updChan c f).hp0 = s.hp0 := rfl
@[simp] theorem State.updChan_hp1 (c : ChanId) (f : Chan → Chan) : (s.updChan c f).hp1 = s.hp1 := rfl
@[simp] theorem State.updChan_house (c : ChanId) (f : Chan → Chan) : (s.updChan c f).house = s.house := rfl
@[simp] theorem State.updChan_mem (c : ChanId) (f : Chan → Chan) : (s.updChan c f).mem = s.mem := rfl
@[simp] theorem State.updChan_guard (c : ChanId) (f : Chan → Chan) : (s.updChan c f).guard = s.guard := rfl
@[simp] theorem State.updChan_health (c : ChanId) (f : Chan → Chan) : (s.updChan c f).health = s.health := rfl
@[simp] theorem State.updChan_power (c : ChanId) (f : Chan → Chan) : (s.updChan c f).power = s.power := rfl
@[simp] theorem State.updChan_boot (c : ChanId) (f : Chan → Chan) : (s.updChan c f).boot = s.boot := rfl
@[simp] theorem State.updChan_intermission (c : ChanId) (f : Chan → Chan) : (s.updChan c f).intermission = s.intermission := rfl
@[simp] theorem State.updChan_conv (c : ChanId) (f : Chan → Chan) : (s.updChan c f).conv = s.conv := rfl
@[simp] theorem State.updChan_tdm (c : ChanId) (f : Chan → Chan) : (s.updChan c f).tdm = s.tdm := rfl
@[simp] theorem State.updChan_lb (c : ChanId) (f : Chan → Chan) : (s.updChan c f).lb = s.lb := rfl
@[simp] theorem State.updChan_lbDue (c : ChanId) (f : Chan → Chan) : (s.updChan c f).lbDue = s.lbDue := rfl
@[simp] theorem State.updChan_lbTurn (c : ChanId) (f : Chan → Chan) : (s.updChan c f).lbTurn = s.lbTurn := rfl
@[simp] theorem State.updChan_edgeBits (c : ChanId) (f : Chan → Chan) : (s.updChan c f).edgeBits = s.edgeBits := rfl
@[simp] theorem State.updChan_edgeSignals (c : ChanId) (f : Chan → Chan) : (s.updChan c f).edgeSignals = s.edgeSignals := rfl
@[simp] theorem State.updChan_dram (c : ChanId) (f : Chan → Chan) : (s.updChan c f).dram = s.dram := rfl
@[simp] theorem State.updChan_pins (c : ChanId) (f : Chan → Chan) : (s.updChan c f).pins = s.pins := rfl
@[simp] theorem State.updChan_trace (c : ChanId) (f : Chan → Chan) : (s.updChan c f).trace = s.trace := rfl
@[simp] theorem State.updChan_jtag (c : ChanId) (f : Chan → Chan) : (s.updChan c f).jtag = s.jtag := rfl
@[simp] theorem State.updChan_fresh (c : ChanId) (f : Chan → Chan) : (s.updChan c f).fresh = s.fresh := rfl
@[simp] theorem State.updChan_out (c : ChanId) (f : Chan → Chan) : (s.updChan c f).out = s.out := rfl
@[simp] theorem State.updChan_pending (c : ChanId) (f : Chan → Chan) : (s.updChan c f).pending = s.pending := rfl

/-! ### `updSq` -/

@[simp] theorem State.updSq_tb (t : TenantId) (q : QueueId) (f : SubQueue → SubQueue) : (s.updSq t q f).tb = s.tb := rfl
@[simp] theorem State.updSq_acts (t : TenantId) (q : QueueId) (f : SubQueue → SubQueue) : (s.updSq t q f).acts = s.acts := rfl
@[simp] theorem State.updSq_dev (t : TenantId) (q : QueueId) (f : SubQueue → SubQueue) : (s.updSq t q f).dev = s.dev := rfl
@[simp] theorem State.updSq_tenants (t : TenantId) (q : QueueId) (f : SubQueue → SubQueue) : (s.updSq t q f).tenants = s.tenants.upd t fun n => { n with sqs := n.sqs.upd q f } := rfl
@[simp] theorem State.updSq_chans (t : TenantId) (q : QueueId) (f : SubQueue → SubQueue) : (s.updSq t q f).chans = s.chans := rfl
@[simp] theorem State.updSq_cues (t : TenantId) (q : QueueId) (f : SubQueue → SubQueue) : (s.updSq t q f).cues = s.cues := rfl
@[simp] theorem State.updSq_sh (t : TenantId) (q : QueueId) (f : SubQueue → SubQueue) : (s.updSq t q f).sh = s.sh := rfl
@[simp] theorem State.updSq_eps (t : TenantId) (q : QueueId) (f : SubQueue → SubQueue) : (s.updSq t q f).eps = s.eps := rfl
@[simp] theorem State.updSq_props (t : TenantId) (q : QueueId) (f : SubQueue → SubQueue) : (s.updSq t q f).props = s.props := rfl
@[simp] theorem State.updSq_prot (t : TenantId) (q : QueueId) (f : SubQueue → SubQueue) : (s.updSq t q f).prot = s.prot := rfl
@[simp] theorem State.updSq_devState (t : TenantId) (q : QueueId) (f : SubQueue → SubQueue) : (s.updSq t q f).devState = s.devState := rfl
@[simp] theorem State.updSq_long (t : TenantId) (q : QueueId) (f : SubQueue → SubQueue) : (s.updSq t q f).long = s.long := rfl
@[simp] theorem State.updSq_pinJob (t : TenantId) (q : QueueId) (f : SubQueue → SubQueue) : (s.updSq t q f).pinJob = s.pinJob := rfl
@[simp] theorem State.updSq_cplWrites (t : TenantId) (q : QueueId) (f : SubQueue → SubQueue) : (s.updSq t q f).cplWrites = s.cplWrites := rfl
@[simp] theorem State.updSq_order (t : TenantId) (q : QueueId) (f : SubQueue → SubQueue) : (s.updSq t q f).order = s.order := rfl
@[simp] theorem State.updSq_hp0 (t : TenantId) (q : QueueId) (f : SubQueue → SubQueue) : (s.updSq t q f).hp0 = s.hp0 := rfl
@[simp] theorem State.updSq_hp1 (t : TenantId) (q : QueueId) (f : SubQueue → SubQueue) : (s.updSq t q f).hp1 = s.hp1 := rfl
@[simp] theorem State.updSq_house (t : TenantId) (q : QueueId) (f : SubQueue → SubQueue) : (s.updSq t q f).house = s.house := rfl
@[simp] theorem State.updSq_mem (t : TenantId) (q : QueueId) (f : SubQueue → SubQueue) : (s.updSq t q f).mem = s.mem := rfl
@[simp] theorem State.updSq_guard (t : TenantId) (q : QueueId) (f : SubQueue → SubQueue) : (s.updSq t q f).guard = s.guard := rfl
@[simp] theorem State.updSq_health (t : TenantId) (q : QueueId) (f : SubQueue → SubQueue) : (s.updSq t q f).health = s.health := rfl
@[simp] theorem State.updSq_power (t : TenantId) (q : QueueId) (f : SubQueue → SubQueue) : (s.updSq t q f).power = s.power := rfl
@[simp] theorem State.updSq_boot (t : TenantId) (q : QueueId) (f : SubQueue → SubQueue) : (s.updSq t q f).boot = s.boot := rfl
@[simp] theorem State.updSq_intermission (t : TenantId) (q : QueueId) (f : SubQueue → SubQueue) : (s.updSq t q f).intermission = s.intermission := rfl
@[simp] theorem State.updSq_conv (t : TenantId) (q : QueueId) (f : SubQueue → SubQueue) : (s.updSq t q f).conv = s.conv := rfl
@[simp] theorem State.updSq_tdm (t : TenantId) (q : QueueId) (f : SubQueue → SubQueue) : (s.updSq t q f).tdm = s.tdm := rfl
@[simp] theorem State.updSq_lb (t : TenantId) (q : QueueId) (f : SubQueue → SubQueue) : (s.updSq t q f).lb = s.lb := rfl
@[simp] theorem State.updSq_lbDue (t : TenantId) (q : QueueId) (f : SubQueue → SubQueue) : (s.updSq t q f).lbDue = s.lbDue := rfl
@[simp] theorem State.updSq_lbTurn (t : TenantId) (q : QueueId) (f : SubQueue → SubQueue) : (s.updSq t q f).lbTurn = s.lbTurn := rfl
@[simp] theorem State.updSq_edgeBits (t : TenantId) (q : QueueId) (f : SubQueue → SubQueue) : (s.updSq t q f).edgeBits = s.edgeBits := rfl
@[simp] theorem State.updSq_edgeSignals (t : TenantId) (q : QueueId) (f : SubQueue → SubQueue) : (s.updSq t q f).edgeSignals = s.edgeSignals := rfl
@[simp] theorem State.updSq_dram (t : TenantId) (q : QueueId) (f : SubQueue → SubQueue) : (s.updSq t q f).dram = s.dram := rfl
@[simp] theorem State.updSq_pins (t : TenantId) (q : QueueId) (f : SubQueue → SubQueue) : (s.updSq t q f).pins = s.pins := rfl
@[simp] theorem State.updSq_trace (t : TenantId) (q : QueueId) (f : SubQueue → SubQueue) : (s.updSq t q f).trace = s.trace := rfl
@[simp] theorem State.updSq_jtag (t : TenantId) (q : QueueId) (f : SubQueue → SubQueue) : (s.updSq t q f).jtag = s.jtag := rfl
@[simp] theorem State.updSq_fresh (t : TenantId) (q : QueueId) (f : SubQueue → SubQueue) : (s.updSq t q f).fresh = s.fresh := rfl
@[simp] theorem State.updSq_out (t : TenantId) (q : QueueId) (f : SubQueue → SubQueue) : (s.updSq t q f).out = s.out := rfl
@[simp] theorem State.updSq_pending (t : TenantId) (q : QueueId) (f : SubQueue → SubQueue) : (s.updSq t q f).pending = s.pending := rfl

/-! ### `updCq` -/

@[simp] theorem State.updCq_tb (t : TenantId) (q : QueueId) (f : CompQueue → CompQueue) : (s.updCq t q f).tb = s.tb := rfl
@[simp] theorem State.updCq_acts (t : TenantId) (q : QueueId) (f : CompQueue → CompQueue) : (s.updCq t q f).acts = s.acts := rfl
@[simp] theorem State.updCq_dev (t : TenantId) (q : QueueId) (f : CompQueue → CompQueue) : (s.updCq t q f).dev = s.dev := rfl
@[simp] theorem State.updCq_tenants (t : TenantId) (q : QueueId) (f : CompQueue → CompQueue) : (s.updCq t q f).tenants = s.tenants.upd t fun n => { n with cqs := n.cqs.upd (q.truncate 6) f } := rfl
@[simp] theorem State.updCq_chans (t : TenantId) (q : QueueId) (f : CompQueue → CompQueue) : (s.updCq t q f).chans = s.chans := rfl
@[simp] theorem State.updCq_cues (t : TenantId) (q : QueueId) (f : CompQueue → CompQueue) : (s.updCq t q f).cues = s.cues := rfl
@[simp] theorem State.updCq_sh (t : TenantId) (q : QueueId) (f : CompQueue → CompQueue) : (s.updCq t q f).sh = s.sh := rfl
@[simp] theorem State.updCq_eps (t : TenantId) (q : QueueId) (f : CompQueue → CompQueue) : (s.updCq t q f).eps = s.eps := rfl
@[simp] theorem State.updCq_props (t : TenantId) (q : QueueId) (f : CompQueue → CompQueue) : (s.updCq t q f).props = s.props := rfl
@[simp] theorem State.updCq_prot (t : TenantId) (q : QueueId) (f : CompQueue → CompQueue) : (s.updCq t q f).prot = s.prot := rfl
@[simp] theorem State.updCq_devState (t : TenantId) (q : QueueId) (f : CompQueue → CompQueue) : (s.updCq t q f).devState = s.devState := rfl
@[simp] theorem State.updCq_long (t : TenantId) (q : QueueId) (f : CompQueue → CompQueue) : (s.updCq t q f).long = s.long := rfl
@[simp] theorem State.updCq_pinJob (t : TenantId) (q : QueueId) (f : CompQueue → CompQueue) : (s.updCq t q f).pinJob = s.pinJob := rfl
@[simp] theorem State.updCq_cplWrites (t : TenantId) (q : QueueId) (f : CompQueue → CompQueue) : (s.updCq t q f).cplWrites = s.cplWrites := rfl
@[simp] theorem State.updCq_order (t : TenantId) (q : QueueId) (f : CompQueue → CompQueue) : (s.updCq t q f).order = s.order := rfl
@[simp] theorem State.updCq_hp0 (t : TenantId) (q : QueueId) (f : CompQueue → CompQueue) : (s.updCq t q f).hp0 = s.hp0 := rfl
@[simp] theorem State.updCq_hp1 (t : TenantId) (q : QueueId) (f : CompQueue → CompQueue) : (s.updCq t q f).hp1 = s.hp1 := rfl
@[simp] theorem State.updCq_house (t : TenantId) (q : QueueId) (f : CompQueue → CompQueue) : (s.updCq t q f).house = s.house := rfl
@[simp] theorem State.updCq_mem (t : TenantId) (q : QueueId) (f : CompQueue → CompQueue) : (s.updCq t q f).mem = s.mem := rfl
@[simp] theorem State.updCq_guard (t : TenantId) (q : QueueId) (f : CompQueue → CompQueue) : (s.updCq t q f).guard = s.guard := rfl
@[simp] theorem State.updCq_health (t : TenantId) (q : QueueId) (f : CompQueue → CompQueue) : (s.updCq t q f).health = s.health := rfl
@[simp] theorem State.updCq_power (t : TenantId) (q : QueueId) (f : CompQueue → CompQueue) : (s.updCq t q f).power = s.power := rfl
@[simp] theorem State.updCq_boot (t : TenantId) (q : QueueId) (f : CompQueue → CompQueue) : (s.updCq t q f).boot = s.boot := rfl
@[simp] theorem State.updCq_intermission (t : TenantId) (q : QueueId) (f : CompQueue → CompQueue) : (s.updCq t q f).intermission = s.intermission := rfl
@[simp] theorem State.updCq_conv (t : TenantId) (q : QueueId) (f : CompQueue → CompQueue) : (s.updCq t q f).conv = s.conv := rfl
@[simp] theorem State.updCq_tdm (t : TenantId) (q : QueueId) (f : CompQueue → CompQueue) : (s.updCq t q f).tdm = s.tdm := rfl
@[simp] theorem State.updCq_lb (t : TenantId) (q : QueueId) (f : CompQueue → CompQueue) : (s.updCq t q f).lb = s.lb := rfl
@[simp] theorem State.updCq_lbDue (t : TenantId) (q : QueueId) (f : CompQueue → CompQueue) : (s.updCq t q f).lbDue = s.lbDue := rfl
@[simp] theorem State.updCq_lbTurn (t : TenantId) (q : QueueId) (f : CompQueue → CompQueue) : (s.updCq t q f).lbTurn = s.lbTurn := rfl
@[simp] theorem State.updCq_edgeBits (t : TenantId) (q : QueueId) (f : CompQueue → CompQueue) : (s.updCq t q f).edgeBits = s.edgeBits := rfl
@[simp] theorem State.updCq_edgeSignals (t : TenantId) (q : QueueId) (f : CompQueue → CompQueue) : (s.updCq t q f).edgeSignals = s.edgeSignals := rfl
@[simp] theorem State.updCq_dram (t : TenantId) (q : QueueId) (f : CompQueue → CompQueue) : (s.updCq t q f).dram = s.dram := rfl
@[simp] theorem State.updCq_pins (t : TenantId) (q : QueueId) (f : CompQueue → CompQueue) : (s.updCq t q f).pins = s.pins := rfl
@[simp] theorem State.updCq_trace (t : TenantId) (q : QueueId) (f : CompQueue → CompQueue) : (s.updCq t q f).trace = s.trace := rfl
@[simp] theorem State.updCq_jtag (t : TenantId) (q : QueueId) (f : CompQueue → CompQueue) : (s.updCq t q f).jtag = s.jtag := rfl
@[simp] theorem State.updCq_fresh (t : TenantId) (q : QueueId) (f : CompQueue → CompQueue) : (s.updCq t q f).fresh = s.fresh := rfl
@[simp] theorem State.updCq_out (t : TenantId) (q : QueueId) (f : CompQueue → CompQueue) : (s.updCq t q f).out = s.out := rfl
@[simp] theorem State.updCq_pending (t : TenantId) (q : QueueId) (f : CompQueue → CompQueue) : (s.updCq t q f).pending = s.pending := rfl

/-! ### `setTenReg` -/

@[simp] theorem State.setTenReg_tb (t : TenantId) (off : Nat) (x : Word) : (s.setTenReg t off x).tb = s.tb := rfl
@[simp] theorem State.setTenReg_acts (t : TenantId) (off : Nat) (x : Word) : (s.setTenReg t off x).acts = s.acts := rfl
@[simp] theorem State.setTenReg_dev (t : TenantId) (off : Nat) (x : Word) : (s.setTenReg t off x).dev = s.dev := rfl
@[simp] theorem State.setTenReg_chans (t : TenantId) (off : Nat) (x : Word) : (s.setTenReg t off x).chans = s.chans := rfl
@[simp] theorem State.setTenReg_cues (t : TenantId) (off : Nat) (x : Word) : (s.setTenReg t off x).cues = s.cues := rfl
@[simp] theorem State.setTenReg_sh (t : TenantId) (off : Nat) (x : Word) : (s.setTenReg t off x).sh = s.sh := rfl
@[simp] theorem State.setTenReg_eps (t : TenantId) (off : Nat) (x : Word) : (s.setTenReg t off x).eps = s.eps := rfl
@[simp] theorem State.setTenReg_props (t : TenantId) (off : Nat) (x : Word) : (s.setTenReg t off x).props = s.props := rfl
@[simp] theorem State.setTenReg_prot (t : TenantId) (off : Nat) (x : Word) : (s.setTenReg t off x).prot = s.prot := rfl
@[simp] theorem State.setTenReg_devState (t : TenantId) (off : Nat) (x : Word) : (s.setTenReg t off x).devState = s.devState := rfl
@[simp] theorem State.setTenReg_long (t : TenantId) (off : Nat) (x : Word) : (s.setTenReg t off x).long = s.long := rfl
@[simp] theorem State.setTenReg_pinJob (t : TenantId) (off : Nat) (x : Word) : (s.setTenReg t off x).pinJob = s.pinJob := rfl
@[simp] theorem State.setTenReg_cplWrites (t : TenantId) (off : Nat) (x : Word) : (s.setTenReg t off x).cplWrites = s.cplWrites := rfl
@[simp] theorem State.setTenReg_order (t : TenantId) (off : Nat) (x : Word) : (s.setTenReg t off x).order = s.order := rfl
@[simp] theorem State.setTenReg_hp0 (t : TenantId) (off : Nat) (x : Word) : (s.setTenReg t off x).hp0 = s.hp0 := rfl
@[simp] theorem State.setTenReg_hp1 (t : TenantId) (off : Nat) (x : Word) : (s.setTenReg t off x).hp1 = s.hp1 := rfl
@[simp] theorem State.setTenReg_house (t : TenantId) (off : Nat) (x : Word) : (s.setTenReg t off x).house = s.house := rfl
@[simp] theorem State.setTenReg_mem (t : TenantId) (off : Nat) (x : Word) : (s.setTenReg t off x).mem = s.mem := rfl
@[simp] theorem State.setTenReg_guard (t : TenantId) (off : Nat) (x : Word) : (s.setTenReg t off x).guard = s.guard := rfl
@[simp] theorem State.setTenReg_health (t : TenantId) (off : Nat) (x : Word) : (s.setTenReg t off x).health = s.health := rfl
@[simp] theorem State.setTenReg_power (t : TenantId) (off : Nat) (x : Word) : (s.setTenReg t off x).power = s.power := rfl
@[simp] theorem State.setTenReg_boot (t : TenantId) (off : Nat) (x : Word) : (s.setTenReg t off x).boot = s.boot := rfl
@[simp] theorem State.setTenReg_intermission (t : TenantId) (off : Nat) (x : Word) : (s.setTenReg t off x).intermission = s.intermission := rfl
@[simp] theorem State.setTenReg_conv (t : TenantId) (off : Nat) (x : Word) : (s.setTenReg t off x).conv = s.conv := rfl
@[simp] theorem State.setTenReg_tdm (t : TenantId) (off : Nat) (x : Word) : (s.setTenReg t off x).tdm = s.tdm := rfl
@[simp] theorem State.setTenReg_lb (t : TenantId) (off : Nat) (x : Word) : (s.setTenReg t off x).lb = s.lb := rfl
@[simp] theorem State.setTenReg_lbDue (t : TenantId) (off : Nat) (x : Word) : (s.setTenReg t off x).lbDue = s.lbDue := rfl
@[simp] theorem State.setTenReg_lbTurn (t : TenantId) (off : Nat) (x : Word) : (s.setTenReg t off x).lbTurn = s.lbTurn := rfl
@[simp] theorem State.setTenReg_edgeBits (t : TenantId) (off : Nat) (x : Word) : (s.setTenReg t off x).edgeBits = s.edgeBits := rfl
@[simp] theorem State.setTenReg_edgeSignals (t : TenantId) (off : Nat) (x : Word) : (s.setTenReg t off x).edgeSignals = s.edgeSignals := rfl
@[simp] theorem State.setTenReg_dram (t : TenantId) (off : Nat) (x : Word) : (s.setTenReg t off x).dram = s.dram := rfl
@[simp] theorem State.setTenReg_pins (t : TenantId) (off : Nat) (x : Word) : (s.setTenReg t off x).pins = s.pins := rfl
@[simp] theorem State.setTenReg_trace (t : TenantId) (off : Nat) (x : Word) : (s.setTenReg t off x).trace = s.trace := rfl
@[simp] theorem State.setTenReg_jtag (t : TenantId) (off : Nat) (x : Word) : (s.setTenReg t off x).jtag = s.jtag := rfl
@[simp] theorem State.setTenReg_fresh (t : TenantId) (off : Nat) (x : Word) : (s.setTenReg t off x).fresh = s.fresh := rfl
@[simp] theorem State.setTenReg_out (t : TenantId) (off : Nat) (x : Word) : (s.setTenReg t off x).out = s.out := rfl
@[simp] theorem State.setTenReg_pending (t : TenantId) (off : Nat) (x : Word) : (s.setTenReg t off x).pending = s.pending := rfl

/-! ### `bump` -/

@[simp] theorem State.bump_tb : (s.bump).tb = s.tb := rfl
@[simp] theorem State.bump_acts : (s.bump).acts = s.acts := rfl
@[simp] theorem State.bump_dev : (s.bump).dev = s.dev := rfl
@[simp] theorem State.bump_tenants : (s.bump).tenants = s.tenants := rfl
@[simp] theorem State.bump_chans : (s.bump).chans = s.chans := rfl
@[simp] theorem State.bump_cues : (s.bump).cues = s.cues := rfl
@[simp] theorem State.bump_sh : (s.bump).sh = s.sh := rfl
@[simp] theorem State.bump_eps : (s.bump).eps = s.eps := rfl
@[simp] theorem State.bump_props : (s.bump).props = s.props := rfl
@[simp] theorem State.bump_prot : (s.bump).prot = s.prot := rfl
@[simp] theorem State.bump_devState : (s.bump).devState = s.devState := rfl
@[simp] theorem State.bump_long : (s.bump).long = s.long := rfl
@[simp] theorem State.bump_pinJob : (s.bump).pinJob = s.pinJob := rfl
@[simp] theorem State.bump_cplWrites : (s.bump).cplWrites = s.cplWrites := rfl
@[simp] theorem State.bump_order : (s.bump).order = s.order := rfl
@[simp] theorem State.bump_hp0 : (s.bump).hp0 = s.hp0 := rfl
@[simp] theorem State.bump_hp1 : (s.bump).hp1 = s.hp1 := rfl
@[simp] theorem State.bump_house : (s.bump).house = s.house := rfl
@[simp] theorem State.bump_mem : (s.bump).mem = s.mem := rfl
@[simp] theorem State.bump_guard : (s.bump).guard = s.guard := rfl
@[simp] theorem State.bump_health : (s.bump).health = s.health := rfl
@[simp] theorem State.bump_power : (s.bump).power = s.power := rfl
@[simp] theorem State.bump_boot : (s.bump).boot = s.boot := rfl
@[simp] theorem State.bump_intermission : (s.bump).intermission = s.intermission := rfl
@[simp] theorem State.bump_conv : (s.bump).conv = s.conv := rfl
@[simp] theorem State.bump_tdm : (s.bump).tdm = s.tdm := rfl
@[simp] theorem State.bump_lb : (s.bump).lb = s.lb := rfl
@[simp] theorem State.bump_lbDue : (s.bump).lbDue = s.lbDue := rfl
@[simp] theorem State.bump_lbTurn : (s.bump).lbTurn = s.lbTurn := rfl
@[simp] theorem State.bump_edgeBits : (s.bump).edgeBits = s.edgeBits := rfl
@[simp] theorem State.bump_edgeSignals : (s.bump).edgeSignals = s.edgeSignals := rfl
@[simp] theorem State.bump_dram : (s.bump).dram = s.dram := rfl
@[simp] theorem State.bump_pins : (s.bump).pins = s.pins := rfl
@[simp] theorem State.bump_trace : (s.bump).trace = s.trace := rfl
@[simp] theorem State.bump_jtag : (s.bump).jtag = s.jtag := rfl
@[simp] theorem State.bump_fresh : (s.bump).fresh = s.fresh + 1 := rfl
@[simp] theorem State.bump_out : (s.bump).out = s.out := rfl
@[simp] theorem State.bump_pending : (s.bump).pending = s.pending := rfl

/-! ### `emit` -/

@[simp] theorem State.emit_tb (e : Emit) : (s.emit e).tb = s.tb := rfl
@[simp] theorem State.emit_acts (e : Emit) : (s.emit e).acts = s.acts := rfl
@[simp] theorem State.emit_dev (e : Emit) : (s.emit e).dev = s.dev := rfl
@[simp] theorem State.emit_tenants (e : Emit) : (s.emit e).tenants = s.tenants := rfl
@[simp] theorem State.emit_chans (e : Emit) : (s.emit e).chans = s.chans := rfl
@[simp] theorem State.emit_cues (e : Emit) : (s.emit e).cues = s.cues := rfl
@[simp] theorem State.emit_sh (e : Emit) : (s.emit e).sh = s.sh := rfl
@[simp] theorem State.emit_eps (e : Emit) : (s.emit e).eps = s.eps := rfl
@[simp] theorem State.emit_props (e : Emit) : (s.emit e).props = s.props := rfl
@[simp] theorem State.emit_prot (e : Emit) : (s.emit e).prot = s.prot := rfl
@[simp] theorem State.emit_devState (e : Emit) : (s.emit e).devState = s.devState := rfl
@[simp] theorem State.emit_long (e : Emit) : (s.emit e).long = s.long := rfl
@[simp] theorem State.emit_pinJob (e : Emit) : (s.emit e).pinJob = s.pinJob := rfl
@[simp] theorem State.emit_cplWrites (e : Emit) : (s.emit e).cplWrites = s.cplWrites := rfl
@[simp] theorem State.emit_order (e : Emit) : (s.emit e).order = s.order := rfl
@[simp] theorem State.emit_hp0 (e : Emit) : (s.emit e).hp0 = s.hp0 := rfl
@[simp] theorem State.emit_hp1 (e : Emit) : (s.emit e).hp1 = s.hp1 := rfl
@[simp] theorem State.emit_house (e : Emit) : (s.emit e).house = s.house := rfl
@[simp] theorem State.emit_mem (e : Emit) : (s.emit e).mem = s.mem := rfl
@[simp] theorem State.emit_guard (e : Emit) : (s.emit e).guard = s.guard := rfl
@[simp] theorem State.emit_health (e : Emit) : (s.emit e).health = s.health := rfl
@[simp] theorem State.emit_power (e : Emit) : (s.emit e).power = s.power := rfl
@[simp] theorem State.emit_boot (e : Emit) : (s.emit e).boot = s.boot := rfl
@[simp] theorem State.emit_intermission (e : Emit) : (s.emit e).intermission = s.intermission := rfl
@[simp] theorem State.emit_conv (e : Emit) : (s.emit e).conv = s.conv := rfl
@[simp] theorem State.emit_tdm (e : Emit) : (s.emit e).tdm = s.tdm := rfl
@[simp] theorem State.emit_lb (e : Emit) : (s.emit e).lb = s.lb := rfl
@[simp] theorem State.emit_lbDue (e : Emit) : (s.emit e).lbDue = s.lbDue := rfl
@[simp] theorem State.emit_lbTurn (e : Emit) : (s.emit e).lbTurn = s.lbTurn := rfl
@[simp] theorem State.emit_edgeBits (e : Emit) : (s.emit e).edgeBits = s.edgeBits := rfl
@[simp] theorem State.emit_edgeSignals (e : Emit) : (s.emit e).edgeSignals = s.edgeSignals := rfl
@[simp] theorem State.emit_dram (e : Emit) : (s.emit e).dram = s.dram := rfl
@[simp] theorem State.emit_pins (e : Emit) : (s.emit e).pins = s.pins := rfl
@[simp] theorem State.emit_trace (e : Emit) : (s.emit e).trace = s.trace := rfl
@[simp] theorem State.emit_jtag (e : Emit) : (s.emit e).jtag = s.jtag := rfl
@[simp] theorem State.emit_fresh (e : Emit) : (s.emit e).fresh = s.fresh := rfl
@[simp] theorem State.emit_out (e : Emit) : (s.emit e).out = e :: s.out := rfl
@[simp] theorem State.emit_pending (e : Emit) : (s.emit e).pending = s.pending := rfl

/-! ### `updCue` -/

@[simp] theorem State.updCue_tb (q : CueId) (f : Cue → Cue) : (s.updCue q f).tb = s.tb := rfl
@[simp] theorem State.updCue_acts (q : CueId) (f : Cue → Cue) : (s.updCue q f).acts = s.acts := rfl
@[simp] theorem State.updCue_dev (q : CueId) (f : Cue → Cue) : (s.updCue q f).dev = s.dev := rfl
@[simp] theorem State.updCue_tenants (q : CueId) (f : Cue → Cue) : (s.updCue q f).tenants = s.tenants := rfl
@[simp] theorem State.updCue_chans (q : CueId) (f : Cue → Cue) : (s.updCue q f).chans = s.chans := rfl
@[simp] theorem State.updCue_cues (q : CueId) (f : Cue → Cue) : (s.updCue q f).cues = s.cues.upd q f := rfl
@[simp] theorem State.updCue_sh (q : CueId) (f : Cue → Cue) : (s.updCue q f).sh = s.sh := rfl
@[simp] theorem State.updCue_eps (q : CueId) (f : Cue → Cue) : (s.updCue q f).eps = s.eps := rfl
@[simp] theorem State.updCue_props (q : CueId) (f : Cue → Cue) : (s.updCue q f).props = s.props := rfl
@[simp] theorem State.updCue_prot (q : CueId) (f : Cue → Cue) : (s.updCue q f).prot = s.prot := rfl
@[simp] theorem State.updCue_devState (q : CueId) (f : Cue → Cue) : (s.updCue q f).devState = s.devState := rfl
@[simp] theorem State.updCue_long (q : CueId) (f : Cue → Cue) : (s.updCue q f).long = s.long := rfl
@[simp] theorem State.updCue_pinJob (q : CueId) (f : Cue → Cue) : (s.updCue q f).pinJob = s.pinJob := rfl
@[simp] theorem State.updCue_cplWrites (q : CueId) (f : Cue → Cue) : (s.updCue q f).cplWrites = s.cplWrites := rfl
@[simp] theorem State.updCue_order (q : CueId) (f : Cue → Cue) : (s.updCue q f).order = s.order := rfl
@[simp] theorem State.updCue_hp0 (q : CueId) (f : Cue → Cue) : (s.updCue q f).hp0 = s.hp0 := rfl
@[simp] theorem State.updCue_hp1 (q : CueId) (f : Cue → Cue) : (s.updCue q f).hp1 = s.hp1 := rfl
@[simp] theorem State.updCue_house (q : CueId) (f : Cue → Cue) : (s.updCue q f).house = s.house := rfl
@[simp] theorem State.updCue_mem (q : CueId) (f : Cue → Cue) : (s.updCue q f).mem = s.mem := rfl
@[simp] theorem State.updCue_guard (q : CueId) (f : Cue → Cue) : (s.updCue q f).guard = s.guard := rfl
@[simp] theorem State.updCue_health (q : CueId) (f : Cue → Cue) : (s.updCue q f).health = s.health := rfl
@[simp] theorem State.updCue_power (q : CueId) (f : Cue → Cue) : (s.updCue q f).power = s.power := rfl
@[simp] theorem State.updCue_boot (q : CueId) (f : Cue → Cue) : (s.updCue q f).boot = s.boot := rfl
@[simp] theorem State.updCue_intermission (q : CueId) (f : Cue → Cue) : (s.updCue q f).intermission = s.intermission := rfl
@[simp] theorem State.updCue_conv (q : CueId) (f : Cue → Cue) : (s.updCue q f).conv = s.conv := rfl
@[simp] theorem State.updCue_tdm (q : CueId) (f : Cue → Cue) : (s.updCue q f).tdm = s.tdm := rfl
@[simp] theorem State.updCue_lb (q : CueId) (f : Cue → Cue) : (s.updCue q f).lb = s.lb := rfl
@[simp] theorem State.updCue_lbDue (q : CueId) (f : Cue → Cue) : (s.updCue q f).lbDue = s.lbDue := rfl
@[simp] theorem State.updCue_lbTurn (q : CueId) (f : Cue → Cue) : (s.updCue q f).lbTurn = s.lbTurn := rfl
@[simp] theorem State.updCue_edgeBits (q : CueId) (f : Cue → Cue) : (s.updCue q f).edgeBits = s.edgeBits := rfl
@[simp] theorem State.updCue_edgeSignals (q : CueId) (f : Cue → Cue) : (s.updCue q f).edgeSignals = s.edgeSignals := rfl
@[simp] theorem State.updCue_dram (q : CueId) (f : Cue → Cue) : (s.updCue q f).dram = s.dram := rfl
@[simp] theorem State.updCue_pins (q : CueId) (f : Cue → Cue) : (s.updCue q f).pins = s.pins := rfl
@[simp] theorem State.updCue_trace (q : CueId) (f : Cue → Cue) : (s.updCue q f).trace = s.trace := rfl
@[simp] theorem State.updCue_jtag (q : CueId) (f : Cue → Cue) : (s.updCue q f).jtag = s.jtag := rfl
@[simp] theorem State.updCue_fresh (q : CueId) (f : Cue → Cue) : (s.updCue q f).fresh = s.fresh := rfl
@[simp] theorem State.updCue_out (q : CueId) (f : Cue → Cue) : (s.updCue q f).out = s.out := rfl
@[simp] theorem State.updCue_pending (q : CueId) (f : Cue → Cue) : (s.updCue q f).pending = s.pending := rfl

/-! ### `updPin` -/

@[simp] theorem State.updPin_tb (p : PinId) (f : Pin → Pin) : (s.updPin p f).tb = s.tb := rfl
@[simp] theorem State.updPin_acts (p : PinId) (f : Pin → Pin) : (s.updPin p f).acts = s.acts := rfl
@[simp] theorem State.updPin_dev (p : PinId) (f : Pin → Pin) : (s.updPin p f).dev = s.dev := rfl
@[simp] theorem State.updPin_tenants (p : PinId) (f : Pin → Pin) : (s.updPin p f).tenants = s.tenants := rfl
@[simp] theorem State.updPin_chans (p : PinId) (f : Pin → Pin) : (s.updPin p f).chans = s.chans := rfl
@[simp] theorem State.updPin_cues (p : PinId) (f : Pin → Pin) : (s.updPin p f).cues = s.cues := rfl
@[simp] theorem State.updPin_sh (p : PinId) (f : Pin → Pin) : (s.updPin p f).sh = s.sh := rfl
@[simp] theorem State.updPin_eps (p : PinId) (f : Pin → Pin) : (s.updPin p f).eps = s.eps := rfl
@[simp] theorem State.updPin_props (p : PinId) (f : Pin → Pin) : (s.updPin p f).props = s.props := rfl
@[simp] theorem State.updPin_prot (p : PinId) (f : Pin → Pin) : (s.updPin p f).prot = s.prot := rfl
@[simp] theorem State.updPin_devState (p : PinId) (f : Pin → Pin) : (s.updPin p f).devState = s.devState := rfl
@[simp] theorem State.updPin_long (p : PinId) (f : Pin → Pin) : (s.updPin p f).long = s.long := rfl
@[simp] theorem State.updPin_pinJob (p : PinId) (f : Pin → Pin) : (s.updPin p f).pinJob = s.pinJob := rfl
@[simp] theorem State.updPin_cplWrites (p : PinId) (f : Pin → Pin) : (s.updPin p f).cplWrites = s.cplWrites := rfl
@[simp] theorem State.updPin_order (p : PinId) (f : Pin → Pin) : (s.updPin p f).order = s.order := rfl
@[simp] theorem State.updPin_hp0 (p : PinId) (f : Pin → Pin) : (s.updPin p f).hp0 = s.hp0 := rfl
@[simp] theorem State.updPin_hp1 (p : PinId) (f : Pin → Pin) : (s.updPin p f).hp1 = s.hp1 := rfl
@[simp] theorem State.updPin_house (p : PinId) (f : Pin → Pin) : (s.updPin p f).house = s.house := rfl
@[simp] theorem State.updPin_mem (p : PinId) (f : Pin → Pin) : (s.updPin p f).mem = s.mem := rfl
@[simp] theorem State.updPin_guard (p : PinId) (f : Pin → Pin) : (s.updPin p f).guard = s.guard := rfl
@[simp] theorem State.updPin_health (p : PinId) (f : Pin → Pin) : (s.updPin p f).health = s.health := rfl
@[simp] theorem State.updPin_power (p : PinId) (f : Pin → Pin) : (s.updPin p f).power = s.power := rfl
@[simp] theorem State.updPin_boot (p : PinId) (f : Pin → Pin) : (s.updPin p f).boot = s.boot := rfl
@[simp] theorem State.updPin_intermission (p : PinId) (f : Pin → Pin) : (s.updPin p f).intermission = s.intermission := rfl
@[simp] theorem State.updPin_conv (p : PinId) (f : Pin → Pin) : (s.updPin p f).conv = s.conv := rfl
@[simp] theorem State.updPin_tdm (p : PinId) (f : Pin → Pin) : (s.updPin p f).tdm = s.tdm := rfl
@[simp] theorem State.updPin_lb (p : PinId) (f : Pin → Pin) : (s.updPin p f).lb = s.lb := rfl
@[simp] theorem State.updPin_lbDue (p : PinId) (f : Pin → Pin) : (s.updPin p f).lbDue = s.lbDue := rfl
@[simp] theorem State.updPin_lbTurn (p : PinId) (f : Pin → Pin) : (s.updPin p f).lbTurn = s.lbTurn := rfl
@[simp] theorem State.updPin_edgeBits (p : PinId) (f : Pin → Pin) : (s.updPin p f).edgeBits = s.edgeBits := rfl
@[simp] theorem State.updPin_edgeSignals (p : PinId) (f : Pin → Pin) : (s.updPin p f).edgeSignals = s.edgeSignals := rfl
@[simp] theorem State.updPin_dram (p : PinId) (f : Pin → Pin) : (s.updPin p f).dram = s.dram := rfl
@[simp] theorem State.updPin_pins (p : PinId) (f : Pin → Pin) : (s.updPin p f).pins = s.pins.upd p f := rfl
@[simp] theorem State.updPin_trace (p : PinId) (f : Pin → Pin) : (s.updPin p f).trace = s.trace := rfl
@[simp] theorem State.updPin_jtag (p : PinId) (f : Pin → Pin) : (s.updPin p f).jtag = s.jtag := rfl
@[simp] theorem State.updPin_fresh (p : PinId) (f : Pin → Pin) : (s.updPin p f).fresh = s.fresh := rfl
@[simp] theorem State.updPin_out (p : PinId) (f : Pin → Pin) : (s.updPin p f).out = s.out := rfl
@[simp] theorem State.updPin_pending (p : PinId) (f : Pin → Pin) : (s.updPin p f).pending = s.pending := rfl

/-! ### `updEp` -/

@[simp] theorem State.updEp_tb (e : EpId) (f : Endpoint → Endpoint) : (s.updEp e f).tb = s.tb := rfl
@[simp] theorem State.updEp_acts (e : EpId) (f : Endpoint → Endpoint) : (s.updEp e f).acts = s.acts := rfl
@[simp] theorem State.updEp_dev (e : EpId) (f : Endpoint → Endpoint) : (s.updEp e f).dev = s.dev := rfl
@[simp] theorem State.updEp_tenants (e : EpId) (f : Endpoint → Endpoint) : (s.updEp e f).tenants = s.tenants := rfl
@[simp] theorem State.updEp_chans (e : EpId) (f : Endpoint → Endpoint) : (s.updEp e f).chans = s.chans := rfl
@[simp] theorem State.updEp_cues (e : EpId) (f : Endpoint → Endpoint) : (s.updEp e f).cues = s.cues := rfl
@[simp] theorem State.updEp_sh (e : EpId) (f : Endpoint → Endpoint) : (s.updEp e f).sh = s.sh := rfl
@[simp] theorem State.updEp_eps (e : EpId) (f : Endpoint → Endpoint) : (s.updEp e f).eps = s.eps.upd e f := rfl
@[simp] theorem State.updEp_props (e : EpId) (f : Endpoint → Endpoint) : (s.updEp e f).props = s.props := rfl
@[simp] theorem State.updEp_prot (e : EpId) (f : Endpoint → Endpoint) : (s.updEp e f).prot = s.prot := rfl
@[simp] theorem State.updEp_devState (e : EpId) (f : Endpoint → Endpoint) : (s.updEp e f).devState = s.devState := rfl
@[simp] theorem State.updEp_long (e : EpId) (f : Endpoint → Endpoint) : (s.updEp e f).long = s.long := rfl
@[simp] theorem State.updEp_pinJob (e : EpId) (f : Endpoint → Endpoint) : (s.updEp e f).pinJob = s.pinJob := rfl
@[simp] theorem State.updEp_cplWrites (e : EpId) (f : Endpoint → Endpoint) : (s.updEp e f).cplWrites = s.cplWrites := rfl
@[simp] theorem State.updEp_order (e : EpId) (f : Endpoint → Endpoint) : (s.updEp e f).order = s.order := rfl
@[simp] theorem State.updEp_hp0 (e : EpId) (f : Endpoint → Endpoint) : (s.updEp e f).hp0 = s.hp0 := rfl
@[simp] theorem State.updEp_hp1 (e : EpId) (f : Endpoint → Endpoint) : (s.updEp e f).hp1 = s.hp1 := rfl
@[simp] theorem State.updEp_house (e : EpId) (f : Endpoint → Endpoint) : (s.updEp e f).house = s.house := rfl
@[simp] theorem State.updEp_mem (e : EpId) (f : Endpoint → Endpoint) : (s.updEp e f).mem = s.mem := rfl
@[simp] theorem State.updEp_guard (e : EpId) (f : Endpoint → Endpoint) : (s.updEp e f).guard = s.guard := rfl
@[simp] theorem State.updEp_health (e : EpId) (f : Endpoint → Endpoint) : (s.updEp e f).health = s.health := rfl
@[simp] theorem State.updEp_power (e : EpId) (f : Endpoint → Endpoint) : (s.updEp e f).power = s.power := rfl
@[simp] theorem State.updEp_boot (e : EpId) (f : Endpoint → Endpoint) : (s.updEp e f).boot = s.boot := rfl
@[simp] theorem State.updEp_intermission (e : EpId) (f : Endpoint → Endpoint) : (s.updEp e f).intermission = s.intermission := rfl
@[simp] theorem State.updEp_conv (e : EpId) (f : Endpoint → Endpoint) : (s.updEp e f).conv = s.conv := rfl
@[simp] theorem State.updEp_tdm (e : EpId) (f : Endpoint → Endpoint) : (s.updEp e f).tdm = s.tdm := rfl
@[simp] theorem State.updEp_lb (e : EpId) (f : Endpoint → Endpoint) : (s.updEp e f).lb = s.lb := rfl
@[simp] theorem State.updEp_lbDue (e : EpId) (f : Endpoint → Endpoint) : (s.updEp e f).lbDue = s.lbDue := rfl
@[simp] theorem State.updEp_lbTurn (e : EpId) (f : Endpoint → Endpoint) : (s.updEp e f).lbTurn = s.lbTurn := rfl
@[simp] theorem State.updEp_edgeBits (e : EpId) (f : Endpoint → Endpoint) : (s.updEp e f).edgeBits = s.edgeBits := rfl
@[simp] theorem State.updEp_edgeSignals (e : EpId) (f : Endpoint → Endpoint) : (s.updEp e f).edgeSignals = s.edgeSignals := rfl
@[simp] theorem State.updEp_dram (e : EpId) (f : Endpoint → Endpoint) : (s.updEp e f).dram = s.dram := rfl
@[simp] theorem State.updEp_pins (e : EpId) (f : Endpoint → Endpoint) : (s.updEp e f).pins = s.pins := rfl
@[simp] theorem State.updEp_trace (e : EpId) (f : Endpoint → Endpoint) : (s.updEp e f).trace = s.trace := rfl
@[simp] theorem State.updEp_jtag (e : EpId) (f : Endpoint → Endpoint) : (s.updEp e f).jtag = s.jtag := rfl
@[simp] theorem State.updEp_fresh (e : EpId) (f : Endpoint → Endpoint) : (s.updEp e f).fresh = s.fresh := rfl
@[simp] theorem State.updEp_out (e : EpId) (f : Endpoint → Endpoint) : (s.updEp e f).out = s.out := rfl
@[simp] theorem State.updEp_pending (e : EpId) (f : Endpoint → Endpoint) : (s.updEp e f).pending = s.pending := rfl

/-! ### `updTb` -/

@[simp] theorem State.updTb_tb (f : TimeBase → TimeBase) : (s.updTb f).tb = f s.tb := rfl
@[simp] theorem State.updTb_acts (f : TimeBase → TimeBase) : (s.updTb f).acts = s.acts := rfl
@[simp] theorem State.updTb_dev (f : TimeBase → TimeBase) : (s.updTb f).dev = s.dev := rfl
@[simp] theorem State.updTb_tenants (f : TimeBase → TimeBase) : (s.updTb f).tenants = s.tenants := rfl
@[simp] theorem State.updTb_chans (f : TimeBase → TimeBase) : (s.updTb f).chans = s.chans := rfl
@[simp] theorem State.updTb_cues (f : TimeBase → TimeBase) : (s.updTb f).cues = s.cues := rfl
@[simp] theorem State.updTb_sh (f : TimeBase → TimeBase) : (s.updTb f).sh = s.sh := rfl
@[simp] theorem State.updTb_eps (f : TimeBase → TimeBase) : (s.updTb f).eps = s.eps := rfl
@[simp] theorem State.updTb_props (f : TimeBase → TimeBase) : (s.updTb f).props = s.props := rfl
@[simp] theorem State.updTb_prot (f : TimeBase → TimeBase) : (s.updTb f).prot = s.prot := rfl
@[simp] theorem State.updTb_devState (f : TimeBase → TimeBase) : (s.updTb f).devState = s.devState := rfl
@[simp] theorem State.updTb_long (f : TimeBase → TimeBase) : (s.updTb f).long = s.long := rfl
@[simp] theorem State.updTb_pinJob (f : TimeBase → TimeBase) : (s.updTb f).pinJob = s.pinJob := rfl
@[simp] theorem State.updTb_cplWrites (f : TimeBase → TimeBase) : (s.updTb f).cplWrites = s.cplWrites := rfl
@[simp] theorem State.updTb_order (f : TimeBase → TimeBase) : (s.updTb f).order = s.order := rfl
@[simp] theorem State.updTb_hp0 (f : TimeBase → TimeBase) : (s.updTb f).hp0 = s.hp0 := rfl
@[simp] theorem State.updTb_hp1 (f : TimeBase → TimeBase) : (s.updTb f).hp1 = s.hp1 := rfl
@[simp] theorem State.updTb_house (f : TimeBase → TimeBase) : (s.updTb f).house = s.house := rfl
@[simp] theorem State.updTb_mem (f : TimeBase → TimeBase) : (s.updTb f).mem = s.mem := rfl
@[simp] theorem State.updTb_guard (f : TimeBase → TimeBase) : (s.updTb f).guard = s.guard := rfl
@[simp] theorem State.updTb_health (f : TimeBase → TimeBase) : (s.updTb f).health = s.health := rfl
@[simp] theorem State.updTb_power (f : TimeBase → TimeBase) : (s.updTb f).power = s.power := rfl
@[simp] theorem State.updTb_boot (f : TimeBase → TimeBase) : (s.updTb f).boot = s.boot := rfl
@[simp] theorem State.updTb_intermission (f : TimeBase → TimeBase) : (s.updTb f).intermission = s.intermission := rfl
@[simp] theorem State.updTb_conv (f : TimeBase → TimeBase) : (s.updTb f).conv = s.conv := rfl
@[simp] theorem State.updTb_tdm (f : TimeBase → TimeBase) : (s.updTb f).tdm = s.tdm := rfl
@[simp] theorem State.updTb_lb (f : TimeBase → TimeBase) : (s.updTb f).lb = s.lb := rfl
@[simp] theorem State.updTb_lbDue (f : TimeBase → TimeBase) : (s.updTb f).lbDue = s.lbDue := rfl
@[simp] theorem State.updTb_lbTurn (f : TimeBase → TimeBase) : (s.updTb f).lbTurn = s.lbTurn := rfl
@[simp] theorem State.updTb_edgeBits (f : TimeBase → TimeBase) : (s.updTb f).edgeBits = s.edgeBits := rfl
@[simp] theorem State.updTb_edgeSignals (f : TimeBase → TimeBase) : (s.updTb f).edgeSignals = s.edgeSignals := rfl
@[simp] theorem State.updTb_dram (f : TimeBase → TimeBase) : (s.updTb f).dram = s.dram := rfl
@[simp] theorem State.updTb_pins (f : TimeBase → TimeBase) : (s.updTb f).pins = s.pins := rfl
@[simp] theorem State.updTb_trace (f : TimeBase → TimeBase) : (s.updTb f).trace = s.trace := rfl
@[simp] theorem State.updTb_jtag (f : TimeBase → TimeBase) : (s.updTb f).jtag = s.jtag := rfl
@[simp] theorem State.updTb_fresh (f : TimeBase → TimeBase) : (s.updTb f).fresh = s.fresh := rfl
@[simp] theorem State.updTb_out (f : TimeBase → TimeBase) : (s.updTb f).out = s.out := rfl
@[simp] theorem State.updTb_pending (f : TimeBase → TimeBase) : (s.updTb f).pending = s.pending := rfl

/-! ### `updBoot` -/

@[simp] theorem State.updBoot_tb (f : Boot → Boot) : (s.updBoot f).tb = s.tb := rfl
@[simp] theorem State.updBoot_acts (f : Boot → Boot) : (s.updBoot f).acts = s.acts := rfl
@[simp] theorem State.updBoot_dev (f : Boot → Boot) : (s.updBoot f).dev = s.dev := rfl
@[simp] theorem State.updBoot_tenants (f : Boot → Boot) : (s.updBoot f).tenants = s.tenants := rfl
@[simp] theorem State.updBoot_chans (f : Boot → Boot) : (s.updBoot f).chans = s.chans := rfl
@[simp] theorem State.updBoot_cues (f : Boot → Boot) : (s.updBoot f).cues = s.cues := rfl
@[simp] theorem State.updBoot_sh (f : Boot → Boot) : (s.updBoot f).sh = s.sh := rfl
@[simp] theorem State.updBoot_eps (f : Boot → Boot) : (s.updBoot f).eps = s.eps := rfl
@[simp] theorem State.updBoot_props (f : Boot → Boot) : (s.updBoot f).props = s.props := rfl
@[simp] theorem State.updBoot_prot (f : Boot → Boot) : (s.updBoot f).prot = s.prot := rfl
@[simp] theorem State.updBoot_devState (f : Boot → Boot) : (s.updBoot f).devState = s.devState := rfl
@[simp] theorem State.updBoot_long (f : Boot → Boot) : (s.updBoot f).long = s.long := rfl
@[simp] theorem State.updBoot_pinJob (f : Boot → Boot) : (s.updBoot f).pinJob = s.pinJob := rfl
@[simp] theorem State.updBoot_cplWrites (f : Boot → Boot) : (s.updBoot f).cplWrites = s.cplWrites := rfl
@[simp] theorem State.updBoot_order (f : Boot → Boot) : (s.updBoot f).order = s.order := rfl
@[simp] theorem State.updBoot_hp0 (f : Boot → Boot) : (s.updBoot f).hp0 = s.hp0 := rfl
@[simp] theorem State.updBoot_hp1 (f : Boot → Boot) : (s.updBoot f).hp1 = s.hp1 := rfl
@[simp] theorem State.updBoot_house (f : Boot → Boot) : (s.updBoot f).house = s.house := rfl
@[simp] theorem State.updBoot_mem (f : Boot → Boot) : (s.updBoot f).mem = s.mem := rfl
@[simp] theorem State.updBoot_guard (f : Boot → Boot) : (s.updBoot f).guard = s.guard := rfl
@[simp] theorem State.updBoot_health (f : Boot → Boot) : (s.updBoot f).health = s.health := rfl
@[simp] theorem State.updBoot_power (f : Boot → Boot) : (s.updBoot f).power = s.power := rfl
@[simp] theorem State.updBoot_boot (f : Boot → Boot) : (s.updBoot f).boot = f s.boot := rfl
@[simp] theorem State.updBoot_intermission (f : Boot → Boot) : (s.updBoot f).intermission = s.intermission := rfl
@[simp] theorem State.updBoot_conv (f : Boot → Boot) : (s.updBoot f).conv = s.conv := rfl
@[simp] theorem State.updBoot_tdm (f : Boot → Boot) : (s.updBoot f).tdm = s.tdm := rfl
@[simp] theorem State.updBoot_lb (f : Boot → Boot) : (s.updBoot f).lb = s.lb := rfl
@[simp] theorem State.updBoot_lbDue (f : Boot → Boot) : (s.updBoot f).lbDue = s.lbDue := rfl
@[simp] theorem State.updBoot_lbTurn (f : Boot → Boot) : (s.updBoot f).lbTurn = s.lbTurn := rfl
@[simp] theorem State.updBoot_edgeBits (f : Boot → Boot) : (s.updBoot f).edgeBits = s.edgeBits := rfl
@[simp] theorem State.updBoot_edgeSignals (f : Boot → Boot) : (s.updBoot f).edgeSignals = s.edgeSignals := rfl
@[simp] theorem State.updBoot_dram (f : Boot → Boot) : (s.updBoot f).dram = s.dram := rfl
@[simp] theorem State.updBoot_pins (f : Boot → Boot) : (s.updBoot f).pins = s.pins := rfl
@[simp] theorem State.updBoot_trace (f : Boot → Boot) : (s.updBoot f).trace = s.trace := rfl
@[simp] theorem State.updBoot_jtag (f : Boot → Boot) : (s.updBoot f).jtag = s.jtag := rfl
@[simp] theorem State.updBoot_fresh (f : Boot → Boot) : (s.updBoot f).fresh = s.fresh := rfl
@[simp] theorem State.updBoot_out (f : Boot → Boot) : (s.updBoot f).out = s.out := rfl
@[simp] theorem State.updBoot_pending (f : Boot → Boot) : (s.updBoot f).pending = s.pending := rfl

/-! ### `updHealth` -/

@[simp] theorem State.updHealth_tb (f : Health → Health) : (s.updHealth f).tb = s.tb := rfl
@[simp] theorem State.updHealth_acts (f : Health → Health) : (s.updHealth f).acts = s.acts := rfl
@[simp] theorem State.updHealth_dev (f : Health → Health) : (s.updHealth f).dev = s.dev := rfl
@[simp] theorem State.updHealth_tenants (f : Health → Health) : (s.updHealth f).tenants = s.tenants := rfl
@[simp] theorem State.updHealth_chans (f : Health → Health) : (s.updHealth f).chans = s.chans := rfl
@[simp] theorem State.updHealth_cues (f : Health → Health) : (s.updHealth f).cues = s.cues := rfl
@[simp] theorem State.updHealth_sh (f : Health → Health) : (s.updHealth f).sh = s.sh := rfl
@[simp] theorem State.updHealth_eps (f : Health → Health) : (s.updHealth f).eps = s.eps := rfl
@[simp] theorem State.updHealth_props (f : Health → Health) : (s.updHealth f).props = s.props := rfl
@[simp] theorem State.updHealth_prot (f : Health → Health) : (s.updHealth f).prot = s.prot := rfl
@[simp] theorem State.updHealth_devState (f : Health → Health) : (s.updHealth f).devState = s.devState := rfl
@[simp] theorem State.updHealth_long (f : Health → Health) : (s.updHealth f).long = s.long := rfl
@[simp] theorem State.updHealth_pinJob (f : Health → Health) : (s.updHealth f).pinJob = s.pinJob := rfl
@[simp] theorem State.updHealth_cplWrites (f : Health → Health) : (s.updHealth f).cplWrites = s.cplWrites := rfl
@[simp] theorem State.updHealth_order (f : Health → Health) : (s.updHealth f).order = s.order := rfl
@[simp] theorem State.updHealth_hp0 (f : Health → Health) : (s.updHealth f).hp0 = s.hp0 := rfl
@[simp] theorem State.updHealth_hp1 (f : Health → Health) : (s.updHealth f).hp1 = s.hp1 := rfl
@[simp] theorem State.updHealth_house (f : Health → Health) : (s.updHealth f).house = s.house := rfl
@[simp] theorem State.updHealth_mem (f : Health → Health) : (s.updHealth f).mem = s.mem := rfl
@[simp] theorem State.updHealth_guard (f : Health → Health) : (s.updHealth f).guard = s.guard := rfl
@[simp] theorem State.updHealth_health (f : Health → Health) : (s.updHealth f).health = f s.health := rfl
@[simp] theorem State.updHealth_power (f : Health → Health) : (s.updHealth f).power = s.power := rfl
@[simp] theorem State.updHealth_boot (f : Health → Health) : (s.updHealth f).boot = s.boot := rfl
@[simp] theorem State.updHealth_intermission (f : Health → Health) : (s.updHealth f).intermission = s.intermission := rfl
@[simp] theorem State.updHealth_conv (f : Health → Health) : (s.updHealth f).conv = s.conv := rfl
@[simp] theorem State.updHealth_tdm (f : Health → Health) : (s.updHealth f).tdm = s.tdm := rfl
@[simp] theorem State.updHealth_lb (f : Health → Health) : (s.updHealth f).lb = s.lb := rfl
@[simp] theorem State.updHealth_lbDue (f : Health → Health) : (s.updHealth f).lbDue = s.lbDue := rfl
@[simp] theorem State.updHealth_lbTurn (f : Health → Health) : (s.updHealth f).lbTurn = s.lbTurn := rfl
@[simp] theorem State.updHealth_edgeBits (f : Health → Health) : (s.updHealth f).edgeBits = s.edgeBits := rfl
@[simp] theorem State.updHealth_edgeSignals (f : Health → Health) : (s.updHealth f).edgeSignals = s.edgeSignals := rfl
@[simp] theorem State.updHealth_dram (f : Health → Health) : (s.updHealth f).dram = s.dram := rfl
@[simp] theorem State.updHealth_pins (f : Health → Health) : (s.updHealth f).pins = s.pins := rfl
@[simp] theorem State.updHealth_trace (f : Health → Health) : (s.updHealth f).trace = s.trace := rfl
@[simp] theorem State.updHealth_jtag (f : Health → Health) : (s.updHealth f).jtag = s.jtag := rfl
@[simp] theorem State.updHealth_fresh (f : Health → Health) : (s.updHealth f).fresh = s.fresh := rfl
@[simp] theorem State.updHealth_out (f : Health → Health) : (s.updHealth f).out = s.out := rfl
@[simp] theorem State.updHealth_pending (f : Health → Health) : (s.updHealth f).pending = s.pending := rfl

/-! ### `updHouse` -/

@[simp] theorem State.updHouse_tb (f : House → House) : (s.updHouse f).tb = s.tb := rfl
@[simp] theorem State.updHouse_acts (f : House → House) : (s.updHouse f).acts = s.acts := rfl
@[simp] theorem State.updHouse_dev (f : House → House) : (s.updHouse f).dev = s.dev := rfl
@[simp] theorem State.updHouse_tenants (f : House → House) : (s.updHouse f).tenants = s.tenants := rfl
@[simp] theorem State.updHouse_chans (f : House → House) : (s.updHouse f).chans = s.chans := rfl
@[simp] theorem State.updHouse_cues (f : House → House) : (s.updHouse f).cues = s.cues := rfl
@[simp] theorem State.updHouse_sh (f : House → House) : (s.updHouse f).sh = s.sh := rfl
@[simp] theorem State.updHouse_eps (f : House → House) : (s.updHouse f).eps = s.eps := rfl
@[simp] theorem State.updHouse_props (f : House → House) : (s.updHouse f).props = s.props := rfl
@[simp] theorem State.updHouse_prot (f : House → House) : (s.updHouse f).prot = s.prot := rfl
@[simp] theorem State.updHouse_devState (f : House → House) : (s.updHouse f).devState = s.devState := rfl
@[simp] theorem State.updHouse_long (f : House → House) : (s.updHouse f).long = s.long := rfl
@[simp] theorem State.updHouse_pinJob (f : House → House) : (s.updHouse f).pinJob = s.pinJob := rfl
@[simp] theorem State.updHouse_cplWrites (f : House → House) : (s.updHouse f).cplWrites = s.cplWrites := rfl
@[simp] theorem State.updHouse_order (f : House → House) : (s.updHouse f).order = s.order := rfl
@[simp] theorem State.updHouse_hp0 (f : House → House) : (s.updHouse f).hp0 = s.hp0 := rfl
@[simp] theorem State.updHouse_hp1 (f : House → House) : (s.updHouse f).hp1 = s.hp1 := rfl
@[simp] theorem State.updHouse_house (f : House → House) : (s.updHouse f).house = f s.house := rfl
@[simp] theorem State.updHouse_mem (f : House → House) : (s.updHouse f).mem = s.mem := rfl
@[simp] theorem State.updHouse_guard (f : House → House) : (s.updHouse f).guard = s.guard := rfl
@[simp] theorem State.updHouse_health (f : House → House) : (s.updHouse f).health = s.health := rfl
@[simp] theorem State.updHouse_power (f : House → House) : (s.updHouse f).power = s.power := rfl
@[simp] theorem State.updHouse_boot (f : House → House) : (s.updHouse f).boot = s.boot := rfl
@[simp] theorem State.updHouse_intermission (f : House → House) : (s.updHouse f).intermission = s.intermission := rfl
@[simp] theorem State.updHouse_conv (f : House → House) : (s.updHouse f).conv = s.conv := rfl
@[simp] theorem State.updHouse_tdm (f : House → House) : (s.updHouse f).tdm = s.tdm := rfl
@[simp] theorem State.updHouse_lb (f : House → House) : (s.updHouse f).lb = s.lb := rfl
@[simp] theorem State.updHouse_lbDue (f : House → House) : (s.updHouse f).lbDue = s.lbDue := rfl
@[simp] theorem State.updHouse_lbTurn (f : House → House) : (s.updHouse f).lbTurn = s.lbTurn := rfl
@[simp] theorem State.updHouse_edgeBits (f : House → House) : (s.updHouse f).edgeBits = s.edgeBits := rfl
@[simp] theorem State.updHouse_edgeSignals (f : House → House) : (s.updHouse f).edgeSignals = s.edgeSignals := rfl
@[simp] theorem State.updHouse_dram (f : House → House) : (s.updHouse f).dram = s.dram := rfl
@[simp] theorem State.updHouse_pins (f : House → House) : (s.updHouse f).pins = s.pins := rfl
@[simp] theorem State.updHouse_trace (f : House → House) : (s.updHouse f).trace = s.trace := rfl
@[simp] theorem State.updHouse_jtag (f : House → House) : (s.updHouse f).jtag = s.jtag := rfl
@[simp] theorem State.updHouse_fresh (f : House → House) : (s.updHouse f).fresh = s.fresh := rfl
@[simp] theorem State.updHouse_out (f : House → House) : (s.updHouse f).out = s.out := rfl
@[simp] theorem State.updHouse_pending (f : House → House) : (s.updHouse f).pending = s.pending := rfl

/-! ### `updConv` -/

@[simp] theorem State.updConv_tb (i : Nat) (f : ConvLinkState → ConvLinkState) : (s.updConv i f).tb = s.tb := rfl
@[simp] theorem State.updConv_acts (i : Nat) (f : ConvLinkState → ConvLinkState) : (s.updConv i f).acts = s.acts := rfl
@[simp] theorem State.updConv_dev (i : Nat) (f : ConvLinkState → ConvLinkState) : (s.updConv i f).dev = s.dev := rfl
@[simp] theorem State.updConv_tenants (i : Nat) (f : ConvLinkState → ConvLinkState) : (s.updConv i f).tenants = s.tenants := rfl
@[simp] theorem State.updConv_chans (i : Nat) (f : ConvLinkState → ConvLinkState) : (s.updConv i f).chans = s.chans := rfl
@[simp] theorem State.updConv_cues (i : Nat) (f : ConvLinkState → ConvLinkState) : (s.updConv i f).cues = s.cues := rfl
@[simp] theorem State.updConv_sh (i : Nat) (f : ConvLinkState → ConvLinkState) : (s.updConv i f).sh = s.sh := rfl
@[simp] theorem State.updConv_eps (i : Nat) (f : ConvLinkState → ConvLinkState) : (s.updConv i f).eps = s.eps := rfl
@[simp] theorem State.updConv_props (i : Nat) (f : ConvLinkState → ConvLinkState) : (s.updConv i f).props = s.props := rfl
@[simp] theorem State.updConv_prot (i : Nat) (f : ConvLinkState → ConvLinkState) : (s.updConv i f).prot = s.prot := rfl
@[simp] theorem State.updConv_devState (i : Nat) (f : ConvLinkState → ConvLinkState) : (s.updConv i f).devState = s.devState := rfl
@[simp] theorem State.updConv_long (i : Nat) (f : ConvLinkState → ConvLinkState) : (s.updConv i f).long = s.long := rfl
@[simp] theorem State.updConv_pinJob (i : Nat) (f : ConvLinkState → ConvLinkState) : (s.updConv i f).pinJob = s.pinJob := rfl
@[simp] theorem State.updConv_cplWrites (i : Nat) (f : ConvLinkState → ConvLinkState) : (s.updConv i f).cplWrites = s.cplWrites := rfl
@[simp] theorem State.updConv_order (i : Nat) (f : ConvLinkState → ConvLinkState) : (s.updConv i f).order = s.order := rfl
@[simp] theorem State.updConv_hp0 (i : Nat) (f : ConvLinkState → ConvLinkState) : (s.updConv i f).hp0 = s.hp0 := rfl
@[simp] theorem State.updConv_hp1 (i : Nat) (f : ConvLinkState → ConvLinkState) : (s.updConv i f).hp1 = s.hp1 := rfl
@[simp] theorem State.updConv_house (i : Nat) (f : ConvLinkState → ConvLinkState) : (s.updConv i f).house = s.house := rfl
@[simp] theorem State.updConv_mem (i : Nat) (f : ConvLinkState → ConvLinkState) : (s.updConv i f).mem = s.mem := rfl
@[simp] theorem State.updConv_guard (i : Nat) (f : ConvLinkState → ConvLinkState) : (s.updConv i f).guard = s.guard := rfl
@[simp] theorem State.updConv_health (i : Nat) (f : ConvLinkState → ConvLinkState) : (s.updConv i f).health = s.health := rfl
@[simp] theorem State.updConv_power (i : Nat) (f : ConvLinkState → ConvLinkState) : (s.updConv i f).power = s.power := rfl
@[simp] theorem State.updConv_boot (i : Nat) (f : ConvLinkState → ConvLinkState) : (s.updConv i f).boot = s.boot := rfl
@[simp] theorem State.updConv_intermission (i : Nat) (f : ConvLinkState → ConvLinkState) : (s.updConv i f).intermission = s.intermission := rfl
@[simp] theorem State.updConv_conv (i : Nat) (f : ConvLinkState → ConvLinkState) : (s.updConv i f).conv = { s.conv with links := s.conv.links.upd (BitVec.ofNat 3 i) f } := rfl
@[simp] theorem State.updConv_tdm (i : Nat) (f : ConvLinkState → ConvLinkState) : (s.updConv i f).tdm = s.tdm := rfl
@[simp] theorem State.updConv_lb (i : Nat) (f : ConvLinkState → ConvLinkState) : (s.updConv i f).lb = s.lb := rfl
@[simp] theorem State.updConv_lbDue (i : Nat) (f : ConvLinkState → ConvLinkState) : (s.updConv i f).lbDue = s.lbDue := rfl
@[simp] theorem State.updConv_lbTurn (i : Nat) (f : ConvLinkState → ConvLinkState) : (s.updConv i f).lbTurn = s.lbTurn := rfl
@[simp] theorem State.updConv_edgeBits (i : Nat) (f : ConvLinkState → ConvLinkState) : (s.updConv i f).edgeBits = s.edgeBits := rfl
@[simp] theorem State.updConv_edgeSignals (i : Nat) (f : ConvLinkState → ConvLinkState) : (s.updConv i f).edgeSignals = s.edgeSignals := rfl
@[simp] theorem State.updConv_dram (i : Nat) (f : ConvLinkState → ConvLinkState) : (s.updConv i f).dram = s.dram := rfl
@[simp] theorem State.updConv_pins (i : Nat) (f : ConvLinkState → ConvLinkState) : (s.updConv i f).pins = s.pins := rfl
@[simp] theorem State.updConv_trace (i : Nat) (f : ConvLinkState → ConvLinkState) : (s.updConv i f).trace = s.trace := rfl
@[simp] theorem State.updConv_jtag (i : Nat) (f : ConvLinkState → ConvLinkState) : (s.updConv i f).jtag = s.jtag := rfl
@[simp] theorem State.updConv_fresh (i : Nat) (f : ConvLinkState → ConvLinkState) : (s.updConv i f).fresh = s.fresh := rfl
@[simp] theorem State.updConv_out (i : Nat) (f : ConvLinkState → ConvLinkState) : (s.updConv i f).out = s.out := rfl
@[simp] theorem State.updConv_pending (i : Nat) (f : ConvLinkState → ConvLinkState) : (s.updConv i f).pending = s.pending := rfl

/-! ### `wingWrite` -/

@[simp] theorem State.wingWrite_tb (off : Nat) (bs : List Byte) : (s.wingWrite off bs).tb = s.tb := rfl
@[simp] theorem State.wingWrite_acts (off : Nat) (bs : List Byte) : (s.wingWrite off bs).acts = s.acts := rfl
@[simp] theorem State.wingWrite_dev (off : Nat) (bs : List Byte) : (s.wingWrite off bs).dev = s.dev := rfl
@[simp] theorem State.wingWrite_tenants (off : Nat) (bs : List Byte) : (s.wingWrite off bs).tenants = s.tenants := rfl
@[simp] theorem State.wingWrite_chans (off : Nat) (bs : List Byte) : (s.wingWrite off bs).chans = s.chans := rfl
@[simp] theorem State.wingWrite_cues (off : Nat) (bs : List Byte) : (s.wingWrite off bs).cues = s.cues := rfl
@[simp] theorem State.wingWrite_sh (off : Nat) (bs : List Byte) : (s.wingWrite off bs).sh = s.sh := rfl
@[simp] theorem State.wingWrite_eps (off : Nat) (bs : List Byte) : (s.wingWrite off bs).eps = s.eps := rfl
@[simp] theorem State.wingWrite_props (off : Nat) (bs : List Byte) : (s.wingWrite off bs).props = s.props := rfl
@[simp] theorem State.wingWrite_prot (off : Nat) (bs : List Byte) : (s.wingWrite off bs).prot = s.prot := rfl
@[simp] theorem State.wingWrite_devState (off : Nat) (bs : List Byte) : (s.wingWrite off bs).devState = s.devState := rfl
@[simp] theorem State.wingWrite_long (off : Nat) (bs : List Byte) : (s.wingWrite off bs).long = s.long := rfl
@[simp] theorem State.wingWrite_pinJob (off : Nat) (bs : List Byte) : (s.wingWrite off bs).pinJob = s.pinJob := rfl
@[simp] theorem State.wingWrite_cplWrites (off : Nat) (bs : List Byte) : (s.wingWrite off bs).cplWrites = s.cplWrites := rfl
@[simp] theorem State.wingWrite_order (off : Nat) (bs : List Byte) : (s.wingWrite off bs).order = s.order := rfl
@[simp] theorem State.wingWrite_hp0 (off : Nat) (bs : List Byte) : (s.wingWrite off bs).hp0 = s.hp0 := rfl
@[simp] theorem State.wingWrite_hp1 (off : Nat) (bs : List Byte) : (s.wingWrite off bs).hp1 = s.hp1 := rfl
@[simp] theorem State.wingWrite_house (off : Nat) (bs : List Byte) : (s.wingWrite off bs).house = s.house := rfl
@[simp] theorem State.wingWrite_mem (off : Nat) (bs : List Byte) : (s.wingWrite off bs).mem = { s.mem with wing := cellsWriteN s.mem.wing off bs } := rfl
@[simp] theorem State.wingWrite_health (off : Nat) (bs : List Byte) : (s.wingWrite off bs).health = s.health := rfl
@[simp] theorem State.wingWrite_power (off : Nat) (bs : List Byte) : (s.wingWrite off bs).power = s.power := rfl
@[simp] theorem State.wingWrite_boot (off : Nat) (bs : List Byte) : (s.wingWrite off bs).boot = s.boot := rfl
@[simp] theorem State.wingWrite_intermission (off : Nat) (bs : List Byte) : (s.wingWrite off bs).intermission = s.intermission := rfl
@[simp] theorem State.wingWrite_conv (off : Nat) (bs : List Byte) : (s.wingWrite off bs).conv = s.conv := rfl
@[simp] theorem State.wingWrite_tdm (off : Nat) (bs : List Byte) : (s.wingWrite off bs).tdm = s.tdm := rfl
@[simp] theorem State.wingWrite_lb (off : Nat) (bs : List Byte) : (s.wingWrite off bs).lb = s.lb := rfl
@[simp] theorem State.wingWrite_lbDue (off : Nat) (bs : List Byte) : (s.wingWrite off bs).lbDue = s.lbDue := rfl
@[simp] theorem State.wingWrite_lbTurn (off : Nat) (bs : List Byte) : (s.wingWrite off bs).lbTurn = s.lbTurn := rfl
@[simp] theorem State.wingWrite_edgeBits (off : Nat) (bs : List Byte) : (s.wingWrite off bs).edgeBits = s.edgeBits := rfl
@[simp] theorem State.wingWrite_edgeSignals (off : Nat) (bs : List Byte) : (s.wingWrite off bs).edgeSignals = s.edgeSignals := rfl
@[simp] theorem State.wingWrite_dram (off : Nat) (bs : List Byte) : (s.wingWrite off bs).dram = s.dram := rfl
@[simp] theorem State.wingWrite_pins (off : Nat) (bs : List Byte) : (s.wingWrite off bs).pins = s.pins := rfl
@[simp] theorem State.wingWrite_trace (off : Nat) (bs : List Byte) : (s.wingWrite off bs).trace = s.trace := rfl
@[simp] theorem State.wingWrite_jtag (off : Nat) (bs : List Byte) : (s.wingWrite off bs).jtag = s.jtag := rfl
@[simp] theorem State.wingWrite_fresh (off : Nat) (bs : List Byte) : (s.wingWrite off bs).fresh = s.fresh := rfl
@[simp] theorem State.wingWrite_out (off : Nat) (bs : List Byte) : (s.wingWrite off bs).out = s.out := rfl
@[simp] theorem State.wingWrite_pending (off : Nat) (bs : List Byte) : (s.wingWrite off bs).pending = s.pending := rfl

/-! ### `dramWrite` -/

@[simp] theorem State.dramWrite_tb (off : Nat) (bs : List Byte) : (s.dramWrite off bs).tb = s.tb := rfl
@[simp] theorem State.dramWrite_acts (off : Nat) (bs : List Byte) : (s.dramWrite off bs).acts = s.acts := rfl
@[simp] theorem State.dramWrite_dev (off : Nat) (bs : List Byte) : (s.dramWrite off bs).dev = s.dev := rfl
@[simp] theorem State.dramWrite_tenants (off : Nat) (bs : List Byte) : (s.dramWrite off bs).tenants = s.tenants := rfl
@[simp] theorem State.dramWrite_chans (off : Nat) (bs : List Byte) : (s.dramWrite off bs).chans = s.chans := rfl
@[simp] theorem State.dramWrite_cues (off : Nat) (bs : List Byte) : (s.dramWrite off bs).cues = s.cues := rfl
@[simp] theorem State.dramWrite_sh (off : Nat) (bs : List Byte) : (s.dramWrite off bs).sh = s.sh := rfl
@[simp] theorem State.dramWrite_eps (off : Nat) (bs : List Byte) : (s.dramWrite off bs).eps = s.eps := rfl
@[simp] theorem State.dramWrite_props (off : Nat) (bs : List Byte) : (s.dramWrite off bs).props = s.props := rfl
@[simp] theorem State.dramWrite_prot (off : Nat) (bs : List Byte) : (s.dramWrite off bs).prot = s.prot := rfl
@[simp] theorem State.dramWrite_devState (off : Nat) (bs : List Byte) : (s.dramWrite off bs).devState = s.devState := rfl
@[simp] theorem State.dramWrite_long (off : Nat) (bs : List Byte) : (s.dramWrite off bs).long = s.long := rfl
@[simp] theorem State.dramWrite_pinJob (off : Nat) (bs : List Byte) : (s.dramWrite off bs).pinJob = s.pinJob := rfl
@[simp] theorem State.dramWrite_cplWrites (off : Nat) (bs : List Byte) : (s.dramWrite off bs).cplWrites = s.cplWrites := rfl
@[simp] theorem State.dramWrite_order (off : Nat) (bs : List Byte) : (s.dramWrite off bs).order = s.order := rfl
@[simp] theorem State.dramWrite_hp0 (off : Nat) (bs : List Byte) : (s.dramWrite off bs).hp0 = s.hp0 := rfl
@[simp] theorem State.dramWrite_hp1 (off : Nat) (bs : List Byte) : (s.dramWrite off bs).hp1 = s.hp1 := rfl
@[simp] theorem State.dramWrite_house (off : Nat) (bs : List Byte) : (s.dramWrite off bs).house = s.house := rfl
@[simp] theorem State.dramWrite_mem (off : Nat) (bs : List Byte) : (s.dramWrite off bs).mem = { s.mem with dram := cellsWriteN s.mem.dram off bs } := rfl
@[simp] theorem State.dramWrite_guard (off : Nat) (bs : List Byte) : (s.dramWrite off bs).guard = s.guard := rfl
@[simp] theorem State.dramWrite_health (off : Nat) (bs : List Byte) : (s.dramWrite off bs).health = s.health := rfl
@[simp] theorem State.dramWrite_power (off : Nat) (bs : List Byte) : (s.dramWrite off bs).power = s.power := rfl
@[simp] theorem State.dramWrite_boot (off : Nat) (bs : List Byte) : (s.dramWrite off bs).boot = s.boot := rfl
@[simp] theorem State.dramWrite_intermission (off : Nat) (bs : List Byte) : (s.dramWrite off bs).intermission = s.intermission := rfl
@[simp] theorem State.dramWrite_conv (off : Nat) (bs : List Byte) : (s.dramWrite off bs).conv = s.conv := rfl
@[simp] theorem State.dramWrite_tdm (off : Nat) (bs : List Byte) : (s.dramWrite off bs).tdm = s.tdm := rfl
@[simp] theorem State.dramWrite_lb (off : Nat) (bs : List Byte) : (s.dramWrite off bs).lb = s.lb := rfl
@[simp] theorem State.dramWrite_lbDue (off : Nat) (bs : List Byte) : (s.dramWrite off bs).lbDue = s.lbDue := rfl
@[simp] theorem State.dramWrite_lbTurn (off : Nat) (bs : List Byte) : (s.dramWrite off bs).lbTurn = s.lbTurn := rfl
@[simp] theorem State.dramWrite_edgeBits (off : Nat) (bs : List Byte) : (s.dramWrite off bs).edgeBits = s.edgeBits := rfl
@[simp] theorem State.dramWrite_edgeSignals (off : Nat) (bs : List Byte) : (s.dramWrite off bs).edgeSignals = s.edgeSignals := rfl
@[simp] theorem State.dramWrite_dram (off : Nat) (bs : List Byte) : (s.dramWrite off bs).dram = s.dram := rfl
@[simp] theorem State.dramWrite_pins (off : Nat) (bs : List Byte) : (s.dramWrite off bs).pins = s.pins := rfl
@[simp] theorem State.dramWrite_trace (off : Nat) (bs : List Byte) : (s.dramWrite off bs).trace = s.trace := rfl
@[simp] theorem State.dramWrite_jtag (off : Nat) (bs : List Byte) : (s.dramWrite off bs).jtag = s.jtag := rfl
@[simp] theorem State.dramWrite_fresh (off : Nat) (bs : List Byte) : (s.dramWrite off bs).fresh = s.fresh := rfl
@[simp] theorem State.dramWrite_out (off : Nat) (bs : List Byte) : (s.dramWrite off bs).out = s.out := rfl
@[simp] theorem State.dramWrite_pending (off : Nat) (bs : List Byte) : (s.dramWrite off bs).pending = s.pending := rfl

/-! ### `startLong` -/

@[simp] theorem State.startLong_tb (c : Cmd) : (s.startLong c).tb = s.tb := rfl
@[simp] theorem State.startLong_acts (c : Cmd) : (s.startLong c).acts = s.acts := rfl
@[simp] theorem State.startLong_dev (c : Cmd) : (s.startLong c).dev = s.dev := rfl
@[simp] theorem State.startLong_tenants (c : Cmd) : (s.startLong c).tenants = s.tenants := rfl
@[simp] theorem State.startLong_chans (c : Cmd) : (s.startLong c).chans = s.chans := rfl
@[simp] theorem State.startLong_cues (c : Cmd) : (s.startLong c).cues = s.cues := rfl
@[simp] theorem State.startLong_sh (c : Cmd) : (s.startLong c).sh = s.sh := rfl
@[simp] theorem State.startLong_eps (c : Cmd) : (s.startLong c).eps = s.eps := rfl
@[simp] theorem State.startLong_props (c : Cmd) : (s.startLong c).props = s.props := rfl
@[simp] theorem State.startLong_prot (c : Cmd) : (s.startLong c).prot = s.prot := rfl
@[simp] theorem State.startLong_devState (c : Cmd) : (s.startLong c).devState = s.devState := rfl
@[simp] theorem State.startLong_pinJob (c : Cmd) : (s.startLong c).pinJob = s.pinJob := rfl
@[simp] theorem State.startLong_cplWrites (c : Cmd) : (s.startLong c).cplWrites = s.cplWrites := rfl
@[simp] theorem State.startLong_order (c : Cmd) : (s.startLong c).order = s.order + 1 := rfl
@[simp] theorem State.startLong_hp0 (c : Cmd) : (s.startLong c).hp0 = s.hp0 := rfl
@[simp] theorem State.startLong_hp1 (c : Cmd) : (s.startLong c).hp1 = s.hp1 := rfl
@[simp] theorem State.startLong_house (c : Cmd) : (s.startLong c).house = s.house := rfl
@[simp] theorem State.startLong_mem (c : Cmd) : (s.startLong c).mem = s.mem := rfl
@[simp] theorem State.startLong_guard (c : Cmd) : (s.startLong c).guard = s.guard := rfl
@[simp] theorem State.startLong_health (c : Cmd) : (s.startLong c).health = s.health := rfl
@[simp] theorem State.startLong_power (c : Cmd) : (s.startLong c).power = s.power := rfl
@[simp] theorem State.startLong_boot (c : Cmd) : (s.startLong c).boot = s.boot := rfl
@[simp] theorem State.startLong_intermission (c : Cmd) : (s.startLong c).intermission = s.intermission := rfl
@[simp] theorem State.startLong_conv (c : Cmd) : (s.startLong c).conv = s.conv := rfl
@[simp] theorem State.startLong_tdm (c : Cmd) : (s.startLong c).tdm = s.tdm := rfl
@[simp] theorem State.startLong_lb (c : Cmd) : (s.startLong c).lb = s.lb := rfl
@[simp] theorem State.startLong_lbDue (c : Cmd) : (s.startLong c).lbDue = s.lbDue := rfl
@[simp] theorem State.startLong_lbTurn (c : Cmd) : (s.startLong c).lbTurn = s.lbTurn := rfl
@[simp] theorem State.startLong_edgeBits (c : Cmd) : (s.startLong c).edgeBits = s.edgeBits := rfl
@[simp] theorem State.startLong_edgeSignals (c : Cmd) : (s.startLong c).edgeSignals = s.edgeSignals := rfl
@[simp] theorem State.startLong_dram (c : Cmd) : (s.startLong c).dram = s.dram := rfl
@[simp] theorem State.startLong_pins (c : Cmd) : (s.startLong c).pins = s.pins := rfl
@[simp] theorem State.startLong_trace (c : Cmd) : (s.startLong c).trace = s.trace := rfl
@[simp] theorem State.startLong_jtag (c : Cmd) : (s.startLong c).jtag = s.jtag := rfl
@[simp] theorem State.startLong_fresh (c : Cmd) : (s.startLong c).fresh = s.fresh := rfl
@[simp] theorem State.startLong_out (c : Cmd) : (s.startLong c).out = s.out := rfl
@[simp] theorem State.startLong_pending (c : Cmd) : (s.startLong c).pending = s.pending := rfl

/-! ### `updPort` -/

@[simp] theorem State.updPort_tb (p : HostPort) (f : Port → Port) : (s.updPort p f).tb = s.tb := by cases p <;> rfl
@[simp] theorem State.updPort_acts (p : HostPort) (f : Port → Port) : (s.updPort p f).acts = s.acts := by cases p <;> rfl
@[simp] theorem State.updPort_dev (p : HostPort) (f : Port → Port) : (s.updPort p f).dev = s.dev := by cases p <;> rfl
@[simp] theorem State.updPort_tenants (p : HostPort) (f : Port → Port) : (s.updPort p f).tenants = s.tenants := by cases p <;> rfl
@[simp] theorem State.updPort_chans (p : HostPort) (f : Port → Port) : (s.updPort p f).chans = s.chans := by cases p <;> rfl
@[simp] theorem State.updPort_cues (p : HostPort) (f : Port → Port) : (s.updPort p f).cues = s.cues := by cases p <;> rfl
@[simp] theorem State.updPort_sh (p : HostPort) (f : Port → Port) : (s.updPort p f).sh = s.sh := by cases p <;> rfl
@[simp] theorem State.updPort_eps (p : HostPort) (f : Port → Port) : (s.updPort p f).eps = s.eps := by cases p <;> rfl
@[simp] theorem State.updPort_props (p : HostPort) (f : Port → Port) : (s.updPort p f).props = s.props := by cases p <;> rfl
@[simp] theorem State.updPort_prot (p : HostPort) (f : Port → Port) : (s.updPort p f).prot = s.prot := by cases p <;> rfl
@[simp] theorem State.updPort_devState (p : HostPort) (f : Port → Port) : (s.updPort p f).devState = s.devState := by cases p <;> rfl
@[simp] theorem State.updPort_long (p : HostPort) (f : Port → Port) : (s.updPort p f).long = s.long := by cases p <;> rfl
@[simp] theorem State.updPort_pinJob (p : HostPort) (f : Port → Port) : (s.updPort p f).pinJob = s.pinJob := by cases p <;> rfl
@[simp] theorem State.updPort_cplWrites (p : HostPort) (f : Port → Port) : (s.updPort p f).cplWrites = s.cplWrites := by cases p <;> rfl
@[simp] theorem State.updPort_order (p : HostPort) (f : Port → Port) : (s.updPort p f).order = s.order := by cases p <;> rfl
@[simp] theorem State.updPort_house (p : HostPort) (f : Port → Port) : (s.updPort p f).house = s.house := by cases p <;> rfl
@[simp] theorem State.updPort_mem (p : HostPort) (f : Port → Port) : (s.updPort p f).mem = s.mem := by cases p <;> rfl
@[simp] theorem State.updPort_guard (p : HostPort) (f : Port → Port) : (s.updPort p f).guard = s.guard := by cases p <;> rfl
@[simp] theorem State.updPort_health (p : HostPort) (f : Port → Port) : (s.updPort p f).health = s.health := by cases p <;> rfl
@[simp] theorem State.updPort_power (p : HostPort) (f : Port → Port) : (s.updPort p f).power = s.power := by cases p <;> rfl
@[simp] theorem State.updPort_boot (p : HostPort) (f : Port → Port) : (s.updPort p f).boot = s.boot := by cases p <;> rfl
@[simp] theorem State.updPort_intermission (p : HostPort) (f : Port → Port) : (s.updPort p f).intermission = s.intermission := by cases p <;> rfl
@[simp] theorem State.updPort_conv (p : HostPort) (f : Port → Port) : (s.updPort p f).conv = s.conv := by cases p <;> rfl
@[simp] theorem State.updPort_tdm (p : HostPort) (f : Port → Port) : (s.updPort p f).tdm = s.tdm := by cases p <;> rfl
@[simp] theorem State.updPort_lb (p : HostPort) (f : Port → Port) : (s.updPort p f).lb = s.lb := by cases p <;> rfl
@[simp] theorem State.updPort_lbDue (p : HostPort) (f : Port → Port) : (s.updPort p f).lbDue = s.lbDue := by cases p <;> rfl
@[simp] theorem State.updPort_lbTurn (p : HostPort) (f : Port → Port) : (s.updPort p f).lbTurn = s.lbTurn := by cases p <;> rfl
@[simp] theorem State.updPort_edgeBits (p : HostPort) (f : Port → Port) : (s.updPort p f).edgeBits = s.edgeBits := by cases p <;> rfl
@[simp] theorem State.updPort_edgeSignals (p : HostPort) (f : Port → Port) : (s.updPort p f).edgeSignals = s.edgeSignals := by cases p <;> rfl
@[simp] theorem State.updPort_dram (p : HostPort) (f : Port → Port) : (s.updPort p f).dram = s.dram := by cases p <;> rfl
@[simp] theorem State.updPort_pins (p : HostPort) (f : Port → Port) : (s.updPort p f).pins = s.pins := by cases p <;> rfl
@[simp] theorem State.updPort_trace (p : HostPort) (f : Port → Port) : (s.updPort p f).trace = s.trace := by cases p <;> rfl
@[simp] theorem State.updPort_jtag (p : HostPort) (f : Port → Port) : (s.updPort p f).jtag = s.jtag := by cases p <;> rfl
@[simp] theorem State.updPort_fresh (p : HostPort) (f : Port → Port) : (s.updPort p f).fresh = s.fresh := by cases p <;> rfl
@[simp] theorem State.updPort_out (p : HostPort) (f : Port → Port) : (s.updPort p f).out = s.out := by cases p <;> rfl
@[simp] theorem State.updPort_pending (p : HostPort) (f : Port → Port) : (s.updPort p f).pending = s.pending := by cases p <;> rfl

/-! ### Channels, cues, queues and registers read back -/

@[simp] theorem State.chan_updChan_same (c : ChanId) (f : Chan → Chan) : (s.updChan c f).chan c = f (s.chan c) := by
  simp [State.chan]

theorem State.chan_updChan_other {c d : ChanId} (f : Chan → Chan) (h : c ≠ d) : (s.updChan c f).chan d = s.chan d := by
  simp [State.chan, Tbl.look_upd_other _ _ h]

theorem State.sq_updSq (t u : TenantId) (q r : QueueId) (f : SubQueue → SubQueue) :
    (s.updSq t q f).sq u r = if t = u ∧ q = r then f (s.sq t q) else s.sq u r := by
  by_cases h : t = u <;> by_cases k : q = r <;> simp [State.sq, State.updSq, State.updTenant, Tbl.look_upd, h, k]

theorem State.cq_updCq (t u : TenantId) (q r : QueueId) (f : CompQueue → CompQueue) :
    (s.updCq t q f).cq u r = if t = u ∧ q.truncate 6 = r.truncate 6 then f (s.cq t q) else s.cq u r := by
  by_cases h : t = u <;> by_cases k : (q.truncate 6 : BitVec 6) = r.truncate 6 <;>
    simp_all [State.cq, State.updCq, State.updTenant, Tbl.look_upd]

theorem State.devReg_setDevReg (a b : Nat) (x : Word) (h : BitVec.ofNat 11 (a / 8) ≠ BitVec.ofNat 11 (b / 8)) :
    (s.setDevReg a x).devReg b = s.devReg b := by simp [State.devReg, Tbl.look_upd_other _ _ h]

@[simp] theorem State.devReg_setDevReg_same (a : Nat) (x : Word) : (s.setDevReg a x).devReg a = x := by
  simp [State.devReg]

@[simp] theorem State.devReg_setDevBoth_same (a : Nat) (x : Word) : (s.setDevBoth a x).devReg a = x := by
  simp [State.devReg, Staged.both]

@[simp] theorem State.tenReg_setTenReg_same (t : TenantId) (a : Nat) (x : Word) : (s.setTenReg t a x).tenReg t a = x := by
  simp [State.tenReg, State.setTenReg]

@[simp] theorem State.port_updPort_same (p : HostPort) (f : Port → Port) : (s.updPort p f).port p = f (s.port p) := by
  cases p <;> rfl

theorem State.port_updPort_other {p q : HostPort} (f : Port → Port) (h : p ≠ q) : (s.updPort p f).port q = s.port q := by
  cases p <;> cases q <;> first | rfl | exact absurd rfl h

end Machine

end Sys2Proof
end

