-- ==== Sys2Proof/Laws/Ops.lean ====
section
/-! SUPPORT. What the shared operations can do, said once: memories keep their canonical form and read back what was written; completions, vectors, events and trace records leave everything else alone. -/

namespace Sys2Proof.Machine

/-! ### Memory -/

theorem cellsRead_below {m : List Host.Cell} : ∀ {lo a : Nat}, cellsWf lo m = true → a < lo → cellsRead m a = 0 := by
  induction m with
  | nil => intros; rfl
  | cons c cs ih =>
    intro lo a h hlt
    simp only [cellsWf, Bool.and_eq_true, decide_eq_true_eq] at h
    have hne : c.1 ≠ a := by omega
    simp only [cellsRead, hne, if_false]
    exact ih h.2 (by omega)

/-- A wider bound still holds. -/
theorem cellsWf_mono {m : List Host.Cell} {lo lo' : Nat} (h : cellsWf lo m = true) (hl : lo' ≤ lo) : cellsWf lo' m = true := by
  cases m with
  | nil => rfl
  | cons c cs =>
    simp only [cellsWf, Bool.and_eq_true, decide_eq_true_eq] at h ⊢
    exact ⟨⟨by omega, h.1.2⟩, h.2⟩

/-- A byte written keeps the canonical form. -/
theorem cellsWrite_wf (b : Byte) : ∀ (m : List Host.Cell) (lo a : Nat), cellsWf lo m = true → lo ≤ a → cellsWf lo (cellsWrite m a b) = true := by
  intro m
  induction m with
  | nil =>
    intro lo a _ hl
    by_cases hb : b = 0#8 <;> simp [cellsWrite, cellsWf, hb, hl]
  | cons c cs ih =>
    intro lo a h hl
    have h' := h
    simp only [cellsWf, Bool.and_eq_true, decide_eq_true_eq] at h'
    obtain ⟨⟨h1, h2⟩, h3⟩ := h'
    by_cases hlt : a < c.1
    · by_cases hb : b = 0#8
      · simp [cellsWrite, hlt, hb, h]
      · have hb' : ¬b = 0 := hb
        simp only [cellsWrite, hlt, hb', if_true, if_false, cellsWf, Bool.and_eq_true, decide_eq_true_eq]
        exact ⟨⟨hl, by simpa using hb⟩, ⟨⟨by omega, h2⟩, h3⟩⟩
    · by_cases he : a = c.1
      · by_cases hb : b = 0#8
        · subst hb
          simp only [cellsWrite, he, Nat.lt_irrefl, if_false, if_true]
          simpa using cellsWf_mono h3 (by omega)
        · have hb' : ¬b = 0 := hb
          simp only [cellsWrite, he, Nat.lt_irrefl, if_false, if_true, hb', cellsWf, Bool.and_eq_true, decide_eq_true_eq]
          exact ⟨⟨h1, by simpa using hb⟩, h3⟩
      · simp only [cellsWrite, hlt, he, if_false, cellsWf, Bool.and_eq_true, decide_eq_true_eq]
        exact ⟨⟨h1, h2⟩, ih _ _ h3 (by omega)⟩

/-- Bytes written keep the canonical form. -/
theorem cellsWriteN_wf (bs : List Byte) : ∀ (m : List Host.Cell) (a : Nat), cellsWf 0 m = true → cellsWf 0 (cellsWriteN m a bs) = true := by
  induction bs with
  | nil => intro m a h; exact h
  | cons b bs ih => intro m a h; exact ih _ _ (cellsWrite_wf b m 0 a h (Nat.zero_le _))

/-- A byte that is not written reads as before. -/
theorem cellsRead_write_other (b : Byte) {a x : Nat} (hx : x ≠ a) : ∀ m : List Host.Cell, cellsRead (cellsWrite m a b) x = cellsRead m x := by
  intro m
  induction m with
  | nil => by_cases hb : b = 0#8 <;> simp [cellsWrite, cellsRead, hb, Ne.symm hx]
  | cons c cs ih =>
    by_cases hlt : a < c.1
    · by_cases hb : b = 0#8 <;> simp [cellsWrite, hlt, hb, cellsRead, Ne.symm hx]
    · by_cases he : a = c.1
      · have hc : c.1 ≠ x := by omega
        by_cases hb : b = 0#8 <;> simp [cellsWrite, hb, cellsRead, he, hc]
      · simp [cellsWrite, hlt, he, cellsRead, ih]

/-- A byte written reads back. -/
theorem cellsRead_write_same (b : Byte) (a : Nat) : ∀ (m : List Host.Cell) (lo : Nat), cellsWf lo m = true → cellsRead (cellsWrite m a b) a = b := by
  intro m
  induction m with
  | nil => intro lo _; by_cases hb : b = 0#8 <;> simp [cellsWrite, cellsRead, hb]
  | cons c cs ih =>
    intro lo h
    have h' := h
    simp only [cellsWf, Bool.and_eq_true, decide_eq_true_eq] at h'
    obtain ⟨⟨h1, h2⟩, h3⟩ := h'
    by_cases hlt : a < c.1
    · by_cases hb : b = 0#8
      · have hc : c.1 ≠ a := by omega
        subst hb
        have := cellsRead_below h3 (show a < c.1 + 1 by omega)
        simpa [cellsWrite, hlt, cellsRead, hc] using this
      · simp [cellsWrite, hlt, hb, cellsRead]
    · by_cases he : a = c.1
      · subst he
        by_cases hb : b = 0#8
        · subst hb
          have := cellsRead_below h3 (show c.1 < c.1 + 1 by omega)
          simpa [cellsWrite] using this
        · simp [cellsWrite, hb, cellsRead]
      · have hc : c.1 ≠ a := fun e => he e.symm
        simp only [cellsWrite, hlt, he, if_false, cellsRead, hc]
        exact ih _ h3

/-- Bytes outside a written range read as before. -/
theorem cellsRead_writeN_other (bs : List Byte) : ∀ (m : List Host.Cell) (a x : Nat), x < a ∨ a + bs.length ≤ x →
    cellsRead (cellsWriteN m a bs) x = cellsRead m x := by
  induction bs with
  | nil => intros; rfl
  | cons b bs ih =>
    intro m a x h
    simp only [List.length_cons] at h
    simp only [cellsWriteN]
    rw [ih _ _ _ (by omega), cellsRead_write_other b (by omega)]

/-- Bytes of a written range read back. -/
theorem cellsRead_writeN_same (bs : List Byte) : ∀ (m : List Host.Cell) (a i : Nat) (hi : i < bs.length), cellsWf 0 m = true →
    cellsRead (cellsWriteN m a bs) (a + i) = bs[i] := by
  induction bs with
  | nil => intro m a i hi; simp at hi
  | cons b bs ih =>
    intro m a i hi h
    have hw := cellsWrite_wf b m 0 a h (Nat.zero_le _)
    cases i with
    | zero =>
      simp only [cellsWriteN, Nat.add_zero, List.getElem_cons_zero]
      rw [cellsRead_writeN_other bs _ _ _ (by omega)]
      exact cellsRead_write_same b a m 0 h
    | succ i =>
      simp only [cellsWriteN, List.getElem_cons_succ]
      have := ih (cellsWrite m a b) (a + 1) i (by simpa using hi) hw
      rw [← this]; congr 1; omega

theorem State.wingWrite_wf (s : State) (off : Nat) (bs : List Byte) (h : s.mem.wf = true) : (s.wingWrite off bs).mem.wf = true := by
  simp only [Memory.wf, Bool.and_eq_true] at h
  simp [Memory.wf, cellsWriteN_wf _ _ _ h.1, h.2]

theorem State.dramWrite_wf (s : State) (off : Nat) (bs : List Byte) (h : s.mem.wf = true) : (s.dramWrite off bs).mem.wf = true := by
  simp only [Memory.wf, Bool.and_eq_true] at h
  simp [Memory.wf, cellsWriteN_wf _ _ _ h.2, h.1]

/-- The memory that nothing has written is in canonical form. -/
theorem memory_empty_wf : ({} : Memory).wf = true := rfl

/-! ### What reports leave alone -/

theorem TenantKept.refl (n : Tenant) : TenantKept n n := ⟨fun _ _ => rfl, rfl, fun _ _ => rfl, rfl, rfl, rfl, rfl⟩

theorem TenantKept.trans {a b c : Tenant} (h : TenantKept a b) (k : TenantKept b c) : TenantKept a c :=
  ⟨fun i hi => (k.regs i hi).trans (h.regs i hi), k.ctl.trans h.ctl, fun q hq => (k.sqs q hq).trans (h.sqs q hq),
    k.adminErr.trans h.adminErr, k.label.trans h.label, k.failTrace.trans h.failTrace, k.starved.trans h.starved⟩

theorem Kept.refl (s : State) : Kept s s :=
  ⟨rfl, rfl, rfl, rfl, rfl, rfl, rfl, rfl, rfl, rfl, rfl, rfl, rfl, rfl, rfl, rfl, rfl, rfl, rfl, rfl, rfl, rfl, rfl, rfl, rfl, rfl, rfl, rfl, rfl, rfl, rfl, rfl, rfl, fun _ => TenantKept.refl _⟩

theorem Kept.trans {s t u : State} (h : Kept s t) (k : Kept t u) : Kept s u :=
  ⟨k.tb.trans h.tb,
    k.acts.trans h.acts,
    k.dev.trans h.dev,
    k.chans.trans h.chans,
    k.cues.trans h.cues,
    k.sh.trans h.sh,
    k.eps.trans h.eps,
    k.props.trans h.props,
    k.prot.trans h.prot,
    k.devState.trans h.devState,
    k.long.trans h.long,
    k.pinJob.trans h.pinJob,
    k.order.trans h.order,
    k.hp0.trans (by rw [h.hp0]),
    k.hp1.trans (by rw [h.hp1]),
    k.dramBytes.trans h.dramBytes,
    k.guard.trans (by rw [h.guard]),
    k.health.trans h.health,
    k.power.trans (by rw [h.power]),
    k.boot.trans h.boot,
    k.intermission.trans h.intermission,
    k.conv.trans h.conv,
    k.tdm.trans h.tdm,
    k.lb.trans h.lb,
    k.lbDue.trans h.lbDue,
    k.lbTurn.trans h.lbTurn,
    k.edgeBits.trans h.edgeBits,
    k.edgeSignals.trans h.edgeSignals,
    k.dram.trans h.dram,
    k.pins.trans h.pins,
    k.jtag.trans h.jtag,
    k.fresh.trans h.fresh,
    k.pending.trans h.pending,
    fun u => (h.tenants u).trans (k.tenants u)⟩

/-- A change of one tenant that keeps what reports keep. -/
theorem State.updTenant_kept (s : State) (t : TenantId) (f : Tenant → Tenant) (h : TenantKept (s.tenants.look t) (f (s.tenants.look t))) :
    Kept s (s.updTenant t f) where
  tb := rfl
  acts := rfl
  dev := rfl
  chans := rfl
  cues := rfl
  sh := rfl
  eps := rfl
  props := rfl
  prot := rfl
  devState := rfl
  long := rfl
  pinJob := rfl
  order := rfl
  hp0 := rfl
  hp1 := rfl
  dramBytes := rfl
  guard := rfl
  health := rfl
  power := rfl
  boot := rfl
  intermission := rfl
  conv := rfl
  tdm := rfl
  lb := rfl
  lbDue := rfl
  lbTurn := rfl
  edgeBits := rfl
  edgeSignals := rfl
  dram := rfl
  pins := rfl
  jtag := rfl
  fresh := rfl
  pending := rfl
  tenants := by
    intro u
    by_cases e : t = u
    · subst e; simpa using h
    · simp [Tbl.look_upd_other _ _ e, TenantKept.refl]

theorem State.updCq_kept (s : State) (t : TenantId) (q : QueueId) (f : CompQueue → CompQueue) : Kept s (s.updCq t q f) :=
  s.updTenant_kept t _ ⟨fun _ _ => rfl, rfl, fun _ _ => rfl, rfl, rfl, rfl, rfl⟩

theorem State.updAdminSq_kept (s : State) (t : TenantId) (f : SubQueue → SubQueue) : Kept s (s.updSq t 0 f) :=
  s.updTenant_kept t _ ⟨fun _ _ => rfl, rfl, fun _ hq => Tbl.look_upd_other _ _ (Ne.symm hq), rfl, rfl, rfl, rfl⟩

theorem State.setIrq_kept (s : State) (t : TenantId) (x : Word) : Kept s (s.setTenReg t 0x18 x) :=
  s.updTenant_kept t _ ⟨fun _ hi => Tbl.look_upd_other _ _ (Ne.symm hi), rfl, fun _ _ => rfl, rfl, rfl, rfl, rfl⟩

theorem State.emit_kept (s : State) (e : Emit) : Kept s (s.emit e) where
  tb := rfl
  acts := rfl
  dev := rfl
  chans := rfl
  cues := rfl
  sh := rfl
  eps := rfl
  props := rfl
  prot := rfl
  devState := rfl
  long := rfl
  pinJob := rfl
  order := rfl
  hp0 := rfl
  hp1 := rfl
  dramBytes := rfl
  guard := rfl
  health := rfl
  power := rfl
  boot := rfl
  intermission := rfl
  conv := rfl
  tdm := rfl
  lb := rfl
  lbDue := rfl
  lbTurn := rfl
  edgeBits := rfl
  edgeSignals := rfl
  dram := rfl
  pins := rfl
  jtag := rfl
  fresh := rfl
  pending := rfl
  tenants := fun _ => TenantKept.refl _

theorem State.setTrace_kept (s : State) (x : Trace) : Kept s { s with trace := x } where
  tb := rfl
  acts := rfl
  dev := rfl
  chans := rfl
  cues := rfl
  sh := rfl
  eps := rfl
  props := rfl
  prot := rfl
  devState := rfl
  long := rfl
  pinJob := rfl
  order := rfl
  hp0 := rfl
  hp1 := rfl
  dramBytes := rfl
  guard := rfl
  health := rfl
  power := rfl
  boot := rfl
  intermission := rfl
  conv := rfl
  tdm := rfl
  lb := rfl
  lbDue := rfl
  lbTurn := rfl
  edgeBits := rfl
  edgeSignals := rfl
  dram := rfl
  pins := rfl
  jtag := rfl
  fresh := rfl
  pending := rfl
  tenants := fun _ => TenantKept.refl _

theorem State.setSuppressed_kept (s : State) (x : BitVec 16) : Kept s { s with power := { s.power with suppressed := x } } where
  tb := rfl
  acts := rfl
  dev := rfl
  chans := rfl
  cues := rfl
  sh := rfl
  eps := rfl
  props := rfl
  prot := rfl
  devState := rfl
  long := rfl
  pinJob := rfl
  order := rfl
  hp0 := rfl
  hp1 := rfl
  dramBytes := rfl
  guard := rfl
  health := rfl
  power := rfl
  boot := rfl
  intermission := rfl
  conv := rfl
  tdm := rfl
  lb := rfl
  lbDue := rfl
  lbTurn := rfl
  edgeBits := rfl
  edgeSignals := rfl
  dram := rfl
  pins := rfl
  jtag := rfl
  fresh := rfl
  pending := rfl
  tenants := fun _ => TenantKept.refl _

theorem State.setHouse_kept (s : State) (x : House) : Kept s { s with house := x } where
  tb := rfl
  acts := rfl
  dev := rfl
  chans := rfl
  cues := rfl
  sh := rfl
  eps := rfl
  props := rfl
  prot := rfl
  devState := rfl
  long := rfl
  pinJob := rfl
  order := rfl
  hp0 := rfl
  hp1 := rfl
  dramBytes := rfl
  guard := rfl
  health := rfl
  power := rfl
  boot := rfl
  intermission := rfl
  conv := rfl
  tdm := rfl
  lb := rfl
  lbDue := rfl
  lbTurn := rfl
  edgeBits := rfl
  edgeSignals := rfl
  dram := rfl
  pins := rfl
  jtag := rfl
  fresh := rfl
  pending := rfl
  tenants := fun _ => TenantKept.refl _

theorem State.setCplWrites_kept (s : State) (x : List CplWrite) : Kept s { s with cplWrites := x } where
  tb := rfl
  acts := rfl
  dev := rfl
  chans := rfl
  cues := rfl
  sh := rfl
  eps := rfl
  props := rfl
  prot := rfl
  devState := rfl
  long := rfl
  pinJob := rfl
  order := rfl
  hp0 := rfl
  hp1 := rfl
  dramBytes := rfl
  guard := rfl
  health := rfl
  power := rfl
  boot := rfl
  intermission := rfl
  conv := rfl
  tdm := rfl
  lb := rfl
  lbDue := rfl
  lbTurn := rfl
  edgeBits := rfl
  edgeSignals := rfl
  dram := rfl
  pins := rfl
  jtag := rfl
  fresh := rfl
  pending := rfl
  tenants := fun _ => TenantKept.refl _

theorem State.wingWrite_kept (s : State) (off : Nat) (bs : List Byte) : Kept s (s.wingWrite off bs) where
  tb := rfl
  acts := rfl
  dev := rfl
  chans := rfl
  cues := rfl
  sh := rfl
  eps := rfl
  props := rfl
  prot := rfl
  devState := rfl
  long := rfl
  pinJob := rfl
  order := rfl
  hp0 := rfl
  hp1 := rfl
  dramBytes := rfl
  guard := rfl
  health := rfl
  power := rfl
  boot := rfl
  intermission := rfl
  conv := rfl
  tdm := rfl
  lb := rfl
  lbDue := rfl
  lbTurn := rfl
  edgeBits := rfl
  edgeSignals := rfl
  dram := rfl
  pins := rfl
  jtag := rfl
  fresh := rfl
  pending := rfl
  tenants := fun _ => TenantKept.refl _

theorem State.setPba_kept (s : State) (p : HostPort) (f : BitVec 256 → BitVec 256) :
    Kept s (s.updPort p fun q => { q with pba := f q.pba }) := by
  cases p <;> exact ⟨rfl, rfl, rfl, rfl, rfl, rfl, rfl, rfl, rfl, rfl, rfl, rfl, rfl, rfl, rfl, rfl, rfl, rfl, rfl, rfl, rfl, rfl, rfl, rfl, rfl, rfl, rfl, rfl, rfl, rfl, rfl, rfl, rfl, fun _ => TenantKept.refl _⟩

theorem State.sendEntry_kept (s : State) (p : HostPort) (i : BitVec 8) : Kept s (s.sendEntry p i) := by
  unfold State.sendEntry
  dsimp only
  split
  · exact s.emit_kept _
  · exact s.setPba_kept p (fun x => x ||| (1 <<< i.toNat : Nat))

theorem State.sendVector_kept (s : State) (t : TenantId) (v : Nat) : Kept s (s.sendVector t v) := by
  unfold State.sendVector
  dsimp only
  split
  · exact s.sendEntry_kept _ _
  · exact Kept.refl s

theorem State.forAll_kept {α : Type} (f : α → State → State) (hf : ∀ x s, Kept s (f x s)) :
    ∀ (l : List α) (s : State), Kept s (s.forAll l f) := by
  intro l
  induction l with
  | nil => exact Kept.refl
  | cons x l ih => intro s; exact (hf x s).trans (ih _)

theorem State.sendVectors_kept (s : State) (t : TenantId) (vs : List Byte) : Kept s (s.sendVectors t vs) :=
  State.forAll_kept (fun (v : Byte) (s : State) => s.sendVector t v.toNat) (fun v s => s.sendVector_kept t v.toNat) vs s

theorem State.raiseTenant_kept (s : State) (t : TenantId) (bit : Nat) : Kept s (s.raiseTenant t bit) := by
  unfold State.raiseTenant
  dsimp only
  split
  · exact (s.setIrq_kept t _).trans (State.sendVector_kept _ _ _)
  · exact s.setIrq_kept t _

theorem State.raiseSm_kept (s : State) (bit : Nat) : Kept s (s.raiseSm bit) := by
  unfold State.raiseSm
  split
  · exact s.raiseTenant_kept _ _
  · exact Kept.refl s

theorem State.traceAs_kept (s : State) (cls event : Nat) (t : Option TenantId) (c : Option ChanId) (d : Dword) (x : Tick) (u : Bool) :
    Kept s (s.traceAs cls event t c d x u) := by
  unfold State.traceAs
  dsimp only
  split
  · exact Kept.refl s
  · split
    · exact s.setSuppressed_kept _
    · exact s.setTrace_kept _

theorem State.note_kept (s : State) (cls event : Nat) (t : Option TenantId) (c : Option ChanId) (d : Dword) :
    Kept s (s.note cls event t c d) := s.traceAs_kept _ _ _ _ _ _ _

theorem State.noteChan_kept (s : State) (cls event : Nat) (c : ChanId) (d : Dword) : Kept s (s.noteChan cls event c d) :=
  s.note_kept _ _ _ _ _

theorem State.faultCq_kept (s : State) (t : TenantId) (q : QueueId) (cause : Nat) : Kept s (s.faultCq t q cause) :=
  (((s.setCplWrites_kept _).trans (State.updCq_kept _ t q _)).trans (State.raiseTenant_kept _ _ _)).trans (State.note_kept _ _ _ _ _ _)

theorem State.cplFails_kept (s : State) (w : CplWrite) : Kept s (s.cplFails w).1 := by
  unfold State.cplFails
  split
  · exact Kept.refl s
  · exact s.faultCq_kept _ _ _

theorem State.sendHostWrite_kept (s : State) (p : HostPort) (a : Addr) (bytes : List Byte) : Kept s (s.sendHostWrite p a bytes) :=
  s.emit_kept _

/-- The issue of a completion write stores or sends it, with its vectors where it needs no answer, and changes nothing else. -/
theorem State.issueCpl_kept (s : State) (w : CplWrite) : Kept s (s.issueCpl w).1 := by
  unfold State.issueCpl
  dsimp only
  split
  · split
    · split
      · exact (s.sendHostWrite_kept _ _ _).trans (State.sendVectors_kept _ _ _)
      · exact s.sendHostWrite_kept _ _ _
    · exact s.cplFails_kept _
  · split
    · exact (s.wingWrite_kept _ _).trans (State.sendVectors_kept _ _ _)
    · exact Kept.refl s

theorem State.writeCompletion_kept (s : State) (t : TenantId) (q : QueueId) (a : Addr) (bytes vs : List Byte) (c : Option ChanId) :
    Kept s (s.writeCompletion t q a bytes vs c) := by
  unfold State.writeCompletion
  dsimp only
  split
  · exact s.setCplWrites_kept _
  · have h := s.issueCpl_kept { tenant := t, cq := q, addr := a, bytes := bytes, vectors := vs, chan := c }
    split
    · next e => rw [e] at h; exact h.trans (State.setCplWrites_kept _ _)
    · next e => rw [e] at h; exact h

theorem State.putCompletion_kept (s : State) (t : TenantId) (q : QueueId) (d : DueCompletion) : Kept s (s.putCompletion t q d) := by
  unfold State.putCompletion
  dsimp only
  split
  · exact s.faultCq_kept _ _ _
  · exact (s.updCq_kept _ _ _).trans (State.writeCompletion_kept _ _ _ _ _ _ _)

theorem State.postCq_kept (s : State) (t : TenantId) (q : QueueId) (d : DueCompletion) : Kept s (s.postCq t q d) := by
  unfold State.postCq
  dsimp only
  split
  · exact Kept.refl s
  · split
    · exact s.putCompletion_kept _ _ _
    · split
      · exact s.updCq_kept _ _ _
      · exact (((s.updCq_kept _ _ _).trans (State.sendVector_kept _ _ _)).trans (State.raiseTenant_kept _ _ _)).trans (State.note_kept _ _ _ _ _ _)

theorem State.adminFault_kept (s : State) (t : TenantId) : Kept s (s.adminFault t) := by
  unfold State.adminFault
  split
  · exact Kept.refl s
  · split
    · exact Kept.refl s
    · exact (s.updAdminSq_kept _ _).trans (State.postCq_kept _ _ _ _)

theorem State.complete_kept (s : State) (r : CmdRef) (op : Byte) (a : Reply) (result : List Byte) : Kept s (s.complete r op a result) := by
  unfold State.complete
  extract_lets s1
  have h : Kept s s1 := by
    simp only [s1]
    split
    · exact Kept.refl s
    · split
      · exact Kept.refl s
      · exact s.note_kept _ _ _ _ _
  split
  · exact h.trans (State.setHouse_kept _ _)
  · exact ((h.trans (State.updTenant_kept _ _ _ ⟨fun _ _ => rfl, rfl, fun _ _ => rfl, rfl, rfl, rfl, rfl⟩)).trans
      (State.postCq_kept _ _ _ _)).trans (State.adminFault_kept _ _)

theorem State.answer_kept (s : State) (c : Cmd) (r : Reply) : Kept s (s.answer c r) := s.complete_kept _ _ _ _

theorem State.takeOff_kept (s : State) (p : Packet) : Kept s (s.takeOff p) := by
  unfold State.takeOff
  dsimp only
  split
  · exact s.setHouse_kept _
  · exact (s.updAdminSq_kept _ _).trans (State.updTenant_kept _ _ _ ⟨fun _ _ => rfl, rfl, fun _ _ => rfl, rfl, rfl, rfl, rfl⟩)

/-! ### A command row -/

/-- A packet that passes its checks runs on the state in which it is taken. -/
theorem serve_runs {spec : CmdSpec} {checks : Cmd → State → Checks} {run : Cmd → State → State} {p : Packet} {s : State}
    (h : Serves spec checks p s) : serve spec checks run p s = .next (run (s.cmdOf p) (s.takeOff p)) := by
  unfold serve
  simp [h.taken, h.opcode, h.passes]

/-! ### Scripts -/

/-- Two changes of one channel are one. -/
theorem updChan_updChan (s : State) (c : ChanId) (f g : Chan → Chan) :
    (s.updChan c f).updChan c g = s.updChan c fun n => g (f n) := by
  simp [State.updChan]

/-- A change of a channel is seen in that channel. -/
theorem updChan_chan_same (s : State) (c : ChanId) (f : Chan → Chan) : (s.updChan c f).chan c = f (s.chan c) := by
  simp [State.updChan, State.chan]

/-- A script instruction that executes has its effect, and the channel then acts. -/
theorem scriptRow_runs {s : State} {c : ChanId} {op : ScriptOp} {i : Insn} {check : Chan → Insn → InsnCheck} {run : Insn → State → State}
    (h : Executes s c op i (check (s.chan c) i)) : s.scriptRow c op check run = (run i s).go [c] := by
  unfold State.scriptRow
  simp only [h.ready, h.held, h.kind, h.curtain, h.passes]
  rcases h.spin with h3 | h3
  · simp; intro h4; omega
  · simp [h3]

end Sys2Proof.Machine
end

