-- ==== Sys2Proof/Tests/Slice0.lean ====
section
/-! SUPPORT. Tests of the model: terms that WellFormed refuses, witnesses of the hypotheses of the statements, and small tests of commands against the rules. -/

namespace Sys2Proof.Tests
open Sys2Proof Sys2Proof.Machine

set_option Elab.async false

/-! ### Helpers -/

/-- The state that a command leaves, or the one before where it stops. -/
def after (i : Instr) (s : State) : State := match exec i s with | .next t => t | _ => s

/-- The states that commands leave in order. -/
def afterAll (l : List Instr) (s : State) : State := l.foldl (fun s i => after i s) s

/-- A window. -/
def window (tag : BitVec 4) (last : BitVec 60) : Window := { valid := true, tag := tag, last := last, read := true, write := true }

/-- A tenant with eight channels and windows over both memories, both host ports and the local bus. -/
def tenant0 : TenantRecord :=
  { enabled := true, chanCount := 8, sqQuota := 8, cqQuota := 4, cueCount := 64, propQuota := 16, actControl := 0xFFFF, actBind := 0xFFFF
    endpoints := BitVec.allOnes 64, pins := BitVec.allOnes 48, vecCount := 8
    windows := (((((Tbl.fill 3 {}).put 0 (window 0 0x7FFFFF)).put 1 (window 1 0xFFFFFF)).put 2 (window 2 0xFFFFFF)).put 3 (window 3 0xFFFFFF)).put 4 (window 4 0xFFFFFF) }

/-- A part in STAGED with its clocks, one tenant, and the Stage Manager in it. -/
def base : State :=
  { State.reset with
    devState := .staged
    tb := { State.reset.tb with refclkPresent := true, pllLock := true, fineValid := true, timeValid := true, time := 0x100000000 }
    boot := { State.reset.boot with step := 11 }
    prot := { State.reset.prot with designated := true, epoch := 1, map := { records := (Tbl.fill 4 {}).put 0 tenant0 } } }

/-- The same part before the first commit. -/
def houseOnly : State := { base with devState := .houseOnly, prot := { base.prot with designated := false } }

/-- A packet. -/
def packet (src : Source) (l : List (Nat × Dword)) : Packet :=
  { src := src, dw := Vector.ofFn fun i => ((l.find? fun x => x.1 == i.val).map fun x => x.2).getD 0, body := ⟨.good, []⟩ }

/-- A packet of the House. -/
def house (l : List (Nat × Dword)) : Packet := packet .house l

/-- A packet of the House that addresses tenant 0, with an object. -/
def foreign (opcode object : Nat) (l : List (Nat × Dword)) : Packet :=
  packet .house ((0, BitVec.ofNat 32 (0x200 + opcode)) :: (1, BitVec.ofNat 32 (7 + 65536 * object)) :: l)

/-- What `Serves` asks, at once. -/
theorem servesOf {spec : CmdSpec} {checks : Cmd → State → Checks} {p : Packet} {s : State}
    (h : s.mayTake p = true ∧ (s.cmdOf p).opcode.toNat = spec.opcode ∧
      (s.cmdOf p).judge spec (checks (s.cmdOf p) (s.takeOff p)) (s.takeOff p) = none) : Serves spec checks p s :=
  ⟨h.1, h.2.1, h.2.2⟩

/-- What `Executes` asks, at once. -/
theorem executesOf {s : State} {c : ChanId} {op : ScriptOp} {i : Insn} {k : InsnCheck}
    (h : s.scriptReady c = true ∧ (s.chan c).script.held = some i ∧ scriptOp i.d0 = some op ∧ s.curtainHolds c (some op) = false ∧
      ((s.chan c).script.spin < 65536 ∨ restsSpin op = true) ∧ s.judgeInsn c i op k = none) : Executes s c op i k :=
  ⟨h.1, h.2.1, h.2.2.1, h.2.2.2.1, h.2.2.2.2.1, h.2.2.2.2.2⟩

/-- What `Takes` asks, at once. -/
theorem takesOf {s : State} {c : ChanId} {ty : DescType} {w : Taken}
    (h : s.readyToTake c = true ∧ s.nextEntry c = some w ∧ descType w.dw = some ty ∧ (w.inChain = true → (s.chan c).spin < 256) ∧
      (s.chan c).discard = none ∧ descOffsets ty w.dw (s.chan c).actEn (s.profile (s.tenantOf c) (field (packetDw w.dw 0) 23 16 % 64)) = [] ∧
      ((ty = .link → w.inChain = true) ∧ (ty = .callChain → w.inChain = false)) ∧
      (usesCue ty w.dw = true → (s.record (s.tenantOf c)).holdsCue (descCue w.dw).toNat = true)) : Takes s c ty w :=
  ⟨h.1, h.2.1, h.2.2.1, h.2.2.2.1, h.2.2.2.2.1, h.2.2.2.2.2.1, h.2.2.2.2.2.2.1, h.2.2.2.2.2.2.2⟩

/-- What `Lands` asks, at once. -/
theorem landsOf {a : RegWrite} {s : State} {h : Home} {r : RegSpec}
    (k : s.reaches a.via = true ∧ (s.touched a.via).barsShut = false ∧ a.odd = false ∧ (s.arrival a.via).regAt a.via a.page a.off = some (h, r) ∧
      sizeOk a.off a.eight = true ∧ a.eight = r.wide ∧ (r.only4 = true → a.eight = false) ∧
      (a.eight = true → (doorbellAt (baseOf a.off / 8 * 8)).isSome = false) ∧
      (((s.arrival a.via).ctl a.page).view a.via).heldLow = none ∧ (s.arrival a.via).judgeWrite (s.written a h r) = .takes ∧
      (s.written a h r).onceHit = false ∧ ((s.written a h r).guardHit = true → (s.arrival a.via).isOpen a.page a.via = true)) : Lands a s h r :=
  ⟨k.1, k.2.1, k.2.2.1, k.2.2.2.1, k.2.2.2.2.1, k.2.2.2.2.2.1, k.2.2.2.2.2.2.1, k.2.2.2.2.2.2.2.1, k.2.2.2.2.2.2.2.2.1,
    k.2.2.2.2.2.2.2.2.2.1, k.2.2.2.2.2.2.2.2.2.2.1, k.2.2.2.2.2.2.2.2.2.2.2⟩

/-- The part with a CQ. -/
def withCq : State := base.updCq 0 1 fun _ => { state := .active, base := 0x1000, log2 := 4, phase := true }

/-- The part with a work SQ too. -/
def withSq : State :=
  withCq.updSq 0 1 fun _ => { state := .active, base := 0x2000, log2 := 4, phase := true, cq := 1 }

/-- The part with channel 2 bound to that SQ. -/
def bound : State :=
  (withSq.updSq 0 1 fun q => { q with slot := some 2 }).updChan 2 fun n => { n with state := .idle, mode := .queue, sq := 1 }

/-- The part with channel 2 started. -/
def started : State := bound.updChan 2 fun n => { n with state := .armed }

/-- The part with cue 0 allocated. -/
def withCue : State := base.updCue 0 fun _ => { count := 9, allocated := true }

/-- The part with acts 0 and 15 configured. -/
def acting : State := (base.setDevReg 0x408 0x100000000).setDevReg 0x7C8 0x100000000

/-- The part with acts 0 and 15 running. -/
def playing : State :=
  { acting with acts := (acting.acts.upd 0 fun a => { a with running := true, nextStart := 0x100010000 }).upd 15 fun a => { a with running := true, nextStart := 0x100010000 } }

/-- The part with a TDM port configured. -/
def tdmReady : State :=
  (((((base.setDevReg 0x1C00 (150000 * 65536)).setDevReg 0x1C08 0x10000F8008000).setDevReg 0x840 9).setDevReg 0x848 9).setDevReg 0x850 9).setDevReg 0x858 9

/-- The part with two ranks on each DRAM channel. -/
def withDram : State := base.setDevReg 0xB10 0x0000040300000403

/-- A delta body for tenant 1. -/
def mapBody : List Byte := dwordBytes ([1, 1, 0, 0, 2] ++ List.replicate 59 0)

/-- A map proposed by the Stage Manager. -/
def proposal : Proposal :=
  { byHouse := false, patch := false, body := mapBody, patchSet := 0, nonce := 5, digest := 6, stamp := 0, expiry := 0x100000000 }

/-- The part with a proposal held. -/
def holding (h : Proposal) : State := { base with prot := { base.prot with held := some h } }

/-- A delta body that disables tenant 0. -/
def blockedBody : List Byte := dwordBytes ([1, 1, 0, 0, 1] ++ List.replicate 59 0)

/-- The part with channel 2 bound, and a proposal that takes it away. -/
def blocked : State :=
  { bound with prot := { bound.prot with held := some { proposal with body := blockedBody } } }

/-- The dwords of an entry. -/
def dwords (l : List Dword) : Vector Dword 16 := Vector.ofFn fun i => (l[i.val]?).getD 0

/-- The part with a descriptor at the head of the SQ. -/
def queued (l : List Dword) : State := started.updSq 0 1 fun q => { q with tail := 1, entries := [⟨0, dwords l⟩] }

/-- The part with a chain entry held. -/
def chained (l : List Dword) : State :=
  started.updChan 2 fun n => { n with chain := some { next := 0x3000, head := 1, running := 0x2FC0, ahead := [(0x3000, dwords l)] } }

/-- The entry of `queued`. -/
def taken (l : List Dword) : Taken := ⟨dwords l, 1, false⟩

/-- The part with channel 2 at an instruction of a script. -/
def scripted (l : List Dword) : State :=
  base.updChan 2 fun n => { n with state := .running, mode := .script, script := { n.script with running := true, base := 0x4000, a := n.script.a.put 1 0x5000, k := n.script.k.put 1 5, blocks := [(0x4000, dwordBytes (l ++ List.replicate (64 - l.length) 0))] } }

/-- A step from the state answers a next state. -/
def goesOn (s : State) : Bool := match step s with | .next _ => true | _ => false

/-- The command answers a next state. -/
def runsOn (i : Instr) (s : State) : Bool := match exec i s with | .next _ => true | _ => false

/-- The command ends in a fault. -/
def stops (i : Instr) (s : State) : Bool := match exec i s with | .fault _ => true | _ => false

/-- Both host links up, with Bus Master Enable. -/
def linked (s : State) : State :=
  { s with hp0 := { s.hp0 with linkUp := true, cfg := s.hp0.cfg.put 1 6 }, hp1 := { s.hp1 with linkUp := true, cfg := s.hp1.cfg.put 1 6 } }

/-- The part with every page open. -/
def opened : State :=
  let o (v : PortView) : PortView := { v with openUntil := some 0x200000000 }; let k (k : PageCtl) : PageCtl := ((k.updView .hp0 o).updView .hp1 o).updView .house o; ((linked bound).updCtl .device k).updCtl (.tenant 0) k

/-- The part with the admin queues, the CQ at its last entry. -/
def admin : State :=
  (base.updCq 0 0 fun _ => { state := .active, base := 0x1000, log2 := 4, phase := true, tail := 15, head := 14 }).updSq 0 0 fun q => { q with state := .active, base := 0x2000, log2 := 4 }

/-- An instruction. -/
def insn (l : List Dword) : Insn := insnOf (dwordBytes (l ++ [0, 0, 0, 0]))

/-- The same part at instruction 4095. -/
def atEnd (l : List Dword) : State := (scripted l).updScript 2 fun p => { p with pc := 4095, base := p.base - 65520 }

/-- The part at an instruction with a prop pool of four, of which prop 3 is held. -/
def propped (l : List Dword) (n : BitVec 16) : State :=
  { scripted l with props := { base.props with basePage := 5, sizeLog2 := 10, count := n, held := [⟨3, 0, 2⟩] } }

/-- The part with channel 2 running. -/
def running (f : Chan → Chan) : State := (linked bound).updChan 2 fun n => f { n with state := .running }

/-- The transfer of 64 bytes from host memory to Wing SRAM. -/
def unit8 : Xfer := descXfer (dwords [1, 7, 0x100, 0x20000000, 0x200, 0, 0x40, 0x10001, 1, 0, 0, 1]) (0, 0)

/-- A read in flight. -/
def asked : ReadReq := { addr := 0x2000000000000100, len := 4, taken := [], tag := some 0, got := none }

/-- The same part with a template of one middle and one outer count. -/
def templated (l : List Dword) : State := (scripted l).updChan 2 fun n => { n with regs := n.regs.put 16 (Staged.both 0x10001) }

/-- A register write. -/
def wr (via : Via) (page : Page) (off : BitVec 18) (eight : Bool) (data : Word) : RegWrite := ⟨via, page, off, eight, data, false⟩

/-- What the map says of the register of a write. -/
def specOf (a : RegWrite) (s : State) : RegSpec := (((s.arrival a.via).regAt a.via a.page a.off).map fun x => x.2).getD {}

/-- The same part, its pages frozen by a configuration mismatch. -/
def frozen : State :=
  (opened.updCtl .device fun c => { c with frozen := true }).updCtl (.tenant 0) fun c => { c with frozen := true }

/-- The same part with an armed strobe. -/
def armedAt (t : Tick) : State := opened.updCtl .device fun c => { c with armed := some ⟨t, 3⟩ }

/-- The same part before its designation. -/
def early : State := { opened with devState := .houseOnly, prot := { opened.prot with designated := false } }

/-- The same part with props held by tenants 0 and 1. -/
def pooled : State :=
  { opened with props := { opened.props with basePage := 5, sizeLog2 := 10, count := 4, held := [⟨3, 0, 2⟩, ⟨1, 1, 5⟩] }, prot := { opened.prot with map := { records := opened.prot.map.records.upd 0 fun r => { r with propQuota := 2 } } } }

/-- The same part with places for the admin queues. -/
def adminOff : State := (opened.setTenReg 0 0x100 0x4000).setTenReg 0 0x108 0x5000

/-- The same part with the admin queues on. -/
def adminOn : State := opened.setTenReg 0 0x110 0x80000044

/-- Channel 2 in SHADOW mode, with a shadow set of n elements. -/
def shadowed (n : Word) : State :=
  opened.updChan 2 fun c => { c with mode := .shadow, regs := (((c.regs.put 0x18 (Staged.both 5)).put 0x19 (Staged.both 0x100)).put 0x1A (Staged.both (0x1000100000000 + n))) }

/-- The same part with the low half of 0x50 held. -/
def halved : State :=
  opened.updCtl .device fun c => c.updView .house fun v => { v with heldLow := some ⟨0x50, 5⟩ }

/-- The part with two entries in the SQ. -/
def b1 : State := opened.updSq 0 1 fun q => { q with tail := 3, head := 1 }

/-- The part with its SQ in host memory. -/
def hosted (own : Bool) : State :=
  (opened.updChan 2 fun n => { n with state := .armed }).updSq 0 1 fun q => { q with base := 0x2000000000002000, tail := 3, head := 2, prefetch := 2, phase := own }

/-- The part with a fetch of channel 2 in flight. -/
def fetching (k : FetchFor) : State :=
  (linked bound).updChan 2 fun n => { n with state := .armed, fetch := some (0x2000000000003000, k), chain := some { next := 0x2000000000003000, head := 1, running := 0x2FC0, ahead := [] } }

/-- Act 0 with a cue and an offset. -/
def curtained : State := (acting.setDevReg 0x418 0x403).setDevReg 0x400 0

/-- Act 0 running, its period due, and channel 2 armed for it. -/
def period (f : Chan → Chan) : State :=
  let s : State := { curtained with acts := curtained.acts.upd 0 fun a => { a with running := true, nextStart := 0xFFFFF000, nextIndex := 7 } }; s.updChan 2 fun n => f { n with state := .armed, mode := .queue, sq := 1, actEn := true, actSel := 0, armedWork := some (taken [5, 0x30007]) }

/-- Channel 2 paced at 5 units in 9 cycles. -/
def rated (b : Nat) (x : Option Xfer) (acc : BitVec 48) : State :=
  base.updChan 2 fun n => { n with state := .running, mode := .queue, paceSrc := 3, rateBank := b, xfer := x, rateAcc := acc, regs := (n.regs.put 5 (Staged.both 5)).put 6 (Staged.both 9) }

/-- Channel 2 paced at an instant. -/
def timed (t : Tick) : State := (rated 0 (some unit8) 4).updChan 2 fun n => { n with paceSrc := 5, paceTime := t }

/-- Channel 2 past its curtain. -/
def late (f : Chan → Chan) : State :=
  bound.updChan 2 fun n => f { n with state := .running, mode := .queue, sq := 1, curtain := some 5 }

/-- Channel 2 with an armed shadow set. -/
def setsOf (f : Chan → Chan) : State :=
  base.updChan 2 fun n => f { n with state := .running, mode := .shadow, regs := ((((n.regs.put 0x18 (Staged.both 5)).put 0x19 (Staged.both 0x100)).put 0x1A (Staged.both 0x200)).put 0x1B (Staged.both 0x40)).put 0xA (Staged.both 1) }

/-- Channel 2 with a MOVE from host memory begun. -/
def moving : State :=
  after (.move 2) (linked (queued [0x101, 7, 0x100, 0x20000000, 0x200, 0, 0x03000040, 0x10001, 8, 0, 0, 8]))

/-- The same, admitted, with its read in flight. -/
def reading : State := after (.beat 0) (after (.admission 0) moving)

/-- Bytes that differ. -/
def bytes512 : List Byte := (List.range 512).map fun i => BitVec.ofNat 8 (3 * i + 1)

/-- The same with its data read. -/
def writing : State := after (.readDataReturn 2 .good bytes512 .clean) reading

/-- Channel 2 running with the host links up. -/
def running2 (f : Chan → Chan) : State := (linked bound).updChan 2 fun n => f { n with state := .running }

/-- A channel that waits on a cue that one channel signals. -/
def waitOn (c : ChanId) (q : CueId) (owner : Option ChanId) (t : Option (BitVec 12)) (s : State) : State :=
  (s.updChan c fun n => { n with state := .waiting, mode := .script, script := { n.script with running := true, base := 0x4000, pc := 9 }, wait := some ⟨.cue q 3 false t, 5, 3 + c.toNat, none⟩ }).updCue q fun _ => { count := 0, allocated := true, owner := owner }

/-- The part with a long command of the House. -/
def longs (op : Dword) (l : List (Nat × Dword)) : State :=
  { base with long := [{ ref := { src := .house, tag := 7, irq := false, addressed := none }, order := 3, dw := (packet .house ((0, op) :: l)).dw, started := 5, body := [] }] }

/-- The part with a record for the House, and a register write held. -/
def records : State :=
  base.updHouse fun h => { h with outbound := [({ status := 0, sqId := 0xFF, covered := 1, tag := 3, head := 0, dw2 := 5, dw3 := 6 }, [])], writes := [⟨0x60, 5, false⟩] }

/-- The part with windows for HP0. -/
def windowed : State :=
  let s := linked withDram; { s with prot := { s.prot with map := { s.prot.map with hostWin0 := { sramFirst := 0, sramLast := 15, sramRead := true, sramWrite := true, dramFirst := 0, dramLast := 0xFF, dramRead := true, dramWrite := true } } } }

/-- A whole write over HP0. -/
def barWrite (off : BitVec 60) (n : Nat) : BarAccess := ⟨.hp0, off, true, bytes512.take n, List.replicate n true, n, false, .clean⟩

/-- A burst on the local bus. -/
def lbBurst (w : Bool) (n : Nat) : LbBurst :=
  { chan := 2, write := w, addr := 0x4000000000000000, bytes := if w then bytes512.take 16 else [], len := 16, done := n, got := if w then [] else bytes512.take n, since := 5 }

/-- A start that goes well. -/
def inputs : StartupInput := ⟨true, 5, true, true, true, true, 3, 3, 0⟩

/-- Strobe 1 due. -/
def strobed (w : Word) : State := (base.setDevReg 0x148 w).setDevReg 0x188 0xFFFFFF00

/-- Captures enabled on pins 0 and 1. -/
def capturing : State :=
  ((base.setDevReg 0x1C0 0x0000000700000007).setDevReg 0x800 0x0000000800000008).updPin 0 fun q => { q with seen := false }

/-- Pin 3 with a function. -/
def pinned (f : Word) (g : Pin → Pin) : State := (base.setDevReg 0x818 f).updPin 3 g

/-- The part with one converter link. -/
def linkOn (i : Nat) (st : LinkState) (k : BitVec 3) (sub1 : Bool) : State :=
  let s := ((base.setDevReg 0x1840 0x1000000).setDevReg (0x1800 + 8 * i) (if sub1 then 0xC000F91AA else 0xC000F9101)).updConv i fun l => { l with state := st, step := k, ilasLeft := 4 }; { s with tb := { s.tb with devclkPresent := true }, conv := { s.conv with laneLocked := 0xFF } }

/-- The part with TDM port 0 in a state. -/
def tdmOn (w : Word) (st : LinkState) (f : Nat) (ls : Option Tick) : State :=
  let s := ((tdmReady.setDevReg 0x1C80 0xC0001).setDevReg 0x1C88 0x1C0007).setDevReg 0x1C08 w; { s with tdm := s.tdm.upd 0 fun p => { p with state := st, start := 0xF0000000, frame := f, lastStart := ls } }

/-- The part at rest, with idle descent on. -/
def idle : State :=
  let s := base.setDevReg 0xB80 0xC; { s with power := { s.power with entered := 5, quietSince := some 10 } }

/-- A command of the House. -/
def ref0 : CmdRef := { src := .house, tag := 7, irq := false, addressed := none }

/-- The part with the rotating test on. -/
def rotating (w : Word) : State :=
  let s := base.setDevReg 0xA10 (w <<< 32); { s with health := { s.health with rotSince := 0xFFFFFF0000000000 } }

/-- The part with the trace port on and one record. -/
def exporting : State :=
  after (.traceMark (wr .house .device 0xBD0 false 9)) ((((((base.setDevReg 0x940 10).setDevReg 0x948 10).setDevReg 0x950 10).setDevReg 0x958 10).setDevReg 0xBC0 0xFFFFFF1F))

/-- The hypotheses of StepIdleTicks are met. -/
theorem witness_StepIdleTicks :
    base.pending = [] ∧
    base.tb.refclkPresent = true ∧
    base.tb.pllLock = true ∧
    State.reset.pending = [] ∧
    State.reset.tb.refclkPresent = false :=
  by decide +kernel

/-- The hypotheses of StepKeepsInv are met. -/
theorem witness_StepKeepsInv :
    base.mem.wf = true ∧
    goesOn { base with pending := [.idcode] } = true :=
  by decide +kernel

/-- The hypotheses of OnlyMalformedFaults are met. -/
theorem witness_OnlyMalformedFaults :
    stops (.inServiceFault { unit := 14 }) base = true ∧
    stops (.wake 48 true) base = true :=
  by decide +kernel

/-- The hypotheses of FailedAndUnassignedCommandsAnswer are met. -/
theorem witness_FailedAndUnassignedCommandsAnswer :
    base.mayTake (house [(0, 0x7F), (5, 1)]) = true ∧
    ((base.cmdOf (house [(0, 0x7F), (5, 1)])).judge specEcho (checksEcho (base.cmdOf (house [(0, 0x7F), (5, 1)])) (base.takeOff (house [(0, 0x7F), (5, 1)]))) (base.takeOff (house [(0, 0x7F), (5, 1)]))).isSome = true ∧
    (base.cmdOf (house [(0, 0x7F), (5, 1)])).opcode.toNat = specEcho.opcode ∧
    State.reset.mayTake (house [(0, 0x7F)]) = false ∧
    (base.cmdOf (house [(0, 0x06)])).opcode.toNat ≠ specEcho.opcode :=
  by decide +kernel

/-- The hypotheses of CompletionsReachTheSender are met. -/
theorem witness_CompletionsReachTheSender :
    (base.house.waiting = [] ∧ base.house.used + 16 + (pad16 (List.replicate 4080 0)).length ≤ 4096) ∧
    ((admin.cq 0 0).state = .active ∧ (admin.cq 0 0).held = [] ∧ (admin.cq 0 0).full = false ∧ (admin.sq 0 0).faultDue = none) ∧
    admin.mem.wf = true ∧
    (admin.cq 0 0).tail.toNat < ringSize (admin.cq 0 0).log2 ∧
    (tagOf ((admin.cq 0 0).place 0) = 0 ∧ admin.checkAccess 0 ((admin.cq 0 0).place 0) 16 true = none) :=
  by decide +kernel

/-- The hypotheses of GeneralCommands are met. -/
theorem witness_GeneralCommands :
    Serves specIdentify checksIdentify (house [(0, 0x01)]) (base) ∧
    Serves specGetState checksGetState (house [(0, 0x02)]) (base) ∧
    Serves specSetFeature checksSetFeature (foreign 0x03 0 [(2, 1), (3, 0x41)]) (base) ∧
    Serves specSetFeature checksSetFeature (foreign 0x03 0 [(2, 2), (3, 1)]) (base) ∧
    Serves specGetFeature checksGetFeature (foreign 0x04 0 [(2, 1)]) (base) ∧
    Serves specEcho checksEcho (house [(0, 0x7F), (2, 0xFFFFFFFF), (3, 5)]) (base) :=
  ⟨servesOf (by decide +kernel),
    servesOf (by decide +kernel),
    servesOf (by decide +kernel),
    servesOf (by decide +kernel),
    servesOf (by decide +kernel),
    servesOf (by decide +kernel)⟩

/-- The hypotheses of QueueCommands are met. -/
theorem witness_QueueCommands :
    Serves specCreateCq checksCreateCq (foreign 0x12 1 [(2, 0x1000), (4, 0x704)]) (base) ∧
    Serves specCreateSq checksCreateSq (foreign 0x10 1 [(2, 0x2000), (4, 0x30104)]) (withCq) ∧
    Serves specDeleteSq checksDeleteSq (foreign 0x11 1 []) (withSq) ∧
    Serves specDeleteCq checksDeleteCq (foreign 0x13 1 []) (withCq) :=
  ⟨servesOf (by decide +kernel),
    servesOf (by decide +kernel),
    servesOf (by decide +kernel),
    servesOf (by decide +kernel)⟩

/-- The hypotheses of ChannelBinding are met. -/
theorem witness_ChannelBinding :
    Serves specBindChannel checksBindChannel (foreign 0x18 7 [(2, 0x100)]) (withSq) ∧
    Serves specBindChannel checksBindChannel (foreign 0x18 0 [(2, 2)]) (base) ∧
    Serves specUnbindChannel checksUnbindChannel (foreign 0x19 2 []) (bound) ∧
    Serves specChannelConfig checksChannelConfig (foreign 0x1A 2 [(2, 0x3F), (3, 0x0507F3AB), (4, 5), (6, 9), (8, 1), (10, 4), (12, 3)]) (bound) ∧
    Serves specChannelConfig checksChannelConfig (foreign 0x1A 2 [(2, 0x10), (3, 0x00070000)]) (started) :=
  ⟨servesOf (by decide +kernel),
    servesOf (by decide +kernel),
    servesOf (by decide +kernel),
    servesOf (by decide +kernel),
    servesOf (by decide +kernel)⟩

/-- The hypotheses of ChannelControl are met. -/
theorem witness_ChannelControl :
    Serves specChannelStart checksChannelStart (foreign 0x1B 2 []) (bound) ∧
    Serves specChannelStop stopChecks (foreign 0x1C 2 []) (bound) ∧
    Serves specChannelStop stopChecks (foreign 0x1C 2 []) (started) ∧
    Serves specChannelDrain stopChecks (foreign 0x1D 2 []) (started) ∧
    Serves specChannelReset stopChecks (foreign 0x1E 2 []) (started) ∧
    Serves specChannelStatus checksChannelStatus (foreign 0x1F 2 []) (started) :=
  ⟨servesOf (by decide +kernel),
    servesOf (by decide +kernel),
    servesOf (by decide +kernel),
    servesOf (by decide +kernel),
    servesOf (by decide +kernel),
    servesOf (by decide +kernel)⟩

/-- The hypotheses of CueAndActCommands are met. -/
theorem witness_CueAndActCommands :
    Serves specCueAlloc checksCueAlloc (foreign 0x20 0 [(2, 63), (3, 0x0101), (4, 2)]) (base) ∧
    Serves specCueAlloc checksCueAlloc (foreign 0x20 0 [(2, 0x10000)]) (base) ∧
    Serves specCueFree checksCueFree (foreign 0x21 0 [(2, 0)]) (withCue) ∧
    Serves specCueSet checksCueSet (foreign 0x22 0 [(2, 5), (3, 0), (4, 0xFFFF)]) (base) ∧
    Serves specCueSet checksCueSet (foreign 0x22 0 [(2, 0), (3, 1), (4, 0xFFFF)]) (withCue) ∧
    Serves specCueSet checksCueSet (foreign 0x22 0 [(2, 0), (3, 2), (4, 10)]) (withCue) ∧
    Serves specPropPoolConfig checksPropPoolConfig (house [(0, 0x24), (2, 0x80001), (3, 16)]) (base) ∧
    Serves specActConfig checksActConfig (house [(0, 0x28), (2, 15), (4, 3), (7, 1), (8, 7), (10, 0x400)]) (base) ∧
    Serves specActStart checksActStart (house [(0, 0x29), (2, 0x8001)]) (acting) ∧
    Serves specActStop checksActStop (house [(0, 0x2A), (2, 0x8003)]) (playing) :=
  ⟨servesOf (by decide +kernel),
    servesOf (by decide +kernel),
    servesOf (by decide +kernel),
    servesOf (by decide +kernel),
    servesOf (by decide +kernel),
    servesOf (by decide +kernel),
    servesOf (by decide +kernel),
    servesOf (by decide +kernel),
    servesOf (by decide +kernel),
    servesOf (by decide +kernel)⟩

/-- The hypotheses of LinkAndPinCommands are met. -/
theorem witness_LinkAndPinCommands :
    Serves specStreamConfig checksStreamConfig (house [(0, 0x30), (2, 0x30005), (4, 0x40045), (6, 0xAB)]) (base) ∧
    Serves specLinkUp checksLinkUp (house [(0, 0x31), (2, 8), (3, 100)]) (tdmReady) ∧
    Serves specLinkDown checksLinkDown (house [(0, 0x32), (2, 8)]) (base) ∧
    Serves specPinAssign checksPinAssign (foreign 0x38 0 [(2, 1), (4, 0x01)]) (base) ∧
    Serves specPinAssign checksPinAssign (foreign 0x38 0 [(2, 1), (4, 0x02)]) (base) :=
  ⟨servesOf (by decide +kernel),
    servesOf (by decide +kernel),
    servesOf (by decide +kernel),
    servesOf (by decide +kernel),
    servesOf (by decide +kernel)⟩

/-- The hypotheses of CountersignOrder are met. -/
theorem witness_CountersignOrder :
    Serves specProtectCountersign checksProtectCountersign (house [(0, 0x41), (2, 5), (3, 6)]) (base) ∧
    Serves specProtectCountersign checksProtectCountersign (house [(0, 0x41), (2, 5), (3, 6)]) (holding proposal) ∧
    Serves specProtectCountersign checksProtectCountersign (house [(0, 0x41), (2, 5), (3, 6)]) (holding { proposal with byHouse := true }) ∧
    Serves specProtectCountersign checksProtectCountersign (house [(0, 0x41), (2, 5), (3, 6)]) (holding { proposal with expiry := 0xFFFFFFF }) ∧
    Serves specProtectCountersign checksProtectCountersign (house [(0, 0x41), (2, 5), (3, 6)]) (holding { proposal with nonce := 7 }) ∧
    Serves specProtectCountersign checksProtectCountersign (house [(0, 0x41), (2, 5), (3, 6)]) (holding { proposal with digest := 7 }) ∧
    Serves specProtectCountersign checksProtectCountersign (house [(0, 0x41), (2, 5), (3, 6)]) (holding { proposal with patch := true, patchSet := 3 }) ∧
    Serves specProtectCountersign checksProtectCountersign (house [(0, 0x41), (2, 5), (3, 6)]) (blocked) :=
  ⟨servesOf (by decide +kernel),
    servesOf (by decide +kernel),
    servesOf (by decide +kernel),
    servesOf (by decide +kernel),
    servesOf (by decide +kernel),
    servesOf (by decide +kernel),
    servesOf (by decide +kernel),
    servesOf (by decide +kernel)⟩

/-- The hypotheses of WithdrawEndsTheProposal are met. -/
theorem witness_WithdrawEndsTheProposal :
    Serves specProtectWithdraw checksProtectWithdraw (house [(0, 0x42), (2, 5)]) (base) ∧
    Serves specProtectWithdraw checksProtectWithdraw (house [(0, 0x42), (2, 5)]) (holding proposal) ∧
    Serves specProtectWithdraw checksProtectWithdraw (house [(0, 0x42), (2, 5)]) (holding { proposal with nonce := 7 }) ∧
    Serves specProtectWithdraw checksProtectWithdraw (house [(0, 0x42), (2, 5)]) (holding { proposal with expiry := 0xFFFFFFF }) :=
  ⟨servesOf (by decide +kernel),
    servesOf (by decide +kernel),
    servesOf (by decide +kernel),
    servesOf (by decide +kernel)⟩

/-- The hypotheses of ProposeAndRead are met. -/
theorem witness_ProposeAndRead :
    Serves specProtectPropose checksProtectPropose ({ house [(0, 0x40), (4, 256)] with body := ⟨.good, mapBody⟩ }) (base) ∧
    Serves specProtectPropose checksProtectPropose (house [(0, 0x40), (4, 256)]) (base) ∧
    Serves specProtectPropose checksProtectPropose ({ house [(0, 0x40), (4, 256)] with body := ⟨.good, 2 :: mapBody.tail⟩ }) (base) ∧
    Serves specProtectRead checksProtectRead (house [(0, 0x43), (5, 4), (6, 64)]) (base) ∧
    Serves specProtectRead checksProtectRead (house [(0, 0x43), (4, 1), (6, 64)]) (holding { proposal with expiry := 0x200000000 }) :=
  ⟨servesOf (by decide +kernel),
    servesOf (by decide +kernel),
    servesOf (by decide +kernel),
    servesOf (by decide +kernel),
    servesOf (by decide +kernel)⟩

/-- The hypotheses of MapOnlyByCountersign are met. -/
theorem witness_MapOnlyByCountersign :
    specEcho.opcode ≠ 0x41 ∧
    runsOn (.echo (house [(0, 0x7F)])) base = true :=
  by decide +kernel

/-- The hypotheses of PowerAndTestCommands are met. -/
theorem witness_PowerAndTestCommands :
    Serves specPowerState checksPowerState (house [(0, 0x48), (2, 3)]) (base) ∧
    Serves specRunBist checksRunBist (house [(0, 0x58), (2, 0xD01)]) (base) ∧
    Serves specBistResult checksBistResult (house [(0, 0x59), (2, 0xD01)]) (base) ∧
    Serves specRunBist checksRunBist (house [(0, 0x58), (2, 0x10000)]) (houseOnly) :=
  ⟨servesOf (by decide +kernel),
    servesOf (by decide +kernel),
    servesOf (by decide +kernel),
    servesOf (by decide +kernel)⟩

/-- The hypotheses of MemoryCommands are met. -/
theorem witness_MemoryCommands :
    Serves specMemLogRead checksMemLogRead (house [(0, 0x50), (6, 112)]) (base) ∧
    Serves specRetirePage checksRetirePage (house [(0, 0x51), (2, 0x40000)]) (base) ∧
    Serves specMarkChip checksMarkChip (house [(0, 0x52), (2, 0x100)]) (withDram) ∧
    Serves specScrubConfig checksScrubConfig (house [(0, 0x53), (2, 60), (3, 9)]) (base) ∧
    Serves specScrubNow checksScrubNow (house [(0, 0x54), (4, 64)]) (base) ∧
    Serves specRetirePage checksRetirePage (house [(0, 0x51), (2, 0x1000), (3, 0x10000000)]) (withDram) ∧
    Serves specMarkChip checksMarkChip (house [(0, 0x52), (2, 0x10000)]) ({ withDram with devState := .houseOnly }) :=
  ⟨servesOf (by decide +kernel),
    servesOf (by decide +kernel),
    servesOf (by decide +kernel),
    servesOf (by decide +kernel),
    servesOf (by decide +kernel),
    servesOf (by decide +kernel),
    servesOf (by decide +kernel)⟩

/-- The hypotheses of TimeAndTraceCommands are met. -/
theorem witness_TimeAndTraceCommands :
    Serves specTimeSet checksTimeSet (house [(0, 0x68), (4, 5)]) (base) ∧
    Serves specTimeSet checksTimeSet (house [(0, 0x68), (2, 1), (4, 5)]) (base) ∧
    Serves specTimeAdjust checksTimeAdjust (house [(0, 0x69), (2, 3), (3, 9), (4, 100), (6, 7)]) (base) ∧
    Serves specTimeCapture checksTimeCapture (house [(0, 0x6A), (4, 1)]) (base) ∧
    Serves specTraceConfig checksTraceConfig (house [(0, 0x60), (4, 0xFF00), (5, 1)]) (base) ∧
    Serves specTraceRead checksTraceRead (house [(0, 0x61), (6, 223)]) (base) :=
  ⟨servesOf (by decide +kernel),
    servesOf (by decide +kernel),
    servesOf (by decide +kernel),
    servesOf (by decide +kernel),
    servesOf (by decide +kernel),
    servesOf (by decide +kernel)⟩

/-- The hypotheses of UpgradeCommands are met. -/
theorem witness_UpgradeCommands :
    Serves specPatchStage checksPatchStage (house [(0, 0x70), (2, 1), (4, 16)]) (base) ∧
    Serves specPatchActivate checksPatchActivate (house [(0, 0x71)]) (base) ∧
    Serves specPatchList checksPatchList (house [(0, 0x72)]) (base) ∧
    Serves specConfigSnapshot checksConfigSnapshot (house [(0, 0x78), (2, 1), (3, 5)]) (base) ∧
    Serves specConfigRestore checksConfigRestore (house [(0, 0x79)]) (houseOnly) ∧
    Serves specAbortCommand checksAbortCommand (house [(0, 0x7E), (2, 5)]) (base) :=
  ⟨servesOf (by decide +kernel),
    servesOf (by decide +kernel),
    servesOf (by decide +kernel),
    servesOf (by decide +kernel),
    servesOf (by decide +kernel),
    servesOf (by decide +kernel)⟩

/-- The hypotheses of TakenDescriptors are met. -/
theorem witness_TakenDescriptors :
    Takes (queued [1, 7, 0x100, 0, 0x200, 0, 0x40, 0x10001]) 2 .move (taken [1, 7, 0x100, 0, 0x200, 0, 0x40, 0x10001]) ∧
    Takes (queued [1, 7, 0x100, 0, 0x200, 0, 0x21000040, 0x10001]) 2 .move (taken [1, 7, 0x100, 0, 0x200, 0, 0x21000040, 0x10001]) ∧
    Takes (queued [4, 7, 0x100, 0, 0x200, 0, 0x40, 0x10001]) 2 .fill (taken [4, 7, 0x100, 0, 0x200, 0, 0x40, 0x10001]) ∧
    Takes (queued [3, 7, 0x4000, 0]) 2 .runScript (taken [3, 7, 0x4000, 0]) ∧
    Takes (queued [5, 0x30007]) 2 .cue (taken [5, 0x30007]) ∧
    Takes (queued [6, 7, 0x3000, 0]) 2 .callChain (taken [6, 7, 0x3000, 0]) ∧
    Takes ((queued [1, 7, 0x100, 0, 0x200, 0, 0x40, 0x10001]).updChan 2 fun n => { n with actEn := true, atBoundary := true }) 2 .move (taken [1, 7, 0x100, 0, 0x200, 0, 0x40, 0x10001]) ∧
    Takes (chained [7, 7, 0x3800, 0]) 2 .link ⟨dwords [7, 7, 0x3800, 0], 1, true⟩ ∧
    Takes (chained [7, 7, 0x3000, 0]) 2 .link ⟨dwords [7, 7, 0x3000, 0], 1, true⟩ ∧
    (descXfer (dwords [1, 7, 0x100, 0, 0x200, 0, 0x21000040, 0x10001]) (0, 0)).srcInd.isSome = true ∧
    (descXfer (dwords [1, 7, 0x100, 0, 0x200, 0, 0x40, 0x10001]) (0, 0)).srcInd.isSome = false ∧
    ((queued [1, 7, 0x100, 0, 0x200, 0, 0x40, 0x10001]).chan 2).curtain = none ∧
    (taken [1, 7, 0x100, 0, 0x200, 0, 0x40, 0x10001]).inChain = false ∧
    (queued [1, 7, 0x100, 0, 0x200, 0, 0x40, 0x10001]).nextEntry 2 = some (taken [1, 7, 0x100, 0, 0x200, 0, 0x40, 0x10001]) ∧
    (chained [7, 7, 0x3800, 0]).nextEntry 2 = some ⟨dwords [7, 7, 0x3800, 0], 1, true⟩ :=
  ⟨takesOf (by decide +kernel),
    takesOf (by decide +kernel),
    takesOf (by decide +kernel),
    takesOf (by decide +kernel),
    takesOf (by decide +kernel),
    takesOf (by decide +kernel),
    takesOf (by decide +kernel),
    takesOf (by decide +kernel),
    takesOf (by decide +kernel),
    by decide +kernel⟩

/-- The hypotheses of ScriptRegisters are met. -/
theorem witness_ScriptRegisters :
    Executes (scripted [0]) 2 .nop (insn [0]) {} ∧
    Executes (scripted [0x108, 5]) 2 .seta (insn [0x108, 5]) {} ∧
    Executes (scripted [0x109, 5]) 2 .adda (insn [0x109, 5]) {} ∧
    Executes (scripted [0xD09]) 2 .adda (insn [0xD09]) {} ∧
    Executes (scripted [0x10A, 5]) 2 .setk (insn [0x10A, 5]) {} ∧
    Executes (scripted [0x10B, 0xFFFFFFF0]) 2 .addk (insn [0x10B, 0xFFFFFFF0]) {} ∧
    Executes (atEnd [0x10B, 5]) 2 .addk (insn [0x10B, 5]) {} :=
  ⟨executesOf (by decide +kernel),
    executesOf (by decide +kernel),
    executesOf (by decide +kernel),
    executesOf (by decide +kernel),
    executesOf (by decide +kernel),
    executesOf (by decide +kernel),
    executesOf (by decide +kernel)⟩

/-- The hypotheses of ScriptLoopAndBranch are met. -/
theorem witness_ScriptLoopAndBranch :
    Executes (scripted [0x110, 3]) 2 .loop (insn [0x110, 3]) {} ∧
    Executes (scripted [0x210, 3]) 2 .loop (insn [0x210, 3]) {} ∧
    Executes (atEnd [0x210, 3]) 2 .loop (insn [0x210, 3]) {} ∧
    Executes (scripted [0x11, 3]) 2 .branch (insn [0x11, 3]) {} ∧
    Executes (scripted [0x1111, 3]) 2 .branch (insn [0x1111, 3]) {} ∧
    Executes (scripted [0x30311, 3]) 2 .branch (insn [0x30311, 3]) { cue := some 3 } ∧
    Executes (scripted [0x411, 3, 0xFFFF0001]) 2 .branch (insn [0x411, 3, 0xFFFF0001]) { ep := some 1 } ∧
    Executes (atEnd [0x1111, 3]) 2 .branch (insn [0x1111, 3]) {} ∧
    (((scripted []).chan 2).script.k.look 1 = 5 ∧ ((scripted []).chan 2).script.k.look 2 = 0) :=
  ⟨executesOf (by decide +kernel),
    executesOf (by decide +kernel),
    executesOf (by decide +kernel),
    executesOf (by decide +kernel),
    executesOf (by decide +kernel),
    executesOf (by decide +kernel),
    executesOf (by decide +kernel),
    executesOf (by decide +kernel),
    by decide +kernel⟩

/-- The hypotheses of ScriptWaits are met. -/
theorem witness_ScriptWaits :
    Executes (scripted [0xC0318, 9, 7, 1]) 2 .waitCue (insn [0xC0318, 9, 7, 1]) { cue := some 3 } ∧
    Executes (scripted [0x19, 5]) 2 .waitt (insn [0x19, 5]) {} ∧
    Executes (scripted [0x419, 0, 0xFFFF]) 2 .waitt (insn [0x419, 0, 0xFFFF]) {} ∧
    Executes ((scripted [0x219]).updChan 2 fun n => { n with actEn := true }) 2 .waitt (insn [0x219]) {} ∧
    (due 5 base.coreEdge = true ∧ ((scripted [0]).chan 2).script.pc ≠ 4095) ∧
    ((let s := (scripted [0]).updChan 2 fun n => { n with wait := some ⟨.cue 3 1 false (some 9), 5, 3, some 0xFFFFFFF⟩ }; s.curtainDue 2 = false) ∧ due 0xFFFFFFF base.coreEdge = true ∧ due 0xFFFFFFFFFF base.coreEdge = false) ∧
    (future ((0xFFFF : BitVec 32) ++ (0 : BitVec 32)) base.coreEdge = true ∧ future 5 base.coreEdge = false) :=
  ⟨executesOf (by decide +kernel),
    executesOf (by decide +kernel),
    executesOf (by decide +kernel),
    executesOf (by decide +kernel),
    by decide +kernel⟩

/-- The hypotheses of ScriptSignals are met. -/
theorem witness_ScriptSignals :
    Executes (scripted [0x31A, 1]) 2 .signal (insn [0x31A, 1]) { cue := some 3 } ∧
    Executes (scripted [0x1B]) 2 .fence (insn [0x1B]) {} ∧
    Executes (scripted [0x29, 5]) 2 .irq (insn [0x29, 5]) {} ∧
    Executes (scripted [0x112]) 2 .endScript (insn [0x112]) {} ∧
    Executes (scripted [0x13, 5]) 2 .halt (insn [0x13, 5]) {} ∧
    ((scripted []).chan 2).mode = .script ∧
    ((((scripted [0x1B]).updChan 2 fun n => { n with after := some (.signal 3 5) }).chan 2).after = some (.signal 3 5) ∧ (((scripted [0x1B]).updChan 2 fun n => { n with after := some (.signal 3 5) }).chan 2).proofOn = false ∧ (((scripted [0x1B]).updChan 2 fun n => { n with after := some (.signal 3 5) }).chan 2).writes = [] ∧ (((scripted [0x1B]).updChan 2 fun n => { n with after := some (.signal 3 5) }).chan 2).unproven = [] ∧ (((scripted [0x1B]).updChan 2 fun n => { n with after := some (.signal 3 5) }).chan 2).script.pc ≠ 4095) ∧
    ((((scripted [0x1B]).updChan 2 fun n => { n with after := some (.endScript true false) }).chan 2).stopPending = false ∧ (((scripted [0x1B]).updChan 2 fun n => { n with after := some (.endScript true false) }).chan 2).drainPending = false) ∧
    base.actOnce 2 = none ∧
    (((scripted [0x1B]).updChan 2 fun n => { n with after := some .fence }).actOnce 2).isSome = true :=
  ⟨executesOf (by decide +kernel),
    executesOf (by decide +kernel),
    executesOf (by decide +kernel),
    executesOf (by decide +kernel),
    executesOf (by decide +kernel),
    by decide +kernel⟩

/-- The hypotheses of ScriptProps are met. -/
theorem witness_ScriptProps :
    Executes (propped [0x120] 4) 2 .take (insn [0x120]) {} ∧
    Executes (propped [0x520, 9, 7] 0) 2 .take (insn [0x520, 9, 7]) {} ∧
    Executes ((propped [0x121] 4).updScript 2 fun p => { p with a := p.a.put 1 0x5C00 }) 2 .give (insn [0x121]) {} ∧
    ((propped [] 4).freeProp = some 0 ∧ (propped [] 4).propsLeft 0 = true) ∧
    (propped [] 0).freeProp = none ∧
    ((propped [] 4).propAt 0 0x5C00 = some 3 ∧ (propped [] 4).propBusy 2 0x5C00 = false) :=
  ⟨executesOf (by decide +kernel),
    executesOf (by decide +kernel),
    executesOf (by decide +kernel),
    by decide +kernel⟩

/-- The hypotheses of ScriptUnits are met. -/
theorem witness_ScriptUnits :
    Executes (scripted [0x801, 4]) 2 .move (insn [0x801, 4]) {} ∧
    Executes (templated [0x802, 4]) 2 .move3 (insn [0x802, 4]) { offsets := (move3Xfer ((templated []).chan 2).script (insn [0x802, 4]) (((templated []).chan 2).template (insn [0x802, 4])) ((scripted []).profile 0 0)).scriptOffsets (insn [0x802, 4]) .move3 } ∧
    Executes (scripted [0x128]) 2 .stamp (insn [0x128]) {} ∧
    (scriptMoveXfer ((scripted []).chan 2).script (insn [0x801, 4]) ((scripted []).profile 0 0)).scriptOffsets (insn [0x801, 4]) .move = [] ∧
    (((scripted []).chan 2).paceSrc ≠ 3 ∧ ((scripted []).chan 2).paceSrc ≠ 5) :=
  ⟨executesOf (by decide +kernel),
    executesOf (by decide +kernel),
    executesOf (by decide +kernel),
    by decide +kernel⟩

/-- The hypotheses of RegisterWritesLand are met. -/
theorem witness_RegisterWritesLand :
    Lands (wr .house .device 0xbd0 false 5) opened (.dev 0xbd0) (specOf (wr .house .device 0xbd0 false 5) opened) ∧
    Lands (wr .hp0 (.tenant 0) 0x80 false 0x50003) opened (.ten 0 0x80) (specOf (wr .hp0 (.tenant 0) 0x80 false 0x50003) opened) ∧
    Lands (wr .hp0 (.tenant 0) 0x2250 true 0) opened (.chan 0 2 0x50) (specOf (wr .hp0 (.tenant 0) 0x2250 true 0) opened) ∧
    Lands (wr .house .device 0x1858 true 7) opened (.dev 0x1858) (specOf (wr .house .device 0x1858 true 7) opened) ∧
    ((rowsOf (wr .hp0 (.tenant 0) 0x80 false 0x50003)).filter fun r => r.1).length = 2 ∧
    (∀ r ∈ [(wr .house .device 0x48 false 0x20003), wr .house .device 0x60 true 5, wr .hp0 (.tenant 0) 0x110 false 0, wr .hp0 (.tenant 0) 0x2250 true 1, wr .house .device 0x20028 false 1], ((rowsOf r).filter fun r => r.1).length = if viewOf r.off = 0 then 2 else 3) :=
  ⟨landsOf (by decide +kernel),
    landsOf (by decide +kernel),
    landsOf (by decide +kernel),
    landsOf (by decide +kernel),
    by decide +kernel⟩

/-- The hypotheses of UnlockAndErrorLog are met. -/
theorem witness_UnlockAndErrorLog :
    Lands (wr .house .device 0x40 false 0xC0DA) opened (.dev 0x40) (specOf (wr .house .device 0x40 false 0xC0DA) opened) ∧
    Lands (wr .house .device 0x40 false 0xC0DB) opened (.dev 0x40) (specOf (wr .house .device 0x40 false 0xC0DB) opened) ∧
    Lands (wr .hp0 (.tenant 0) 0x40 false 0xC0DA) opened (.ten 0 0x40) (specOf (wr .hp0 (.tenant 0) 0x40 false 0xC0DA) opened) ∧
    Lands (wr .house .device 0x28 true 0xFFFFFFFF) opened (.dev 0x28) (specOf (wr .house .device 0x28 true 0xFFFFFFFF) opened) ∧
    Lands (wr .hp0 (.tenant 0) 0x28 true 0x2100) opened (.ten 0 0x28) (specOf (wr .hp0 (.tenant 0) 0x28 true 0x2100) opened) ∧
    Lands (wr .house .device 0x60 true 5) frozen (.dev 0x60) (specOf (wr .house .device 0x60 true 5) frozen) ∧
    Lands (wr .hp0 (.tenant 0) 0x60 true 5) opened (.ten 0 0x60) (specOf (wr .hp0 (.tenant 0) 0x60 true 5) opened) ∧
    (frozen.ctl .device).frozen = true ∧
    ((opened.ctl .device).view .house).openUntil = some 0x200000000 ∧
    future opened.now (0x200000000 + 383) = false ∧
    future (((opened.updCtl .device fun c => c.updView .house fun v => { v with openUntil := some 5 }).now)) (5 + 383) = true :=
  ⟨landsOf (by decide +kernel),
    landsOf (by decide +kernel),
    landsOf (by decide +kernel),
    landsOf (by decide +kernel),
    landsOf (by decide +kernel),
    landsOf (by decide +kernel),
    landsOf (by decide +kernel),
    by decide +kernel⟩

/-- The hypotheses of StrobesAndDiscard are met. -/
theorem witness_StrobesAndDiscard :
    Lands (wr .house .device 0x48 false 0x40) opened (.dev 0x48) (specOf (wr .house .device 0x48 false 0x40) opened) ∧
    Lands (wr .house .device 0x48 false 0x20) opened (.dev 0x48) (specOf (wr .house .device 0x48 false 0x20) opened) ∧
    Lands (wr .house .device 0x48 false 0x20040) opened (.dev 0x48) (specOf (wr .house .device 0x48 false 0x20040) opened) ∧
    Lands (wr .house .device 0x48 false 0x10003) opened (.dev 0x48) (specOf (wr .house .device 0x48 false 0x10003) opened) ∧
    Lands (wr .hp0 (.tenant 0) 0x48 false 0x1) opened (.ten 0 0x48) (specOf (wr .hp0 (.tenant 0) 0x48 false 0x1) opened) ∧
    Lands (wr .hp0 (.tenant 0) 0x48 false 0x20003) opened (.ten 0 0x48) (specOf (wr .hp0 (.tenant 0) 0x48 false 0x20003) opened) ∧
    Lands (wr .house .device 0x48 false 0x40) frozen (.dev 0x48) (specOf (wr .house .device 0x48 false 0x40) frozen) ∧
    Lands (wr .house .device 0x48 false 0x20003) (armedAt 5) (.dev 0x48) (specOf (wr .house .device 0x48 false 0x20003) (armedAt 5)) ∧
    Lands (wr .house .device 0x48 false 0x10003) (opened.setDevReg 0x50 0x100000000000) (.dev 0x48) (specOf (wr .house .device 0x48 false 0x10003) (opened.setDevReg 0x50 0x100000000000)) ∧
    (((armedAt 5).ctl .device).armed = some ⟨5, 3⟩ ∧ (armedAt 5).power.state = .lit) ∧
    future 5 (armedAt 5).coreEdge = false ∧
    future 0xFFFFFFFFFF (armedAt 0xFFFFFFFFFF).coreEdge = true ∧
    (futureBy 64 0x100000000000 opened.now = true ∧ futureBy 64 0 opened.now = false) :=
  ⟨landsOf (by decide +kernel),
    landsOf (by decide +kernel),
    landsOf (by decide +kernel),
    landsOf (by decide +kernel),
    landsOf (by decide +kernel),
    landsOf (by decide +kernel),
    landsOf (by decide +kernel),
    landsOf (by decide +kernel),
    landsOf (by decide +kernel),
    by decide +kernel⟩

/-- The hypotheses of TenantWrites are met. -/
theorem witness_TenantWrites :
    Lands (wr .hp0 (.tenant 0) 0x78 false 3) pooled (.ten 0 0x78) (specOf (wr .hp0 (.tenant 0) 0x78 false 3) pooled) ∧
    Lands (wr .hp0 (.tenant 0) 0x78 false 1) pooled (.ten 0 0x78) (specOf (wr .hp0 (.tenant 0) 0x78 false 1) pooled) ∧
    Lands (wr .hp0 (.tenant 0) 0x80 false 0xFFFF0003) opened (.ten 0 0x80) (specOf (wr .hp0 (.tenant 0) 0x80 false 0xFFFF0003) opened) ∧
    Lands (wr .hp0 (.tenant 0) 0x110 false 0x80000044) adminOff (.ten 0 0x110) (specOf (wr .hp0 (.tenant 0) 0x110 false 0x80000044) adminOff) ∧
    Lands (wr .hp0 (.tenant 0) 0x110 false 0x8000001F) opened (.ten 0 0x110) (specOf (wr .hp0 (.tenant 0) 0x110 false 0x8000001F) opened) ∧
    Lands (wr .hp0 (.tenant 0) 0x110 false 0x44) adminOn (.ten 0 0x110) (specOf (wr .hp0 (.tenant 0) 0x110 false 0x44) adminOn) ∧
    Lands (wr .hp0 (.tenant 0) 0x98 true 0x5A5A5A5A5A5A5A5A) opened (.ten 0 0x98) (specOf (wr .hp0 (.tenant 0) 0x98 true 0x5A5A5A5A5A5A5A5A) opened) ∧
    adminOff.adminReady 0 (adminOff.written (wr .hp0 (.tenant 0) 0x110 false 0x80000044) (.ten 0 0x110) (specOf (wr .hp0 (.tenant 0) 0x110 false 0x80000044) adminOff)).new = true ∧
    opened.adminReady 0 0x8000001F = false ∧
    bitAt (adminOn.tenReg 0 0x110) 31 = true :=
  ⟨landsOf (by decide +kernel),
    landsOf (by decide +kernel),
    landsOf (by decide +kernel),
    landsOf (by decide +kernel),
    landsOf (by decide +kernel),
    landsOf (by decide +kernel),
    landsOf (by decide +kernel),
    by decide +kernel⟩

/-- The hypotheses of DeviceWrites are met. -/
theorem witness_DeviceWrites :
    Lands (wr .house .device 0xbd0 false 5) opened (.dev 0xbd0) (specOf (wr .house .device 0xbd0 false 5) opened) ∧
    Lands (wr .house .device 0x140 true 1) opened (.dev 0x140) (specOf (wr .house .device 0x140 true 1) opened) ∧
    Lands (wr .house .device 0x178 true 1) opened (.dev 0x178) (specOf (wr .house .device 0x178 true 1) opened) ∧
    Lands (wr .house .device 0x140 true 1) (opened.setDevReg 0x180 0x100000001000) (.dev 0x140) (specOf (wr .house .device 0x140 true 1) (opened.setDevReg 0x180 0x100000001000)) ∧
    Lands (wr .house .device 0x130 true 0) opened (.dev 0x130) (specOf (wr .house .device 0x130 true 0) opened) ∧
    Lands (wr .house .device 0x130 true 38401) opened (.dev 0x130) (specOf (wr .house .device 0x130 true 38401) opened) ∧
    Lands (wr .house .device 0xb08 false 0x3F) early (.dev 0xb08) (specOf (wr .house .device 0xb08 false 0x3F) early) ∧
    Lands (wr .house .device 0x6c false 0x5E7A) opened (.dev 0x68) (specOf (wr .house .device 0x6c false 0x5E7A) opened) ∧
    Lands (wr .house .device 0x6c false 0x5E7B) opened (.dev 0x68) (specOf (wr .house .device 0x6c false 0x5E7B) opened) ∧
    futureBy 64 (opened.devReg 0x180) opened.now = false ∧
    (early.reaches .house = true ∧ (early.touched .house).barsShut = false ∧ ((early.arrival .house).regAt .house .device 0x68).map (fun x => x.1) = some (.dev 0x68)) ∧
    ((early.arrival .house).devState = .houseOnly ∧ (early.arrival .house).prot.designated = false) :=
  ⟨landsOf (by decide +kernel),
    landsOf (by decide +kernel),
    landsOf (by decide +kernel),
    landsOf (by decide +kernel),
    landsOf (by decide +kernel),
    landsOf (by decide +kernel),
    landsOf (by decide +kernel),
    landsOf (by decide +kernel),
    landsOf (by decide +kernel),
    by decide +kernel⟩

/-- The hypotheses of ShadowApertureSysref are met. -/
theorem witness_ShadowApertureSysref :
    Lands (wr .hp0 (.tenant 0) 0x2250 true 1) (shadowed 5) (.chan 0 2 0x50) (specOf (wr .hp0 (.tenant 0) 0x2250 true 1) (shadowed 5)) ∧
    Lands (wr .hp0 (.tenant 0) 0x2250 true 1) (shadowed 0) (.chan 0 2 0x50) (specOf (wr .hp0 (.tenant 0) 0x2250 true 1) (shadowed 0)) ∧
    Lands (wr .hp0 (.tenant 0) 0x2250 true 0) (shadowed 0) (.chan 0 2 0x50) (specOf (wr .hp0 (.tenant 0) 0x2250 true 0) (shadowed 0)) ∧
    Lands (wr .house .device 0x90 true 0x1234500000) opened (.dev 0x90) (specOf (wr .house .device 0x90 true 0x1234500000) opened) ∧
    Lands (wr .house .device 0x98 true 0xFFFFFFFFFF) opened (.dev 0x98) (specOf (wr .house .device 0x98 true 0xFFFFFFFFFF) opened) ∧
    Lands (wr .house .device 0x1850 true 0) opened (.dev 0x1850) (specOf (wr .house .device 0x1850 true 0) opened) ∧
    Lands (wr .house .device 0x1850 true 1) (opened.setDevReg 0x1858 0x100000001000) (.dev 0x1850) (specOf (wr .house .device 0x1850 true 1) (opened.setDevReg 0x1858 0x100000001000)) ∧
    ((shadowed 5).setError 2 = none ∧ ((shadowed 5).chan 2).mode = .shadow) ∧
    ((shadowed 0).setError 2).isSome = true :=
  ⟨landsOf (by decide +kernel),
    landsOf (by decide +kernel),
    landsOf (by decide +kernel),
    landsOf (by decide +kernel),
    landsOf (by decide +kernel),
    landsOf (by decide +kernel),
    landsOf (by decide +kernel),
    by decide +kernel⟩

/-- The hypotheses of ViewsAndHalves are met. -/
theorem witness_ViewsAndHalves :
    Lands (wr .house .device 0x10bc0 true 0xFF00) opened (.dev 0xbc0) (specOf (wr .house .device 0x10bc0 true 0xFF00) opened) ∧
    Lands (wr .house .device 0x20bc0 true 0xFF00) opened (.dev 0xbc0) (specOf (wr .house .device 0x20bc0 true 0xFF00) opened) ∧
    Lands (wr .house .device 0x30bc0 true 0xFF00) opened (.dev 0xbc0) (specOf (wr .house .device 0x30bc0 true 0xFF00) opened) ∧
    ((opened.touched .house).barsShut = false ∧ ((opened.arrival .house).regAt .house .device 0x50).map (fun x => x.2.wide) = some true ∧ (((opened.arrival .house).ctl .device).view .house).heldLow = none) ∧
    ((((halved.arrival .house).ctl .device).view .house).heldLow = some ⟨0x50, 5⟩ ∧ ((halved.arrival .house).regAt .house .device 0x54).map (fun x => x.1) = some (.dev 0x50)) ∧
    ((let v := (halved.arrival .house).setHeld .device .house none; let w := v.writeOf .house .device 0x54 (.dev 0x50) (specOf (wr .house .device 0x54 false 7) halved) [⟨0, 5, bits 31 0⟩, ⟨0, 0x700000000, bits 63 32⟩]; v.judgeWrite w = .takes ∧ w.guardHit = false ∧ w.onceHit = false)) :=
  ⟨landsOf (by decide +kernel),
    landsOf (by decide +kernel),
    landsOf (by decide +kernel),
    by decide +kernel⟩

/-- The hypotheses of RegisterReads are met. -/
theorem witness_RegisterReads :
    (opened.reaches .hp0 = true ∧ (opened.touched .hp0).barsShut = false) ∧
    (sizeOk 0x1858 false = true ∧ ((opened.touched .hp0).regAt .hp0 (.tenant 0) 0x70).map (fun x => x.1) = some (.ten 0 0x70)) ∧
    ((opened.touched .house).regAt .house .device 0x1858).map (fun x => (x.1, x.2.wide)) = some (.dev 0x1858, true) ∧
    ((opened.touched .house).regAt .house .device 0x1898).map (fun x => x.1) = some (.dev 0x1898) ∧
    ((pooled.touched .hp0).propsLeft 0 = true ∧ (pooled.touched .hp0).freeProp = some 0) ∧
    (opened.touched .hp0).freeProp = none ∧
    ((opened.arrival .hp0).freeProp = none ∧ (pooled.arrival .hp0).propRivals = [] ∧ ((opened.arrival .hp0).regAt .hp0 (.tenant 0) 0x70).map (fun x => x.1) = some (.ten 0 0x70)) :=
  by decide +kernel

/-- The hypotheses of DoorbellsAndFetches are met. -/
theorem witness_DoorbellsAndFetches :
    (opened.reaches .hp0 = true ∧ (opened.touched .hp0).barsShut = false) ∧
    (((opened.arrival .hp0).bellAt .hp0 (.tenant 0) (bellOffset false 1)).isSome = true ∧ (opened.arrival .hp0).clocksOff = false ∧ (opened.sq 0 1).state = .active) ∧
    (ringSize (opened.sq 0 1).log2 = 16 ∧ ringDiff (opened.sq 0 1).log2 15 (opened.sq 0 1).tail ≤ 15 - ringDiff (opened.sq 0 1).log2 (opened.sq 0 1).tail (opened.sq 0 1).head) ∧
    (((opened.arrival .hp0).bellAt .hp0 (.tenant 0) (bellOffset true 1)).isSome = true ∧ (opened.cq 0 1).state = .active ∧ (opened.cq 0 1).held = []) ∧
    ((∀ c ∈ opened.chansOnCq 0 1, (opened.chan c).state ≠ .stopped) ∧ ringDiff (opened.cq 0 1).log2 0 (opened.cq 0 1).head ≤ 0) ∧
    ((hosted true).entryReadable 0 1 2 = some true ∧ ((hosted true).sq 0 1).retryOf 2 = none) ∧
    ((hosted false).entryReadable 0 1 2 = some true ∧ ((hosted false).sq 0 1).retryOf 2 = none) ∧
    ((hosted true).checkAccess 0 0x2000000000002080 64 false = none ∧ hostOf 0x2000000000002080 = some .hp0 ∧ ((hosted true).port .hp0).usable = true) ∧
    (((hosted true).sq 0 1).slot = some 2 ∧ ((hosted true).sq 0 1).markAt 2 ≠ ((hosted false).sq 0 1).markAt 2) ∧
    (((fetching .chain).chan 2).fetch = some (0x2000000000003000, .chain) ∧ ((fetching .chain).chan 2).retries = [] ∧ ((fetching .chain).port .hp0).usable = true) ∧
    (((fetching .block).chan 2).fetch = some (0x2000000000003000, .block) ∧ (List.replicate 256 (0 : Byte)).length = 256) :=
  by decide +kernel

/-- The hypotheses of PeriodsAndPacing are met. -/
theorem witness_PeriodsAndPacing :
    (((period id).acts.look 0).running = true ∧ (period id).tb.timeValid = true ∧ due 0xFFFFF000 (period id).actEdge = true) ∧
    (base.acts.look 0).running = false ∧
    (bitAt (((period id).chan 2).reg 0x40) 1 = false ∧ ((period id).chan 2).state = .armed) ∧
    (((period id).chan 2).holdsScene = true ∧ (period id).actMay 2 = true ∧ (period id).dataOn = true) ∧
    (((period id).chan 2).armedWork = some (taken [5, 0x30007]) ∧ descFlag (taken [5, 0x30007]).dw fCurtain = false ∧ ((period id).chan 2).curtain = none) ∧
    ((period fun n => { n with state := .running, periodPending := some 5 }).chan 2).state ≠ .armed ∧
    ((period id).updCtl .device fun c => { c with frozen := true }).actMay 2 = false ∧
    ({ period id with power := { base.power with state := .dark } } : State).called = some 0 ∧
    base.called = none ∧
    ((timed 0xFFFFFFF).paces 2 5 = true ∧ ((timed 0xFFFFFFF).chan 2).timeOpen = false ∧ ((timed 0xFFFFFFF).chan 2).xfer.isSome = true ∧ due 0xFFFFFFF (timed 0xFFFFFFF).coreEdge = true) ∧
    due 0xFFFFFFFFFF (timed 0xFFFFFFFFFF).coreEdge = false ∧
    ((rated 3 none 1).paces 2 3 = true ∧ ((rated 3 none 1).chan 2).rateOk = true ∧ bitAt (((rated 3 none 1).chan 2).reg 0x40) 0 = false ∧ ((rated 3 none 1).chan 2).wantsCredit = false) ∧
    ((rated 3 none 4).paces 2 3 = true ∧ ((rated 3 none 4).chan 2).rateOk = true ∧ bitAt (((rated 3 none 4).chan 2).reg 0x40) 0 = false ∧ ((rated 3 none 4).chan 2).wantsCredit = false) ∧
    ((rated 255 none 5).paces 2 3 = true ∧ ((rated 255 none 5).chan 2).rateOk = true ∧ bitAt (((rated 255 none 5).chan 2).reg 0x40) 0 = false ∧ ((rated 255 none 5).chan 2).wantsCredit = false) ∧
    ((rated 3 (some unit8) 4).paces 2 3 = true ∧ ((rated 3 (some unit8) 4).chan 2).rateOk = true ∧ bitAt (((rated 3 (some unit8) 4).chan 2).reg 0x40) 0 = false ∧ ((rated 3 (some unit8) 4).chan 2).wantsCredit = true) :=
  by decide +kernel

/-- The hypotheses of CurtainsStopsSwaps are met. -/
theorem witness_CurtainsStopsSwaps :
    ((late fun n => { n with work := some (taken [1]), after := some .startUnit }).curtainDue 2 = true ∧ (late fun n => { n with work := some (taken [1]), after := some .startUnit }).frozenUnit 2 = false ∧ ((late fun n => { n with work := some (taken [1]), after := some .startUnit }).chan 2).haltDue = false ∧ ((late fun n => { n with work := some (taken [1]), after := some .startUnit }).chan 2).live = true) ∧
    ((late fun n => { n with work := some (taken [1]), xfer := some unit8 }).curtainDue 2 = true ∧ (late fun n => { n with work := some (taken [1]), xfer := some unit8 }).frozenUnit 2 = false ∧ ((late fun n => { n with work := some (taken [1]), xfer := some unit8 }).chan 2).haltDue = false ∧ ((late fun n => { n with work := some (taken [1]), xfer := some unit8 }).chan 2).live = true) ∧
    ((late id).curtainDue 2 = true ∧ (late id).frozenUnit 2 = false ∧ ((late id).chan 2).haltDue = false ∧ ((late id).chan 2).live = true) ∧
    unit8.done = false ∧
    bound.curtainDue 2 = false ∧
    (((bound.updChan 2 fun n => { n with state := .running, stopPending := true }).chan 2).live = true ∧ ((bound.updChan 2 fun n => { n with state := .running, stopPending := true }).chan 2).stopping = true ∧ ((bound.updChan 2 fun n => { n with state := .running, stopPending := true }).chan 2).haltDue = false ∧ (bound.updChan 2 fun n => { n with state := .running, stopPending := true }).shFrozen ((bound.updChan 2 fun n => { n with state := .running, stopPending := true }).chan 2).effective = false ∧ (bound.updChan 2 fun n => { n with state := .running, stopPending := true }).stopQueue 2 = true) ∧
    ((((scripted [0]).updChan 2 fun n => { n with stopPending := true }).chan 2).live = true ∧ (((scripted [0]).updChan 2 fun n => { n with stopPending := true }).chan 2).stopping = true ∧ (((scripted [0]).updChan 2 fun n => { n with stopPending := true }).chan 2).haltDue = false ∧ ((scripted [0]).updChan 2 fun n => { n with stopPending := true }).shFrozen (((scripted [0]).updChan 2 fun n => { n with stopPending := true }).chan 2).effective = false ∧ ((scripted [0]).updChan 2 fun n => { n with stopPending := true }).stopScript 2 = true) ∧
    (((setsOf fun n => { n with stopPending := true }).chan 2).live = true ∧ ((setsOf fun n => { n with stopPending := true }).chan 2).stopping = true ∧ ((setsOf fun n => { n with stopPending := true }).chan 2).haltDue = false ∧ (setsOf fun n => { n with stopPending := true }).shFrozen ((setsOf fun n => { n with stopPending := true }).chan 2).effective = false ∧ ((setsOf fun n => { n with stopPending := true }).chan 2).stopShadow = true) ∧
    (setsOf fun n => { n with shadow := { n.shadow with ended := true } }).swapDue 2 = true ∧
    bitAt (((setsOf id).chan 2).reg 0x50) 0 = true :=
  by decide +kernel

/-- The hypotheses of StagehandCommands are met. -/
theorem witness_StagehandCommands :
    (moving.dataOn = true ∧ moving.shFrozen 0 = false) ∧
    (bestOf (moving.betterCandidate 0) (allChans.filter fun c => moving.candidate 0 c && moving.qualifies [] c) = some 2 ∧ (moving.sh.look 0).occupants = []) ∧
    ((moving.chan 2).xfer.map fun x => x.profile) = some 0 ∧
    ((reading.chan 2).reads.length = 1 ∧ (reading.chan 2).xfer.isSome = true ∧ (reading.chan 2).retries = []) ∧
    ((reading.chan 2).reads.map fun r => (hostOf r.addr, r.got.isNone, r.len)) = [(some .hp0, true, bytes512.length)] ∧
    ((writing.beatWinner 0).map fun x => x.1) = some 2 ∧
    (moving.beatWinner 0 = none ∧ (moving.sh.look 0).writing = none) :=
  by decide +kernel

/-- The hypotheses of WritesRetriesProofs are met. -/
theorem witness_WritesRetriesProofs :
    ((let s := running2 fun n => { n with writes := [{ addr := 0x2000000000000100, bytes := [1, 2, 3, 4] }] }; (s.chan 2).retries = [] ∧ s.nextLanding 2 .oldest = some { addr := 0x2000000000000100, bytes := [1, 2, 3, 4] } ∧ (s.nextLanding 2 (.target .hp0)).isSome = true)) ∧
    ({ linked bound with cplWrites := [{ tenant := 0, cq := 1, addr := 0x3000000000000100, bytes := [], vectors := [], chan := some 2 }] } : State).cplLanding .oldest = some { tenant := 0, cq := 1, addr := 0x3000000000000100, bytes := [], vectors := [], chan := some 2 } ∧
    (hostOf 0x2000000000000100 = some .hp0 ∧ ((linked bound).port .hp0).usable = true ∧ ((linked bound).port .hp1).usable = true) ∧
    hostOf 0x3000000000000100 = some .hp1 ∧
    ((let s := (running2 fun n => { n with writes := [{ addr := 0x3000000000000100, bytes := [1] }], retries := [⟨1, 5, true, .timeout, 1, 0x3000000000000100⟩] }).retryCpls 2; s.dueRetry 2 = some ⟨1, 5, true, .timeout, 1, 0x3000000000000100⟩ ∧ s.dataOn = true ∧ s.curtainDue 2 = false ∧ s.frozenUnit 2 = false ∧ ((s.chan 2).writes.find? fun w => w.addr == 0x3000000000000100).isSome = true ∧ s.checkAccess 0 0x3000000000000100 1 true = none) ∧ rWrite = 1) ∧
    (((linked bound).retryCpls 2).dueRetry 2 = none ∧ (linked bound).cplWrites = []) ∧
    ((running2 fun n => { n with proofOn := true, proving := [(.hp1, 0x3000000000000100), (.hp0, 0x2000000000000100)], after := some .fence }).chan 2).verified = none ∧
    (due (5 + 57600000) base.coreEdge = true ∧ due (0xFFFFFFFF + 57600000) base.coreEdge = false) :=
  by decide +kernel

/-- The hypotheses of SupervisionEvents are met. -/
theorem witness_SupervisionEvents :
    (base.dataOn = true ∧ (waitOn 2 3 (some 2) (some 9) base).deadVictims.map (fun x => x.1) = [2]) ∧
    base.deadVictims = [] ∧
    ((base.ctl .device).disturbed = false ∧ base.clocksOff = false) ∧
    ((base.updCtl .device fun c => { c with disturbed := true }).ctl .device).disturbed = true ∧
    (bitAt ((base.setDevReg 0x60 0x300000005).cfgRef .device) 32 = true ∧ bitAt ((base.setDevReg 0x60 0x300000005).cfgRef .device) 33 = true) ∧
    base.devState ≠ .faulted ∧
    (future (holding { proposal with expiry := 0xFFFFFFF }).now 0xFFFFFFF = true ∧ (holding { proposal with expiry := 0xFFFFFFF }).waitsBefore 0xFFFFFFF = false) ∧
    future (holding { proposal with expiry := 0x200000000 }).now 0x200000000 = false ∧
    ((longs 0x70 []).longOf .house).length = 1 ∧
    ((longs 0x78 []).longOf .house).length = 1 ∧
    ((longs 0x79 []).longOf .house).length = 1 ∧
    ((longs 0x50 []).longOf .house).length = 1 ∧
    ((longs 0x61 []).longOf .house).length = 1 ∧
    ({ base with devState := .faulted } : State).devState = .faulted ∧
    (holding { proposal with expiry := 0xFFFFFFF }).prot.held = some { proposal with expiry := 0xFFFFFFF } :=
  by decide +kernel

/-- The hypotheses of HouseFrames are met. -/
theorem witness_HouseFrames :
    State.reset.boot.step.toNat < 3 ∧
    base.house.writes = [] ∧
    (records.house.writes = [⟨0x60, 5, false⟩] ∧ records.house.outbound.length = 1) ∧
    3 ≤ base.boot.step.toNat ∧
    (bytes512.take 64).length = 64 + impliedBody (Vector.ofFn fun i => dwordAt (bytes512.take 64) i.val) ∧
    (base.house.used + 64 ≤ 4096 ∧ base.house.outbound = []) ∧
    4096 < (base.updHouse fun h => { h with inbound := List.replicate 64 ⟨Vector.replicate 16 0, [], 0⟩ }).house.used + 64 ∧
    (base.house.heldBytes + 4 ≤ 256 ∧ base.readWidth 0x18 = 4 ∧ (base.regRead .house .device 0x18 false).err = false) :=
  by decide +kernel

/-- The hypotheses of HostMemoryAccesses are met. -/
theorem witness_HostMemoryAccesses :
    ((windowed.port .hp0).linkUp = true ∧ (windowed.wakeBy 0).barsShut = false ∧ windowed.devState ≠ .faulted) ∧
    ((barWrite 0xFFFC 4).enables = List.replicate 4 true ∧ (windowed.hostWin .hp0).sramOk 0xFFFC 0xFFFF true = true ∧ windowed.mem.wf = true) ∧
    (2 ^ 23 < 0x7FFFFC + 8 ∧ (windowed.hostWin .hp0).sramOk 0x20000 0x20000 true = false) ∧
    (windowed.wakeBy 0).checkRange (BitVec.ofNat 64 (2 ^ 60 + (windowed.aperture .hp0 + 0x100))) 4 = none ∧
    ((windowed.hostWin .hp0).dramOk (windowed.aperture .hp0 + 0x100) (windowed.aperture .hp0 + 0x103) true = true ∧ (windowed.port .hp0).postedRoom 4 = true) ∧
    (windowed.port .hp0).posted = [] ∧
    (windowed.updPort .hp0 fun q => { q with posted := [⟨0x100, [1], [true]⟩] }).hp0.posted = [⟨0x100, [1], [true]⟩] ∧
    ((windowed.wakeBy 0).somePage = true ∧ ((windowed.port .hp0).bar3Dword 0x20).isSome = true) :=
  by decide +kernel

/-- The hypotheses of HostTransactions are met. -/
theorem witness_HostTransactions :
    (((linked base).port .hp0).linkUp = true ∧ ((linked base).port .hp0).aerHeader = none) ∧
    ((linked base).port .hp0).request 5 = none ∧
    ((reading.port .hp0).reads.map fun r => ((reading.port .hp0).request r.tag).isSome) = [true] ∧
    ((reading.port .hp0).reads.map fun r => (r.got.length, r.len, decide (reading.tb.refclkCount < r.sent + (reading.port .hp0).cplTimeout))) = [(0, 512, true)] ∧
    ((({ reading with tb := { reading.tb with refclkCount := 2 ^ 40 } } : State).port .hp0).reads.map fun r => decide (r.sent + (reading.port .hp0).cplTimeout ≤ 2 ^ 40)) = [true] ∧
    ((lbBurst true 0).abandoned = false ∧ (lbBurst true 0).done + (lbBurst true 0).beat < 16) ∧
    ((lbBurst false 15).done + (lbBurst false 15).beat = 16 ∧ (lbBurst false 15).write = false ∧ (lbBurst false 15).beatless = false) ∧
    (base.beatOver (lbBurst true 0) = true ∧ base.beatOver { lbBurst true 0 with since := base.coreEdge } = false) ∧
    due (5 + 384000) base.coreEdge = true ∧
    (bitAt ((base.setDevReg 0x2010 0x10).lbCs (csOf 0x4000000000000000)) 4 = true ∧ bitAt (base.lbCs (csOf 0x4000000000000000)) 4 = false) :=
  by decide +kernel

/-- The hypotheses of ResetsAndStartup are met. -/
theorem witness_ResetsAndStartup :
    (State.reset.boot.step = 1 ∧ State.reset.devState ≠ .faulted ∧ inputs.good = true ∧ inputs.selfCheck = 0) ∧
    (({ base with boot := { base.boot with servingSince := some 5, activeSet := 3 } } : State).runningSet ≠ 0 ∧ base.boot.confirmed = false) ∧
    (due (5 + 384000000000) 0x10000000000 = true ∧ due (5 + 384000000000) base.now = false) ∧
    (∀ c ∈ [(0 : ChanId), 2, 95], (base.chan c).fetch = none ∧ (base.chan c).proving = []) ∧
    ((base.port .hp0).reads = [] ∧ (base.port .hp0).linkUp = false ∧ ((linked base).port .hp1).linkUp = true ∧ (base.port .hp0).perst = false) :=
  by decide +kernel

/-- The hypotheses of TimeEvents are met. -/
theorem witness_TimeEvents :
    ((base.wakeBy 4).tb.lastPps = none ∧ (base.wakeBy 4).tb.atPps = none ∧ (base.wakeBy 4).tb.fineValid = true) ∧
    (450000 : Nat) < 450000 + 100000 ∧
    base.tb.slewLeft = 0 ∧
    ((base.setDevReg 0x130 0x9601).now - (base.setDevReg 0x130 0x9601).ppsDue).toNat < 2 ^ 64 ∧
    (({ base.setDevReg 0x130 0x9601 with tb := { base.tb with time := 0 } } : State).now - ({ base.setDevReg 0x130 0x9601 with tb := { base.tb with time := 0 } } : State).ppsDue).toNat < 17 ∧
    ((strobed 1).strobeTime 1 = some 0xFFFFFF00 ∧ future 0xFFFFFF00 (strobed 1).now = false) ∧
    bitAt ((strobed 1).devReg 0x148) 3 = false ∧
    (((strobed 9).updTb fun b => { b with strobeDue := b.strobeDue.put 1 (some 0xFFFFFF00) }).strobeTime 1 = some 0xFFFFFF00 ∧ bitAt ((strobed 9).devReg 0x148) 3 = true) ∧
    ((capturing.seeEdge 0 8 true).2 && bitAt (capturing.devReg32 0x1C0) 0 && edgeQualifies (field (capturing.devReg32 0x1C0) 2 1) true) = true ∧
    ((base.seeEdge 0 8 true).2 && bitAt (base.devReg32 0x1C0) 0 && edgeQualifies (field (base.devReg32 0x1C0) 2 1) true) = false ∧
    ({ base with tb := { base.tb with atPps := some { value := 5, armedAt := 0, deadline := 7 }, refclkCount := 8 } } : State).tb.atPps = some { value := 5, armedAt := 0, deadline := 7 } :=
  by decide +kernel

/-- The hypotheses of ClockLossAndPulses are met. -/
theorem witness_ClockLossAndPulses :
    (base.tb.refclkPresent = true ∧ base.power.state ≠ .shuttered ∧ base.tb.pllLock = true) ∧
    State.reset.tb.refclkPresent = false ∧
    ((playing.acts.look 0).running = true ∧ (playing.acts.look 1).running = false) ∧
    (due 0xFFFFFFF0 base.now = true ∧ due 0x1FFFFFFF0 base.now = false) ∧
    ((base.updPin 3 fun q => { q with pulseEnd := some 0xFFFFFFF0, queued := 3 }).pins.look 3).pulseEnd = some 0xFFFFFFF0 :=
  by decide +kernel

/-- The hypotheses of PinEvents are met. -/
theorem witness_PinEvents :
    (3 : PinId).toNat < 48 ∧
    ((pinned 3 id).pinFunc 3 = 3 ∧ ((pinned 3 id).pins.look 3).live = true ∧ ((pinned 3 id).pins.look 3).seen ≠ true ∧ base.belowHush = false) ∧
    (({ pinned 3 id with power := { base.power with state := .dark } } : State).belowHush = true ∧ ((pinned 3 id).pins.look 3).heldEdge = none) ∧
    (((pinned 0xC5 id).seeEdge 3 5 true).2 = true ∧ edgeQualifies (field ((pinned 0xC5 id).pinMux 3) 7 6) true = true) ∧
    (((pinned 0xCB id).seeEdge 3 11 true).2 = true ∧ edgeQualifies (field ((pinned 0xCB id).pinMux 3) 7 6) true = true) ∧
    (((pinned 0x45 id).seeEdge 3 5 false).2 && edgeQualifies (field ((pinned 0x45 id).pinMux 3) 7 6) false) = false ∧
    ((base.pins.look 3).parkEnd = none ∧ (base.pins.look 3).settleEnd = none) ∧
    (future 0xFFFFFFF0 base.now = false ∧ future 0x1FFFFFFF0 base.now = true) :=
  by decide +kernel

/-- The hypotheses of ConverterClocks are met. -/
theorem witness_ConverterClocks :
    base.tb.devclkPresent = false ∧
    ((linkOn 0 .up 5 true).tb.devclkPresent = true ∧ field ((linkOn 0 .up 5 true).devReg 0x1840) 41 40 < 2 ∧ (linkOn 0 .up 5 true).conv.sysrefNext = none) ∧
    ((((List.range 8).filter fun i => (linkOn 0 .training 3 true).linkState i != .down && (convParams ((linkOn 0 .training 3 true).convCfg i)).subclass1) = [0]) ∧ ((linkOn 0 .training 3 true).conv1 0).aligned = false) ∧
    2 ≤ field ((base.setDevReg 0x1840 0x20001000000).devReg 0x1840) 41 40 ∧
    (bitAt ((base.setDevReg 0x1850 3).devReg 0x1850) 0 && bitAt ((base.setDevReg 0x1840 0x1000000).devReg 0x1840) 24 && due 0xFFFFFFF0 base.now) = true ∧
    ((∀ i, i < 8 → base.linkState i = .down)) ∧
    ((linkOn 4 .training 1 false).linkState 4 = .training ∧ ((linkOn 4 .training 1 false).conv1 4).step = 1) ∧
    ((linkOn 4 .training 2 false).linkState 4 = .training ∧ ((linkOn 4 .training 2 false).conv1 4).step = 2) ∧
    ((linkOn 4 .training 3 false).linkState 4 = .training ∧ ((linkOn 4 .training 3 false).conv1 4).step = 3) ∧
    ((linkOn 0 .training 2 false).linkState 0 = .training ∧ ((linkOn 0 .training 2 false).conv1 0).step = 2 ∧ (linkOn 0 .training 2 false).lanesLocked 0 = true) ∧
    ((linkOn 0 .training 4 false).conv1 0).step = 4 :=
  by decide +kernel

/-- The hypotheses of ConverterLinksComeAndGo are met. -/
theorem witness_ConverterLinksComeAndGo :
    ((linkOn 0 .training 5 false).linkState 0 = .training ∧ ((linkOn 0 .training 5 false).conv1 0).step = 5 ∧ (linkOn 0 .training 5 false).linkUps 0 = []) ∧
    base.linkState 4 = .down ∧
    (linkOn 4 .up 5 false).linkState 4 = .up ∧
    (convParams ((linkOn 4 .training 2 false).convCfg 4)).subclass1 = false ∧
    base.linkOfLane 0 = none ∧
    ((linkOn 0 .up 5 false).linkOfLane 0 = some 0 ∧ (linkOn 0 .up 5 false).linkState 0 = .up) ∧
    ((linkOn 0 .training 1 false).linkOfLane 0 = some 0 ∧ ((linkOn 0 .training 1 false).conv1 0).step = 1) ∧
    (base.linkUps 8) = [] ∧
    (((longs 0x31 [(2, 8), (3, 1)]).linkUps 8).filter fun x => (longs 0x31 [(2, 8), (3, 1)]).linkTimedOut x).length = 1 :=
  by decide +kernel

/-- The hypotheses of StreamsAndTdm are met. -/
theorem witness_StreamsAndTdm :
    (base.upUnit 0 false = none ∧ base.tdmUnit 0 false = none) ∧
    base.upUnit 0 true = none ∧
    ((tdmOn 0x10008F8008000 .up 5 (some 0xE0000000)).tdmUnit 0 false = some (0, 0) ∧ (tdmOn 0x10008F8008000 .up 5 (some 0xE0000000)).takePoint 1 = true) ∧
    ((let s := tdmOn 0x10008F8008000 .up 5 (some 0xE0000000); bitAt (s.tdm.look 0).given 0 = false ∧ s.framePassed 0 (givePhase (s.tdmFrame 0) (s.tdmGrp 0 0) (s.tdmBitp 0).toNat) = true ∧ lastBit (s.tdmFrame 0) (s.tdmGrp 0 0) < 512)) ∧
    ((tdmOn 0x10008F8008000 .up 5 none).upUnit 0 false = some 4 ∧ (tdmOn 0x10008F8008000 .up 5 none).upUnit 1 true = some 8) ∧
    (((tdmOn 0x10008F8008000 .up 5 none).eps.look 0).cut = none ∧ ((tdmOn 0x10008F8008000 .up 5 none).eps.look 0).fifo = [] ∧ 4 ≤ (tdmOn 0x10008F8008000 .up 5 none).epSize 0) ∧
    (((tdmOn 0x10008F8008000 .up 5 none).eps.look 1).landed < 8 ∧ ((tdmOn 0x10008F8008000 .up 5 none).eps.look 1).deficit = 0) ∧
    (tdmOn 0x10008F8008000 .up 5 none).tdm.look 0 ≠ base.tdm.look 0 ∧
    (bitAt ((tdmOn 0x10008F8008000 .up 5 none).tdmFrame 0) 48 = true ∧ due ((tdmOn 0x10008F8008000 .up 5 none).frameAt 0 5) base.now = true) ∧
    (bitAt ((tdmOn 0x800008000 .up 5 (some 7)).tdmFrame 0) 48 = false ∧ bitAt ((tdmOn 0x800008000 .up 5 (some 7)).tdmFrame 0) 49 = false) ∧
    bitAt ((tdmOn 0x2000800008000 .training 5 none).tdmFrame 0) 49 = true :=
  by decide +kernel

/-- The hypotheses of DescentAndHealth are met. -/
theorem witness_DescentAndHealth :
    bitAt ((base.setDevReg 0xB80 0).devReg 0xB80) 3 = false ∧
    (bitAt (idle.devReg 0xB80) 3 = true ∧ idle.power.target = none ∧ idle.power.state.code < idle.floor ∧ future 10 idle.power.entered = true) ∧
    (idle.mayRest idle.nextRung = true ∧ idle.permits idle.nextRung = true ∧ due (10 + BitVec.ofNat 64 (idle.idleTicks idle.nextRung)) idle.now = true) ∧
    (idle.permitted 1 ≠ .lit ∧ idle.mayRest (idle.permitted 1) = true) ∧
    (idle.permitted 2 ≠ .lit ∧ idle.mayRest (idle.permitted 2) = true) ∧
    idle.exports = false ∧
    base.power.waking = false ∧
    (State.reset.boot.step.toNat < 3 ∧ 3 ≤ base.boot.step.toNat ∧ base.health.thermalArmed = true) ∧
    (base.health.tjValid = false ∧ base.tb.refclkCount < base.health.hourSince + hourPeriods) ∧
    (State.reset.devState = .fill ∧ base.devState ≠ .fill ∧ base.devState ≠ .check ∧ base.conditions &&& ~~~base.health.present = 0) :=
  by decide +kernel

/-- The hypotheses of MemoryCareAndUnits are met. -/
theorem witness_MemoryCareAndUnits :
    (base.belowHush = false ∧ withDram.dram.selfRefresh = false ∧ 64 < withDram.dramCapacity false) ∧
    withDram.dramCapacity false ≤ 0x3FFFFFFF * 64 ∧
    (base.wingAt 0 = some 0 ∧ ¬ wingWords + bankWords ≤ 0) ∧
    base.knownBad 0 64 [] = [] ∧
    (base.guard.scrubNow = none ∧ base.guard.retiring = none ∧ tagOf 0 = 0) ∧
    (((longs 0x54 [(4, 64)]).longRef ref0 0x54).isSome = true ∧ ((longs 0x51 [(2, 0x40000)]).longRef ref0 0x51).isSome = true) ∧
    (withDram.rankPresent false false = true ∧ base.rankPresent true true = false) ∧
    base.guard.unsummarised = [] ∧
    ((rotating 0x101).nextUnit.isSome = true ∧ bitAt ((rotating 0x101).devReg32 0xA14) 0 = true ∧ bitAt ((rotating 0x101).devReg32 0xA14) 1 = false ∧ due ((rotating 0x101).health.rotSince + 38400000000) (rotating 0x101).now = true) ∧
    bitAt ((base.setDevReg 0xA10 0).devReg32 0xA14) 0 = false ∧
    ((13 : UnitId).toNat < 14 ∧ 14 ≤ (14 : UnitId).toNat) ∧
    (base.health.handovers.find? fun j => due (j.start + BitVec.ofNat 64 handoverTicks) base.coreEdge) = none ∧
    (base.health.carried 13).isNone = true ∧
    base.health.handovers = [] ∧
    base.health.tests = [] ∧
    ((({ base with health := { base.health with handovers := [⟨0, 12, false, 5, false, none, false, []⟩] } } : State).health.handovers.find? fun j => due (j.start + BitVec.ofNat 64 handoverTicks) base.coreEdge).isSome) = true ∧
    (({ base with health := { base.health with tests := [⟨1, 3, none, false, none⟩] } } : State).health.tests.find? fun j => j.target == 1 && j.unit == 3).isSome = true :=
  by decide +kernel

/-- The hypotheses of TraceExportAndJtag are met. -/
theorem witness_TraceExportAndJtag :
    base.exports = false ∧
    (exporting.exports = true ∧ exporting.belowHush = false) ∧
    exporting.flushTrace.trace.ring.length ≠ 0 ∧
    (47 : PinId).toNat < 48 :=
  by decide +kernel

/-- The hypotheses of RegisterRowsComplete are met. -/
theorem witness_RegisterRowsComplete :
    ((opened.reaches .hp0 = true ∧ (opened.touched .hp0).barsShut = false)) ∧
    (armedAt 5).strobeDue .device = true ∧
    (early.reaches .house = true ∧ (early.arrival .house).devState = .houseOnly ∧ (early.arrival .house).prot.designated = false) :=
  by decide +kernel

/-- The hypotheses of EventsComplete are met. -/
theorem witness_EventsComplete :
    Executes (scripted [0x13, 5]) 2 .halt (insn [0x13, 5]) {} ∧
    (bestOf (moving.betterCandidate 0) (allChans.filter fun c => moving.candidate 0 c && moving.qualifies (moving.sh.look 0).occupants c) = some 2 ∧ moving.dataOn = true ∧ moving.shFrozen 0 = false) ∧
    ((let s := bound.updChan 2 fun n => { n with state := .running, stopPending := true }; (s.chan 2).live = true ∧ (s.chan 2).stopping = true ∧ (s.chan 2).haltDue = false ∧ s.shFrozen (s.chan 2).effective = false ∧ s.stopQueue 2 = true)) ∧
    ((let s : State := { period id with power := { base.power with state := .dark } }; s.called = some 0 ∧ s.power.waking = false)) ∧
    base.devState ≠ .faulted ∧
    ((let s := holding { proposal with expiry := 0xFFFFFFF }; future s.now 0xFFFFFFF = true ∧ s.waitsBefore 0xFFFFFFF = false)) ∧
    ((let s : State := { base with boot := { base.boot with servingSince := some 5, activeSet := 3 }, tb := { base.tb with time := 0x10000000000 } }; s.runningSet ≠ 0 ∧ s.boot.confirmed = false ∧ due (5 + 384000000000) s.now = true)) ∧
    ((let s : State := { base with power := { base.power with target := some .interval } }; s.permitted 2 ≠ s.power.state ∧ s.mayRest (s.permitted 2) = true ∧ s.permitted 2 ≠ .hush ∧ s.exports = false)) ∧
    ({ base with power := { base.power with waking := true, state := .shuttered } } : State).tb.refclkPresent = true ∧
    ((linkOn 0 .training 2 false).linkState 0 = .training ∧ ((linkOn 0 .training 2 false).conv1 0).step = 2 ∧ (linkOn 0 .training 2 false).lanesLocked 0 = true ∧ ((linkOn 0 .training 4 false).conv1 0).step = 4) ∧
    ((linkOn 0 .up 5 true).tb.devclkPresent = true ∧ field ((linkOn 0 .up 5 true).devReg 0x1840) 41 40 < 2 ∧ field ((base.setDevReg 0x1840 0x20001000000).devReg 0x1840) 41 40 = 2) ∧
    ((linkOn 4 .up 5 false).linkState 4 = .up ∧ 5 * (convParams ((linkOn 4 .up 5 false).convCfg 4)).f + 9 ≤ 9000) ∧
    ((let s := tdmOn 0x2000800008000 .up 5 none; bitAt (s.tdmFrame 0) 48 = false ∧ (s.tdm.look 0).state = .up ∧ bitAt (s.tdmFrame 0) 49 = true)) ∧
    ((strobed 1).strobeTime 1 = some 0xFFFFFF00 ∧ future 0xFFFFFF00 (strobed 1).now = false ∧ bitAt ((strobed 1).devReg 0x148) 3 = false) ∧
    ((capturing.seeEdge 0 8 true).2 && bitAt (capturing.devReg32 0x1C0) 0 && edgeQualifies (field (capturing.devReg32 0x1C0) 2 1) true) = true ∧
    ((let s : State := { pinned 3 id with power := { base.power with state := .dark } }; s.pinFunc 3 = 3 ∧ (s.pins.look 3).live = true ∧ (s.pins.look 3).seen ≠ true)) ∧
    ((let s : State := { pinned 0xCB id with power := { base.power with state := .dark } }; ((s.seeEdge 3 11 true).2 && edgeQualifies (field (s.pinMux 3) 7 6) true) = true ∧ s.power.waking = false)) ∧
    ({ base with health := { base.health with tests := [⟨1, 3, none, false, none⟩], tjValid := true } } : State).health.tests.find? (fun j => j.target == 1 && j.unit == 3) = some ⟨1, 3, none, false, none⟩ ∧
    (due (5 + 57600000) base.coreEdge = true ∧ ((base.updChan 2 fun n => { n with after := some (.reset 5) }).chan 2).after = some (.reset 5)) :=
  ⟨executesOf (by decide +kernel),
    by decide +kernel⟩

/-- The hypotheses of CommandsComplete are met, by the witnesses above. -/
theorem witness_CommandsComplete :
    Serves specIdentify checksIdentify (house [(0, 0x01)]) (base) ∧
    Serves specGetState checksGetState (house [(0, 0x02)]) (base) ∧
    Serves specSetFeature checksSetFeature (foreign 0x03 0 [(2, 1), (3, 0x41)]) (base) ∧
    Serves specGetFeature checksGetFeature (foreign 0x04 0 [(2, 1)]) (base) ∧
    Serves specEcho checksEcho (house [(0, 0x7F), (2, 0xFFFFFFFF), (3, 5)]) (base) ∧
    Serves specAbortCommand checksAbortCommand (house [(0, 0x7E), (2, 5)]) (base) ∧
    Serves specCreateCq checksCreateCq (foreign 0x12 1 [(2, 0x1000), (4, 0x704)]) (base) ∧
    Serves specCreateSq checksCreateSq (foreign 0x10 1 [(2, 0x2000), (4, 0x30104)]) (withCq) ∧
    Serves specDeleteSq checksDeleteSq (foreign 0x11 1 []) (withSq) ∧
    Serves specDeleteCq checksDeleteCq (foreign 0x13 1 []) (withCq) ∧
    Serves specBindChannel checksBindChannel (foreign 0x18 7 [(2, 0x100)]) (withSq) ∧
    Serves specUnbindChannel checksUnbindChannel (foreign 0x19 2 []) (bound) ∧
    Serves specChannelConfig checksChannelConfig (foreign 0x1A 2 [(2, 0x3F), (3, 0x0507F3AB), (4, 5), (6, 9), (8, 1), (10, 4), (12, 3)]) (bound) ∧
    Serves specChannelStart checksChannelStart (foreign 0x1B 2 []) (bound) ∧
    Serves specChannelStop stopChecks (foreign 0x1C 2 []) (bound) ∧
    Serves specChannelDrain stopChecks (foreign 0x1D 2 []) (started) ∧
    Serves specChannelReset stopChecks (foreign 0x1E 2 []) (started) ∧
    Serves specChannelStatus checksChannelStatus (foreign 0x1F 2 []) (started) ∧
    Serves specCueAlloc checksCueAlloc (foreign 0x20 0 [(2, 63), (3, 0x0101), (4, 2)]) (base) ∧
    Serves specCueFree checksCueFree (foreign 0x21 0 [(2, 0)]) (withCue) ∧
    Serves specCueSet checksCueSet (foreign 0x22 0 [(2, 5), (3, 0), (4, 0xFFFF)]) (base) ∧
    Serves specPropPoolConfig checksPropPoolConfig (house [(0, 0x24), (2, 0x80001), (3, 16)]) (base) ∧
    Serves specActConfig checksActConfig (house [(0, 0x28), (2, 15), (4, 3), (7, 1), (8, 7), (10, 0x400)]) (base) ∧
    Serves specActStart checksActStart (house [(0, 0x29), (2, 0x8001)]) (acting) ∧
    Serves specActStop checksActStop (house [(0, 0x2A), (2, 0x8003)]) (playing) ∧
    Serves specStreamConfig checksStreamConfig (house [(0, 0x30), (2, 0x30005), (4, 0x40045), (6, 0xAB)]) (base) ∧
    Serves specLinkUp checksLinkUp (house [(0, 0x31), (2, 8), (3, 100)]) (tdmReady) ∧
    Serves specLinkDown checksLinkDown (house [(0, 0x32), (2, 8)]) (base) ∧
    Serves specPinAssign checksPinAssign (foreign 0x38 0 [(2, 1), (4, 0x01)]) (base) ∧
    Serves specProtectPropose checksProtectPropose ({ house [(0, 0x40), (4, 256)] with body := ⟨.good, mapBody⟩ }) (base) ∧
    Serves specProtectCountersign checksProtectCountersign (house [(0, 0x41), (2, 5), (3, 6)]) (base) ∧
    Serves specProtectWithdraw checksProtectWithdraw (house [(0, 0x42), (2, 5)]) (base) ∧
    Serves specProtectRead checksProtectRead (house [(0, 0x43), (5, 4), (6, 64)]) (base) ∧
    Serves specPowerState checksPowerState (house [(0, 0x48), (2, 3)]) (base) ∧
    Serves specMemLogRead checksMemLogRead (house [(0, 0x50), (6, 112)]) (base) ∧
    Serves specRetirePage checksRetirePage (house [(0, 0x51), (2, 0x40000)]) (base) ∧
    Serves specMarkChip checksMarkChip (house [(0, 0x52), (2, 0x100)]) (withDram) ∧
    Serves specScrubConfig checksScrubConfig (house [(0, 0x53), (2, 60), (3, 9)]) (base) ∧
    Serves specScrubNow checksScrubNow (house [(0, 0x54), (4, 64)]) (base) ∧
    Serves specRunBist checksRunBist (house [(0, 0x58), (2, 0xD01)]) (base) ∧
    Serves specBistResult checksBistResult (house [(0, 0x59), (2, 0xD01)]) (base) ∧
    Serves specTraceConfig checksTraceConfig (house [(0, 0x60), (4, 0xFF00), (5, 1)]) (base) ∧
    Serves specTraceRead checksTraceRead (house [(0, 0x61), (6, 223)]) (base) ∧
    Serves specTimeSet checksTimeSet (house [(0, 0x68), (4, 5)]) (base) ∧
    Serves specTimeAdjust checksTimeAdjust (house [(0, 0x69), (2, 3), (3, 9), (4, 100), (6, 7)]) (base) ∧
    Serves specTimeCapture checksTimeCapture (house [(0, 0x6A), (4, 1)]) (base) ∧
    Serves specPatchStage checksPatchStage (house [(0, 0x70), (2, 1), (4, 16)]) (base) ∧
    Serves specPatchActivate checksPatchActivate (house [(0, 0x71)]) (base) ∧
    Serves specPatchList checksPatchList (house [(0, 0x72)]) (base) ∧
    Serves specConfigSnapshot checksConfigSnapshot (house [(0, 0x78), (2, 1), (3, 5)]) (base) ∧
    Serves specConfigRestore checksConfigRestore (house [(0, 0x79)]) (houseOnly) :=
  ⟨witness_GeneralCommands.1,
    witness_GeneralCommands.2.1,
    witness_GeneralCommands.2.2.1,
    witness_GeneralCommands.2.2.2.2.1,
    witness_GeneralCommands.2.2.2.2.2,
    witness_UpgradeCommands.2.2.2.2.2,
    witness_QueueCommands.1,
    witness_QueueCommands.2.1,
    witness_QueueCommands.2.2.1,
    witness_QueueCommands.2.2.2,
    witness_ChannelBinding.1,
    witness_ChannelBinding.2.2.1,
    witness_ChannelBinding.2.2.2.1,
    witness_ChannelControl.1,
    witness_ChannelControl.2.1,
    witness_ChannelControl.2.2.2.1,
    witness_ChannelControl.2.2.2.2.1,
    witness_ChannelControl.2.2.2.2.2,
    witness_CueAndActCommands.1,
    witness_CueAndActCommands.2.2.1,
    witness_CueAndActCommands.2.2.2.1,
    witness_CueAndActCommands.2.2.2.2.2.2.1,
    witness_CueAndActCommands.2.2.2.2.2.2.2.1,
    witness_CueAndActCommands.2.2.2.2.2.2.2.2.1,
    witness_CueAndActCommands.2.2.2.2.2.2.2.2.2,
    witness_LinkAndPinCommands.1,
    witness_LinkAndPinCommands.2.1,
    witness_LinkAndPinCommands.2.2.1,
    witness_LinkAndPinCommands.2.2.2.1,
    witness_ProposeAndRead.1,
    witness_CountersignOrder.1,
    witness_WithdrawEndsTheProposal.1,
    witness_ProposeAndRead.2.2.2.1,
    witness_PowerAndTestCommands.1,
    witness_MemoryCommands.1,
    witness_MemoryCommands.2.1,
    witness_MemoryCommands.2.2.1,
    witness_MemoryCommands.2.2.2.1,
    witness_MemoryCommands.2.2.2.2.1,
    witness_PowerAndTestCommands.2.1,
    witness_PowerAndTestCommands.2.2.1,
    witness_TimeAndTraceCommands.2.2.2.2.1,
    witness_TimeAndTraceCommands.2.2.2.2.2,
    witness_TimeAndTraceCommands.1,
    witness_TimeAndTraceCommands.2.2.1,
    witness_TimeAndTraceCommands.2.2.2.1,
    witness_UpgradeCommands.1,
    witness_UpgradeCommands.2.1,
    witness_UpgradeCommands.2.2.1,
    witness_UpgradeCommands.2.2.2.1,
    witness_UpgradeCommands.2.2.2.2.1⟩

/-- The places of the rows of register writes, each of a write that lands. -/
theorem witness_RegisterRowsComplete_writes :
    (Lands (wr .house .device 0x40 false 0xC0DA) opened (.dev 0x40) (specOf (wr .house .device 0x40 false 0xC0DA) opened) ∧ (onDevice (wr .house .device 0x40 false 0xC0DA) 0x40 || onTenant (wr .house .device 0x40 false 0xC0DA) 0x40) = true) ∧
    (Lands (wr .house .device 0x48 false 0x40) opened (.dev 0x48) (specOf (wr .house .device 0x48 false 0x40) opened) ∧ ((onDevice (wr .house .device 0x48 false 0x40) 0x48 || onTenant (wr .house .device 0x48 false 0x40) 0x48) && !(updateBit (wr .house .device 0x48 false 0x40) 16) && !(updateBit (wr .house .device 0x48 false 0x40) 17)) = true) ∧
    (Lands (wr .house .device 0x48 false 0x10003) opened (.dev 0x48) (specOf (wr .house .device 0x48 false 0x10003) opened) ∧ ((onDevice (wr .house .device 0x48 false 0x10003) 0x48 || onTenant (wr .house .device 0x48 false 0x10003) 0x48) && updateBit (wr .house .device 0x48 false 0x10003) 16 && !(updateBit (wr .house .device 0x48 false 0x10003) 17)) = true) ∧
    (Lands (wr .house .device 0x48 false 0x20040) opened (.dev 0x48) (specOf (wr .house .device 0x48 false 0x20040) opened) ∧ ((onDevice (wr .house .device 0x48 false 0x20040) 0x48 || onTenant (wr .house .device 0x48 false 0x20040) 0x48) && updateBit (wr .house .device 0x48 false 0x20040) 17) = true) ∧
    (Lands (wr .house .device 0x60 true 5) frozen (.dev 0x60) (specOf (wr .house .device 0x60 true 5) frozen) ∧ (onDevice (wr .house .device 0x60 true 5) 0x60 || onTenant (wr .house .device 0x60 true 5) 0x60) = true) ∧
    (Lands (wr .hp0 (.tenant 0) 0x78 false 3) pooled (.ten 0 0x78) (specOf (wr .hp0 (.tenant 0) 0x78 false 3) pooled) ∧ (onTenant (wr .hp0 (.tenant 0) 0x78 false 3) 0x78) = true) ∧
    (Lands (wr .hp0 (.tenant 0) 0x80 false 0x50003) opened (.ten 0 0x80) (specOf (wr .hp0 (.tenant 0) 0x80 false 0x50003) opened) ∧ (onTenant (wr .hp0 (.tenant 0) 0x80 false 0x50003) 0x80) = true) ∧
    (Lands (wr .house .device 0xbd0 false 5) opened (.dev 0xbd0) (specOf (wr .house .device 0xbd0 false 5) opened) ∧ (onDevice (wr .house .device 0xbd0 false 5) 0xbd0) = true) ∧
    (Lands (wr .house .device 0x6c false 0x5E7A) opened (.dev 0x68) (specOf (wr .house .device 0x6c false 0x5E7A) opened) ∧ (onDevice (wr .house .device 0x6c false 0x5E7A) 0x68 && decide (baseOf (wr .house .device 0x6c false 0x5E7A).off % 8 = 4)) = true) ∧
    (Lands (wr .hp0 (.tenant 0) 0x110 false 0x80000044) adminOff (.ten 0 0x110) (specOf (wr .hp0 (.tenant 0) 0x110 false 0x80000044) adminOff) ∧ (onTenant (wr .hp0 (.tenant 0) 0x110 false 0x80000044) 0x110 && lowBit (wr .hp0 (.tenant 0) 0x110 false 0x80000044) 31) = true) ∧
    (Lands (wr .hp0 (.tenant 0) 0x110 false 0x44) adminOn (.ten 0 0x110) (specOf (wr .hp0 (.tenant 0) 0x110 false 0x44) adminOn) ∧ (onTenant (wr .hp0 (.tenant 0) 0x110 false 0x44) 0x110 && !(lowBit (wr .hp0 (.tenant 0) 0x110 false 0x44) 31)) = true) ∧
    (Lands (wr .hp0 (.tenant 0) 0x2250 true 1) (shadowed 5) (.chan 0 2 0x50) (specOf (wr .hp0 (.tenant 0) 0x2250 true 1) (shadowed 5)) ∧ (onSlot (wr .hp0 (.tenant 0) 0x2250 true 1) 0x50 && lowBit (wr .hp0 (.tenant 0) 0x2250 true 1) 0) = true) ∧
    (Lands (wr .hp0 (.tenant 0) 0x2250 true 0) opened (.chan 0 2 0x50) (specOf (wr .hp0 (.tenant 0) 0x2250 true 0) opened) ∧ (onSlot (wr .hp0 (.tenant 0) 0x2250 true 0) 0x50 && !(lowBit (wr .hp0 (.tenant 0) 0x2250 true 0) 0)) = true) ∧
    (Lands (wr .house .device 0x140 true 1) opened (.dev 0x140) (specOf (wr .house .device 0x140 true 1) opened) ∧ (decide ((wr .house .device 0x140 true 1).page = .device) && decide (0x140 ≤ placeOf (wr .house .device 0x140 true 1)) && decide (placeOf (wr .house .device 0x140 true 1) < 0x180)) = true) ∧
    (Lands (wr .house .device 0x130 true 0) opened (.dev 0x130) (specOf (wr .house .device 0x130 true 0) opened) ∧ (onDevice (wr .house .device 0x130 true 0) 0x130) = true) ∧
    (Lands (wr .house .device 0xb08 false 0x3F) early (.dev 0xb08) (specOf (wr .house .device 0xb08 false 0x3F) early) ∧ (onDevice (wr .house .device 0xb08 false 0x3F) 0xb08) = true) ∧
    (Lands (wr .house .device 0x90 true 0x1234500000) opened (.dev 0x90) (specOf (wr .house .device 0x90 true 0x1234500000) opened) ∧ (onDevice (wr .house .device 0x90 true 0x1234500000) 0x90 || onDevice (wr .house .device 0x90 true 0x1234500000) 0x98) = true) ∧
    (Lands (wr .house .device 0x1850 true 0) opened (.dev 0x1850) (specOf (wr .house .device 0x1850 true 0) opened) ∧ (onDevice (wr .house .device 0x1850 true 0) 0x1850) = true) ∧
    (Lands (wr .hp0 (.tenant 0) 0x98 true 0x5A5A5A5A5A5A5A5A) opened (.ten 0 0x98) (specOf (wr .hp0 (.tenant 0) 0x98 true 0x5A5A5A5A5A5A5A5A) opened) ∧ (onDevice (wr .hp0 (.tenant 0) 0x98 true 0x5A5A5A5A5A5A5A5A) 0x988 || onTenant (wr .hp0 (.tenant 0) 0x98 true 0x5A5A5A5A5A5A5A5A) 0x98) = true) ∧
    (Lands (wr .house .device 0x10bc0 true 0xFF00) opened (.dev 0xbc0) (specOf (wr .house .device 0x10bc0 true 0xFF00) opened) ∧ (decide (viewOf (wr .house .device 0x10bc0 true 0xFF00).off ≠ 0)) = true) ∧
    (Lands (wr .house .device 0x28 true 0xFFFFFFFF) opened (.dev 0x28) (specOf (wr .house .device 0x28 true 0xFFFFFFFF) opened) ∧ (onDevice (wr .house .device 0x28 true 0xFFFFFFFF) 0x28 || onTenant (wr .house .device 0x28 true 0xFFFFFFFF) 0x28) = true) :=
  ⟨⟨witness_UnlockAndErrorLog.1, by decide⟩,
    ⟨witness_StrobesAndDiscard.1, by decide⟩,
    ⟨witness_StrobesAndDiscard.2.2.2.1, by decide⟩,
    ⟨witness_StrobesAndDiscard.2.2.1, by decide⟩,
    ⟨witness_UnlockAndErrorLog.2.2.2.2.2.1, by decide⟩,
    ⟨witness_TenantWrites.1, by decide⟩,
    ⟨witness_RegisterWritesLand.2.1, by decide⟩,
    ⟨witness_RegisterWritesLand.1, by decide⟩,
    ⟨witness_DeviceWrites.2.2.2.2.2.2.2.1, by decide⟩,
    ⟨witness_TenantWrites.2.2.2.1, by decide⟩,
    ⟨witness_TenantWrites.2.2.2.2.2.1, by decide⟩,
    ⟨witness_ShadowApertureSysref.1, by decide⟩,
    ⟨witness_RegisterWritesLand.2.2.1, by decide⟩,
    ⟨witness_DeviceWrites.2.1, by decide⟩,
    ⟨witness_DeviceWrites.2.2.2.2.1, by decide⟩,
    ⟨witness_DeviceWrites.2.2.2.2.2.2.1, by decide⟩,
    ⟨witness_ShadowApertureSysref.2.2.2.1, by decide⟩,
    ⟨witness_ShadowApertureSysref.2.2.2.2.2.1, by decide⟩,
    ⟨witness_TenantWrites.2.2.2.2.2.2.1, by decide⟩,
    ⟨witness_ViewsAndHalves.1, by decide⟩,
    ⟨witness_UnlockAndErrorLog.2.2.2.1, by decide⟩⟩

/-! ### Terms that WellFormed refuses, one for each check -/

theorem test_wf_refuses_channel_96 : (Instr.nop 96).wf = false ∧ (Instr.nop 95).wf = true := by decide
theorem test_wf_refuses_pin_48 : (Instr.cueIn 48 true).wf = false ∧ (Instr.cueIn 47 true).wf = true := by decide
theorem test_wf_refuses_unit_14 : (Instr.inServiceFault { unit := 14 }).wf = false ∧ (Instr.bistTestEnd 1 14 0 0 0).wf = false := by decide
theorem test_wf_refuses_stagehand_12 : (Instr.beat 12).wf = false ∧ (Instr.beat 11).wf = true := by decide
theorem test_wf_refuses_sq_65 : (Instr.sqTailDoorbell .hp0 0 65 0).wf = false ∧ (Instr.sqTailDoorbell .hp0 0 64 0).wf = true := by decide
theorem test_wf_refuses_cq_33 : (Instr.cqHeadDoorbell .hp0 0 33 0).wf = false ∧ (Instr.cqHeadDoorbell .hp0 0 32 0).wf = true := by decide
theorem test_wf_refuses_uneven_enables : (Instr.bar2Access ⟨.hp0, 0, true, [1, 2], [true], 2, false, .clean⟩).wf = false := by decide
theorem test_wf_refuses_link_speed_0 : (Instr.hostLinkUp .hp0 0 4).wf = false ∧ (Instr.hostLinkUp .hp0 3 4).wf = true := by decide
theorem test_wf_refuses_link_width_3 : (Instr.hostLinkUp .hp0 1 3).wf = false := by decide
theorem test_wf_refuses_pulse_of_pin_48 : (Instr.pulseEnd (.done 48)).wf = false ∧ (Instr.pulseEnd .pps).wf = true := by decide
theorem test_wf_refuses_write_of_channel_96 : (Instr.writeBurstComplete (.channel 96 .oldest) .good .clean).wf = false := by decide
theorem test_wf_refuses_link_12 : (Instr.linkUpTimeout 12 false).wf = false ∧ (Instr.linkUpTimeout 11 false).wf = true := by decide

/-! ### Commands, with the values that the rules give -/

/-- Status, DW2 and DW3 of the completions sent to the House. -/
def answers (s : State) : List (Byte × Dword × Dword) := s.house.outbound.map fun r => (r.1.status, r.1.dw2, r.1.dw3)

/-- R824. -/
theorem test_echo_returns_its_dwords : answers (after (.echo (house [(0, 0x7F), (2, 0xFFFFFFFF), (3, 5)])) base) = [(0, 0xFFFFFFFF, 5)] := by decide +kernel

/-- R221: an unassigned opcode is INVALID_OPCODE. -/
theorem test_unassigned_opcode : (answers (after (.echo (house [(0, 0x06)])) base)).map (fun x => x.1) = [0x08] := by decide +kernel

/-- CUE_SET ADD saturates at 65,535 and reports the counts before and after. -/
theorem test_cue_set_add_saturates : let t := after (.cueSet (foreign 0x22 0 [(2, 0), (3, 1), (4, 0xFFFF)])) withCue
    answers t = [(0, 9, 0xFFFF)] ∧ (t.cues.look 0).count = 0xFFFF := by decide +kernel

/-- CUE_SET SUBTRACT stops at 0. -/
theorem test_cue_set_subtract_stops : ((after (.cueSet (foreign 0x22 0 [(2, 0), (3, 2), (4, 10)])) withCue).cues.look 0).count = 0 := by decide +kernel

/-- R368: SETA writes all 64 bits. -/
theorem test_seta : ((after (.seta 2) (scripted [0x108, 5, 7])).chan 2).script.a.look 1 = 0x700000005 := by decide +kernel

/-- R369: ADDA sign-extends its operand. -/
theorem test_adda_sign_extends : ((after (.adda 2) (scripted [0x109, 0xFFFFFFFF])).chan 2).script.a.look 1 = 0x4FFF := by decide +kernel

/-- ADDK wraps at 32 bits. -/
theorem test_addk_wraps : ((after (.addk 2) (scripted [0x10B, 0xFFFFFFFF])).chan 2).script.k.look 1 = 4 := by decide +kernel

/-- LOOP decrements and branches while the counter is not 0. -/
theorem test_loop_branches : let p := ((after (.loop 2) (scripted [0x110, 3])).chan 2).script
    p.k.look 1 = 4 ∧ p.pc = 3 := by decide +kernel

/-- LOOP of a counter at 0 falls through and leaves it at 0. -/
theorem test_loop_at_zero : let p := ((after (.loop 2) (scripted [0x210, 3])).chan 2).script
    p.k.look 2 = 0 ∧ p.pc = 1 := by decide +kernel

/-- HALT ends the script with its code. -/
theorem test_halt_code : ((after (.halt 2) (scripted [0x13, 5])).chan 2).script.haltCode = 5 := by decide +kernel

/-- TAKE gives the address of the lowest free prop. -/
theorem test_take : ((after (.take 2) (propped [0x120] 4)).chan 2).script.a.look 1 = 0x5000 := by decide +kernel

/-- BIND_CHANNEL leaves the channel IDLE. -/
theorem test_bind : ((after (.bindChannel (foreign 0x18 7 [(2, 0x100)])) withSq).chan 7).state = .idle := by decide +kernel

/-- PROTECT_COUNTERSIGN with another digest is PROTECT_MISMATCH and ends the proposal. -/
theorem test_countersign_wrong_digest : let t := after (.protectCountersign (house [(0, 0x41), (2, 5), (3, 7)])) (holding proposal)
    (answers t).map (fun x => x.1) = [0x23] ∧ t.prot.held = none ∧ t.prot.epoch = 1 := by decide +kernel

/-- ACT_STOP reports the acts that ran among those named. -/
theorem test_act_stop : (answers (after (.actStop (house [(0, 0x2A), (2, 0x8003)])) playing)).map (fun x => x.2.1) = [0x8001] := by decide +kernel

/-- TIME_SET immediate. -/
theorem test_time_set : (after (.timeSet (house [(0, 0x68), (4, 5)])) base).tb.time = 5 := by decide +kernel

/-- R141, R144: the key opens the page to its port alone, another value counts a lock fault. -/
theorem test_unlock_key : let s := { base with devState := .houseOnly }; let t := after (.unlock (wr .house .device 0x40 false 0xC0DA)) s
    t.isOpen .device .house = true ∧ t.isOpen .device .hp0 = false ∧
      ((after (.unlock (wr .house .device 0x40 false 0xC0DB)) s).ctl .device).errLog.lockFaults = 1 := by decide +kernel

/-- A write of another value than the key to SOFT_RESET resets nothing and is a lock violation. -/
theorem test_soft_reset_wrong_key : let t := after (.softReset (wr .house .device 0x6C false 0x5E7B)) opened
    t.dev.ctl.errLog.lockViolation = true ∧ t.devState = .staged := by decide +kernel

/-- A write of a STG field lands in the pending copy alone. -/
theorem test_stg_write_waits : let s := after (.registerWrite (wr .house .device 0xBC0 true 0xFF00)) opened
    (s.staged (.dev 0xBC0)).pend = 0xFF00 ∧ s.devReg 0xBC0 = opened.devReg 0xBC0 := by decide +kernel

/-- R269: a tail of the ring's size faults the queue. -/
theorem test_doorbell : ((after (.sqTailDoorbell .hp0 0 1 15) opened).sq 0 1).tail = 15 ∧
    ((after (.sqTailDoorbell .hp0 0 1 16) opened).sq 0 1).state = .faulted := by decide +kernel

/-- A pop of an empty mailbox sends length 0 and marks it. -/
theorem test_pop_of_nothing : let t := after (.mboxPop (some 0) 2) base
    t.house.mboxEmpty = true ∧ t.out.getLast? = some (.spi false [0x5A, 0, 0]) := by decide +kernel

/-- A whole write over BAR2 lands byte by byte, low address first. -/
theorem test_bar2_write : let t := after (.bar2Access (barWrite 0x100 3)) windowed
    [0xFF, 0x100, 0x101, 0x102, 0x103].map (fun x => cellsRead t.mem.wing x) = [0, 1, 4, 7, 0] := by decide +kernel

/-- PPS_IN less than 1 ms after another is ignored and counted. -/
theorem test_pps_in_too_soon : let s := base.updTb fun t => { t with refclkCount := 500000, lastPps := some 400001 }
    (after (.ppsIn 3) s).tb.ppsInIgnored = 1 ∧ (after (.ppsIn 3) s).tb.ppsInSeq = s.tb.ppsInSeq := by decide +kernel

/-- Loss of REFCLK is FAULTED and TIME_VALID falls. -/
theorem test_refclk_loss : (after .refclkLoss playing).devState = .faulted ∧ (after .refclkLoss playing).tb.timeValid = false ∧
    ((after .refclkLoss playing).acts.look 15).running = false := by decide +kernel

/-- POR_N is FILL; RESET_N keeps the time. -/
theorem test_resets : (after .porN base).devState = .fill ∧ (after .porN base).tb.time = 0 ∧ (after .resetN base).tb.time = base.tb.time := by decide +kernel

/-- Two start-up steps that go well. -/
theorem test_startup_steps : (afterAll [.startupStep inputs, .startupStep inputs] State.reset).boot.step = 3 := by decide +kernel

/-- IDCODE shifts out the part's code. -/
theorem test_idcode : (after .idcode base).out.getLast? = some (.jtag 0x19616C5B) := by decide +kernel

/-- EXTEST takes the pins from the part. -/
theorem test_extest : let s := pinned 2 id
    (s.driven 3).isSome = true ∧ (after .highz s).driven 3 = none ∧ (after .bypass s).driven 3 = s.driven 3 ∧
      (after .extest s).driven 3 = some false := by decide +kernel

/-- A step takes the front of the queue, and an empty queue lets a clock cycle pass. -/
theorem test_step_order : (match step { base with pending := [.extest, .idcode] } with | .next t => (t.pending, t.jtag.instr) | _ => ([], .bypass)) = ([.idcode], .extest) := by decide +kernel

/-- A clock cycle adds 16 ticks. -/
theorem test_idle_tick : (match step base with | .next t => t.tb.time | _ => 0) = base.tb.time + 16 := by decide +kernel

end Sys2Proof.Tests
end

section
/-! PROOF. The two-party commit: what ending, expiring and committing a proposal leave in the protection state, and the order in which PROTECT_COUNTERSIGN and PROTECT_WITHDRAW judge (R202 to R209). -/

namespace Sys2Proof.Machine

/-! ### What reports leave of the protection state -/

@[simp] theorem State.raiseHouse_prot (s : State) (bit : Nat) : (s.raiseHouse bit).prot = s.prot := rfl
@[simp] theorem State.raiseHouse_boot (s : State) (bit : Nat) : (s.raiseHouse bit).boot = s.boot := rfl
@[simp] theorem State.raiseHouse_tenants (s : State) (bit : Nat) : (s.raiseHouse bit).tenants = s.tenants := rfl
@[simp] theorem State.raiseTenant_prot (s : State) (t : TenantId) (bit : Nat) : (s.raiseTenant t bit).prot = s.prot :=
  (s.raiseTenant_kept t bit).prot
@[simp] theorem State.raiseSm_prot (s : State) (bit : Nat) : (s.raiseSm bit).prot = s.prot := (s.raiseSm_kept bit).prot
@[simp] theorem State.raiseSm_boot (s : State) (bit : Nat) : (s.raiseSm bit).boot = s.boot := (s.raiseSm_kept bit).boot
@[simp] theorem State.note_prot (s : State) (cls event : Nat) (t : Option TenantId) (c : Option ChanId) (d : Dword) :
    (s.note cls event t c d).prot = s.prot := (s.note_kept cls event t c d).prot
@[simp] theorem State.note_boot (s : State) (cls event : Nat) (t : Option TenantId) (c : Option ChanId) (d : Dword) :
    (s.note cls event t c d).boot = s.boot := (s.note_kept cls event t c d).boot
@[simp] theorem State.note_devReg (s : State) (cls event : Nat) (t : Option TenantId) (c : Option ChanId) (d : Dword) (off : Nat) :
    (s.note cls event t c d).devReg off = s.devReg off := by
  simp [State.devReg, (s.note_kept cls event t c d).dev]

/-- A trace record leaves T_IRQ_STATUS too, which `Kept` leaves open. -/
@[simp] theorem State.note_tenants (s : State) (cls event : Nat) (t : Option TenantId) (c : Option ChanId) (d : Dword) :
    (s.note cls event t c d).tenants = s.tenants := by
  unfold State.note State.traceAs
  dsimp only
  split
  · rfl
  · split <;> rfl

@[simp] theorem State.takeOff_prot (s : State) (p : Packet) : (s.takeOff p).prot = s.prot := (s.takeOff_kept p).prot

/-! ### The bits that an event sets -/

theorem bitAt_or_one_shiftLeft (x : Word) {bit : Nat} (h : bit < 64) : bitAt (x ||| ((1 : Word) <<< bit)) bit = true := by
  simp [bitAt, h]

theorem State.raiseHouse_sets (s : State) {bit : Nat} (h : bit < 64) : bitAt ((s.raiseHouse bit).devReg 0x20) bit = true := by
  rw [State.raiseHouse, State.devReg_setDevReg_same]
  exact bitAt_or_one_shiftLeft _ h

theorem State.sendVector_tenants (s : State) (t : TenantId) (v : Nat) : (s.sendVector t v).tenants = s.tenants := by
  unfold State.sendVector State.sendEntry
  dsimp only
  split
  · split <;> simp
  · rfl

theorem State.raiseTenant_sets (s : State) (t : TenantId) {bit : Nat} (h : bit < 64) :
    bitAt ((s.raiseTenant t bit).tenReg t 0x18) bit = true := by
  have hset : (s.raiseTenant t bit).tenReg t 0x18 = s.tenReg t 0x18 ||| (1 <<< bit) := by
    unfold State.raiseTenant
    dsimp only
    split
    · rw [State.tenReg, State.sendVector_tenants]
      exact State.tenReg_setTenReg_same s t 0x18 _
    · exact State.tenReg_setTenReg_same s t 0x18 _
  rw [hset]
  exact bitAt_or_one_shiftLeft _ h

theorem State.raiseSm_sets (s : State) {bit : Nat} (h : bit < 64) (hd : s.prot.designated = true) :
    bitAt ((s.raiseSm bit).tenReg s.prot.map.smTenant 0x18) bit = true := by
  rw [State.raiseSm, if_pos hd]
  exact s.raiseTenant_sets _ h

/-! ### A proposal ends (R202, R208, R209) -/

theorem State.endProposal_prot (s : State) {h : Proposal} (expired : Bool) (hh : s.prot.held = some h) :
    (s.endProposal expired).prot =
      { s.prot with held := none, lastExpired := if expired then some h.nonce else s.prot.lastExpired } := by
  simp [State.endProposal, hh]

/-- PROT_ENDED for the House. -/
theorem State.endProposal_tells_house (s : State) {h : Proposal} (expired : Bool) (hh : s.prot.held = some h) :
    bitAt ((s.endProposal expired).devReg 0x20) 1 = true := by
  simp only [State.endProposal, hh, State.note_devReg]
  exact State.raiseHouse_sets _ (by decide)

/-- PROT_ENDED in the page of the Stage Manager. -/
theorem State.endProposal_tells_sm (s : State) {h : Proposal} (expired : Bool) (hh : s.prot.held = some h)
    (hd : s.prot.designated = true) : bitAt ((s.endProposal expired).tenReg s.prot.map.smTenant 0x18) 17 = true := by
  simp only [State.endProposal, hh, State.tenReg, State.note_tenants, State.raiseHouse_tenants]
  exact State.raiseSm_sets (bit := 17) { s with prot := { s.prot with held := none, lastExpired := _ } } (by decide) hd

theorem State.expireBefore_expires (s : State) {h : Proposal} {stamp : Tick} (hh : s.prot.held = some h)
    (hf : future stamp h.expiry = true) (hw : s.waitsBefore h.expiry = false) : s.expireBefore stamp = s.endProposal true := by
  simp [State.expireBefore, hh, hf, hw]

theorem State.expireBefore_keeps (s : State) {h : Proposal} {stamp : Tick} (hh : s.prot.held = some h)
    (hk : future stamp h.expiry = false ∨ s.waitsBefore h.expiry = true) : s.expireBefore stamp = s := by
  rcases hk with hf | hw
  · simp [State.expireBefore, hh, hf]
  · simp [State.expireBefore, hh, hw]

/-- Expiry leaves the map and its epoch. -/
theorem State.expireBefore_map_epoch (s : State) (stamp : Tick) :
    (s.expireBefore stamp).prot.map = s.prot.map ∧ (s.expireBefore stamp).prot.epoch = s.prot.epoch := by
  unfold State.expireBefore
  split
  · next h hh => split <;> simp [s.endProposal_prot true hh]
  · exact ⟨rfl, rfl⟩

/-! ### A new map takes effect (R204 to R207) -/

theorem State.forAll_prot {α : Type} (f : α → State → State) (hf : ∀ x s, (f x s).prot = s.prot) :
    ∀ (l : List α) (s : State), (s.forAll l f).prot = s.prot := by
  intro l
  induction l with
  | nil => intro s; rfl
  | cons x l ih => intro s; exact (ih (f x s)).trans (hf x s)

theorem State.sendWrite_prot (s : State) (c : ChanId) (w : WriteReq) : (s.sendWrite c w).prot = s.prot := by
  unfold State.sendWrite
  dsimp only
  split
  · split <;> rfl
  · split <;> rfl

theorem State.closeBurst_prot (s : State) (c : ChanId) : (s.closeBurst c).prot = s.prot := by
  unfold State.closeBurst
  dsimp only
  split
  · rfl
  · split
    · rfl
    · split
      · rfl
      · exact State.sendWrite_prot _ _ _

@[simp] theorem State.closeForming_prot (s : State) : s.closeForming.prot = s.prot :=
  State.forAll_prot _ (fun c s => s.closeBurst_prot c) _ s

@[simp] theorem State.updCtl_prot (s : State) (page : Page) (f : PageCtl → PageCtl) : (s.updCtl page f).prot = s.prot := by
  cases page <;> rfl

@[simp] theorem State.updStaged_prot (s : State) (h : Home) (f : Staged → Staged) : (s.updStaged h f).prot = s.prot := by
  cases h <;> rfl

@[simp] theorem State.adminStop_prot (s : State) (t : TenantId) : (s.adminStop t).prot = s.prot := rfl

@[simp] theorem State.showSm_prot (s : State) : s.showSm.prot = s.prot := rfl

@[simp] theorem State.enterDev_prot (s : State) (d : DevState) : (s.enterDev d).prot = s.prot := by simp [State.enterDev]

theorem State.dropTenant_prot (s : State) (old new : ProtMap) (t : TenantId) : (s.dropTenant old new t).prot = s.prot := by
  unfold State.dropTenant
  extract_lets a b s1
  have h1 : s1.prot = s.prot := by
    simp only [s1]
    split
    · exact s.updCtl_prot _ _
    · rfl
  split <;> simp [h1]

/-- The windows in force before, with the one that a new map replaces (R199). -/
def State.windowsAfter (s : State) (new : ProtMap) : List (Tick × Dword) :=
  if s.prot.map.csWindow = new.csWindow then s.prot.windowsBefore
  else s.prot.windowsBefore ++ [(s.closeForming.now, s.prot.map.csWindow)]

/-- Of the protection state a commit changes the map, its epoch and the windows gone by. -/
theorem State.installMap_prot (s : State) (new : ProtMap) :
    (s.installMap new).prot =
      { s.prot with map := new, epoch := s.prot.epoch + 1, windowsBefore := s.windowsAfter new } := by
  unfold State.installMap
  extract_lets s' old s1 kept prot1 s2 s3 s4 s5 prot
  have h1 : s1.prot = s.prot := (State.forAll_prot _ (fun t s => s.dropTenant_prot old new t) _ _).trans s.closeForming_prot
  have h4 : s4.prot = s2.prot := by
    simp only [s4]
    split <;> simp [s3]
  rw [State.forAll_prot _ (fun t s => s.raiseTenant_prot t 4)]
  simp [s5, h4, s2, prot1, prot, kept, old, s', h1, State.windowsAfter]

/-! ### A held proposal commits (R204, R640) -/

theorem State.commit_patch (s : State) {h : Proposal} (hp : h.patch = true) :
    (s.commit h).prot = { s.prot with held := none } ∧ (s.commit h).boot.pendingSet = some h.patchSet := by
  simp [State.commit, hp]

theorem State.commit_map (s : State) {h : Proposal} (hp : h.patch = false) :
    (s.commit h).prot.held = none ∧ (s.commit h).prot.map = s.prot.map.apply h.body ∧
      (s.commit h).prot.epoch = s.prot.epoch + 1 := by
  simp only [State.commit, hp, Bool.false_eq_true, if_false, State.installMap_prot]
  split <;> simp

/-! ### The seven outcomes of a countersign (R202) -/

section
variable {s : State} {c : Cmd} {h : Proposal}

theorem State.countersign_of_none (hn : s.prot.held = none) :
    s.countersign c = s.answer c { status := if s.prot.lastExpired = some (c.dw 2) then 0x22 else 0x21 } := by
  simp [State.countersign, hn]

theorem State.countersign_of_proposer (hh : s.prot.held = some h) (hp : h.byHouse = c.isHouse) :
    s.countersign c = s.answer c { status := 0x0A } := by
  simp [State.countersign, hh, hp]

variable (hh : s.prot.held = some h) (hp : h.byHouse ≠ c.isHouse)
include hh hp

theorem State.countersign_of_late (hf : future c.stamp h.expiry = true) :
    s.countersign c = (s.expireBefore c.stamp).answer c { status := 0x22 } := by
  simp [State.countersign, hh, hp, hf]

variable (hf : ¬ future c.stamp h.expiry = true)
include hf

theorem State.countersign_of_wrong_nonce (hn : c.dw 2 ≠ h.nonce) :
    s.countersign c = (s.endProposal false).answer c { status := 0x21 } := by
  simp [State.countersign, hh, hp, hf, hn]

variable (hn : c.dw 2 = h.nonce)
include hn

theorem State.countersign_of_wrong_digest (hd : c.dw 3 ≠ h.digest) :
    s.countersign c = (s.endProposal false).answer c { status := 0x23 } := by
  simp [State.countersign, hh, hp, hf, hn, hd]

variable (hd : c.dw 3 = h.digest)
include hd

/-- Nothing blocks a patch set. -/
theorem State.countersign_of_patch (ht : h.patch = true) :
    s.countersign c = (s.commit h).answer c { dw2 := (s.commit h).prot.epoch } := by
  simp [State.countersign, hh, hp, hf, hn, hd, ht]

theorem State.countersign_of_blocked (ht : h.patch = false) {k t o : Nat}
    (hb : s.blocking (s.prot.map.apply h.body) = some (k, t, o)) :
    s.countersign c = s.answer c { status := 0x0D, dw3 := BitVec.ofNat 32 (k + 16 * t + 65536 * o) } := by
  simp [State.countersign, hh, hp, hf, hn, hd, ht, hb]

theorem State.countersign_of_free (ht : h.patch = false) (hb : s.blocking (s.prot.map.apply h.body) = none) :
    s.countersign c = (s.commit h).answer c { dw2 := (s.commit h).prot.epoch } := by
  simp [State.countersign, hh, hp, hf, hn, hd, ht, hb]

end

theorem exec_protectCountersign {p : Packet} {s : State} (hs : Serves specProtectCountersign checksProtectCountersign p s) :
    exec (.protectCountersign p) s = .next ((s.takeOff p).countersign (s.cmdOf p)) := serve_runs hs

theorem exec_protectWithdraw {p : Packet} {s : State} (hs : Serves specProtectWithdraw checksProtectWithdraw p s) :
    exec (.protectWithdraw p) s = .next (runProtectWithdraw (s.cmdOf p) (s.takeOff p)) := serve_runs hs

/-! ### A withdrawal (R208) -/

theorem runProtectWithdraw_of_match {s : State} {c : Cmd} {h : Proposal} (hh : (s.expireBefore c.stamp).prot.held = some h)
    (hn : c.dw 2 = h.nonce) : runProtectWithdraw c s = ((s.expireBefore c.stamp).endProposal false).answer c {} := by
  simp [runProtectWithdraw, hh, hn]

theorem runProtectWithdraw_of_other {s : State} {c : Cmd} (hn : ∀ h, (s.expireBefore c.stamp).prot.held = some h → c.dw 2 ≠ h.nonce) :
    runProtectWithdraw c s =
      (s.expireBefore c.stamp).answer c { status := 0x21, dw2 := (s.expireBefore c.stamp).prot.epoch } := by
  have hne : ((s.expireBefore c.stamp).prot.held.map fun h => h.nonce) ≠ some (c.dw 2) := by
    intro he
    obtain ⟨h, hh, heq⟩ := Option.map_eq_some_iff.mp he
    exact hn h hh heq.symm
  simp [runProtectWithdraw, hne]

/-- A proposal that expiry leaves is the one that was held, and expiry did not end it. -/
theorem State.held_of_expireBefore {s : State} {stamp : Tick} {h : Proposal} (hh : (s.expireBefore stamp).prot.held = some h) :
    s.prot.held = some h ∧ (future stamp h.expiry = false ∨ s.waitsBefore h.expiry = true) := by
  cases hs : s.prot.held with
  | none => simp [State.expireBefore, hs] at hh
  | some g =>
    by_cases hk : future stamp g.expiry = false ∨ s.waitsBefore g.expiry = true
    · rw [s.expireBefore_keeps hs hk, hs] at hh
      cases hh
      exact ⟨rfl, hk⟩
    · obtain ⟨hf, hw⟩ := not_or.mp hk
      rw [s.expireBefore_expires hs (Bool.of_not_eq_false hf) (Bool.of_not_eq_true hw), s.endProposal_prot true hs] at hh
      cases hh

/-! ### The statements -/

/-- Settles O16, by the seven outcomes of R202 in their order; expiry is that of R209 and the model's log entry 30. -/
theorem countersignOrder : Obligations.CountersignOrder := by
  intro p s c u hs
  have hu : u.prot = s.prot := s.takeOff_prot p
  rw [exec_protectCountersign hs, ← hu]
  cases hh : u.prot.held with
  | none => exact ⟨u, _, by rw [State.countersign_of_none hh], rfl, rfl⟩
  | some h =>
    dsimp only
    by_cases hp : h.byHouse = c.isHouse
    · refine ⟨u, _, by rw [State.countersign_of_proposer hh hp], ?_⟩
      rw [if_pos hp]
      exact ⟨rfl, rfl⟩
    by_cases hf : future c.stamp h.expiry = true
    · refine ⟨u.expireBefore c.stamp, _, by rw [State.countersign_of_late hh hp hf], ?_⟩
      rw [if_neg hp, if_pos hf]
      refine ⟨rfl, (u.expireBefore_map_epoch _).1, fun hw => u.expireBefore_keeps hh (.inr hw), fun hw => ?_⟩
      rw [u.expireBefore_expires hh hf hw, u.endProposal_prot true hh]
      exact ⟨rfl, rfl⟩
    by_cases hn : c.dw 2 = h.nonce
    case neg =>
      refine ⟨u.endProposal false, _, by rw [State.countersign_of_wrong_nonce hh hp hf hn], ?_⟩
      rw [if_neg hp, if_neg hf, if_pos hn, u.endProposal_prot false hh]
      exact ⟨rfl, rfl, rfl⟩
    by_cases hd : c.dw 3 = h.digest
    case neg =>
      refine ⟨u.endProposal false, _, by rw [State.countersign_of_wrong_digest hh hp hf hn hd], ?_⟩
      rw [if_neg hp, if_neg hf, if_neg (not_not_intro hn), if_pos hd, u.endProposal_prot false hh]
      exact ⟨rfl, rfl, rfl⟩
    cases ht : h.patch with
    | true =>
      obtain ⟨hprot, hset⟩ := u.commit_patch ht
      refine ⟨u.commit h, _, by rw [State.countersign_of_patch hh hp hf hn hd ht], ?_⟩
      rw [if_neg hp, if_neg hf, if_neg (not_not_intro hn), if_neg (not_not_intro hd), if_pos rfl, hprot]
      exact ⟨rfl, hset, rfl, rfl⟩
    | false =>
      cases hb : u.blocking (u.prot.map.apply h.body) with
      | some b =>
        refine ⟨u, _, by rw [State.countersign_of_blocked hh hp hf hn hd ht hb], ?_⟩
        rw [if_neg hp, if_neg hf, if_neg (not_not_intro hn), if_neg (not_not_intro hd), if_neg Bool.false_ne_true]
        exact ⟨rfl, rfl⟩
      | none =>
        obtain ⟨hheld, hmap, hepoch⟩ := u.commit_map ht
        refine ⟨u.commit h, _, by rw [State.countersign_of_free hh hp hf hn hd ht hb], ?_⟩
        rw [if_neg hp, if_neg hf, if_neg (not_not_intro hn), if_neg (not_not_intro hd), if_neg Bool.false_ne_true, hepoch]
        exact ⟨hheld, hmap, rfl, rfl⟩

/-- Settles O17: expiry (R209, log entry 30) comes first, and then the nonce decides (R208). -/
theorem withdrawEndsTheProposal : Obligations.WithdrawEndsTheProposal := by
  intro p s c u hs
  have hu : u.prot = s.prot := s.takeOff_prot p
  rw [exec_protectWithdraw hs, ← hu]
  refine ⟨fun h hh hk hn => ?_, fun hno => ?_⟩
  · have hkeep := u.expireBefore_keeps hh hk
    have hprot := u.endProposal_prot false hh
    refine ⟨u.endProposal false, ?_, by rw [hprot], by rw [hprot], by rw [hprot], u.endProposal_tells_house false hh,
      u.endProposal_tells_sm false hh⟩
    rw [runProtectWithdraw_of_match (hkeep.symm ▸ hh) hn, hkeep]
  · obtain ⟨hmap, hepoch⟩ := u.expireBefore_map_epoch c.stamp
    refine ⟨u.expireBefore c.stamp, hepoch, hmap, ?_⟩
    have hother : ∀ h, (u.expireBefore c.stamp).prot.held = some h → c.dw 2 ≠ h.nonce := by
      intro h hleft
      obtain ⟨hh, hk⟩ := State.held_of_expireBefore hleft
      rcases hno h hh with hn | ⟨hf, hw⟩
      · exact hn
      · simp [hf, hw] at hk
    rw [runProtectWithdraw_of_other hother, hepoch]

end Sys2Proof.Machine
end

section
/-! PROOF. LOOP and BRANCH in a script: what they count, the condition they judge, and where control passes (R360, R369, R370, R397). -/

namespace Sys2Proof.Machine

/-! ### Fields of an instruction -/

theorem field_eq_toNat_extractLsb' {n : Nat} (x : BitVec n) (hi lo : Nat) :
    field x hi lo = (x.extractLsb' lo (hi + 1 - lo)).toNat := by
  simp [field, Nat.shiftRight_eq_div_pow]

theorem regAt_eq_extractLsb' (d : Dword) (lo : Nat) : regAt d lo = d.extractLsb' lo 2 := by
  apply BitVec.eq_of_toNat_eq
  simp [regAt, field, Nat.shiftRight_eq_div_pow, Nat.add_assoc]

theorem offIf_decide (p : Prop) [Decidable p] (o : Nat) : offIf (decide p) o = if p then [o] else [] := by
  simp [offIf]

theorem least_eq_none_iff (l : List Nat) : least l = none ↔ l = [] := by
  cases l with
  | nil => simp [least]
  | cons x xs => cases h : least xs <;> simp [least, h]

/-- An instruction that passes its judgement breaks the rule of no field (R361). -/
theorem Executes.offsets_eq_nil {s : State} {c : ChanId} {op : ScriptOp} {i : Insn} {k : InsnCheck} (h : Executes s c op i k) :
    k.offsets = [] := by
  have hpass := h.passes
  cases hleast : least (i.reserved op ++ k.offsets) with
  | none => exact (List.append_eq_nil_iff.mp ((least_eq_none_iff _).mp hleast)).2
  | some off => simp [State.judgeInsn, hleast] at hpass

/-! ### Script registers and the next instruction -/

section
variable (s : State) (c : ChanId)

@[simp] theorem State.updScript_script (f : Script → Script) : ((s.updScript c f).chan c).script = f (s.chan c).script := by
  simp [State.updScript]

theorem State.updScript_updScript (f g : Script → Script) :
    (s.updScript c f).updScript c g = s.updScript c fun p => g (f p) := updChan_updChan s c _ _

/-- A jump is counted before it or after it alike (R397). -/
theorem State.branchTo_eq (target : Nat) : s.branchTo c target = (s.countSpin c).updScript c fun p => p.goto target := by
  simp only [State.branchTo, State.countSpin, State.updScript_updScript]
  rfl

variable {s c}

theorem State.nextPc_inside (h : (s.chan c).script.pc ≠ 4095) : s.nextPc c = s.updScript c fun p => p.goto (p.pc.toNat + 1) :=
  if_neg h

theorem State.nextPc_beyond (h : (s.chan c).script.pc = 4095) : s.nextPc c = s.failPlain c 0x09 0 :=
  if_pos h

end

/-! ### LOOP (R369) -/

/-- The state in which a LOOP has counted down and control has not yet passed on: a counter of 0 stays 0, and the spin count rises. -/
def State.loopCounted (s : State) (c : ChanId) (r : BitVec 2) : State :=
  let k := (s.chan c).script.k.look r
  s.updScript c fun p => { p with k := p.k.put r (if k = 0 then 0 else k - 1), spin := p.spin + 1 }

theorem State.loopCounted_pc (s : State) (c : ChanId) (r : BitVec 2) :
    ((s.loopCounted c r).chan c).script.pc = (s.chan c).script.pc := by
  simp [State.loopCounted]

/-- Counting down and then counting the spin is `loopCounted`. -/
theorem State.countSpin_countDown (s : State) (c : ChanId) (r : BitVec 2) :
    let k := (s.chan c).script.k.look r
    (s.updScript c fun p => { p with k := p.k.put r (if k = 0 then 0 else k - 1) }).countSpin c = s.loopCounted c r :=
  s.updScript_updScript c _ _

/-- A LOOP that executes counts down, then branches unless its counter is 0 or was 0 before. -/
theorem exec_loop {s : State} {c : ChanId} {i : Insn} (h : Executes s c .loop i {}) :
    let r := i.d0.extractLsb' 8 2; let k := (s.chan c).script.k.look r
    exec (.loop c) s = .next ((if k = 0 ∨ k - 1 = 0 then (s.loopCounted c r).nextPc c
      else (s.loopCounted c r).updScript c fun p => p.goto (i.d1.extractLsb' 0 12).toNat).go [c]) := by
  intro r k
  have hlast : k - 1 = 0 ↔ k = 1 := by bv_omega
  change execLoop c s = _
  rw [execLoop, scriptRow_runs h]
  simp only [State.branchTo_eq, regAt_eq_extractLsb', field_eq_toNat_extractLsb', State.countSpin_countDown, hlast, k, r]

/-! ### BRANCH (R370) -/

/-- The conditions of R370; a BRANCH with a reserved COND does not pass its judgement. -/
theorem State.branchHolds_iff (s : State) (c : ChanId) (i : Insn) (hm : (i.d0.extractLsb' 8 4).toNat ≤ 4) :
    let m := (i.d0.extractLsb' 8 4).toNat
    let k := (s.chan c).script.k.look (i.d0.extractLsb' 12 2)
    s.branchHolds c i = true ↔
      m = 0 ∨ (m = 1 ∧ k = 0) ∨ (m = 2 ∧ k ≠ 0) ∨ (m = 3 ∧ (s.cues.look (i.d0.extractLsb' 16 10)).count ≠ 0) ∨
        (m = 4 ∧ 64 * (i.d2.extractLsb' 16 16).toNat < (s.eps.look (i.d2.extractLsb' 0 6)).fifo.length) := by
  intro m k
  have hfield : field i.d0 11 8 = m := field_eq_toNat_extractLsb' i.d0 11 8
  rw [State.branchHolds, hfield, regAt_eq_extractLsb', field_eq_toNat_extractLsb']
  have hle : m ≤ 4 := hm
  clear_value m
  match m, hle with
  | 0, _ | 1, _ | 2, _ | 3, _ | 4, _ => simp [k]

/-- What the judgement of a BRANCH looks at. -/
def branchCheck (i : Insn) : InsnCheck :=
  let m := (i.d0.extractLsb' 8 4).toNat
  { offsets := if 4 < m then [1] else [], cue := if m = 3 then some (i.d0.extractLsb' 16 10) else none,
    ep := if m = 4 then some (i.d2.extractLsb' 0 6) else none }

theorem execBranch_eq (c : ChanId) (s : State) : execBranch c s = .next (s.scriptRow c .branch (fun _ i => branchCheck i) fun i s =>
    if s.branchHolds c i then s.branchTo c (field i.d1 11 0) else (s.countSpin c).nextPc c) := by
  simp only [execBranch, branchCheck, offIf_decide, field_eq_toNat_extractLsb']

theorem branchCheck_cond_le {s : State} {c : ChanId} {i : Insn} (h : Executes s c .branch i (branchCheck i)) :
    (i.d0.extractLsb' 8 4).toNat ≤ 4 := by
  simpa [branchCheck] using h.offsets_eq_nil

/-- A BRANCH that executes only counts the spin before control passes. -/
theorem exec_branch {s : State} {c : ChanId} {i : Insn} (h : Executes s c .branch i (branchCheck i)) :
    exec (.branch c) s = .next ((if s.branchHolds c i then (s.countSpin c).updScript c fun p => p.goto (i.d1.extractLsb' 0 12).toNat
      else (s.countSpin c).nextPc c).go [c]) := by
  change execBranch c s = _
  rw [execBranch_eq, scriptRow_runs h, State.branchTo_eq, field_eq_toNat_extractLsb']

/-! ### The statement -/

/-- Settles O26: LOOP counts down and BRANCH judges its condition; where neither branches, control passes on by R360. -/
theorem scriptLoopAndBranch : Obligations.ScriptLoopAndBranch := by
  constructor
  · intro c s i h r k u
    have hpc : (u.chan c).script.pc = (s.chan c).script.pc := s.loopCounted_pc c r
    refine ⟨fun hk hk' => ?_, fun hk hin => ?_, fun hk hend => ?_⟩
    · rw [exec_loop h, if_neg (not_or.mpr ⟨hk, hk'⟩)]
      rfl
    · rw [exec_loop h, if_pos hk, ← State.nextPc_inside (hpc ▸ hin)]
      rfl
    · rw [exec_loop h, if_pos hk, ← State.nextPc_beyond (hpc.trans hend)]
      rfl
  · intro c s i m h k holds
    have hb : s.branchHolds c i = true ↔ holds := s.branchHolds_iff c i (branchCheck_cond_le h)
    have hpc : ((s.countSpin c).chan c).script.pc = (s.chan c).script.pc := by simp [State.countSpin]
    refine ⟨fun hh => ?_, fun hh hin => ?_, fun hh hend => ?_⟩
    · rw [exec_branch h, if_pos (hb.mpr hh), State.countSpin, State.updScript_updScript]
      rfl
    · rw [exec_branch h, if_neg (mt hb.mp hh), State.nextPc_inside (hpc ▸ hin), State.countSpin, State.updScript_updScript]
      rfl
    · rw [exec_branch h, if_neg (mt hb.mp hh), State.nextPc_beyond (hpc.trans hend), State.countSpin]

end Sys2Proof.Machine
end

section
/-! PROOF. What stays in every row but those that change the map: the canonical form of the memories, and the map in force with its epoch and its designation. One lemma per function of the model, in the order of the model. -/

namespace Sys2Proof.Machine

/-- What `Safe` says of the state reached: its memories and its protection state. -/
def SafeParts (s₀ : State) (m : Memory) (p : Protection) : Prop :=
  (Inv s₀ → m.wf = true) ∧ p.map = s₀.prot.map ∧ p.epoch = s₀.prot.epoch ∧ p.designated = s₀.prot.designated

/-- From `s₀` to `t` the memories keep their canonical form, and the map in force, its epoch and the designation stay. -/
def Safe (s₀ t : State) : Prop := SafeParts s₀ t.mem t.prot

theorem safe_iff (s₀ t : State) : Safe s₀ t ↔ SafeParts s₀ t.mem t.prot := Iff.rfl

theorem Safe.refl (s : State) : Safe s s := ⟨id, rfl, rfl, rfl⟩

/-- Only the memories and the protection state count. -/
theorem Safe.of_eq {s₀ s t : State} (h : Safe s₀ s) (hm : t.mem = s.mem) (hp : t.prot = s.prot) : Safe s₀ t := by
  rw [safe_iff, hm, hp]; exact h

theorem Safe.forAll {α : Type} {s₀ s : State} {f : α → State → State} (h : Safe s₀ s) (l : List α)
    (hf : ∀ x t, Safe s₀ t → Safe s₀ (f x t)) : Safe s₀ (s.forAll l f) := by
  induction l generalizing s with
  | nil => exact h
  | cons x l ih => exact ih (hf x s h)

theorem Safe.foldl {α : Type} {s₀ s : State} {f : State → α → State} (h : Safe s₀ s) (l : List α)
    (hf : ∀ x t, Safe s₀ t → Safe s₀ (f t x)) : Safe s₀ (l.foldl f s) := by
  induction l generalizing s with
  | nil => exact h
  | cons x l ih => exact ih (hf x s h)

theorem Safe.foldl_fst {α β : Type} {s₀ : State} {f : State × β → α → State × β} {r : State × β} (h : Safe s₀ r.1) (l : List α)
    (hf : ∀ x q, Safe s₀ q.1 → Safe s₀ (f q x).1) : Safe s₀ (l.foldl f r).1 := by
  induction l generalizing r with
  | nil => exact h
  | cons x l ih => exact ih (hf x r h)

/-! ### Config.lean -/

theorem State.setDevReg_safe {s₀ s : State} (h : Safe s₀ s) (off : Nat) (x : Word) :
    Safe s₀ (s.setDevReg off x) :=
  h.of_eq rfl rfl

theorem State.setDevBoth_safe {s₀ s : State} (h : Safe s₀ s) (off : Nat) (x : Word) :
    Safe s₀ (s.setDevBoth off x) :=
  h.of_eq rfl rfl

theorem State.updTenant_safe {s₀ s : State} (h : Safe s₀ s) (t : TenantId) (f : Tenant → Tenant) :
    Safe s₀ (s.updTenant t f) :=
  h.of_eq rfl rfl

theorem State.setTenReg_safe {s₀ s : State} (h : Safe s₀ s) (t : TenantId) (off : Nat) (x : Word) :
    Safe s₀ (s.setTenReg t off x) :=
  h.of_eq rfl rfl

theorem State.updChan_safe {s₀ s : State} (h : Safe s₀ s) (c : ChanId) (f : Chan → Chan) :
    Safe s₀ (s.updChan c f) :=
  h.of_eq rfl rfl

theorem State.updPort_safe {s₀ s : State} (h : Safe s₀ s) (p : HostPort) (f : Port → Port) :
    Safe s₀ (s.updPort p f) := by
  unfold State.updPort
  grind [safe_iff, Safe.forAll, Safe.foldl]

theorem State.bump_safe {s₀ s : State} (h : Safe s₀ s) :
    Safe s₀ (s.bump) :=
  h.of_eq rfl rfl

theorem State.emit_safe {s₀ s : State} (h : Safe s₀ s) (e : Emit) :
    Safe s₀ (s.emit e) :=
  h.of_eq rfl rfl

theorem State.wakeBy_safe {s₀ s : State} (h : Safe s₀ s) (bit : Nat) :
    Safe s₀ (s.wakeBy bit) := by
  unfold State.wakeBy
  grind [safe_iff, Safe.forAll, Safe.foldl]

theorem State.wingWrite_safe {s₀ s : State} (h : Safe s₀ s) (off : Nat) (bs : List Byte) : Safe s₀ (s.wingWrite off bs) :=
  ⟨fun hb => s.wingWrite_wf off bs (h.1 hb), h.2⟩

theorem State.dramWrite_safe {s₀ s : State} (h : Safe s₀ s) (off : Nat) (bs : List Byte) : Safe s₀ (s.dramWrite off bs) :=
  ⟨fun hb => s.dramWrite_wf off bs (h.1 hb), h.2⟩

theorem State.sendEntry_safe {s₀ s : State} (h : Safe s₀ s) (p : HostPort) (i : BitVec 8) :
    Safe s₀ (s.sendEntry p i) := by
  unfold State.sendEntry
  grind [safe_iff, Safe.forAll, Safe.foldl, State.emit_safe, State.updPort_safe]

theorem State.sendVector_safe {s₀ s : State} (h : Safe s₀ s) (t : TenantId) (index : Nat) :
    Safe s₀ (s.sendVector t index) := by
  unfold State.sendVector
  grind [safe_iff, Safe.forAll, Safe.foldl, State.sendEntry_safe]

theorem State.sendHostWrite_safe {s₀ s : State} (h : Safe s₀ s) (p : HostPort) (a : Addr) (bytes : List Byte) :
    Safe s₀ (s.sendHostWrite p a bytes) :=
  h.of_eq rfl rfl

theorem State.sendHostFetch_safe {s₀ s : State} (h : Safe s₀ s) (p : HostPort) (a : Addr) (len : Nat) :
    Safe s₀ (s.sendHostFetch p a len) :=
  h.of_eq rfl rfl

theorem State.raiseTenant_safe {s₀ s : State} (h : Safe s₀ s) (t : TenantId) (bit : Nat) :
    Safe s₀ (s.raiseTenant t bit) := by
  unfold State.raiseTenant
  grind [safe_iff, Safe.forAll, Safe.foldl, State.setTenReg_safe, State.sendVector_safe]

theorem State.raiseSm_safe {s₀ s : State} (h : Safe s₀ s) (bit : Nat) :
    Safe s₀ (s.raiseSm bit) := by
  unfold State.raiseSm
  grind [safe_iff, Safe.forAll, Safe.foldl, State.raiseTenant_safe]

theorem State.raiseHouse_safe {s₀ s : State} (h : Safe s₀ s) (bit : Nat) :
    Safe s₀ (s.raiseHouse bit) :=
  h.of_eq rfl rfl

theorem State.raiseAlert_safe {s₀ s : State} (h : Safe s₀ s) (bit : Nat) :
    Safe s₀ (s.raiseAlert bit) := by
  unfold State.raiseAlert
  grind [safe_iff, Safe.forAll, Safe.foldl, State.raiseHouse_safe, State.setDevReg_safe]

theorem State.traceAs_safe {s₀ s : State} (h : Safe s₀ s) (cls : Nat) (event : Nat) (t : Option TenantId) (c : Option ChanId) (data : Dword) (stamp : Tick) (uncertain : Bool) :
    Safe s₀ (s.traceAs cls event t c data stamp uncertain) := by
  unfold State.traceAs
  grind [safe_iff, Safe.forAll, Safe.foldl]

theorem State.note_safe {s₀ s : State} (h : Safe s₀ s) (cls : Nat) (event : Nat) (t : Option TenantId) (c : Option ChanId) (data : Dword) :
    Safe s₀ (s.note cls event t c data) := by
  unfold State.note
  grind [safe_iff, Safe.forAll, Safe.foldl, State.traceAs_safe]

theorem State.noteChan_safe {s₀ s : State} (h : Safe s₀ s) (cls : Nat) (event : Nat) (c : ChanId) (data : Dword) :
    Safe s₀ (s.noteChan cls event c data) := by
  unfold State.noteChan
  grind [safe_iff, Safe.forAll, Safe.foldl, State.note_safe]

theorem State.flushTrace_safe {s₀ s : State} (h : Safe s₀ s) :
    Safe s₀ (s.flushTrace) :=
  h.of_eq rfl rfl

theorem State.persistTrace_safe {s₀ s : State} (h : Safe s₀ s) (trigger : Byte) :
    Safe s₀ (s.persistTrace trigger) :=
  h.of_eq rfl rfl

theorem State.updCq_safe {s₀ s : State} (h : Safe s₀ s) (t : TenantId) (q : QueueId) (f : CompQueue → CompQueue) :
    Safe s₀ (s.updCq t q f) :=
  h.of_eq rfl rfl

theorem State.updSq_safe {s₀ s : State} (h : Safe s₀ s) (t : TenantId) (q : QueueId) (f : SubQueue → SubQueue) :
    Safe s₀ (s.updSq t q f) :=
  h.of_eq rfl rfl

theorem State.faultCq_safe {s₀ s : State} (h : Safe s₀ s) (t : TenantId) (q : QueueId) (cause : Nat) :
    Safe s₀ (s.faultCq t q cause) := by
  unfold State.faultCq
  grind [safe_iff, Safe.forAll, Safe.foldl, State.note_safe, State.raiseTenant_safe, State.updCq_safe]

theorem State.sendVectors_safe {s₀ s : State} (h : Safe s₀ s) (t : TenantId) (vs : List Byte) :
    Safe s₀ (s.sendVectors t vs) := by
  unfold State.sendVectors
  grind [safe_iff, Safe.forAll, Safe.foldl, State.sendVector_safe]

theorem State.cplFails_safe {s₀ s : State} (h : Safe s₀ s) (w : CplWrite) :
    Safe s₀ (s.cplFails w).1 := by
  unfold State.cplFails
  grind [safe_iff, Safe.forAll, Safe.foldl, State.faultCq_safe]

theorem State.issueCpl_safe {s₀ s : State} (h : Safe s₀ s) (w : CplWrite) :
    Safe s₀ (s.issueCpl w).1 := by
  unfold State.issueCpl
  grind [safe_iff, Safe.forAll, Safe.foldl, State.sendHostWrite_safe, State.sendVectors_safe, State.cplFails_safe, State.wingWrite_safe]

theorem State.writeCompletion_safe {s₀ s : State} (h : Safe s₀ s) (t : TenantId) (q : QueueId) (addr : Addr) (bytes : List Byte) (vectors : List Byte) (chan : Option ChanId) :
    Safe s₀ (s.writeCompletion t q addr bytes vectors chan) := by
  unfold State.writeCompletion
  grind [= safe_iff, =_ safe_iff, Safe.forAll, Safe.foldl, State.issueCpl_safe]

theorem State.putCompletion_safe {s₀ s : State} (h : Safe s₀ s) (t : TenantId) (q : QueueId) (d : DueCompletion) :
    Safe s₀ (s.putCompletion t q d) := by
  unfold State.putCompletion
  grind [safe_iff, Safe.forAll, Safe.foldl, State.faultCq_safe, State.updCq_safe, State.writeCompletion_safe]

theorem State.postCq_safe {s₀ s : State} (h : Safe s₀ s) (t : TenantId) (q : QueueId) (d : DueCompletion) :
    Safe s₀ (s.postCq t q d) := by
  unfold State.postCq
  grind [safe_iff, Safe.forAll, Safe.foldl, State.putCompletion_safe, State.updCq_safe, State.note_safe, State.raiseTenant_safe, State.sendVector_safe]

theorem State.adminFault_safe {s₀ s : State} (h : Safe s₀ s) (t : TenantId) :
    Safe s₀ (s.adminFault t) := by
  unfold State.adminFault
  grind [safe_iff, Safe.forAll, Safe.foldl, State.postCq_safe, State.updSq_safe]

theorem State.complete_safe {s₀ s : State} (h : Safe s₀ s) (r : CmdRef) (opcode : Byte) (a : Reply) (result : List Byte) :
    Safe s₀ (s.complete r opcode a result) := by
  unfold State.complete
  grind [= safe_iff, =_ safe_iff, Safe.forAll, Safe.foldl, State.note_safe, State.updTenant_safe, State.adminFault_safe, State.postCq_safe]

theorem State.finishLong_safe {s₀ s : State} (h : Safe s₀ s) (l : LongCmd) (a : Reply) (result : List Byte) :
    Safe s₀ (s.finishLong l a result) := by
  unfold State.finishLong
  grind [safe_iff, Safe.forAll, Safe.foldl, State.complete_safe]

theorem State.enterDev_safe {s₀ s : State} (h : Safe s₀ s) (d : DevState) :
    Safe s₀ (s.enterDev d) := by
  unfold State.enterDev
  grind [safe_iff, Safe.forAll, Safe.foldl, State.note_safe]

theorem State.enterFaulted_safe {s₀ s : State} (h : Safe s₀ s) (cause : Byte) :
    Safe s₀ (s.enterFaulted cause) := by
  unfold State.enterFaulted
  grind [= safe_iff, =_ safe_iff, Safe.forAll, Safe.foldl, State.finishLong_safe, State.enterDev_safe, State.persistTrace_safe]

theorem State.unfollow_safe {s₀ s : State} (h : Safe s₀ s) (acts : List ActId) :
    Safe s₀ (s.unfollow acts) :=
  h.of_eq rfl rfl

theorem State.loseTime_safe {s₀ s : State} (h : Safe s₀ s) :
    Safe s₀ (s.loseTime) := by
  unfold State.loseTime
  grind [= safe_iff, =_ safe_iff, Safe.forAll, Safe.foldl, State.unfollow_safe, State.raiseHouse_safe, State.raiseSm_safe]

theorem State.logMem_safe {s₀ s : State} (h : Safe s₀ s) (kind : Nat) (memory : Nat) (addr : Addr) (source : Nat) (res : CodeResult) :
    Safe s₀ (s.logMem kind memory addr source res) := by
  unfold State.logMem
  grind [safe_iff, Safe.forAll, Safe.foldl, State.note_safe]

theorem State.memUe_safe {s₀ s : State} (h : Safe s₀ s) :
    Safe s₀ (s.memUe) := by
  unfold State.memUe
  grind [safe_iff, Safe.forAll, Safe.foldl, State.raiseHouse_safe, State.raiseSm_safe]

theorem State.poisonLine_safe {s₀ s : State} (h : Safe s₀ s) (line : Nat) :
    Safe s₀ (s.poisonLine line) := by
  unfold State.poisonLine
  grind [safe_iff, Safe.forAll, Safe.foldl]

theorem State.cleanLine_safe {s₀ s : State} (h : Safe s₀ s) (source : Nat) (line : Nat) :
    Safe s₀ (s.cleanLine source line) := by
  unfold State.cleanLine
  grind [safe_iff, Safe.forAll, Safe.foldl, State.logMem_safe]

theorem State.foundBadLine_safe {s₀ s : State} (h : Safe s₀ s) (kind : Nat) (line : Nat) (source : Nat) :
    Safe s₀ (s.foundBadLine kind line source) := by
  unfold State.foundBadLine
  grind [safe_iff, Safe.forAll, Safe.foldl, State.poisonLine_safe, State.memUe_safe, State.logMem_safe]

theorem State.takeStored_safe {s₀ s : State} (h : Safe s₀ s) (word : Nat) (e : Ecc) :
    Safe s₀ (s.takeStored word e) := by
  unfold State.takeStored
  grind [safe_iff, Safe.forAll, Safe.foldl, State.wingWrite_safe]

theorem State.load_safe {s₀ s0 : State} (h : Safe s₀ s0) (a : Addr) (len : Nat) (ecc : Ecc) (source : Nat) (report : Bool) :
    Safe s₀ (s0.load a len ecc source report).1 := by
  unfold State.load
  grind [= safe_iff, =_ safe_iff, Safe.forAll, Safe.foldl, State.takeStored_safe, State.memUe_safe, State.logMem_safe, State.foundBadLine_safe]

theorem State.store_safe {s₀ s : State} (h : Safe s₀ s) (a : Addr) (bs : List Byte) (ecc : Ecc) (source : Nat) :
    Safe s₀ (s.store a bs ecc source).1 := by
  unfold State.store
  grind [safe_iff, Safe.forAll, Safe.foldl, State.wingWrite_safe, State.memUe_safe, State.logMem_safe, State.foundBadLine_safe, State.dramWrite_safe, State.cleanLine_safe]

theorem State.takeOff_safe {s₀ s : State} (h : Safe s₀ s) (p : Packet) :
    Safe s₀ (s.takeOff p) := by
  unfold State.takeOff
  grind [safe_iff, Safe.forAll, Safe.foldl, State.updTenant_safe, State.updSq_safe]

theorem State.answer_safe {s₀ s : State} (h : Safe s₀ s) (c : Cmd) (r : Reply) :
    Safe s₀ (s.answer c r) := by
  unfold State.answer
  grind [safe_iff, Safe.forAll, Safe.foldl, State.complete_safe]

theorem State.startLong_safe {s₀ s : State} (h : Safe s₀ s) (c : Cmd) :
    Safe s₀ (s.startLong c) :=
  h.of_eq rfl rfl

theorem State.writeResult_safe {s₀ s : State} (h : Safe s₀ s) (t : TenantId) (a : Addr) (bytes : List Byte) (e : Ended) :
    Safe s₀ (s.writeResult t a bytes e).1 := by
  unfold State.writeResult
  grind [safe_iff, Safe.forAll, Safe.foldl, State.sendHostWrite_safe, State.store_safe]

theorem State.readBody_safe {s₀ s : State} (h : Safe s₀ s) (c : Cmd) (a : Addr) (len : Nat) :
    Safe s₀ (s.readBody c a len).1 := by
  unfold State.readBody
  grind [safe_iff, Safe.forAll, Safe.foldl, State.load_safe]

theorem State.respond_safe {s₀ s : State} (h : Safe s₀ s) (c : Cmd) (bytes : List Byte) (words : Dword × Dword) :
    Safe s₀ (s.respond c bytes words) := by
  unfold State.respond
  grind [safe_iff, Safe.forAll, Safe.foldl, State.complete_safe, State.answer_safe, State.writeResult_safe]

theorem State.chanVector_safe {s₀ s : State} (h : Safe s₀ s) (c : ChanId) :
    Safe s₀ (s.chanVector c) := by
  unfold State.chanVector
  grind [safe_iff, Safe.forAll, Safe.foldl, State.sendVector_safe]

theorem State.updPin_safe {s₀ s : State} (h : Safe s₀ s) (p : PinId) (f : Pin → Pin) :
    Safe s₀ (s.updPin p f) :=
  h.of_eq rfl rfl

theorem State.donePulse_safe {s₀ s : State} (h : Safe s₀ s) (p : PinId) :
    Safe s₀ (s.donePulse p) := by
  unfold State.donePulse
  grind [safe_iff, Safe.forAll, Safe.foldl, State.emit_safe, State.updPin_safe, State.setDevReg_safe]

theorem State.doneEvent_safe {s₀ s : State} (h : Safe s₀ s) (c : ChanId) :
    Safe s₀ (s.doneEvent c) := by
  unfold State.doneEvent
  grind [safe_iff, Safe.forAll, Safe.foldl, State.donePulse_safe]

theorem State.updEp_safe {s₀ s : State} (h : Safe s₀ s) (e : EpId) (f : Endpoint → Endpoint) :
    Safe s₀ (s.updEp e f) :=
  h.of_eq rfl rfl

theorem State.judgeFill_safe {s₀ s : State} (h : Safe s₀ s) (e : EpId) :
    Safe s₀ (s.judgeFill e) := by
  unfold State.judgeFill
  grind [safe_iff, Safe.forAll, Safe.foldl, State.updChan_safe]

theorem State.fifoBad_safe {s₀ s : State} (h : Safe s₀ s) (off : Nat) (source : Nat) :
    Safe s₀ (s.fifoBad off source) := by
  unfold State.fifoBad
  grind [safe_iff, Safe.forAll, Safe.foldl, State.memUe_safe, State.logMem_safe]

theorem State.fifoCheck_safe {s₀ s : State} (h : Safe s₀ s) (off : Nat) (ecc : Ecc) (source : Nat) :
    Safe s₀ (s.fifoCheck off ecc source) := by
  unfold State.fifoCheck
  grind [safe_iff, Safe.forAll, Safe.foldl, State.fifoBad_safe, State.logMem_safe]

theorem State.placeDeficit_safe {s₀ s : State} (h : Safe s₀ s) (e : EpId) :
    Safe s₀ (s.placeDeficit e) := by
  unfold State.placeDeficit
  grind [safe_iff, Safe.forAll, Safe.foldl, State.updEp_safe]

theorem State.epTake_safe {s₀ s : State} (h : Safe s₀ s) (e : EpId) (n : Nat) :
    Safe s₀ (s.epTake e n) := by
  unfold State.epTake
  grind [safe_iff, Safe.forAll, Safe.foldl, State.judgeFill_safe, State.placeDeficit_safe, State.updEp_safe]

theorem State.epAppend_safe {s₀ s : State} (h : Safe s₀ s) (e : EpId) (bs : List StreamByte) :
    Safe s₀ (s.epAppend e bs) := by
  unfold State.epAppend
  grind [safe_iff, Safe.forAll, Safe.foldl, State.judgeFill_safe, State.updEp_safe]

theorem State.freeSlot_safe {s₀ s : State} (h : Safe s₀ s) (c : ChanId) :
    Safe s₀ (s.freeSlot c) :=
  h.of_eq rfl rfl

theorem State.lbQueue_safe {s₀ s : State} (h : Safe s₀ s) (c : ChanId) (write : Bool) (a : Addr) (bs : List Byte) (len : Nat) :
    Safe s₀ (s.lbQueue c write a bs len) :=
  h.of_eq rfl rfl

theorem State.lbPop_safe {s₀ s : State} (h : Safe s₀ s) :
    Safe s₀ (s.lbPop) := by
  unfold State.lbPop
  grind [safe_iff, Safe.forAll, Safe.foldl]

theorem State.sendWrite_safe {s₀ s : State} (h : Safe s₀ s) (c : ChanId) (w : WriteReq) :
    Safe s₀ (s.sendWrite c w) := by
  unfold State.sendWrite
  grind [safe_iff, Safe.forAll, Safe.foldl, State.updChan_safe, State.sendHostWrite_safe, State.lbQueue_safe]

theorem State.closeBurst_safe {s₀ s : State} (h : Safe s₀ s) (c : ChanId) :
    Safe s₀ (s.closeBurst c) := by
  unfold State.closeBurst
  grind [safe_iff, Safe.forAll, Safe.foldl, State.updChan_safe, State.sendWrite_safe]

theorem State.abandonLb_safe {s₀ s : State} (h : Safe s₀ s) (c : ChanId) :
    Safe s₀ (s.abandonLb c) :=
  h.of_eq rfl rfl

theorem State.abandonReads_safe {s₀ s : State} (h : Safe s₀ s) (c : ChanId) :
    Safe s₀ (s.abandonReads c) :=
  h.of_eq rfl rfl

theorem State.dropStuck_safe {s₀ s : State} (h : Safe s₀ s) (c : ChanId) :
    Safe s₀ (s.dropStuck c) := by
  unfold State.dropStuck
  grind [safe_iff, Safe.forAll, Safe.foldl, State.updChan_safe]

theorem State.postWork_safe {s₀ s : State} (h : Safe s₀ s) (c : ChanId) (w : WorkCpl) :
    Safe s₀ (s.postWork c w) := by
  unfold State.postWork
  grind [safe_iff, Safe.forAll, Safe.foldl, State.updChan_safe, State.postCq_safe]

theorem State.coverOk_safe {s₀ s : State} (h : Safe s₀ s) (c : ChanId) :
    Safe s₀ (s.coverOk c) := by
  unfold State.coverOk
  grind [safe_iff, Safe.forAll, Safe.foldl, State.postWork_safe, State.updChan_safe]

theorem State.finishStops_safe {s₀ s : State} (h : Safe s₀ s) (c : ChanId) :
    Safe s₀ (s.finishStops c) := by
  unfold State.finishStops
  grind [safe_iff, Safe.forAll, Safe.foldl, State.finishLong_safe]

theorem State.takeStop_safe {s₀ s : State} (h : Safe s₀ s) (c : ChanId) :
    Safe s₀ (s.takeStop c) := by
  unfold State.takeStop
  grind [safe_iff, Safe.forAll, Safe.foldl, State.finishStops_safe, State.noteChan_safe, State.updChan_safe]

theorem State.enterHalted_safe {s₀ s : State} (h : Safe s₀ s) (c : ChanId) :
    Safe s₀ (s.enterHalted c) := by
  unfold State.enterHalted
  grind [safe_iff, Safe.forAll, Safe.foldl, State.updChan_safe, State.updSq_safe, State.finishStops_safe]

theorem State.failWork_safe {s₀ s : State} (h : Safe s₀ s) (c : ChanId) (f : Failure) :
    Safe s₀ (s.failWork c f) := by
  unfold State.failWork
  grind [safe_iff, Safe.forAll, Safe.foldl, State.dropStuck_safe, State.closeBurst_safe, State.abandonReads_safe, State.freeSlot_safe, State.updChan_safe]

theorem State.failPlain_safe {s₀ s : State} (h : Safe s₀ s) (c : ChanId) (status : Byte) (detail : Nat) :
    Safe s₀ (s.failPlain c status detail) := by
  unfold State.failPlain
  grind [safe_iff, Safe.forAll, Safe.foldl, State.failWork_safe]

theorem State.failCheck_safe {s₀ s : State} (h : Safe s₀ s) (c : ChanId) (check : Nat) (a : Addr) (write : Bool) (fetch : Bool) :
    Safe s₀ (s.failCheck c check a write fetch) := by
  unfold State.failCheck
  grind [safe_iff, Safe.forAll, Safe.foldl, State.failWork_safe]

theorem State.retryDone_safe {s₀ s : State} (h : Safe s₀ s) (c : ChanId) (what : BitVec 2) (a : Addr) :
    Safe s₀ (s.retryDone c what a) :=
  h.of_eq rfl rfl

theorem State.busFail_safe {s₀ s : State} (h : Safe s₀ s) (c : ChanId) (what : BitVec 2) (a : Addr) (bytes : Nat) (cause : BusCause) :
    Safe s₀ (s.busFail c what a bytes cause) := by
  unfold State.busFail
  grind [safe_iff, Safe.forAll, Safe.foldl, State.updChan_safe, State.failWork_safe]

theorem State.failData_safe {s₀ s : State} (h : Safe s₀ s) (c : ChanId) (what : BitVec 2) (a : Addr) (bytes : Nat) (cause : Nat) :
    Safe s₀ (s.failData c what a bytes cause) := by
  unfold State.failData
  grind [safe_iff, Safe.forAll, Safe.foldl, State.failWork_safe]

theorem State.sendFetch_safe {s₀ s : State} (h : Safe s₀ s) (c : ChanId) (a : Addr) (k : FetchFor) :
    Safe s₀ (s.sendFetch c a k) := by
  unfold State.sendFetch
  grind [safe_iff, Safe.forAll, Safe.foldl, State.sendHostFetch_safe, State.busFail_safe, State.emit_safe]

theorem State.requestFetch_safe {s₀ s : State} (h : Safe s₀ s) (c : ChanId) (a : Addr) (k : FetchFor) :
    Safe s₀ (s.requestFetch c a k) := by
  unfold State.requestFetch
  grind [safe_iff, Safe.forAll, Safe.foldl, State.updChan_safe, State.failCheck_safe, State.sendFetch_safe]

theorem State.lateTx_safe {s₀ s : State} (h : Safe s₀ s) (e : EpId) :
    Safe s₀ (s.lateTx e) := by
  unfold State.lateTx
  grind [safe_iff, Safe.forAll, Safe.foldl, State.judgeFill_safe, State.placeDeficit_safe, State.updEp_safe]

theorem State.lateRx_safe {s₀ s : State} (h : Safe s₀ s) (e : EpId) (t : Tick) :
    Safe s₀ (s.lateRx e t) := by
  unfold State.lateRx
  grind [safe_iff, Safe.forAll, Safe.foldl, State.epTake_safe, State.updEp_safe]

theorem State.lateStreams_safe {s₀ s : State} (h : Safe s₀ s) (c : ChanId) (l : List (Bool × EpId)) :
    Safe s₀ (s.lateStreams c l) := by
  unfold State.lateStreams
  grind [safe_iff, Safe.forAll, Safe.foldl, State.updChan_safe, State.lateTx_safe, State.lateRx_safe]

theorem runIdentify_safe {s₀ x2 : State} (h : Safe s₀ x2) (x1 : Cmd) :
    Safe s₀ (runIdentify x1 x2) := by
  unfold runIdentify
  grind [safe_iff, Safe.forAll, Safe.foldl, State.respond_safe]

theorem runGetState_safe {s₀ x2 : State} (h : Safe s₀ x2) (x1 : Cmd) :
    Safe s₀ (runGetState x1 x2) := by
  unfold runGetState
  grind [safe_iff, Safe.forAll, Safe.foldl, State.answer_safe]

theorem runSetFeature_safe {s₀ x2 : State} (h : Safe s₀ x2) (x1 : Cmd) :
    Safe s₀ (runSetFeature x1 x2) := by
  unfold runSetFeature
  grind [safe_iff, Safe.forAll, Safe.foldl, State.answer_safe, State.updTenant_safe]

theorem runGetFeature_safe {s₀ x2 : State} (h : Safe s₀ x2) (x1 : Cmd) :
    Safe s₀ (runGetFeature x1 x2) := by
  unfold runGetFeature
  grind [safe_iff, Safe.forAll, Safe.foldl, State.answer_safe]

theorem runEcho_safe {s₀ x2 : State} (h : Safe s₀ x2) (x1 : Cmd) :
    Safe s₀ (runEcho x1 x2) := by
  unfold runEcho
  grind [safe_iff, Safe.forAll, Safe.foldl, State.answer_safe]

theorem runCreateCq_safe {s₀ x2 : State} (h : Safe s₀ x2) (x1 : Cmd) :
    Safe s₀ (runCreateCq x1 x2) := by
  unfold runCreateCq
  grind [safe_iff, Safe.forAll, Safe.foldl, State.answer_safe, State.updCq_safe]

theorem runCreateSq_safe {s₀ x2 : State} (h : Safe s₀ x2) (x1 : Cmd) :
    Safe s₀ (runCreateSq x1 x2) := by
  unfold runCreateSq
  grind [safe_iff, Safe.forAll, Safe.foldl, State.answer_safe, State.updSq_safe]

theorem runDeleteSq_safe {s₀ x2 : State} (h : Safe s₀ x2) (x1 : Cmd) :
    Safe s₀ (runDeleteSq x1 x2) := by
  unfold runDeleteSq
  grind [safe_iff, Safe.forAll, Safe.foldl, State.answer_safe, State.updSq_safe]

theorem State.settleRing_safe {s₀ s : State} (h : Safe s₀ s) (t : TenantId) (q : QueueId) :
    Safe s₀ (s.settleRing t q) := by
  unfold State.settleRing
  grind [safe_iff, Safe.forAll, Safe.foldl, State.sendVectors_safe, State.store_safe]

theorem runDeleteCq_safe {s₀ x2 : State} (h : Safe s₀ x2) (x1 : Cmd) :
    Safe s₀ (runDeleteCq x1 x2) := by
  unfold runDeleteCq
  grind [safe_iff, Safe.forAll, Safe.foldl, State.answer_safe, State.updCq_safe, State.settleRing_safe]

theorem State.updStaged_safe {s₀ s : State} (h : Safe s₀ s) (h : Home) (f : Staged → Staged) :
    Safe s₀ (s.updStaged h f) := by
  unfold State.updStaged
  grind [safe_iff, Safe.forAll, Safe.foldl, State.updTenant_safe, State.updChan_safe]

theorem State.updCtl_safe {s₀ s : State} (h : Safe s₀ s) (page : Page) (f : PageCtl → PageCtl) :
    Safe s₀ (s.updCtl page f) := by
  unfold State.updCtl
  grind [safe_iff, Safe.forAll, Safe.foldl, State.updTenant_safe]

theorem State.updCue_safe {s₀ s : State} (h : Safe s₀ s) (q : CueId) (f : Cue → Cue) :
    Safe s₀ (s.updCue q f) :=
  h.of_eq rfl rfl

theorem State.consumeCue_safe {s₀ s : State} (h : Safe s₀ s) (q : CueId) (k : BitVec 16) :
    Safe s₀ (s.consumeCue q k) :=
  h.of_eq rfl rfl

theorem State.addCue_safe {s₀ s : State} (h : Safe s₀ s) (q : CueId) (n : Nat) :
    Safe s₀ (s.addCue q n).1 :=
  h.of_eq rfl rfl

theorem State.grantProp_safe {s₀ s : State} (h : Safe s₀ s) (t : TenantId) (taker : Nat) :
    Safe s₀ (s.grantProp t taker).1 := by
  unfold State.grantProp
  grind [safe_iff, Safe.forAll, Safe.foldl]

theorem State.askProp_safe {s₀ s : State} (h : Safe s₀ s) (t : TenantId) (taker : Nat) (others : List (TenantId × Nat)) :
    Safe s₀ (s.askProp t taker others).1 := by
  unfold State.askProp
  grind [safe_iff, Safe.forAll, Safe.foldl]

theorem State.freePropAt_safe {s₀ s : State} (h : Safe s₀ s) (t : TenantId) (i : Nat) :
    Safe s₀ (s.freePropAt t i).1 :=
  h.of_eq rfl rfl

theorem State.beginWait_safe {s₀ s : State} (h : Safe s₀ s) (c : ChanId) (k : WaitKind) (timeout : Nat) :
    Safe s₀ (s.beginWait c k timeout) :=
  h.of_eq rfl rfl

theorem State.paceUnit_safe {s₀ s : State} (h : Safe s₀ s) (c : ChanId) (x : Xfer) :
    Safe s₀ (s.paceUnit c x) := by
  unfold State.paceUnit
  grind [safe_iff, Safe.forAll, Safe.foldl, State.updChan_safe]

theorem State.startUnit_safe {s₀ s : State} (h : Safe s₀ s) (c : ChanId) (x : Xfer) :
    Safe s₀ (s.startUnit c x) := by
  unfold State.startUnit
  grind [safe_iff, Safe.forAll, Safe.foldl, State.paceUnit_safe, State.updChan_safe]

theorem State.updScript_safe {s₀ s : State} (h : Safe s₀ s) (c : ChanId) (f : Script → Script) :
    Safe s₀ (s.updScript c f) :=
  h.of_eq rfl rfl

theorem State.nextPc_safe {s₀ s : State} (h : Safe s₀ s) (c : ChanId) :
    Safe s₀ (s.nextPc c) := by
  unfold State.nextPc
  grind [safe_iff, Safe.forAll, Safe.foldl, State.failPlain_safe, State.updScript_safe]

theorem State.failTarget_safe {s₀ s : State} (h : Safe s₀ s) (c : ChanId) (cause : Nat) (target : BitVec 12) :
    Safe s₀ (s.failTarget c cause target) :=
  h.of_eq rfl rfl

theorem State.finishWork_safe {s₀ s : State} (h : Safe s₀ s) (c : ChanId) (w : Taken) :
    Safe s₀ (s.finishWork c w).1 := by
  unfold State.finishWork
  grind [safe_iff, Safe.forAll, Safe.foldl, State.doneEvent_safe, State.updScript_safe, State.addCue_safe, State.postWork_safe, State.updChan_safe, State.chanVector_safe]

theorem State.underrun_safe {s₀ s : State} (h : Safe s₀ s) (c : ChanId) :
    Safe s₀ (s.underrun c) := by
  unfold State.underrun
  grind [safe_iff, Safe.forAll, Safe.foldl, State.finishStops_safe, State.chanVector_safe, State.updChan_safe]

theorem State.endDrain_safe {s₀ s : State} (h : Safe s₀ s) (c : ChanId) :
    Safe s₀ (s.endDrain c) := by
  unfold State.endDrain
  grind [safe_iff, Safe.forAll, Safe.foldl, State.takeStop_safe, State.updChan_safe]

theorem State.finishSet_safe {s₀ s : State} (h : Safe s₀ s) (c : ChanId) :
    Safe s₀ (s.finishSet c).1 := by
  unfold State.finishSet
  grind [safe_iff, Safe.forAll, Safe.foldl, State.updChan_safe, State.failWork_safe, State.doneEvent_safe, State.addCue_safe, State.underrun_safe, State.endDrain_safe, State.chanVector_safe]

theorem State.scriptUnitDone_safe {s₀ s : State} (h : Safe s₀ s) (c : ChanId) :
    Safe s₀ (s.scriptUnitDone c) := by
  unfold State.scriptUnitDone
  grind [safe_iff, Safe.forAll, Safe.foldl, State.nextPc_safe, State.updChan_safe]

theorem State.countLate_safe {s₀ s : State} (h : Safe s₀ s) (c : ChanId) (bytes : Nat) :
    Safe s₀ (s.countLate c bytes) := by
  unfold State.countLate
  grind [safe_iff, Safe.forAll, Safe.foldl, State.noteChan_safe, State.updChan_safe]

theorem State.reportConsumed_safe {s₀ s : State} (h : Safe s₀ s) (c : ChanId) (vector : Bool) :
    Safe s₀ (s.reportConsumed c vector) := by
  unfold State.reportConsumed
  grind [safe_iff, Safe.forAll, Safe.foldl, State.chanVector_safe, State.postWork_safe]

theorem State.endDiscard_safe {s₀ s : State} (h : Safe s₀ s) (c : ChanId) :
    Safe s₀ (s.endDiscard c) := by
  unfold State.endDiscard
  grind [safe_iff, Safe.forAll, Safe.foldl, State.updChan_safe, State.reportConsumed_safe]

theorem State.lateQueue_safe {s₀ s : State} (h : Safe s₀ s) (c : ChanId) (w : Taken) :
    Safe s₀ (s.lateQueue c w) := by
  unfold State.lateQueue
  grind [safe_iff, Safe.forAll, Safe.foldl, State.postWork_safe, State.countLate_safe, State.coverOk_safe, State.updChan_safe]

theorem State.flushSets_safe {s₀ s : State} (h : Safe s₀ s) (c : ChanId) : Safe s₀ (s.flushSets c).1 :=
  Safe.foldl_fst h _ fun _ _ hr => State.finishSet_safe hr c

theorem State.runLate_safe {s₀ s : State} (h : Safe s₀ s) (c : ChanId) :
    Safe s₀ (s.runLate c) := by
  unfold State.runLate
  grind [safe_iff, Safe.forAll, Safe.foldl, State.lateQueue_safe, State.countLate_safe, State.chanVector_safe, State.updChan_safe]

theorem State.startLate_safe {s₀ s : State} (h : Safe s₀ s) (c : ChanId) :
    Safe s₀ (s.startLate c) := by
  unfold State.startLate
  grind [safe_iff, Safe.forAll, Safe.foldl, State.dropStuck_safe, State.closeBurst_safe, State.abandonLb_safe, State.freeSlot_safe, State.updChan_safe]

theorem State.beginWork_safe {s₀ s : State} (h : Safe s₀ s) (c : ChanId) (w : Taken) :
    Safe s₀ (s.beginWork c w) := by
  unfold State.beginWork
  grind [safe_iff, Safe.forAll, Safe.foldl, State.updChan_safe, State.startLate_safe]

theorem State.swapSets_safe {s₀ s : State} (h : Safe s₀ s) (c : ChanId) :
    Safe s₀ (s.swapSets c) :=
  h.of_eq rfl rfl

theorem State.swapPoint_safe {s₀ s : State} (h : Safe s₀ s) (c : ChanId) :
    Safe s₀ (s.swapPoint c) := by
  unfold State.swapPoint
  grind [safe_iff, Safe.forAll, Safe.foldl, State.updChan_safe, State.swapSets_safe, State.endDrain_safe, State.underrun_safe]

theorem State.release_safe {s₀ s : State} (h : Safe s₀ s) (c : ChanId) (p : Tick) :
    Safe s₀ (s.release c p) := by
  unfold State.release
  grind [safe_iff, Safe.forAll, Safe.foldl, State.noteChan_safe, State.updChan_safe, State.beginWork_safe, State.nextPc_safe, State.startLate_safe, State.swapPoint_safe]

theorem State.releasePending_safe {s₀ s : State} (h : Safe s₀ s) (c : ChanId) :
    Safe s₀ (s.releasePending c) := by
  unfold State.releasePending
  grind [safe_iff, Safe.forAll, Safe.foldl, State.release_safe]

theorem State.dropFrom_safe {s₀ s : State} (h : Safe s₀ s) (c : ChanId) (w : WriteReq) :
    Safe s₀ (s.dropFrom c w) :=
  h.of_eq rfl rfl

theorem State.writeBusFail_safe {s₀ s : State} (h : Safe s₀ s) (c : ChanId) (w : WriteReq) (k : BusCause) :
    Safe s₀ (s.writeBusFail c w k) := by
  unfold State.writeBusFail
  grind [safe_iff, Safe.forAll, Safe.foldl, State.updChan_safe, State.startLate_safe, State.dropFrom_safe, State.busFail_safe]

theorem State.runFail_safe {s₀ s : State} (h : Safe s₀ s) (c : ChanId) (f : Failure) :
    Safe s₀ (s.runFail c f) := by
  unfold State.runFail
  grind [safe_iff, Safe.forAll, Safe.foldl, State.updChan_safe, State.noteChan_safe, State.updScript_safe, State.reportConsumed_safe, State.coverOk_safe, State.postWork_safe, State.chanVector_safe, State.enterHalted_safe]

theorem State.dropHeld_safe {s₀ s : State} (h : Safe s₀ s) (c : ChanId) : Safe s₀ (s.dropHeld c).1 := by
  unfold State.dropHeld
  extract_lets t q mine others s1
  split
  · exact h
  · refine Safe.foldl_fst (State.updCq_safe h _ _ _) _ fun d r hr => ?_
    dsimp only
    split
    · exact State.putCompletion_safe hr _ _ _
    · exact hr

theorem State.finishReset_safe {s₀ s : State} (h : Safe s₀ s) (c : ChanId) (dropped : Nat) :
    Safe s₀ (s.finishReset c dropped) := by
  unfold State.finishReset
  grind [safe_iff, Safe.forAll, Safe.foldl, State.updSq_safe, State.noteChan_safe, State.updChan_safe, State.updPin_safe, State.finishLong_safe]

theorem State.startWork_safe {s₀ s : State} (h : Safe s₀ s) (c : ChanId) :
    Safe s₀ (s.startWork c) := by
  unfold State.startWork
  grind [safe_iff, Safe.forAll, Safe.foldl, State.updChan_safe, State.startUnit_safe]

theorem State.queueFault_safe {s₀ s : State} (h : Safe s₀ s) (c : ChanId) (f : Completion) :
    Safe s₀ (s.queueFault c f) := by
  unfold State.queueFault
  grind [safe_iff, Safe.forAll, Safe.foldl, State.updSq_safe, State.reportConsumed_safe, State.updChan_safe, State.postWork_safe]

theorem State.runAfter_safe {s₀ s0 : State} (h : Safe s₀ s0) (c : ChanId) (a : After) :
    Safe s₀ (s0.runAfter c a).1 := by
  unfold State.runAfter
  grind [safe_iff, Safe.forAll, Safe.foldl, State.updChan_safe, State.startWork_safe, State.finishWork_safe, State.scriptUnitDone_safe, State.addCue_safe, State.updScript_safe, State.doneEvent_safe, State.nextPc_safe, State.chanVector_safe, State.noteChan_safe, State.takeStop_safe, State.runFail_safe, State.flushSets_safe, State.runLate_safe, State.dropHeld_safe, State.finishReset_safe, State.finishSet_safe, State.queueFault_safe]

theorem State.askProof_safe {s₀ s : State} (h : Safe s₀ s) (c : ChanId) (t : ProofTarget) (a : Addr) :
    Safe s₀ (s.askProof c t a) := by
  unfold State.askProof
  grind [safe_iff, Safe.forAll, Safe.foldl, State.sendHostFetch_safe, State.emit_safe]

theorem State.beginProof_safe {s₀ s : State} (h : Safe s₀ s) (c : ChanId) :
    Safe s₀ (s.beginProof c) := by
  unfold State.beginProof
  grind [safe_iff, Safe.forAll, Safe.foldl, State.updChan_safe, State.askProof_safe]

theorem State.tryGrant_safe {s₀ s : State} (h : Safe s₀ s) (c : ChanId) (w : Wait) {r}
    (hr : s.tryGrant c w = some r) : Safe s₀ r.1 := by
  unfold State.tryGrant at hr
  grind [safe_iff, Safe.forAll, Safe.foldl, State.consumeCue_safe, State.nextPc_safe, State.updChan_safe, State.grantProp_safe]

theorem State.showWait_safe {s₀ s : State} (h : Safe s₀ s) (c : ChanId) (w : Wait) {r}
    (hr : s.showWait c w = some r) : Safe s₀ r.1 := by
  unfold State.showWait at hr
  grind [safe_iff, Safe.forAll, Safe.foldl, State.updChan_safe]

theorem State.paceNeed_safe {s₀ s : State} (h : Safe s₀ s) (c : ChanId) (x : Xfer) {r}
    (hr : s.paceNeed c x = some r) : Safe s₀ r.1 := by
  unfold State.paceNeed at hr
  grind [safe_iff, Safe.forAll, Safe.foldl, State.updChan_safe, State.beginWait_safe]

theorem State.unitEnded_safe {s₀ s : State} (h : Safe s₀ s) (c : ChanId) :
    Safe s₀ (s.unitEnded c) := by
  unfold State.unitEnded
  grind [safe_iff, Safe.forAll, Safe.foldl, State.updChan_safe]

theorem State.unitOnce_safe {s₀ s : State} (h : Safe s₀ s) (c : ChanId) (x : Xfer) {r}
    (hr : s.unitOnce c x = some r) : Safe s₀ r.1 := by
  unfold State.unitOnce at hr
  grind [safe_iff, Safe.forAll, Safe.foldl, State.unitEnded_safe, State.failWork_safe, State.requestFetch_safe, State.paceNeed_safe]

theorem State.fetchOnce_safe {s₀ s : State} (h : Safe s₀ s) (c : ChanId) (a : Addr) (k : FetchFor) {r}
    (hr : s.fetchOnce c a k = some r) : Safe s₀ r.1 := by
  unfold State.fetchOnce at hr
  grind [safe_iff, Safe.forAll, Safe.foldl, State.requestFetch_safe]

theorem State.scriptOnce_safe {s₀ s : State} (h : Safe s₀ s) (c : ChanId) {r} (hr : s.scriptOnce c = some r) : Safe s₀ r.1 := by
  unfold State.scriptOnce at hr
  extract_lets n s1 at hr
  split at hr
  · cases hr
  · split at hr
    · exact State.fetchOnce_safe (State.updScript_safe h c _) _ _ _ hr
    · exact State.fetchOnce_safe h _ _ _ hr

theorem State.queueOnce_safe {s₀ s : State} (h : Safe s₀ s) (c : ChanId) {r} (hr : s.queueOnce c = some r) : Safe s₀ r.1 := by
  unfold State.queueOnce at hr
  extract_lets n rest at hr
  have hrest (he : rest = some r) : Safe s₀ r.1 := by
    unfold rest at he
    split at he
    · cases he
    · cases he; exact State.updChan_safe h c _
  split at hr
  · cases hr
    exact State.updChan_safe h c _
  · split at hr
    · split at hr
      · exact hrest hr
      · rw [Option.orElse_eq_orElse, Option.orElse_eq_or, Option.or_eq_some_iff] at hr
        obtain hr | ⟨_, hr⟩ := hr
        · split at hr
          · exact State.fetchOnce_safe h _ _ _ hr
          · cases hr
        · exact hrest hr
    · exact hrest hr

theorem State.afterOnce_safe {s₀ s : State} (h : Safe s₀ s) (c : ChanId) (a : After) {r}
    (hr : s.afterOnce c a = some r) : Safe s₀ r.1 := by
  unfold State.afterOnce at hr
  grind [safe_iff, Safe.forAll, Safe.foldl, State.runAfter_safe, State.lateStreams_safe, State.beginProof_safe]

theorem State.setOnce_safe {s₀ s : State} (h : Safe s₀ s) (c : ChanId) {r}
    (hr : s.setOnce c = some r) : Safe s₀ r.1 := by
  unfold State.setOnce at hr
  grind [safe_iff, Safe.forAll, Safe.foldl, State.updChan_safe, State.startWork_safe]

theorem State.workOnce_safe {s₀ s : State} (h : Safe s₀ s) (c : ChanId) {r} (hr : s.workOnce c = some r) : Safe s₀ r.1 := by
  unfold State.workOnce at hr
  extract_lets n at hr
  split at hr
  · rw [Option.orElse_eq_orElse, Option.orElse_eq_or, Option.or_eq_some_iff] at hr
    obtain hr | ⟨_, hr⟩ := hr
    · exact State.tryGrant_safe h _ _ hr
    · exact State.showWait_safe h _ _ hr
  · split at hr
    · exact State.unitOnce_safe h _ _ hr
    · exact State.fetchOnce_safe h _ _ _ hr
    · split at hr
      · exact State.scriptOnce_safe h _ hr
      · split at hr
        · exact State.setOnce_safe h _ hr
        · split at hr
          · exact State.queueOnce_safe h _ hr
          · cases hr

theorem State.burstOnce_safe {s₀ s : State} (h : Safe s₀ s) (c : ChanId) {r} (hr : s.burstOnce c = some r) : Safe s₀ r.1 := by
  unfold State.burstOnce at hr
  extract_lets n at hr
  split at hr
  · cases hr
    exact State.writeBusFail_safe h c _ .linkDown
  · split at hr
    · obtain ⟨w, _, rfl⟩ := Option.map_eq_some_iff.mp hr
      exact State.sendWrite_safe h c w
    · cases hr

theorem State.actOnce_safe {s₀ s : State} (h : Safe s₀ s) (c : ChanId) {r} (hr : s.actOnce c = some r) : Safe s₀ r.1 := by
  unfold State.actOnce at hr
  extract_lets n at hr
  split at hr
  · cases hr; exact State.burstOnce_safe h c ‹_›
  · cases hr; exact State.release_safe h _ _
  · rw [Option.orElse_eq_orElse, Option.orElse_eq_or, Option.or_eq_some_iff] at hr
    obtain hr | ⟨_, hr⟩ := hr
    · exact State.afterOnce_safe h _ _ hr
    · split at hr
      · cases hr
      · exact State.workOnce_safe h _ hr
  · split at hr
    · split at hr
      · cases hr
      · cases hr; exact State.enterHalted_safe h c
    · split at hr
      · cases hr; exact State.updChan_safe h c _
      · split at hr
        · cases hr; exact State.finishStops_safe h c
        · exact State.workOnce_safe h _ hr

theorem State.run_safe {s₀ : State} (k : Nat) (l : List ChanId) {s : State} (h : Safe s₀ s) : Safe s₀ (State.run k l s) := by
  induction k generalizing l s with
  | zero => simpa [State.run] using h
  | succ k ih =>
    induction l generalizing s with
    | nil => simpa [State.run] using h
    | cons c l ihl =>
      cases ha : s.actOnce c with
      | some r => simpa [State.run, ha] using ih _ (State.actOnce_safe h c ha)
      | none => simpa [State.run, ha] using ih l h

theorem State.go_safe {s₀ s : State} (h : Safe s₀ s) (l : List ChanId) :
    Safe s₀ (s.go l) := by
  unfold State.go
  grind [safe_iff, Safe.forAll, Safe.foldl, State.run_safe]

theorem State.signal_safe {s₀ s : State} (h : Safe s₀ s) (q : CueId) (n : Nat) :
    Safe s₀ (s.signal q n) := by
  unfold State.signal
  grind [safe_iff, Safe.forAll, Safe.foldl, State.addCue_safe, State.go_safe]

theorem State.passGate_safe {s₀ s : State} (h : Safe s₀ s) (c : ChanId) (w : Taken) :
    Safe s₀ (s.passGate c w) := by
  unfold State.passGate
  grind [safe_iff, Safe.forAll, Safe.foldl, State.releasePending_safe, State.updChan_safe, State.beginWork_safe]

theorem State.checkTables_safe {s₀ s : State} (h : Safe s₀ s) (c : ChanId) (w : Taken) (srcDone : Bool) :
    Safe s₀ (s.checkTables c w srcDone) := by
  unfold State.checkTables
  grind [safe_iff, Safe.forAll, Safe.foldl, State.updChan_safe, State.passGate_safe]

theorem State.jumpEntry_safe {s₀ s : State} (h : Safe s₀ s) (c : ChanId) (w : Taken) (t : DescType) :
    Safe s₀ (s.jumpEntry c w t) := by
  unfold State.jumpEntry
  grind [safe_iff, Safe.forAll, Safe.foldl, State.updChan_safe, State.failPlain_safe]

theorem State.checkStage_safe {s₀ s : State} (h : Safe s₀ s) (c : ChanId) (w : Taken) :
    Safe s₀ (s.checkStage c w) := by
  unfold State.checkStage
  grind [safe_iff, Safe.forAll, Safe.foldl, State.failPlain_safe, State.jumpEntry_safe, State.checkTables_safe]

theorem State.consume_safe {s₀ s : State} (h : Safe s₀ s) (c : ChanId) (w : Taken) (d : Discard) :
    Safe s₀ (s.consume c w d) := by
  unfold State.consume
  grind [safe_iff, Safe.forAll, Safe.foldl, State.updChan_safe, State.failPlain_safe, State.jumpEntry_safe, State.startLate_safe, State.lateStreams_safe, State.endDiscard_safe]

theorem State.passEntry_safe {s₀ s : State} (h : Safe s₀ s) (c : ChanId) (w : Taken) :
    Safe s₀ (s.passEntry c w) := by
  unfold State.passEntry
  grind [safe_iff, Safe.forAll, Safe.foldl, State.updChan_safe, State.updSq_safe]

theorem State.takeEntry_safe {s₀ s : State} (h : Safe s₀ s) (c : ChanId) (w : Taken) :
    Safe s₀ (s.takeEntry c w) := by
  unfold State.takeEntry
  grind [safe_iff, Safe.forAll, Safe.foldl, State.passEntry_safe, State.failPlain_safe, State.updChan_safe, State.consume_safe, State.checkStage_safe]

theorem State.takeRow_safe {s₀ s : State} (h : Safe s₀ s) (c : ChanId) (t : DescType) :
    Safe s₀ (s.takeRow c t) := by
  unfold State.takeRow
  grind [safe_iff, Safe.forAll, Safe.foldl, State.go_safe, State.takeEntry_safe]

theorem State.sendRead_safe {s₀ s : State} (h : Safe s₀ s) (c : ChanId) (a : Addr) (len : Nat) (tag : Option Byte) :
    Safe s₀ (s.sendRead c a len tag) := by
  unfold State.sendRead
  grind [safe_iff, Safe.forAll, Safe.foldl, State.emit_safe, State.updPort_safe, State.busFail_safe, State.lbQueue_safe]

theorem State.issueRead_safe {s₀ s : State} (h : Safe s₀ s) (c : ChanId) : Safe s₀ (s.issueRead c) := by
  unfold State.issueRead
  dsimp only
  split
  · exact h
  · next x _ =>
    split
    · exact h
    · split
      · exact h
      · split
        · exact State.failCheck_safe h _ _ _ _ _
        · split
          · exact h
          · refine State.sendRead_safe ?_ _ _ _ _
            split
            · exact State.epTake_safe (State.updChan_safe h _ _) _ _
            · exact State.updChan_safe h _ _

theorem State.issueFirst_safe {s₀ s : State} (h : Safe s₀ s) (l : List ChanId) : Safe s₀ (s.issueFirst l) := by
  induction l with
  | nil => exact h
  | cons c l ih =>
    unfold State.issueFirst
    extract_lets wants
    split
    · exact State.issueRead_safe h c
    · exact ih

theorem State.admitAct_safe {s₀ s : State} (h : Safe s₀ s) (h : ShId) (c : ChanId) :
    Safe s₀ (s.admitAct h c) := by
  unfold State.admitAct
  grind [safe_iff, Safe.forAll, Safe.foldl, State.updChan_safe, State.go_safe, State.failPlain_safe]

theorem State.reservePlaces_safe {s₀ s : State} (h : Safe s₀ s) (c : ChanId) (e : EpId) (bs : List Byte) :
    Safe s₀ (s.reservePlaces c e bs) := by
  unfold State.reservePlaces
  grind [safe_iff, Safe.forAll, Safe.foldl, State.updEp_safe, State.epAppend_safe]

theorem State.writeBeat_safe {s₀ s : State} (h : Safe s₀ s) (c : ChanId) (x : Xfer) (m : Nat) (a : Addr) (bs : List Byte) (planned : Nat) :
    Safe s₀ (s.writeBeat c x m a bs planned) := by
  unfold State.writeBeat
  grind [safe_iff, Safe.forAll, Safe.foldl, State.updChan_safe, State.reservePlaces_safe, State.closeBurst_safe, State.freeSlot_safe]

theorem State.beatOf_safe {s₀ s : State} (h : Safe s₀ s) (c : ChanId) (m : Nat) :
    Safe s₀ (s.beatOf c m) := by
  unfold State.beatOf
  grind [safe_iff, Safe.forAll, Safe.foldl, State.writeBeat_safe, State.failCheck_safe]

theorem State.passBeat_safe {s₀ s : State} (h : Safe s₀ s) (h : ShId) (c : ChanId) :
    Safe s₀ (s.passBeat h c) := by
  unfold State.passBeat
  grind [= safe_iff, =_ safe_iff, Safe.forAll, Safe.foldl, State.go_safe, State.closeBurst_safe]

theorem State.idleBeat_safe {s₀ s : State} (h : Safe s₀ s) (h : ShId) :
    Safe s₀ (s.idleBeat h) := by
  unfold State.idleBeat
  grind [safe_iff, Safe.forAll, Safe.foldl, State.go_safe, State.closeBurst_safe]

theorem State.landRead_safe {s₀ s : State} (h : Safe s₀ s) (c : ChanId) (r : ReadReq) (x : Xfer) (data : List Byte) :
    Safe s₀ (s.landRead c r x data) :=
  h.of_eq rfl rfl

theorem State.readOwn_safe {s₀ s : State} (h : Safe s₀ s) (c : ChanId) (r : ReadReq) (x : Xfer) (ecc : Ecc) :
    Safe s₀ (s.readOwn c r x ecc) := by
  unfold State.readOwn
  grind [safe_iff, Safe.forAll, Safe.foldl, State.load_safe, State.failData_safe, State.landRead_safe]

theorem State.readEnded_safe {s₀ s : State} (h : Safe s₀ s) (c : ChanId) (r : ReadReq) (x : Xfer) (ended : Ended) (bytes : List Byte) :
    Safe s₀ (s.readEnded c r x ended bytes) := by
  unfold State.readEnded
  grind [safe_iff, Safe.forAll, Safe.foldl, State.busFail_safe, State.updChan_safe, State.failData_safe, State.landRead_safe]

theorem State.dropPortRead_safe {s₀ s : State} (h : Safe s₀ s) (a : Addr) (tag : Option Byte) :
    Safe s₀ (s.dropPortRead a tag) := by
  unfold State.dropPortRead
  grind [safe_iff, Safe.forAll, Safe.foldl, State.updPort_safe]

theorem State.readStream_safe {s₀ s : State} (h : Safe s₀ s) (c : ChanId) (r : ReadReq) (x : Xfer) (ecc : Ecc) :
    Safe s₀ (s.readStream c r x ecc) := by
  unfold State.readStream
  grind [safe_iff, Safe.forAll, Safe.foldl, State.failData_safe, State.fifoBad_safe, State.fifoCheck_safe, State.landRead_safe]

theorem State.readReturn_safe {s₀ s : State} (h : Safe s₀ s) (c : ChanId) (ended : Ended) (bytes : List Byte) (ecc : Ecc) :
    Safe s₀ (s.readReturn c ended bytes ecc) := by
  unfold State.readReturn
  grind [safe_iff, Safe.forAll, Safe.foldl, State.readStream_safe, State.readOwn_safe, State.readEnded_safe, State.dropPortRead_safe]

theorem State.failOldest_safe {s₀ s : State} (h : Safe s₀ s) (c : ChanId) :
    Safe s₀ (s.failOldest c) := by
  unfold State.failOldest
  grind [safe_iff, Safe.forAll, Safe.foldl, State.readReturn_safe]

theorem State.markUnproven_safe {s₀ s : State} (h : Safe s₀ s) (c : ChanId) (w : WriteReq) :
    Safe s₀ (s.markUnproven c w) := by
  unfold State.markUnproven
  grind [safe_iff, Safe.forAll, Safe.foldl, State.updChan_safe]

theorem State.writeLanded_safe {s₀ s : State} (h : Safe s₀ s) (c : ChanId) (w : WriteReq) :
    Safe s₀ (s.writeLanded c w) := by
  unfold State.writeLanded
  grind [safe_iff, Safe.forAll, Safe.foldl, State.retryDone_safe, State.markUnproven_safe, State.updChan_safe]

theorem State.writeDone_safe {s₀ s : State} (h : Safe s₀ s) (c : ChanId) (land : LandAt) (ended : Ended) (ecc : Ecc) :
    Safe s₀ (s.writeDone c land ended ecc) := by
  unfold State.writeDone
  grind [safe_iff, Safe.forAll, Safe.foldl, State.writeBusFail_safe, State.writeLanded_safe, State.updEp_safe, State.store_safe, State.failData_safe, State.dropFrom_safe]

theorem State.issueNext_safe {s₀ : State} (k : Nat) {s : State} (h : Safe s₀ s) : Safe s₀ (State.issueNext k s) := by
  induction k generalizing s with
  | zero => exact h
  | succ k ih =>
    unfold State.issueNext
    extract_lets free
    split
    · exact h
    · next i w _ =>
      have hw := State.issueCpl_safe h w
      split <;> next e => rw [e] at hw; exact ih (hw.of_eq rfl rfl)

theorem State.cplLeaves_safe {s₀ s : State} (h : Safe s₀ s) (w : CplWrite) :
    Safe s₀ (s.cplLeaves w) := by
  unfold State.cplLeaves
  grind [safe_iff, Safe.forAll, Safe.foldl, State.issueNext_safe]

theorem State.cplBusError_safe {s₀ s : State} (h : Safe s₀ s) (w : CplWrite) :
    Safe s₀ (s.cplBusError w) := by
  unfold State.cplBusError
  grind [= safe_iff, =_ safe_iff, Safe.forAll, Safe.foldl, State.cplFails_safe]

theorem State.completionDone_safe {s₀ s : State} (h : Safe s₀ s) (land : LandAt) (ended : Ended) (ecc : Ecc) :
    Safe s₀ (s.completionDone land ended ecc) := by
  unfold State.completionDone
  grind [safe_iff, Safe.forAll, Safe.foldl, State.cplBusError_safe, State.cplLeaves_safe, State.sendVectors_safe, State.store_safe, State.faultCq_safe]

theorem State.retryCpls_safe {s₀ s : State} (h : Safe s₀ s) (c : ChanId) : Safe s₀ (s.retryCpls c) := by
  unfold State.retryCpls
  refine Safe.forAll h _ fun w t ht => ?_
  split
  · exact State.faultCq_safe ht _ _ _
  · have hi := State.issueCpl_safe ht w
    split <;> next e => rw [e] at hi; first | exact hi.of_eq rfl rfl | exact State.cplLeaves_safe hi w

theorem State.retryIssued_safe {s₀ s : State} (h : Safe s₀ s) (c : ChanId) (r : Retry) :
    Safe s₀ (s.retryIssued c r) :=
  h.of_eq rfl rfl

theorem State.reissue_safe {s₀ s : State} (h : Safe s₀ s) (c : ChanId) (r : Retry) :
    Safe s₀ (s.reissue c r) := by
  unfold State.reissue
  grind [safe_iff, Safe.forAll, Safe.foldl, State.failCheck_safe, State.sendRead_safe, State.updChan_safe, State.dropPortRead_safe, State.failWork_safe, State.dropFrom_safe, State.sendWrite_safe, State.sendFetch_safe, State.askProof_safe]

theorem State.proven_safe {s₀ s : State} (h : Safe s₀ s) (c : ChanId) (t : ProofTarget) :
    Safe s₀ (s.proven c t) :=
  h.of_eq rfl rfl

theorem State.dropFailedSet_safe {s₀ s : State} (h : Safe s₀ s) (c : ChanId) :
    Safe s₀ (s.dropFailedSet c) := by
  unfold State.dropFailedSet
  grind [safe_iff, Safe.forAll, Safe.foldl, State.updChan_safe]

theorem State.proofGood_safe {s₀ s : State} (h : Safe s₀ s) (c : ChanId) (t : ProofTarget) (a : Addr) (bytes : List Byte) :
    Safe s₀ (s.proofGood c t a bytes) := by
  unfold State.proofGood
  grind [safe_iff, Safe.forAll, Safe.foldl, State.retryDone_safe, State.proven_safe, State.failWork_safe, State.dropFailedSet_safe]

theorem State.proofBad_safe {s₀ s : State} (h : Safe s₀ s) (c : ChanId) (t : ProofTarget) (a : Addr) (bus : Option BusCause) (cause : Nat) :
    Safe s₀ (s.proofBad c t a bus cause) := by
  unfold State.proofBad
  grind [safe_iff, Safe.forAll, Safe.foldl, State.updChan_safe, State.proven_safe, State.dropFailedSet_safe, State.busFail_safe, State.failData_safe]

theorem State.proofLoad_safe {s₀ s : State} (h : Safe s₀ s) (c : ChanId) (t : ProofTarget) (a : Addr) (ecc : Ecc) :
    Safe s₀ (s.proofLoad c t a ecc).1 := by
  refine Safe.foldl_fst (State.load_safe h _ _ _ _ _) _ fun x r hr => ?_
  split
  · exact hr
  · exact State.load_safe hr _ _ _ _ _

theorem State.proofReturn_safe {s₀ s : State} (h : Safe s₀ s) (c : ChanId) (target : Option ProofTarget) (ended : Ended)
    (bytes : List Byte) (ecc : Ecc) : Safe s₀ (s.proofReturn c target ended bytes ecc) := by
  unfold State.proofReturn
  extract_lets n hit
  split
  · next t a _ _ =>
    split
    · exact h
    · split
      · have hl := State.proofLoad_safe h c t a ecc
        split <;> next e => rw [e] at hl; simp only [State.proofBad_safe hl, State.proofGood_safe hl]
      · extract_lets down
        split
        · exact State.proofBad_safe h _ _ _ _ _
        · split <;> simp only [State.proofBad_safe h, State.proofGood_safe h]
  · exact h

theorem State.fetchedBy_safe {s₀ s : State} (h : Safe s₀ s) (source : Nat) (a : Addr) (len : Nat) (ended : Ended) (bytes : List Byte) (ecc : Ecc) (report : Bool) :
    Safe s₀ (s.fetchedBy source a len ended bytes ecc report).1 := by
  unfold State.fetchedBy
  grind [safe_iff, Safe.forAll, Safe.foldl, State.load_safe]

theorem State.fetched_safe {s₀ s : State} (h : Safe s₀ s) (c : ChanId) (a : Addr) (len : Nat) (ended : Ended) (bytes : List Byte) (ecc : Ecc) (report : Bool) :
    Safe s₀ (s.fetched c a len ended bytes ecc report).1 := by
  unfold State.fetched
  grind [safe_iff, Safe.forAll, Safe.foldl, State.fetchedBy_safe]

theorem State.walkOver_safe {s₀ s : State} (h : Safe s₀ s) (c : ChanId) (w : Walk) (entry : Nat) :
    Safe s₀ (s.walkOver c w entry) := by
  unfold State.walkOver
  grind [safe_iff, Safe.forAll, Safe.foldl, State.failPlain_safe, State.updChan_safe, State.passGate_safe, State.checkTables_safe]

theorem State.walkEntry_safe {s₀ s : State} (h : Safe s₀ s) (c : ChanId) (w : Walk) (bs : List Byte) :
    Safe s₀ (s.walkEntry c w bs) := by
  unfold State.walkEntry
  grind [safe_iff, Safe.forAll, Safe.foldl, State.failPlain_safe, State.walkOver_safe, State.updChan_safe]

theorem State.fetchArrived_safe {s₀ s : State} (h : Safe s₀ s) (c : ChanId) (a : Addr) (k : FetchFor) (bs : List Byte) :
    Safe s₀ (s.fetchArrived c a k bs) := by
  unfold State.fetchArrived
  grind [safe_iff, Safe.forAll, Safe.foldl, State.updChan_safe, State.updScript_safe, State.walkEntry_safe]

theorem State.fetchReturn_safe {s₀ s : State} (h : Safe s₀ s) (c : ChanId) (a : Addr) (k : FetchFor) (ended : Ended) (bytes : List Byte) (ecc : Ecc) :
    Safe s₀ (s.fetchReturn c a k ended bytes ecc) := by
  unfold State.fetchReturn
  grind [safe_iff, Safe.forAll, Safe.foldl, State.fetched_safe, State.fetchArrived_safe, State.retryDone_safe, State.updChan_safe, State.busFail_safe, State.failData_safe]

theorem State.readAhead_safe {s₀ s : State} (h : Safe s₀ s) (c : ChanId) (a : Addr) (k : FetchFor) (ended : Ended) (bytes : List Byte) (ecc : Ecc) :
    Safe s₀ (s.readAhead c a k ended bytes ecc) := by
  unfold State.readAhead
  grind [safe_iff, Safe.forAll, Safe.foldl, State.fetched_safe, State.fetchArrived_safe]

theorem State.countSpin_safe {s₀ s : State} (h : Safe s₀ s) (c : ChanId) :
    Safe s₀ (s.countSpin c) :=
  h.of_eq rfl rfl

theorem State.scriptRow_safe {s₀ s : State} (h : Safe s₀ s) (c : ChanId) (op : ScriptOp) (check : Chan → Insn → InsnCheck)
    {run : Insn → State → State} (hrun : ∀ i, Safe s₀ (run i s)) : Safe s₀ (s.scriptRow c op check run) := by
  have hfail (status : Byte) (detail : Nat) : Safe s₀ ((s.failPlain c status detail).go [c]) := State.go_safe (State.failPlain_safe h _ _ _) _
  unfold State.scriptRow
  split
  · exact h
  · split
    · exact h
    · extract_lets found
      split
      · exact h
      · split
        · exact hfail _ _
        · split
          · exact hfail _ _
          · split
            · exact hfail _ _
            · exact State.go_safe (hrun _) _

theorem State.regInsn_safe {s₀ s : State} (h : Safe s₀ s) (c : ChanId) (f : Script → Script) :
    Safe s₀ (s.regInsn c f) := by
  unfold State.regInsn
  grind [safe_iff, Safe.forAll, Safe.foldl, State.nextPc_safe, State.countSpin_safe, State.updScript_safe]

theorem State.branchTo_safe {s₀ s : State} (h : Safe s₀ s) (c : ChanId) (target : Nat) :
    Safe s₀ (s.branchTo c target) :=
  h.of_eq rfl rfl

theorem State.passWaitt_safe {s₀ s : State} (h : Safe s₀ s) (c : ChanId) (t : Tick) (setTt : Bool) (past : Bool) :
    Safe s₀ (s.passWaitt c t setTt past) := by
  unfold State.passWaitt
  grind [safe_iff, Safe.forAll, Safe.foldl, State.nextPc_safe, State.updChan_safe]

theorem State.waitNext_safe {s₀ s : State} (h : Safe s₀ s) (c : ChanId) :
    Safe s₀ (s.waitNext c) := by
  unfold State.waitNext
  grind [safe_iff, Safe.forAll, Safe.foldl, State.releasePending_safe, State.updChan_safe]

theorem State.failWait_safe {s₀ s : State} (h : Safe s₀ s) (c : ChanId) (cause : Nat) (target : Option (BitVec 12)) (status : Byte) (detail : Nat) :
    Safe s₀ (s.failWait c cause target status detail) := by
  unfold State.failWait
  grind [safe_iff, Safe.forAll, Safe.foldl, State.updScript_safe, State.failTarget_safe, State.failPlain_safe]

theorem State.curtainQueue_safe {s₀ s : State} (h : Safe s₀ s) (c : ChanId) :
    Safe s₀ (s.curtainQueue c) := by
  unfold State.curtainQueue
  grind [safe_iff, Safe.forAll, Safe.foldl, State.updChan_safe, State.startLate_safe]

theorem State.curtainScript_safe {s₀ s : State} (h : Safe s₀ s) (c : ChanId) : Safe s₀ (s.curtainScript c) := by
  have hl := State.startLate_safe h c
  unfold State.curtainScript
  dsimp only
  generalize s.startLate c = t at hl ⊢
  rcases (s.chan c).after with _ | a
  · dsimp only
    split
    · split <;> assumption
    · split
      · exact hl
      · split
        · exact h
        · split <;> assumption
  · cases a <;> assumption

theorem State.curtainShadow_safe {s₀ s : State} (h : Safe s₀ s) (c : ChanId) :
    Safe s₀ (s.curtainShadow c) := by
  unfold State.curtainShadow
  grind [safe_iff, Safe.forAll, Safe.foldl, State.startLate_safe, State.updChan_safe]

theorem State.curtainFalls_safe {s₀ s : State} (h : Safe s₀ s) (c : ChanId) :
    Safe s₀ (s.curtainFalls c) := by
  unfold State.curtainFalls
  grind [safe_iff, Safe.forAll, Safe.foldl, State.curtainQueue_safe, State.curtainScript_safe, State.curtainShadow_safe]

theorem State.lineEvent_safe {s₀ s : State} (h : Safe s₀ s) (i : Nat) (level : Bool) :
    Safe s₀ (s.lineEvent i level) := by
  unfold State.lineEvent
  grind [safe_iff, Safe.forAll, Safe.foldl, State.go_safe, State.updChan_safe]

theorem State.ballMoves_safe {s₀ s : State} (h : Safe s₀ s) (p : PinId) (level : Bool) :
    Safe s₀ (s.ballMoves p level) :=
  h.of_eq rfl rfl

theorem State.holdEdge_safe {s₀ s : State} (h : Safe s₀ s) (p : PinId) (level : Bool) :
    Safe s₀ (s.holdEdge p level) := by
  unfold State.holdEdge
  grind [safe_iff, Safe.forAll, Safe.foldl, State.setDevReg_safe, State.updPin_safe]

theorem State.breakWait_safe {s₀ s : State} (h : Safe s₀ s) (c : ChanId) (size : Nat) :
    Safe s₀ (s.breakWait c size) := by
  unfold State.breakWait
  grind [safe_iff, Safe.forAll, Safe.foldl, State.noteChan_safe, State.failWait_safe, State.failTarget_safe, State.failPlain_safe]

theorem State.aerReport_safe {s₀ s : State} (h : Safe s₀ s) (p : HostPort) (bit : Nat) (h : Option AerHeader) :
    Safe s₀ (s.aerReport p bit h) := by
  unfold State.aerReport
  grind [safe_iff, Safe.forAll, Safe.foldl, State.updPort_safe, State.emit_safe]

theorem State.aerNonfatal_safe {s₀ s : State} (h : Safe s₀ s) (p : HostPort) (bit : Nat) (h : AerHeader) :
    Safe s₀ (s.aerNonfatal p bit h) := by
  unfold State.aerNonfatal
  grind [safe_iff, Safe.forAll, Safe.foldl, State.aerReport_safe]

theorem State.aerAdvise_safe {s₀ s : State} (h : Safe s₀ s) (p : HostPort) (bit : Nat) :
    Safe s₀ (s.aerAdvise p bit) := by
  unfold State.aerAdvise
  grind [safe_iff, Safe.forAll, Safe.foldl, State.aerReport_safe, State.updPort_safe, State.emit_safe]

theorem State.logEvent_safe {s₀ s : State} (h : Safe s₀ s) (page : Page) (kind : Nat) (via : Via) (off : BitVec 18) :
    Safe s₀ (s.logEvent page kind via off) := by
  unfold State.logEvent
  grind [safe_iff, Safe.forAll, Safe.foldl, State.updCtl_safe, State.raiseTenant_safe, State.raiseHouse_safe]

theorem State.missed_safe {s₀ s : State} (h : Safe s₀ s) (via : Via) (page : Page) (off : BitVec 18) :
    Safe s₀ (s.missed via page off) := by
  unfold State.missed
  grind [safe_iff, Safe.forAll, Safe.foldl, State.logEvent_safe]

theorem State.touched_safe {s₀ s : State} (h : Safe s₀ s) (via : Via) :
    Safe s₀ (s.touched via) := by
  unfold State.touched
  grind [safe_iff, Safe.forAll, Safe.foldl, State.wakeBy_safe]

theorem State.readNothing_safe {s₀ s : State} (h : Safe s₀ s) (via : Via) (page : Page) (off : BitVec 18) :
    Safe s₀ (s.readNothing via page off).s := by
  unfold State.readNothing
  grind [= safe_iff, =_ safe_iff, Safe.forAll, Safe.foldl, State.missed_safe]

theorem State.readEffect_safe {s₀ s : State} (h : Safe s₀ s) (via : Via) (h : Home) (value : Word) :
    Safe s₀ (s.readEffect via h value).1 := by
  unfold State.readEffect
  grind [safe_iff, Safe.forAll, Safe.foldl, State.askProp_safe, State.updTenant_safe]

theorem State.read4_safe {s₀ s : State} (h : Safe s₀ s) (via : Via) (page : Page) (off : BitVec 18) :
    Safe s₀ (s.read4 via page off).s := by
  unfold State.read4
  grind [= safe_iff, =_ safe_iff, Safe.forAll, Safe.foldl, State.readEffect_safe, State.updCtl_safe, State.readNothing_safe]

theorem State.regRead_safe {s₀ s : State} (h : Safe s₀ s) (via : Via) (page : Page) (off : BitVec 18) (eight : Bool) :
    Safe s₀ (s.regRead via page off eight).s := by
  unfold State.regRead
  grind [= safe_iff, =_ safe_iff, Safe.forAll, Safe.foldl, State.readNothing_safe, State.read4_safe, State.readEffect_safe]

theorem State.readDone_safe {s₀ : State} {g : Got} (h : Safe s₀ g.s) (via : Via) (eight : Bool) : Safe s₀ (State.readDone g via eight) := by
  unfold State.readDone
  split
  · exact State.emit_safe h _
  · split
    · exact State.aerAdvise_safe (State.emit_safe h _) _ _
    · exact (State.emit_safe h (.busError via)).of_eq rfl rfl

theorem State.dramBlock_safe {s₀ s : State} (h : Safe s₀ s) (line : Nat) (l : List (Nat × Byte)) (ecc : Ecc) (source : Nat) :
    Safe s₀ (s.dramBlock line l ecc source).1 := by
  unfold State.dramBlock
  grind [safe_iff, Safe.forAll, Safe.foldl, State.store_safe, State.dramWrite_safe]

theorem State.dramBlocks_safe {s₀ s : State} (h : Safe s₀ s) (l : List (Nat × Byte)) (source : Nat) (blocks : List Nat) (ecc : Ecc) :
    Safe s₀ (s.dramBlocks l source blocks ecc).1 := by
  induction blocks generalizing s ecc with
  | nil => exact h
  | cons k ks ih =>
    have hk := State.dramBlock_safe h k (inBlock k l) ecc source
    unfold State.dramBlocks
    grind

theorem State.hostStore_safe {s₀ s : State} (h : Safe s₀ s) (p : HostPort) (w : PostedWrite) (ecc : Ecc) :
    Safe s₀ (s.hostStore p w ecc) := by
  unfold State.hostStore
  grind [safe_iff, Safe.forAll, Safe.foldl, State.dramBlocks_safe, State.aerNonfatal_safe]

theorem State.drainPosted_safe {s₀ s : State} (h : Safe s₀ s) (p : HostPort) (ecc : Ecc) :
    Safe s₀ (s.drainPosted p ecc) := by
  unfold State.drainPosted
  grind [safe_iff, Safe.forAll, Safe.foldl, State.hostStore_safe, State.updPort_safe]

theorem State.drainAllPosted_safe {s₀ s : State} (h : Safe s₀ s) (p : HostPort) :
    Safe s₀ (s.drainAllPosted p) := by
  unfold State.drainAllPosted
  grind [safe_iff, Safe.forAll, Safe.foldl, State.drainPosted_safe]

theorem State.makeRoom_safe {s₀ s : State} (h : Safe s₀ s) (p : HostPort) (n k : Nat) : Safe s₀ (s.makeRoom p n k) := by
  induction k generalizing s with
  | zero => exact h
  | succ k ih =>
    unfold State.makeRoom
    split
    · exact h
    · exact ih (State.drainPosted_safe h p .clean)

/-- What `State.readBlocks` is for one list of blocks. -/
abbrev BlockReader := State → Nat → Nat → Ecc → State × List Byte × Bool

/-- `Safe` of the state that a read of blocks answers. -/
def SafeRead (s₀ : State) (r : State × List Byte × Bool) : Prop := Safe s₀ r.1

theorem SafeRead.mk {s₀ s : State} (h : Safe s₀ s) (r : List Byte × Bool) : SafeRead s₀ (s, r) := h

/-- What every step of the recursion over the blocks keeps holds of its result. -/
theorem blockReader_induction (P : BlockReader → Prop) (F : (l : List Nat) → List.below (motive := fun _ => BlockReader) l → BlockReader)
    (hnil : ∀ g, P (F [] g)) (hcons : ∀ k ks g, P g.1 → P (F (k :: ks) g)) :
    ∀ l, P (List.brecOn (motive := fun _ => BlockReader) l F)
  | [] => hnil _
  | k :: ks => hcons k ks _ (blockReader_induction P F hnil hcons ks)

/-- The equation for a longer list is beyond Lean's kernel, which would run `State.load` to check it: the recursion is taken apart with `State.load` a variable. -/
theorem State.readBlocks_safeRead {s₀ s : State} (h : Safe s₀ s) (tag source : Nat) (blocks : List Nat) (off stop : Nat) (ecc : Ecc) :
    SafeRead s₀ (s.readBlocks tag source blocks off stop ecc) := by
  have hload : ∀ u a n e, Safe s₀ u → Safe s₀ (State.load u a n e source true).1 := fun u a n e hu => State.load_safe hu a n e source true
  obtain ⟨load, hvar⟩ : ∃ load, State.load = load := ⟨_, rfl⟩
  delta State.readBlocks State.readBlocks._f
  rw [hvar] at hload ⊢
  refine blockReader_induction (fun read => ∀ s ecc, Safe s₀ s → SafeRead s₀ (read s off stop ecc)) _ ?_ ?_ blocks s ecc h
  · exact fun g s ecc h => h
  intro k ks g ih s ecc h
  dsimp only
  have hl := hload s (BitVec.ofNat 64 (tag * 2 ^ 60 + max k off)) (min (k + 64) stop - max k off) ecc h
  generalize load s _ _ ecc source true = r at hl ⊢
  rcases r with ⟨u, _ | c⟩
  · have hrest : Safe s₀ (g.1 u off stop .clean).1 := ih _ _ hl
    exact SafeRead.mk hrest _
  · exact hl

theorem State.readBlocks_safe {s₀ s : State} (h : Safe s₀ s) (tag source : Nat) (blocks : List Nat) (off stop : Nat) (ecc : Ecc) :
    Safe s₀ (s.readBlocks tag source blocks off stop ecc).1 := State.readBlocks_safeRead h tag source blocks off stop ecc

theorem State.hostLoad_safe {s₀ s : State} (h : Safe s₀ s) (p : HostPort) (tag : Nat) (off : Nat) (len : Nat) (ecc : Ecc) :
    Safe s₀ (s.hostLoad p tag off len ecc) := by
  unfold State.hostLoad
  grind [safe_iff, Safe.forAll, Safe.foldl, State.readBlocks_safe, State.emit_safe, State.aerAdvise_safe]

theorem State.barRefused_safe {s₀ s : State} (h : Safe s₀ s) (p : HostPort) (bar : Nat) (off : BitVec 60) (write : Bool) (len : Nat) (strict : Bool) :
    Safe s₀ (s.barRefused p bar off write len strict) := by
  unfold State.barRefused
  grind [safe_iff, Safe.forAll, Safe.foldl, State.aerNonfatal_safe, State.aerAdvise_safe, State.emit_safe]

theorem State.requestRead_safe {s₀ s : State} (h : Safe s₀ s) (a : RegRead) :
    Safe s₀ (s.requestRead a) := by
  unfold State.requestRead
  grind [= safe_iff, =_ safe_iff, Safe.forAll, Safe.foldl, State.touched_safe, State.readDone_safe, State.drainAllPosted_safe, State.readNothing_safe, State.regRead_safe]

theorem State.haltResting_safe {s₀ s : State} (h : Safe s₀ s) (c : ChanId) (status : Byte) (dw3 : Dword) :
    Safe s₀ (s.haltResting c status dw3) := by
  unfold State.haltResting
  grind [safe_iff, Safe.forAll, Safe.foldl, State.postWork_safe, State.updSq_safe, State.go_safe, State.updChan_safe]

theorem State.faultSq_safe {s₀ s : State} (h : Safe s₀ s) (t : TenantId) (q : QueueId) (cause : Nat) (status : Byte) (dw3 : Dword) :
    Safe s₀ (s.faultSq t q cause status dw3) := by
  unfold State.faultSq
  grind [safe_iff, Safe.forAll, Safe.foldl, State.note_safe, State.raiseTenant_safe, State.updSq_safe, State.adminFault_safe, State.updTenant_safe, State.go_safe, State.haltResting_safe, State.postCq_safe]

theorem State.ringTail_safe {s₀ s : State} (h : Safe s₀ s) (t : TenantId) (q : QueueId) (value : Dword) :
    Safe s₀ (s.ringTail t q value) := by
  unfold State.ringTail
  grind [safe_iff, Safe.forAll, Safe.foldl, State.faultSq_safe, State.updSq_safe, State.go_safe]

theorem State.releaseHeld_safe {s₀ s : State} (h : Safe s₀ s) (t : TenantId) (q : QueueId) (k : Nat) : Safe s₀ (s.releaseHeld t q k) := by
  induction k generalizing s with
  | zero => exact h
  | succ k ih =>
    unfold State.releaseHeld
    extract_lets c
    split
    · exact h
    · split
      · exact h
      · exact ih (State.putCompletion_safe (State.updCq_safe h _ _ _) _ _ _)

theorem State.ringHead_safe {s₀ s : State} (h : Safe s₀ s) (t : TenantId) (q : QueueId) (value : Dword) :
    Safe s₀ (s.ringHead t q value) := by
  unfold State.ringHead
  grind [safe_iff, Safe.forAll, Safe.foldl, State.go_safe, State.faultCq_safe, State.releaseHeld_safe, State.updCq_safe]

theorem State.ring_safe {s₀ s : State} (h : Safe s₀ s) (cq : Bool) (t : TenantId) (q : QueueId) (value : Dword) :
    Safe s₀ (s.ring cq t q value) := by
  unfold State.ring
  grind [safe_iff, Safe.forAll, Safe.foldl, State.ringHead_safe, State.ringTail_safe]

theorem State.writeBell_safe {s₀ s : State} (h : Safe s₀ s) (t : TenantId) (cq : Bool) (q : QueueId) (value : Dword) :
    Safe s₀ (s.writeBell t cq q value) := by
  unfold State.writeBell
  grind [safe_iff, Safe.forAll, Safe.foldl, State.ring_safe]

theorem State.writeEnd_safe {s₀ s : State} (h : Safe s₀ s) (via : Via) (page : Page) (off : BitVec 18) (err : Bool) :
    Safe s₀ (s.writeEnd via page off err) := by
  unfold State.writeEnd
  grind [= safe_iff, =_ safe_iff, Safe.forAll, Safe.foldl, State.aerNonfatal_safe, State.emit_safe]

theorem State.requestWrite_safe {s₀ s : State} (h : Safe s₀ s) (via : Via) (page : Page) (off : BitVec 18) {perform : State → State × Bool}
    (hp : ∀ t, Safe s₀ t → Safe s₀ (perform t).1) : Safe s₀ (s.requestWrite via page off perform) := by
  have ht := State.touched_safe h via
  unfold State.requestWrite
  extract_lets s1 s2
  split
  · exact h
  · split
    · exact State.writeEnd_safe ht _ _ _ _
    · have h2 : Safe s₀ s2 := by
        simp only [s2]
        split
        · exact State.drainAllPosted_safe ht _
        · exact ht
      exact State.writeEnd_safe (hp s2 h2) _ _ _ _

theorem State.writeNothing_safe {s₀ s : State} (h : Safe s₀ s) (via : Via) (page : Page) (off : BitVec 18) :
    Safe s₀ (s.writeNothing via page off).1 := by
  unfold State.writeNothing
  grind [safe_iff, Safe.forAll, Safe.foldl, State.missed_safe]

theorem State.bellRow_safe {s₀ s : State} (h : Safe s₀ s) (via : Via) (t : TenantId) (cq : Bool) (q : QueueId) (value : Dword) :
    Safe s₀ (s.bellRow via t cq q value) := by
  unfold State.bellRow
  grind [safe_iff, Safe.forAll, Safe.foldl, State.requestWrite_safe, State.writeBell_safe, State.writeNothing_safe]

theorem State.holdEntry_safe {s₀ s : State} (h : Safe s₀ s) (t : TenantId) (q : QueueId) (i : BitVec 16) (dw : Vector Dword 16) :
    Safe s₀ (s.holdEntry t q i dw) := by
  unfold State.holdEntry
  grind [safe_iff, Safe.forAll, Safe.foldl, State.updSq_safe, State.updTenant_safe, State.go_safe]

theorem State.entryBusFail_safe {s₀ s : State} (h : Safe s₀ s) (t : TenantId) (q : QueueId) (i : BitVec 16) (a : Addr) (k : BusCause) :
    Safe s₀ (s.entryBusFail t q i a k) := by
  unfold State.entryBusFail
  grind [safe_iff, Safe.forAll, Safe.foldl, State.updSq_safe, State.faultSq_safe]

theorem State.setEpCfg_safe {s₀ s : State} (h : Safe s₀ s) (e : EpId) (w : Word) :
    Safe s₀ (s.setEpCfg e w) := by
  unfold State.setEpCfg
  grind [safe_iff, Safe.forAll, Safe.foldl, State.setDevReg_safe, State.judgeFill_safe, State.updEp_safe]

theorem State.lineOff_safe {s₀ s : State} (h : Safe s₀ s) (i : Nat) :
    Safe s₀ (s.lineOff i) := by
  unfold State.lineOff
  grind [safe_iff, Safe.forAll, Safe.foldl, State.updChan_safe]

theorem State.switchPin_safe {s₀ s : State} (h : Safe s₀ s) (p : PinId) (w : Word) :
    Safe s₀ (s.switchPin p w) := by
  unfold State.switchPin
  grind [safe_iff, Safe.forAll, Safe.foldl, State.lineOff_safe, State.setDevReg_safe, State.updPin_safe]

theorem State.strobePins_safe {s₀ s : State} (h : Safe s₀ s) :
    Safe s₀ (s.strobePins) := by
  unfold State.strobePins
  grind [safe_iff, Safe.forAll, Safe.foldl, State.switchPin_safe, State.setDevReg_safe]

theorem State.applyAt_safe {s₀ s : State} (h : Safe s₀ s) (h : Home) :
    Safe s₀ (s.applyAt h) := by
  unfold State.applyAt
  grind [safe_iff, Safe.forAll, Safe.foldl, State.updStaged_safe]

theorem State.revertAt_safe {s₀ s : State} (h : Safe s₀ s) (h : Home) :
    Safe s₀ (s.revertAt h) := by
  unfold State.revertAt
  grind [safe_iff, Safe.forAll, Safe.foldl, State.updStaged_safe]

theorem State.strobeEps_safe {s₀ s : State} (h : Safe s₀ s) :
    Safe s₀ (s.strobeEps) := by
  unfold State.strobeEps
  grind [safe_iff, Safe.forAll, Safe.foldl, State.setEpCfg_safe, State.applyAt_safe]

theorem State.applyLb_safe {s₀ s : State} (h : Safe s₀ s) :
    Safe s₀ (s.applyLb) := by
  unfold State.applyLb
  grind [= safe_iff, =_ safe_iff, Safe.forAll, Safe.foldl, State.updCtl_safe, State.applyAt_safe]

theorem State.freeLb_safe {s₀ s : State} (h : Safe s₀ s) :
    Safe s₀ (s.freeLb) := by
  unfold State.freeLb
  grind [= safe_iff, =_ safe_iff, Safe.forAll, Safe.foldl, State.applyLb_safe]

theorem State.strobeLinks_safe {s₀ s : State} (h : Safe s₀ s) :
    Safe s₀ (s.strobeLinks) := by
  unfold State.strobeLinks
  grind [safe_iff, Safe.forAll, Safe.foldl, State.applyAt_safe]

theorem State.strobeDev_safe {s₀ s : State} (h : Safe s₀ s) (g : Nat) :
    Safe s₀ (s.strobeDev g) := by
  unfold State.strobeDev
  grind [= safe_iff, =_ safe_iff, Safe.forAll, Safe.foldl, State.applyAt_safe, State.strobePins_safe, State.applyLb_safe, State.strobeEps_safe, State.strobeLinks_safe, State.updCtl_safe]

theorem State.strobeSlot_safe {s₀ s : State} (h : Safe s₀ s) (t : TenantId) (c : ChanId) :
    Safe s₀ (s.strobeSlot t c) := by
  unfold State.strobeSlot
  grind [safe_iff, Safe.forAll, Safe.foldl, State.applyAt_safe, State.updChan_safe]

theorem State.applyRef_safe {s₀ s : State} (h : Safe s₀ s) (page : Page) :
    Safe s₀ (s.applyRef page) := by
  unfold State.applyRef
  grind [safe_iff, Safe.forAll, Safe.foldl, State.applyAt_safe]

theorem State.strobe_safe {s₀ s : State} (h : Safe s₀ s) (page : Page) (groups : BitVec 16) :
    Safe s₀ (s.strobe page groups) := by
  unfold State.strobe
  grind [safe_iff, Safe.forAll, Safe.foldl, State.updCtl_safe, State.applyRef_safe, State.strobeDev_safe, State.applyAt_safe, State.strobeSlot_safe]

theorem State.discardGroups_safe {s₀ s : State} (h : Safe s₀ s) (page : Page) (groups : BitVec 16) :
    Safe s₀ (s.discardGroups page groups) := by
  unfold State.discardGroups
  grind [safe_iff, Safe.forAll, Safe.foldl, State.updCtl_safe, State.revertAt_safe, State.updChan_safe]

theorem State.lateUpdate_safe {s₀ s : State} (h : Safe s₀ s) (page : Page) :
    Safe s₀ (s.lateUpdate page) := by
  unfold State.lateUpdate
  grind [safe_iff, Safe.forAll, Safe.foldl, State.updCtl_safe]

theorem State.armStrobe_safe {s₀ s : State} (h : Safe s₀ s) (page : Page) (groups : BitVec 16) :
    Safe s₀ (s.armStrobe page groups) := by
  unfold State.armStrobe
  grind [safe_iff, Safe.forAll, Safe.foldl, State.updCtl_safe, State.lateUpdate_safe, State.strobe_safe]

theorem State.applyArmed_safe {s₀ s : State} (h : Safe s₀ s) (page : Page) :
    Safe s₀ (s.applyArmed page) := by
  unfold State.applyArmed
  grind [safe_iff, Safe.forAll, Safe.foldl, State.strobe_safe, State.updCtl_safe]

theorem State.strobesFirst_safe {s₀ s : State} (h : Safe s₀ s) :
    Safe s₀ (s.strobesFirst) := by
  unfold State.strobesFirst
  grind [safe_iff, Safe.forAll, Safe.foldl, State.applyArmed_safe]

theorem State.markPending_safe {s₀ s : State} (h : Safe s₀ s) (w : Write) :
    Safe s₀ (s.markPending w) := by
  unfold State.markPending
  grind [safe_iff, Safe.forAll, Safe.foldl, State.updChan_safe, State.updCtl_safe]

theorem State.store1_safe {s₀ s : State} (h : Safe s₀ s) (w : Write) :
    Safe s₀ (s.store1 w) := by
  unfold State.store1
  grind [safe_iff, Safe.forAll, Safe.foldl, State.setDevReg_safe, State.markPending_safe, State.updStaged_safe]

theorem State.unlockKey_safe {s₀ s : State} (h : Safe s₀ s) (via : Via) (page : Page) (key : Dword) :
    Safe s₀ (s.unlockKey via page key) := by
  unfold State.unlockKey
  grind [safe_iff, Safe.forAll, Safe.foldl, State.updCtl_safe]

theorem State.updateWrite_safe {s₀ s : State} (h : Safe s₀ s) (page : Page) (v : Word) :
    Safe s₀ (s.updateWrite page v) := by
  unfold State.updateWrite
  grind [safe_iff, Safe.forAll, Safe.foldl, State.discardGroups_safe, State.armStrobe_safe, State.strobe_safe]

theorem State.refWrite_safe {s₀ s : State} (h : Safe s₀ s) (page : Page) :
    Safe s₀ (s.refWrite page) := by
  unfold State.refWrite
  grind [safe_iff, Safe.forAll, Safe.foldl, State.updCtl_safe, State.applyRef_safe]

theorem State.armOutput_safe {s₀ s0 : State} (h : Safe s₀ s0) (n : Nat) :
    Safe s₀ (s0.armOutput n) := by
  unfold State.armOutput
  grind [safe_iff, Safe.forAll, Safe.foldl, State.note_safe, State.setDevReg_safe]

theorem State.armSysref_safe {s₀ s : State} (h : Safe s₀ s) :
    Safe s₀ (s.armSysref) := by
  unfold State.armSysref
  grind [= safe_iff, =_ safe_iff, Safe.forAll, Safe.foldl, State.setDevReg_safe, State.note_safe]

theorem State.dropPps_safe {s₀ s : State} (h : Safe s₀ s) :
    Safe s₀ (s.dropPps) := by
  unfold State.dropPps
  grind [= safe_iff, =_ safe_iff, Safe.forAll, Safe.foldl, State.emit_safe]

theorem State.signalEnabled_safe {s₀ s : State} (h : Safe s₀ s) (t : TenantId) (now : Bool) :
    Safe s₀ (s.signalEnabled t now) := by
  unfold State.signalEnabled
  grind [safe_iff, Safe.forAll, Safe.foldl, State.sendVector_safe]

theorem State.propFreeWrite_safe {s₀ s : State} (h : Safe s₀ s) (t : TenantId) (i : Nat) :
    Safe s₀ (s.propFreeWrite t i) := by
  unfold State.propFreeWrite
  grind [safe_iff, Safe.forAll, Safe.foldl, State.freePropAt_safe, State.go_safe, State.setTenReg_safe]

theorem State.adminEnableWrite_safe {s₀ s : State} (h : Safe s₀ s) (t : TenantId) (v : Word) :
    Safe s₀ (s.adminEnableWrite t v) := by
  unfold State.adminEnableWrite
  grind [safe_iff, Safe.forAll, Safe.foldl, State.updTenant_safe, State.updCq_safe, State.updSq_safe, State.setTenReg_safe]

theorem State.adminStop_safe {s₀ s : State} (h : Safe s₀ s) (t : TenantId) :
    Safe s₀ (s.adminStop t) :=
  h.of_eq rfl rfl

theorem State.afterTen_safe {s₀ s : State} (h : Safe s₀ s) (t : TenantId) (p : Nat) (w : Write) :
    Safe s₀ (s.afterTen t p w) := by
  unfold State.afterTen
  grind [safe_iff, Safe.forAll, Safe.foldl, State.signalEnabled_safe, State.updCtl_safe, State.unlockKey_safe, State.updateWrite_safe, State.refWrite_safe, State.propFreeWrite_safe, State.signal_safe, State.adminEnableWrite_safe, State.adminStop_safe]

theorem State.armSet_safe {s₀ s : State} (h : Safe s₀ s) (c : ChanId) :
    Safe s₀ (s.armSet c) := by
  unfold State.armSet
  grind [safe_iff, Safe.forAll, Safe.foldl, State.updChan_safe, State.go_safe]

theorem State.afterChan_safe {s₀ s : State} (h : Safe s₀ s) (c : ChanId) (p : Nat) (w : Write) :
    Safe s₀ (s.afterChan c p w) := by
  unfold State.afterChan
  grind [safe_iff, Safe.forAll, Safe.foldl, State.updChan_safe, State.armSet_safe]

theorem State.closePage_safe {s₀ s : State} (h : Safe s₀ s) (page : Page) (via : Via) :
    Safe s₀ (s.closePage page via) := by
  unfold State.closePage
  grind [safe_iff, Safe.forAll, Safe.foldl, State.updCtl_safe]

theorem State.sampleBits_safe {s₀ s : State} (h : Safe s₀ s) :
    Safe s₀ (s.sampleBits) :=
  h.of_eq rfl rfl

theorem State.setHeld_safe {s₀ s : State} (h : Safe s₀ s) (page : Page) (via : Via) (h : Option HalfWord) :
    Safe s₀ (s.setHeld page via h) := by
  unfold State.setHeld
  grind [safe_iff, Safe.forAll, Safe.foldl, State.updCtl_safe]

theorem State.disturb_safe {s₀ s : State} (h : Safe s₀ s) (page : Page) :
    Safe s₀ (s.disturb page) := by
  unfold State.disturb
  grind [safe_iff, Safe.forAll, Safe.foldl, State.updCtl_safe]

theorem State.assignSh_safe {s₀ s : State} (h : Safe s₀ s) (c : ChanId) (h : ShId) :
    Safe s₀ (s.assignSh c h) := by
  unfold State.assignSh
  grind [= safe_iff, =_ safe_iff, Safe.forAll, Safe.foldl, State.updChan_safe]

theorem runBindChannel_safe {s₀ x2 : State} (h : Safe s₀ x2) (x1 : Cmd) :
    Safe s₀ (runBindChannel x1 x2) := by
  unfold runBindChannel
  grind [safe_iff, Safe.forAll, Safe.foldl, State.assignSh_safe, State.updChan_safe, State.updSq_safe, State.answer_safe, State.disturb_safe]

theorem runUnbindChannel_safe {s₀ x2 : State} (h : Safe s₀ x2) (x1 : Cmd) :
    Safe s₀ (runUnbindChannel x1 x2) := by
  unfold runUnbindChannel
  grind [safe_iff, Safe.forAll, Safe.foldl, State.updSq_safe, State.answer_safe, State.updChan_safe]

theorem State.refreshPace_safe {s₀ s : State} (h : Safe s₀ s) (c : ChanId) :
    Safe s₀ (s.refreshPace c) := by
  unfold State.refreshPace
  grind [safe_iff, Safe.forAll, Safe.foldl, State.updChan_safe, State.judgeFill_safe]

theorem State.settleDirty_safe {s₀ s : State} (h : Safe s₀ s) (t : TenantId) (c : ChanId) :
    Safe s₀ (s.settleDirty t c) :=
  h.of_eq rfl rfl

theorem State.configChan_safe {s₀ s : State} (h : Safe s₀ s) (c : Cmd) :
    Safe s₀ (s.configChan c) := by
  unfold State.configChan
  grind [safe_iff, Safe.forAll, Safe.foldl, State.assignSh_safe, State.updChan_safe, State.refreshPace_safe, State.disturb_safe, State.settleDirty_safe]

theorem runChannelConfig_safe {s₀ x2 : State} (h : Safe s₀ x2) (x1 : Cmd) :
    Safe s₀ (runChannelConfig x1 x2) := by
  unfold runChannelConfig
  grind [safe_iff, Safe.forAll, Safe.foldl, State.answer_safe, State.configChan_safe]

theorem State.startScript_safe {s₀ s : State} (h : Safe s₀ s) (c : ChanId) :
    Safe s₀ (s.startScript c) :=
  h.of_eq rfl rfl

theorem State.startQueue_safe {s₀ s : State} (h : Safe s₀ s) (c : ChanId) :
    Safe s₀ (s.startQueue c) := by
  unfold State.startQueue
  grind [safe_iff, Safe.forAll, Safe.foldl, State.updChan_safe, State.beginWork_safe]

theorem State.startShadow_safe {s₀ s : State} (h : Safe s₀ s) (c : ChanId) :
    Safe s₀ (s.startShadow c) := by
  unfold State.startShadow
  grind [safe_iff, Safe.forAll, Safe.foldl, State.updChan_safe, State.swapPoint_safe]

theorem State.startChan_safe {s₀ s : State} (h : Safe s₀ s) (c : ChanId) :
    Safe s₀ (s.startChan c) := by
  unfold State.startChan
  grind [safe_iff, Safe.forAll, Safe.foldl, State.noteChan_safe, State.updChan_safe, State.go_safe, State.startQueue_safe, State.startScript_safe, State.startShadow_safe]

theorem runChannelStart_safe {s₀ x2 : State} (h : Safe s₀ x2) (x1 : Cmd) :
    Safe s₀ (runChannelStart x1 x2) := by
  unfold runChannelStart
  grind [safe_iff, Safe.forAll, Safe.foldl, State.startChan_safe, State.answer_safe]

theorem State.requestStop_safe {s₀ s : State} (h : Safe s₀ s) (c : Cmd) (drain : Bool) :
    Safe s₀ (s.requestStop c drain) := by
  unfold State.requestStop
  grind [safe_iff, Safe.forAll, Safe.foldl, State.answer_safe, State.updChan_safe, State.startLong_safe]

theorem runChannelStop_safe {s₀ x2 : State} (h : Safe s₀ x2) (x1 : Cmd) :
    Safe s₀ (runChannelStop x1 x2) := by
  unfold runChannelStop
  grind [safe_iff, Safe.forAll, Safe.foldl, State.requestStop_safe]

theorem runChannelDrain_safe {s₀ x2 : State} (h : Safe s₀ x2) (x1 : Cmd) :
    Safe s₀ (runChannelDrain x1 x2) := by
  unfold runChannelDrain
  grind [safe_iff, Safe.forAll, Safe.foldl, State.requestStop_safe]

theorem State.cutChannel_safe {s₀ s : State} (h : Safe s₀ s) (c : ChanId) :
    Safe s₀ (s.cutChannel c) := by
  unfold State.cutChannel
  grind [safe_iff, Safe.forAll, Safe.foldl, State.abandonLb_safe, State.freeSlot_safe, State.dropStuck_safe, State.closeBurst_safe, State.updChan_safe]

theorem runChannelReset_safe {s₀ x2 : State} (h : Safe s₀ x2) (x1 : Cmd) :
    Safe s₀ (runChannelReset x1 x2) := by
  unfold runChannelReset
  grind [safe_iff, Safe.forAll, Safe.foldl, State.startLong_safe, State.go_safe, State.cutChannel_safe]

theorem runChannelStatus_safe {s₀ x2 : State} (h : Safe s₀ x2) (x1 : Cmd) :
    Safe s₀ (runChannelStatus x1 x2) := by
  unfold runChannelStatus
  grind [safe_iff, Safe.forAll, Safe.foldl, State.respond_safe]

theorem State.setCue_safe {s₀ s : State} (h : Safe s₀ s) (q : CueId) (f : Cue → Cue) :
    Safe s₀ (s.setCue q f) := by
  unfold State.setCue
  grind [safe_iff, Safe.forAll, Safe.foldl, State.updCue_safe, State.go_safe]

theorem runCueAlloc_safe {s₀ x2 : State} (h : Safe s₀ x2) (x1 : Cmd) :
    Safe s₀ (runCueAlloc x1 x2) := by
  unfold runCueAlloc
  grind [safe_iff, Safe.forAll, Safe.foldl, State.answer_safe, State.setCue_safe]

theorem runCueFree_safe {s₀ x2 : State} (h : Safe s₀ x2) (x1 : Cmd) :
    Safe s₀ (runCueFree x1 x2) := by
  unfold runCueFree
  grind [safe_iff, Safe.forAll, Safe.foldl, State.answer_safe, State.updCue_safe]

theorem runCueSet_safe {s₀ x2 : State} (h : Safe s₀ x2) (x1 : Cmd) :
    Safe s₀ (runCueSet x1 x2) := by
  unfold runCueSet
  grind [safe_iff, Safe.forAll, Safe.foldl, State.answer_safe, State.setCue_safe]

theorem runPropPoolConfig_safe {s₀ x2 : State} (h : Safe s₀ x2) (x1 : Cmd) :
    Safe s₀ (runPropPoolConfig x1 x2) := by
  unfold runPropPoolConfig
  grind [safe_iff, Safe.forAll, Safe.foldl, State.answer_safe]

theorem State.settleGroup_safe {s₀ s : State} (h : Safe s₀ s) (g : Nat) :
    Safe s₀ (s.settleGroup g) := by
  unfold State.settleGroup
  grind [safe_iff, Safe.forAll, Safe.foldl, State.updCtl_safe]

theorem runActConfig_safe {s₀ s : State} (h : Safe s₀ s) (c : Cmd) : Safe s₀ (runActConfig c s) :=
  State.answer_safe (State.disturb_safe (State.settleGroup_safe (State.updCtl_safe (State.setDevBoth_safe (State.setDevBoth_safe
    (State.setDevBoth_safe (State.setDevBoth_safe h _ _) _ _) _ _) _ _) _ _) _) _) _ _

theorem State.startAct_safe {s₀ s : State} (h : Safe s₀ s) (a : ActId) :
    Safe s₀ (s.startAct a) :=
  h.of_eq rfl rfl

theorem runActStart_safe {s₀ x2 : State} (h : Safe s₀ x2) (x1 : Cmd) :
    Safe s₀ (runActStart x1 x2) := by
  unfold runActStart
  grind [safe_iff, Safe.forAll, Safe.foldl, State.answer_safe, State.startAct_safe]

theorem State.stopAct_safe {s₀ s : State} (h : Safe s₀ s) (a : ActId) :
    Safe s₀ (s.stopAct a) :=
  h.of_eq rfl rfl

theorem runActStop_safe {s₀ x2 : State} (h : Safe s₀ x2) (x1 : Cmd) :
    Safe s₀ (runActStop x1 x2) := by
  unfold runActStop
  grind [safe_iff, Safe.forAll, Safe.foldl, State.answer_safe, State.stopAct_safe]

theorem runStreamConfig_safe {s₀ x2 : State} (h : Safe s₀ x2) (x1 : Cmd) :
    Safe s₀ (runStreamConfig x1 x2) := by
  unfold runStreamConfig
  grind [safe_iff, Safe.forAll, Safe.foldl, State.setDevBoth_safe, State.setEpCfg_safe, State.disturb_safe, State.settleGroup_safe, State.answer_safe]

theorem State.setLink_safe {s₀ s : State} (h : Safe s₀ s) (i : Nat) (x : LinkState) :
    Safe s₀ (s.setLink i x) := by
  unfold State.setLink
  grind [safe_iff, Safe.forAll, Safe.foldl]

theorem State.noteLink_safe {s₀ s : State} (h : Safe s₀ s) (event : Nat) (i : Nat) :
    Safe s₀ (s.noteLink event i) := by
  unfold State.noteLink
  grind [safe_iff, Safe.forAll, Safe.foldl, State.note_safe]

theorem State.raiseLink_safe {s₀ s : State} (h : Safe s₀ s) (i : Nat) :
    Safe s₀ (s.raiseLink i) := by
  unfold State.raiseLink
  grind [safe_iff, Safe.forAll, Safe.foldl, State.raiseTenant_safe, State.raiseHouse_safe, State.raiseSm_safe]

theorem State.shutEp_safe {s₀ s : State} (h : Safe s₀ s) (e : EpId) :
    Safe s₀ (s.shutEp e) := by
  unfold State.shutEp
  grind [safe_iff, Safe.forAll, Safe.foldl, State.judgeFill_safe, State.updEp_safe]

theorem State.markLost_safe {s₀ s : State} (h : Safe s₀ s) (i : Nat) :
    Safe s₀ (s.markLost i) := by
  unfold State.markLost
  grind [safe_iff, Safe.forAll, Safe.foldl]

theorem State.leaveLink_safe {s₀ s : State} (h : Safe s₀ s) (i : Nat) (x : LinkState) (commanded : Bool) :
    Safe s₀ (s.leaveLink i x commanded) := by
  unfold State.leaveLink
  grind [safe_iff, Safe.forAll, Safe.foldl, State.shutEp_safe, State.noteLink_safe, State.raiseLink_safe, State.markLost_safe, State.setLink_safe]

theorem State.enterUp_safe {s₀ s : State} (h : Safe s₀ s) (i : Nat) :
    Safe s₀ (s.enterUp i) := by
  unfold State.enterUp
  grind [safe_iff, Safe.forAll, Safe.foldl, State.noteLink_safe, State.setLink_safe, State.updEp_safe, State.raiseLink_safe, State.finishLong_safe]

theorem State.beginLink_safe {s₀ s : State} (h : Safe s₀ s) (i : Nat) (src : Source) :
    Safe s₀ (s.beginLink i src) := by
  unfold State.beginLink
  grind [safe_iff, Safe.forAll, Safe.foldl]

theorem runLinkUp_safe {s₀ x2 : State} (h : Safe s₀ x2) (x1 : Cmd) :
    Safe s₀ (runLinkUp x1 x2) := by
  unfold runLinkUp
  grind [safe_iff, Safe.forAll, Safe.foldl, State.beginLink_safe, State.startLong_safe]

theorem runLinkDown_safe {s₀ x2 : State} (h : Safe s₀ x2) (x1 : Cmd) :
    Safe s₀ (runLinkDown x1 x2) := by
  unfold runLinkDown
  grind [safe_iff, Safe.forAll, Safe.foldl, State.leaveLink_safe, State.finishLong_safe, State.answer_safe]

theorem State.finishPin_safe {s₀ s : State} (h : Safe s₀ s) (j : PinJob) :
    Safe s₀ (s.finishPin j) := by
  unfold State.finishPin
  grind [safe_iff, Safe.forAll, Safe.foldl, State.complete_safe]

theorem runPinAssign_safe {s₀ x2 : State} (h : Safe s₀ x2) (x1 : Cmd) :
    Safe s₀ (runPinAssign x1 x2) := by
  unfold runPinAssign
  grind [= safe_iff, =_ safe_iff, Safe.forAll, Safe.foldl, State.switchPin_safe, State.disturb_safe, State.settleGroup_safe, State.setDevBoth_safe, State.finishPin_safe]

theorem State.countPeriod_safe {s₀ s : State} (h : Safe s₀ s) (a : ActId) :
    Safe s₀ (s.countPeriod a) :=
  h.of_eq rfl rfl

theorem State.resetCounts_safe {s₀ s : State} (h : Safe s₀ s) (a : ActId) :
    Safe s₀ (s.resetCounts a) := by
  unfold State.resetCounts
  grind [safe_iff, Safe.forAll, Safe.foldl, State.updEp_safe]

theorem State.restartTdm_safe {s₀ s : State} (h : Safe s₀ s) (n : BitVec 2) (a : ActId) (p : Tick) :
    Safe s₀ (s.restartTdm n a p) := by
  unfold State.restartTdm
  grind [safe_iff, Safe.forAll, Safe.foldl]

theorem State.periodStrobe_safe {s₀ s : State} (h : Safe s₀ s) (n : BitVec 3) (a : ActId) (p : Tick) :
    Safe s₀ (s.periodStrobe n a p) := by
  unfold State.periodStrobe
  grind [safe_iff, Safe.forAll, Safe.foldl, State.note_safe, State.setDevReg_safe]

theorem State.periodSysref_safe {s₀ s : State} (h : Safe s₀ s) (a : ActId) (p : Tick) :
    Safe s₀ (s.periodSysref a p) := by
  unfold State.periodSysref
  grind [safe_iff, Safe.forAll, Safe.foldl]

theorem State.pendPeriod_safe {s₀ s : State} (h : Safe s₀ s) (c : ChanId) (p : Tick) :
    Safe s₀ (s.pendPeriod c p) := by
  unfold State.pendPeriod
  grind [safe_iff, Safe.forAll, Safe.foldl, State.updChan_safe, State.noteChan_safe]

theorem State.reachChan_safe {s₀ s : State} (h : Safe s₀ s) (c : ChanId) (p : Tick) :
    Safe s₀ (s.reachChan c p) := by
  unfold State.reachChan
  grind [safe_iff, Safe.forAll, Safe.foldl, State.updChan_safe, State.release_safe, State.pendPeriod_safe]

theorem State.periodOf_safe {s₀ s : State} (h : Safe s₀ s) (a : ActId) :
    Safe s₀ (s.periodOf a) := by
  unfold State.periodOf
  grind [= safe_iff, =_ safe_iff, Safe.forAll, Safe.foldl, State.resetCounts_safe, State.countPeriod_safe, State.restartTdm_safe, State.periodSysref_safe, State.periodStrobe_safe, State.signal_safe, State.go_safe, State.reachChan_safe]

theorem State.endProposal_safe {s₀ s : State} (h : Safe s₀ s) (expired : Bool) : Safe s₀ (s.endProposal expired) := by
  unfold State.endProposal
  split
  · exact h
  · dsimp only
    refine State.note_safe (State.raiseHouse_safe (State.raiseSm_safe ?_ _) _) _ _ _ _ _
    exact ⟨h.1, h.2⟩

theorem State.expireBefore_safe {s₀ s : State} (h : Safe s₀ s) (stamp : Tick) :
    Safe s₀ (s.expireBefore stamp) := by
  unfold State.expireBefore
  grind [safe_iff, Safe.forAll, Safe.foldl, State.endProposal_safe]

theorem State.holdProposal_safe {s₀ s : State} (h : Safe s₀ s) (c : Cmd) (patch : Bool) (set : BitVec 16) (body : List Byte) :
    Safe s₀ (s.holdProposal c patch set body).1 := by
  unfold State.holdProposal
  dsimp only
  refine State.note_safe ?_ _ _ _ _ _
  split
  · refine State.raiseSm_safe ?_ _
    exact ⟨h.1, h.2⟩
  · refine State.raiseHouse_safe ?_ _
    exact ⟨h.1, h.2⟩

theorem State.propose_safe {s₀ s : State} (h : Safe s₀ s) (c : Cmd) (body : List Byte) :
    Safe s₀ (s.propose c body) := by
  unfold State.propose
  grind [safe_iff, Safe.forAll, Safe.foldl, State.answer_safe, State.holdProposal_safe]

theorem runProtectPropose_safe {s₀ x2 : State} (h : Safe s₀ x2) (x1 : Cmd) :
    Safe s₀ (runProtectPropose x1 x2) := by
  unfold runProtectPropose
  grind [safe_iff, Safe.forAll, Safe.foldl, State.readBody_safe, State.expireBefore_safe, State.answer_safe, State.propose_safe]

theorem State.dropTenant_safe {s₀ s : State} (h : Safe s₀ s) (old : ProtMap) (new : ProtMap) (t : TenantId) :
    Safe s₀ (s.dropTenant old new t) := by
  unfold State.dropTenant
  grind [safe_iff, Safe.forAll, Safe.foldl, State.updCtl_safe, State.adminStop_safe, State.setTenReg_safe]

theorem State.showSm_safe {s₀ s : State} (h : Safe s₀ s) :
    Safe s₀ (s.showSm) :=
  h.of_eq rfl rfl

theorem State.closeForming_safe {s₀ s : State} (h : Safe s₀ s) :
    Safe s₀ (s.closeForming) := by
  unfold State.closeForming
  grind [safe_iff, Safe.forAll, Safe.foldl, State.closeBurst_safe]

theorem runProtectWithdraw_safe {s₀ x2 : State} (h : Safe s₀ x2) (x1 : Cmd) :
    Safe s₀ (runProtectWithdraw x1 x2) := by
  unfold runProtectWithdraw
  grind [safe_iff, Safe.forAll, Safe.foldl, State.expireBefore_safe, State.answer_safe, State.endProposal_safe]

theorem runProtectRead_safe {s₀ x2 : State} (h : Safe s₀ x2) (x1 : Cmd) :
    Safe s₀ (runProtectRead x1 x2) := by
  unfold runProtectRead
  grind [safe_iff, Safe.forAll, Safe.foldl, State.expireBefore_safe, State.respond_safe]

theorem State.raiseMismatch_safe {s₀ s : State} (h : Safe s₀ s) (page : Page) :
    Safe s₀ (s.raiseMismatch page) := by
  unfold State.raiseMismatch
  grind [safe_iff, Safe.forAll, Safe.foldl, State.raiseTenant_safe, State.raiseHouse_safe, State.raiseSm_safe]

theorem State.mismatched_safe {s₀ s : State} (h : Safe s₀ s) (page : Page) (crc : Dword) :
    Safe s₀ (s.mismatched page crc) := by
  unfold State.mismatched
  grind [safe_iff, Safe.forAll, Safe.foldl, State.raiseMismatch_safe, State.updCtl_safe, State.note_safe]

theorem State.passScope_safe {s₀ s : State} (h : Safe s₀ s) (page : Page) :
    Safe s₀ (s.passScope page) := by
  unfold State.passScope
  grind [safe_iff, Safe.forAll, Safe.foldl, State.updCtl_safe, State.mismatched_safe]

theorem State.countFailedBoot_safe {s₀ s : State} (h : Safe s₀ s) :
    Safe s₀ (s.countFailedBoot) := by
  unfold State.countFailedBoot
  grind [safe_iff, Safe.forAll, Safe.foldl]

theorem State.receiveUnit_safe {s₀ s : State} (h : Safe s₀ s) (e : EpId) (bytes : List Byte) (stamp : Tick) :
    Safe s₀ (s.receiveUnit e bytes stamp) := by
  unfold State.receiveUnit
  grind [safe_iff, Safe.forAll, Safe.foldl, State.updEp_safe, State.go_safe, State.epAppend_safe]

theorem State.updTdm_safe {s₀ s : State} (h : Safe s₀ s) (n : BitVec 2) (f : TdmPort → TdmPort) :
    Safe s₀ (s.updTdm n f) :=
  h.of_eq rfl rfl

theorem State.tdmReceive_safe {s₀ s : State} (h : Safe s₀ s) (e : EpId) (n : BitVec 2) (g : Nat) (rise : List Bool) (fall : List Bool) :
    Safe s₀ (s.tdmReceive e n g rise fall) := by
  unfold State.tdmReceive
  grind [safe_iff, Safe.forAll, Safe.foldl, State.receiveUnit_safe, State.updTdm_safe]

theorem State.sendUnit_safe {s₀ s : State} (h : Safe s₀ s) (e : EpId) (bs : List Byte) :
    Safe s₀ (s.sendUnit e bs) := by
  unfold State.sendUnit
  grind [safe_iff, Safe.forAll, Safe.foldl, State.emit_safe]

theorem State.markTaken_safe {s₀ s : State} (h : Safe s₀ s) (e : EpId) :
    Safe s₀ (s.markTaken e) := by
  unfold State.markTaken
  grind [safe_iff, Safe.forAll, Safe.foldl, State.updTdm_safe]

theorem State.takeUnit_safe {s₀ s : State} (h : Safe s₀ s) (e : EpId) (len : Nat) (ecc : Ecc) :
    Safe s₀ (s.takeUnit e len ecc) := by
  unfold State.takeUnit
  grind [safe_iff, Safe.forAll, Safe.foldl, State.sendUnit_safe, State.fifoCheck_safe, State.fifoBad_safe, State.go_safe, State.epTake_safe]

theorem State.sendSilence_safe {s₀ s : State} (h : Safe s₀ s) (e : EpId) (len : Nat) :
    Safe s₀ (s.sendSilence e len) := by
  unfold State.sendSilence
  grind [safe_iff, Safe.forAll, Safe.foldl, State.sendUnit_safe, State.updEp_safe]

theorem State.driveUnused_safe {s₀ s : State} (h : Safe s₀ s) (n : BitVec 2) :
    Safe s₀ (s.driveUnused n) := by
  unfold State.driveUnused
  grind [safe_iff, Safe.forAll, Safe.foldl, State.emit_safe]

theorem State.masterFrame_safe {s₀ s : State} (h : Safe s₀ s) (n : BitVec 2) :
    Safe s₀ (s.masterFrame n) := by
  unfold State.masterFrame
  grind [safe_iff, Safe.forAll, Safe.foldl, State.updTdm_safe, State.emit_safe, State.driveUnused_safe, State.enterUp_safe, State.leaveLink_safe]

theorem State.frameStart_safe {s₀ s : State} (h : Safe s₀ s) (n : BitVec 2) (unbroken : Bool) :
    Safe s₀ (s.frameStart n unbroken) :=
  h.of_eq rfl rfl

theorem State.slip_safe {s₀ s : State} (h : Safe s₀ s) (n : BitVec 2) :
    Safe s₀ (s.slip n) := by
  unfold State.slip
  grind [safe_iff, Safe.forAll, Safe.foldl, State.noteLink_safe]

theorem State.updConv_safe {s₀ s : State} (h : Safe s₀ s) (i : Nat) (f : ConvLinkState → ConvLinkState) :
    Safe s₀ (s.updConv i f) :=
  h.of_eq rfl rfl

theorem State.backToSync_safe {s₀ s : State} (h : Safe s₀ s) (i : Nat) :
    Safe s₀ (s.backToSync i) :=
  h.of_eq rfl rfl

theorem State.startIlas_safe {s₀ s : State} (h : Safe s₀ s) (i : Nat) :
    Safe s₀ (s.startIlas i) :=
  h.of_eq rfl rfl

theorem State.rxBoundary_safe {s₀ s : State} (h : Safe s₀ s) (i : Nat) :
    Safe s₀ (s.rxBoundary i) := by
  unfold State.rxBoundary
  grind [safe_iff, Safe.forAll, Safe.foldl, State.updConv_safe]

theorem State.txBoundary_safe {s₀ s : State} (h : Safe s₀ s) (i : Nat) :
    Safe s₀ (s.txBoundary i) := by
  unfold State.txBoundary
  grind [safe_iff, Safe.forAll, Safe.foldl, State.startIlas_safe, State.updConv_safe, State.enterUp_safe]

theorem State.backToK_safe {s₀ s : State} (h : Safe s₀ s) (i : Nat) :
    Safe s₀ (s.backToK i) :=
  h.of_eq rfl rfl

theorem State.loseRx_safe {s₀ s : State} (h : Safe s₀ s) (i : Nat) :
    Safe s₀ (s.loseRx i) := by
  unfold State.loseRx
  grind [safe_iff, Safe.forAll, Safe.foldl, State.leaveLink_safe, State.updConv_safe, State.backToSync_safe]

theorem State.alignLink_safe {s₀ s : State} (h : Safe s₀ s) (i : Nat) (edge : Tick) :
    Safe s₀ (s.alignLink i edge) :=
  h.of_eq rfl rfl

theorem State.judgeSysref_safe {s₀ s : State} (h : Safe s₀ s) (i : Nat) (edge : Tick) (miss : Bool) :
    Safe s₀ (s.judgeSysref i edge miss) := by
  unfold State.judgeSysref
  grind [safe_iff, Safe.forAll, Safe.foldl, State.noteLink_safe, State.setDevReg_safe, State.alignLink_safe]

theorem State.sysrefOut_safe {s₀ s : State} (h : Safe s₀ s) (t : Tick) :
    Safe s₀ (s.sysrefOut t) := by
  unfold State.sysrefOut
  grind [safe_iff, Safe.forAll, Safe.foldl, State.emit_safe, State.note_safe, State.setDevReg_safe]

theorem State.sysrefAdvance_safe {s₀ s : State} (h : Safe s₀ s) (t : Tick) :
    Safe s₀ (s.sysrefAdvance t) := by
  unfold State.sysrefAdvance
  grind [= safe_iff, =_ safe_iff, Safe.forAll, Safe.foldl, State.setDevReg_safe]

theorem State.busLanded_safe {s₀ s : State} (h : Safe s₀ s) (b : LbBurst) :
    Safe s₀ (s.busLanded b) := by
  unfold State.busLanded
  grind [= safe_iff, =_ safe_iff, Safe.forAll, Safe.foldl, State.updChan_safe, State.markUnproven_safe]

theorem State.busRead_safe {s₀ s : State} (h : Safe s₀ s) (c : ChanId) (e : Ended) (bs : List Byte) :
    Safe s₀ (s.busRead c e bs) :=
  h.of_eq rfl rfl

theorem State.busAbandoned_safe {s₀ s : State} (h : Safe s₀ s) (b : LbBurst) :
    Safe s₀ (s.busAbandoned b) := by
  unfold State.busAbandoned
  grind [= safe_iff, =_ safe_iff, Safe.forAll, Safe.foldl, State.updChan_safe, State.busLanded_safe]

theorem State.busDone_safe {s₀ s : State} (h : Safe s₀ s) (b : LbBurst) :
    Safe s₀ (s.busDone b) := by
  unfold State.busDone
  grind [= safe_iff, =_ safe_iff, Safe.forAll, Safe.foldl, State.retryDone_safe, State.busLanded_safe, State.busRead_safe]

theorem State.busTimedOut_safe {s₀ s : State} (h : Safe s₀ s) (b : LbBurst) :
    Safe s₀ (s.busTimedOut b) := by
  unfold State.busTimedOut
  grind [= safe_iff, =_ safe_iff, Safe.forAll, Safe.foldl, State.lbPop_safe, State.markUnproven_safe, State.writeBusFail_safe, State.updChan_safe, State.failOldest_safe, State.busRead_safe]

theorem State.updHealth_safe {s₀ s : State} (h : Safe s₀ s) (f : Health → Health) :
    Safe s₀ (s.updHealth f) :=
  h.of_eq rfl rfl

theorem State.healthEvent_safe {s₀ s : State} (h : Safe s₀ s) :
    Safe s₀ (s.healthEvent) := by
  unfold State.healthEvent
  grind [safe_iff, Safe.forAll, Safe.foldl, State.raiseHouse_safe, State.raiseSm_safe]

theorem State.failUnit_safe {s₀ s : State} (h : Safe s₀ s) (u : UnitId) :
    Safe s₀ (s.failUnit u) := by
  unfold State.failUnit
  grind [safe_iff, Safe.forAll, Safe.foldl, State.note_safe, State.updHealth_safe]

theorem State.abortTest_safe {s₀ s : State} (h : Safe s₀ s) (j : TestJob) (why : Dword) :
    Safe s₀ (s.abortTest j why) := by
  unfold State.abortTest
  grind [safe_iff, Safe.forAll, Safe.foldl, State.updHealth_safe, State.bump_safe, State.finishLong_safe]

theorem State.beginHandover_safe {s₀ s : State} (h : Safe s₀ s) (h : ShId) (place : Bool) (u : UnitId) (failed : Bool) (test : Option TestJob) :
    Safe s₀ (s.beginHandover h place u failed test) := by
  unfold State.beginHandover
  grind [safe_iff, Safe.forAll, Safe.foldl, State.updHealth_safe]

theorem State.beginTest_safe {s₀ s : State} (h : Safe s₀ s) (j : TestJob) :
    Safe s₀ (s.beginTest j) :=
  h.of_eq rfl rfl

theorem State.switchOver_safe {s₀ s : State} (h : Safe s₀ s) (j : Handover) :
    Safe s₀ (s.switchOver j) := by
  unfold State.switchOver
  grind [safe_iff, Safe.forAll, Safe.foldl, State.updHealth_safe, State.abortTest_safe, State.note_safe, State.beginTest_safe]

theorem State.staleStaging_safe {s₀ s : State} (h : Safe s₀ s) (j : Handover) :
    Safe s₀ (s.staleStaging j) := by
  unfold State.staleStaging
  grind [safe_iff, Safe.forAll, Safe.foldl, State.failPlain_safe]

theorem State.redistribute_safe {s₀ s : State} (h : Safe s₀ s) (h : ShId) :
    Safe s₀ (s.redistribute h) := by
  unfold State.redistribute
  grind [safe_iff, Safe.forAll, Safe.foldl, State.updChan_safe, State.updHealth_safe]

theorem State.loseStagehand_safe {s₀ s : State} (h : Safe s₀ s) (h : ShId) :
    Safe s₀ (s.loseStagehand h) := by
  unfold State.loseStagehand
  grind [safe_iff, Safe.forAll, Safe.foldl, State.note_safe, State.updHealth_safe, State.curtainFalls_safe, State.failPlain_safe, State.redistribute_safe]

theorem State.replaceUnit_safe {s₀ s : State} (h : Safe s₀ s) (h : ShId) (test : Option TestJob) :
    Safe s₀ (s.replaceUnit h test) := by
  unfold State.replaceUnit
  grind [safe_iff, Safe.forAll, Safe.foldl, State.updHealth_safe, State.beginHandover_safe, State.abortTest_safe, State.loseStagehand_safe]

theorem State.faultUnit_safe {s₀ s : State} (h : Safe s₀ s) (u : UnitId) :
    Safe s₀ (s.faultUnit u) := by
  unfold State.faultUnit
  grind [safe_iff, Safe.forAll, Safe.foldl, State.failUnit_safe, State.replaceUnit_safe, State.updHealth_safe]

theorem State.copyFinds_safe {s₀ s : State} (h : Safe s₀ s) (h : Option ShId) (bad : List ChanId) :
    Safe s₀ (s.copyFinds h bad) := by
  unfold State.copyFinds
  grind [safe_iff, Safe.forAll, Safe.foldl, State.updHealth_safe]

theorem State.startBist_safe {s₀ s : State} (h : Safe s₀ s) (j : TestJob) :
    Safe s₀ (s.startBist j) := by
  unfold State.startBist
  grind [safe_iff, Safe.forAll, Safe.foldl, State.beginTest_safe, State.beginHandover_safe]

theorem runRunBist_safe {s₀ x2 : State} (h : Safe s₀ x2) (x1 : Cmd) :
    Safe s₀ (runRunBist x1 x2) := by
  unfold runRunBist
  grind [safe_iff, Safe.forAll, Safe.foldl, State.startBist_safe, State.startLong_safe]

theorem runBistResult_safe {s₀ x2 : State} (h : Safe s₀ x2) (x1 : Cmd) :
    Safe s₀ (runBistResult x1 x2) := by
  unfold runBistResult
  grind [safe_iff, Safe.forAll, Safe.foldl, State.answer_safe]

theorem State.endUnitTest_safe {s₀ s : State} (h : Safe s₀ s) (j : TestJob) (pass : Bool) :
    Safe s₀ (s.endUnitTest j pass) := by
  unfold State.endUnitTest
  grind [safe_iff, Safe.forAll, Safe.foldl, State.updHealth_safe, State.failUnit_safe, State.healthEvent_safe]

theorem State.endOtherTest_safe {s₀ s : State} (h : Safe s₀ s) (target : Nat) (pass : Bool) (failing : BitVec 12) :
    Safe s₀ (s.endOtherTest target pass failing) := by
  unfold State.endOtherTest
  grind [safe_iff, Safe.forAll, Safe.foldl, State.updHealth_safe, State.enterFaulted_safe, State.raiseAlert_safe]

theorem State.rotate_safe {s₀ s : State} (h : Safe s₀ s) (u : UnitId) :
    Safe s₀ (s.rotate u) := by
  unfold State.rotate
  grind [safe_iff, Safe.forAll, Safe.foldl, State.updHealth_safe, State.beginTest_safe, State.beginHandover_safe]

theorem State.evaluate_safe {s₀ s : State} (h : Safe s₀ s) :
    Safe s₀ (s.evaluate) := by
  unfold State.evaluate
  grind [safe_iff, Safe.forAll, Safe.foldl, State.updHealth_safe, State.note_safe, State.healthEvent_safe]

theorem State.sampleTj_safe {s₀ s : State} (h : Safe s₀ s) (tj : BitVec 16) :
    Safe s₀ (s.sampleTj tj) := by
  unfold State.sampleTj
  grind [safe_iff, Safe.forAll, Safe.foldl, State.updHealth_safe, State.raiseHouse_safe]

theorem State.scrubLine_safe {s₀ s : State} (h : Safe s₀ s) (line : Nat) (ecc : Ecc) (source : Nat) :
    Safe s₀ (s.scrubLine line ecc source) := by
  unfold State.scrubLine
  grind [safe_iff, Safe.forAll, Safe.foldl, State.foundBadLine_safe, State.logMem_safe]

theorem State.countPass_safe {s₀ s : State} (h : Safe s₀ s) :
    Safe s₀ (s.countPass) := by
  unfold State.countPass
  grind [safe_iff, Safe.forAll, Safe.foldl]

theorem State.markFifo_safe {s₀ s : State} (h : Safe s₀ s) (off : Nat) :
    Safe s₀ (s.markFifo off) := by
  unfold State.markFifo
  grind [safe_iff, Safe.forAll, Safe.foldl, State.updEp_safe]

theorem State.scrubFixed_safe {s₀ s : State} (h : Safe s₀ s) (fifo : Bool) (byte : Nat) (r : CodeResult) (inPass : Bool) :
    Safe s₀ (s.scrubFixed fifo byte r inPass) := by
  unfold State.scrubFixed
  grind [= safe_iff, =_ safe_iff, Safe.forAll, Safe.foldl, State.logMem_safe]

theorem State.scrubBad_safe {s₀ s : State} (h : Safe s₀ s) (fifo : Bool) (byte : Nat) (all : List Nat) :
    Safe s₀ (s.scrubBad fifo byte all) := by
  unfold State.scrubBad
  grind [= safe_iff, =_ safe_iff, Safe.forAll, Safe.foldl, State.memUe_safe, State.logMem_safe, State.markFifo_safe]

theorem State.scrubWord_safe {s₀ s0 : State} (h : Safe s₀ s0) (fifo : Bool) (base : Nat) (ecc : Ecc) (inPass : Bool) :
    Safe s₀ (s0.scrubWord fifo base ecc inPass) := by
  unfold State.scrubWord
  grind [safe_iff, Safe.forAll, Safe.foldl, State.takeStored_safe, State.memUe_safe, State.logMem_safe, State.scrubBad_safe, State.scrubFixed_safe]

theorem State.countWord_safe {s₀ s : State} (h : Safe s₀ s) :
    Safe s₀ (s.countWord) := by
  unfold State.countWord
  grind [safe_iff, Safe.forAll, Safe.foldl]

theorem runScrubConfig_safe {s₀ x2 : State} (h : Safe s₀ x2) (x1 : Cmd) :
    Safe s₀ (runScrubConfig x1 x2) := by
  unfold runScrubConfig
  grind [safe_iff, Safe.forAll, Safe.foldl, State.updStaged_safe, State.answer_safe, State.disturb_safe, State.settleGroup_safe]

theorem runScrubNow_safe {s₀ x2 : State} (h : Safe s₀ x2) (x1 : Cmd) :
    Safe s₀ (runScrubNow x1 x2) :=
  h.of_eq rfl rfl

theorem State.scrubFinding_safe {s₀ s : State} (h : Safe s₀ s) (a : Addr) (ecc : Ecc) :
    Safe s₀ (s.scrubFinding a ecc) := by
  unfold State.scrubFinding
  grind [safe_iff, Safe.forAll, Safe.foldl, State.scrubWord_safe, State.scrubLine_safe]

theorem runRetirePage_safe {s₀ x2 : State} (h : Safe s₀ x2) (x1 : Cmd) :
    Safe s₀ (runRetirePage x1 x2) :=
  h.of_eq rfl rfl

theorem State.remap_safe {s₀ s : State} (h : Safe s₀ s) (j : Retirement) :
    Safe s₀ (s.remap j) := by
  unfold State.remap
  grind [safe_iff, Safe.forAll, Safe.foldl, State.logMem_safe]

theorem State.copyFinding_safe {s₀ s : State} (h : Safe s₀ s) (a : Addr) (ecc : Ecc) :
    Safe s₀ (s.copyFinding a ecc) := by
  unfold State.copyFinding
  grind [safe_iff, Safe.forAll, Safe.foldl, State.load_safe, State.scrubLine_safe]

theorem runMarkChip_safe {s₀ x2 : State} (h : Safe s₀ x2) (x1 : Cmd) :
    Safe s₀ (runMarkChip x1 x2) := by
  unfold runMarkChip
  grind [safe_iff, Safe.forAll, Safe.foldl, State.logMem_safe, State.answer_safe]

theorem State.summarise_safe {s₀ s : State} (h : Safe s₀ s) (r : LogRecord) :
    Safe s₀ (s.summarise r) := by
  unfold State.summarise
  grind [safe_iff, Safe.forAll, Safe.foldl, State.raiseHouse_safe, State.raiseSm_safe]

theorem runMemLogRead_safe {s₀ x2 : State} (h : Safe s₀ x2) (x1 : Cmd) :
    Safe s₀ (runMemLogRead x1 x2) :=
  h.of_eq rfl rfl

theorem State.sendPending_safe {s₀ s : State} (h : Safe s₀ s) (p : HostPort) :
    Safe s₀ (s.sendPending p) := by
  unfold State.sendPending
  grind [safe_iff, Safe.forAll, Safe.foldl, State.sendEntry_safe, State.updPort_safe]

theorem State.readCfg_safe {s₀ s : State} (h : Safe s₀ s) (p : HostPort) (reg : Nat) :
    Safe s₀ (s.readCfg p reg).1 := by
  unfold State.readCfg
  grind [safe_iff, Safe.forAll, Safe.foldl, State.bump_safe]

theorem State.gotRead_safe {s₀ s : State} (h : Safe s₀ s) (p : HostPort) (r : PortRead) (e : Ended) (bs : List Byte) :
    Safe s₀ (s.gotRead p r e bs) := by
  unfold State.gotRead
  grind [safe_iff, Safe.forAll, Safe.foldl, State.updChan_safe, State.updPort_safe]

theorem State.portReadFails_safe {s₀ s : State} (h : Safe s₀ s) (p : HostPort) (r : PortRead) (e : Ended) :
    Safe s₀ (s.portReadFails p r e) := by
  unfold State.portReadFails
  grind [safe_iff, Safe.forAll, Safe.foldl, State.failOldest_safe, State.gotRead_safe]

theorem State.cfgStatus_safe {s₀ s : State} (h : Safe s₀ s) (p : HostPort) (bit : Nat) :
    Safe s₀ (s.cfgStatus p bit) := by
  unfold State.cfgStatus
  grind [safe_iff, Safe.forAll, Safe.foldl, State.updPort_safe]

theorem State.cplData_safe {s₀ s : State} (h : Safe s₀ s) (p : HostPort) (r : PortRead) (bytes : List Byte) :
    Safe s₀ (s.cplData p r bytes) := by
  unfold State.cplData
  grind [safe_iff, Safe.forAll, Safe.foldl, State.aerReport_safe, State.gotRead_safe, State.updPort_safe]

theorem State.loseFetches_safe {s₀ s : State} (h : Safe s₀ s) (p : HostPort) (c : ChanId) :
    Safe s₀ (s.loseFetches p c) := by
  unfold State.loseFetches
  grind [safe_iff, Safe.forAll, Safe.foldl, State.busFail_safe, State.proofBad_safe]

theorem State.resetPort_safe {s₀ s : State} (h : Safe s₀ s) (p : HostPort) (perst : Bool) :
    Safe s₀ (s.resetPort p perst) := by
  unfold State.resetPort
  grind [safe_iff, Safe.forAll, Safe.foldl, State.gotRead_safe, State.updPort_safe, State.go_safe, State.failOldest_safe, State.loseFetches_safe]

theorem State.updHouse_safe {s₀ s : State} (h : Safe s₀ s) (f : House → House) :
    Safe s₀ (s.updHouse f) :=
  h.of_eq rfl rfl

theorem State.frameErr_safe {s₀ s : State} (h : Safe s₀ s) :
    Safe s₀ (s.frameErr) :=
  h.of_eq rfl rfl

theorem State.addrErr_safe {s₀ s : State} (h : Safe s₀ s) :
    Safe s₀ (s.addrErr) :=
  h.of_eq rfl rfl

theorem State.zeroAddr_safe {s₀ s : State} (h : Safe s₀ s) (addr : Option Dword) {run : State → State}
    (hrun : Safe s₀ (run s)) : Safe s₀ (s.zeroAddr addr run) := by
  unfold State.zeroAddr
  split
  · exact State.frameErr_safe h
  · split
    · exact hrun
    · exact State.addrErr_safe h

theorem State.pageAddr_safe {s₀ s : State} (h : Safe s₀ s) (addr : Option Dword) {run : Nat → State → State}
    (hrun : ∀ n, Safe s₀ (run n s)) : Safe s₀ (s.pageAddr addr run) := by
  unfold State.pageAddr
  split
  · exact State.frameErr_safe h
  · split
    · exact State.addrErr_safe h
    · exact hrun _

theorem State.sendSpi_safe {s₀ s : State} (h : Safe s₀ s) (bs : List Byte) :
    Safe s₀ (s.sendSpi bs) := by
  unfold State.sendSpi
  grind [safe_iff, Safe.forAll, Safe.foldl, State.emit_safe]

theorem State.readAccess_safe {s₀ s : State} (h : Safe s₀ s) (a : Nat) :
    Safe s₀ (s.readAccess a).1 := by
  unfold State.readAccess
  grind [= safe_iff, =_ safe_iff, Safe.forAll, Safe.foldl, State.regRead_safe, State.bump_safe, State.updHouse_safe]

theorem State.readAccesses_safe {s₀ s : State} (h : Safe s₀ s) (last : Nat) (more : Bool) (n a : Nat) :
    Safe s₀ (State.readAccesses last more n a s).1 := by
  induction n generalizing s a with
  | zero =>
    unfold State.readAccesses
    dsimp only
    split
    · exact State.addrErr_safe h
    · exact h
  | succ n ih =>
    rw [State.readAccesses]
    split
    · exact State.addrErr_safe h
    · exact ih (State.readAccess_safe h a) _

theorem State.updTb_safe {s₀ s : State} (h : Safe s₀ s) (f : TimeBase → TimeBase) :
    Safe s₀ (s.updTb f) :=
  h.of_eq rfl rfl

theorem State.missStrobe_safe {s₀ s : State} (h : Safe s₀ s) (n : BitVec 3) :
    Safe s₀ (s.missStrobe n) := by
  unfold State.missStrobe
  grind [safe_iff, Safe.forAll, Safe.foldl, State.note_safe, State.setDevReg_safe]

theorem State.missSysref_safe {s₀ s : State} (h : Safe s₀ s) (stepped : Tick) :
    Safe s₀ (s.missSysref stepped) := by
  unfold State.missSysref
  grind [= safe_iff, =_ safe_iff, Safe.forAll, Safe.foldl, State.note_safe, State.setDevReg_safe]

theorem State.applyPast_safe {s₀ s : State} (h : Safe s₀ s) (page : Page) (stepped : Tick) :
    Safe s₀ (s.applyPast page stepped) := by
  unfold State.applyPast
  grind [safe_iff, Safe.forAll, Safe.foldl, State.strobe_safe, State.updCtl_safe]

theorem State.shiftSpans_safe {s₀ s : State} (h : Safe s₀ s) (d : Tick) :
    Safe s₀ (s.shiftSpans d) :=
  h.of_eq rfl rfl

theorem State.stepTime_safe {s₀ s : State} (h : Safe s₀ s) (value : Tick) (vernier : Tick) :
    Safe s₀ (s.stepTime value vernier) := by
  unfold State.stepTime
  grind [= safe_iff, =_ safe_iff, Safe.forAll, Safe.foldl, State.updTb_safe, State.shiftSpans_safe, State.note_safe, State.missStrobe_safe, State.missSysref_safe, State.applyPast_safe, State.endProposal_safe]

theorem State.endTimeSets_safe {s₀ s : State} (h : Safe s₀ s) :
    Safe s₀ (s.endTimeSets) := by
  unfold State.endTimeSets
  grind [safe_iff, Safe.forAll, Safe.foldl, State.updTb_safe, State.finishLong_safe]

theorem runTimeSet_safe {s₀ x2 : State} (h : Safe s₀ x2) (x1 : Cmd) :
    Safe s₀ (runTimeSet x1 x2) := by
  unfold runTimeSet
  grind [safe_iff, Safe.forAll, Safe.foldl, State.endTimeSets_safe, State.updTb_safe, State.startLong_safe, State.answer_safe, State.stepTime_safe]

theorem runTimeAdjust_safe {s₀ x2 : State} (h : Safe s₀ x2) (x1 : Cmd) :
    Safe s₀ (runTimeAdjust x1 x2) := by
  unfold runTimeAdjust
  grind [safe_iff, Safe.forAll, Safe.foldl, State.updTb_safe, State.answer_safe, State.note_safe]

theorem runTimeCapture_safe {s₀ x2 : State} (h : Safe s₀ x2) (x1 : Cmd) :
    Safe s₀ (runTimeCapture x1 x2) := by
  unfold runTimeCapture
  grind [safe_iff, Safe.forAll, Safe.foldl, State.respond_safe]

theorem State.capturePps_safe {s₀ s : State} (h : Safe s₀ s) (stamp : Tick) :
    Safe s₀ (s.capturePps stamp) :=
  h.of_eq rfl rfl

theorem State.ppsStep_safe {s₀ s : State} (h : Safe s₀ s) (w : AtPps) (stamp : Tick) :
    Safe s₀ (s.ppsStep w stamp) := by
  unfold State.ppsStep
  grind [safe_iff, Safe.forAll, Safe.foldl, State.finishLong_safe, State.updTb_safe, State.stepTime_safe]

theorem State.strobeTo_safe {s₀ s : State} (h : Safe s₀ s) (n : BitVec 3) (level : Bool) (fall : Option Tick) (t : Tick) :
    Safe s₀ (s.strobeTo n level fall t) := by
  unfold State.strobeTo
  grind [safe_iff, Safe.forAll, Safe.foldl, State.updTb_safe, State.emit_safe]

theorem State.produceStrobe_safe {s₀ s : State} (h : Safe s₀ s) (n : BitVec 3) (t : Tick) :
    Safe s₀ (s.produceStrobe n t) := by
  unfold State.produceStrobe
  grind [safe_iff, Safe.forAll, Safe.foldl, State.strobeTo_safe]

theorem State.seeEdge_safe {s₀ s : State} (h : Safe s₀ s) (p : PinId) (func : Nat) (level : Bool) :
    Safe s₀ (s.seeEdge p func level).1 := by
  unfold State.seeEdge
  grind [safe_iff, Safe.forAll, Safe.foldl, State.ballMoves_safe, State.updPin_safe]

theorem State.endDone_safe {s₀ s : State} (h : Safe s₀ s) (p : PinId) (t : Tick) :
    Safe s₀ (s.endDone p t) := by
  unfold State.endDone
  grind [safe_iff, Safe.forAll, Safe.foldl, State.emit_safe, State.updPin_safe]

theorem State.lineStart_safe {s₀ s : State} (h : Safe s₀ s) (i : Nat) (level : Bool) :
    Safe s₀ (s.lineStart i level) := by
  unfold State.lineStart
  grind [safe_iff, Safe.forAll, Safe.foldl, State.go_safe, State.updChan_safe]

theorem State.loseFine_safe {s₀ s : State} (h : Safe s₀ s) :
    Safe s₀ (s.loseFine) := by
  unfold State.loseFine
  grind [safe_iff, Safe.forAll, Safe.foldl, State.updTb_safe, State.dropPps_safe]

theorem State.faultOnce_safe {s₀ s : State} (h : Safe s₀ s) (cause : Byte) :
    Safe s₀ (s.faultOnce cause) := by
  unfold State.faultOnce
  grind [safe_iff, Safe.forAll, Safe.foldl, State.enterFaulted_safe]

theorem runTraceConfig_safe {s₀ x2 : State} (h : Safe s₀ x2) (x1 : Cmd) :
    Safe s₀ (runTraceConfig x1 x2) := by
  unfold runTraceConfig
  grind [safe_iff, Safe.forAll, Safe.foldl, State.disturb_safe, State.settleGroup_safe, State.setDevBoth_safe, State.answer_safe]

theorem runTraceRead_safe {s₀ x2 : State} (h : Safe s₀ x2) (x1 : Cmd) :
    Safe s₀ (runTraceRead x1 x2) :=
  h.of_eq rfl rfl

theorem State.exportOne_safe {s₀ s : State} (h : Safe s₀ s) :
    Safe s₀ (s.exportOne) := by
  unfold State.exportOne
  grind [safe_iff, Safe.forAll, Safe.foldl, State.emit_safe]

theorem State.tap_safe {s₀ s : State} (h : Safe s₀ s) (i : JtagInstr) :
    Safe s₀ (s.tap i) :=
  h.of_eq rfl rfl

theorem State.updPatch_safe {s₀ s : State} (h : Safe s₀ s) (n : Nat) (f : PatchSlot → PatchSlot) :
    Safe s₀ (s.updPatch n f) :=
  h.of_eq rfl rfl

theorem runPatchStage_safe {s₀ x2 : State} (h : Safe s₀ x2) (x1 : Cmd) :
    Safe s₀ (runPatchStage x1 x2) := by
  unfold runPatchStage
  grind [= safe_iff, =_ safe_iff, Safe.forAll, Safe.foldl, State.readBody_safe, State.answer_safe, State.updPatch_safe, State.startLong_safe]

theorem State.finishStage_safe {s₀ s : State} (h : Safe s₀ s) (l : LongCmd) :
    Safe s₀ (s.finishStage l) := by
  unfold State.finishStage
  grind [safe_iff, Safe.forAll, Safe.foldl, State.updPatch_safe, State.finishLong_safe]

theorem runPatchActivate_safe {s₀ x2 : State} (h : Safe s₀ x2) (x1 : Cmd) :
    Safe s₀ (runPatchActivate x1 x2) := by
  unfold runPatchActivate
  grind [safe_iff, Safe.forAll, Safe.foldl, State.expireBefore_safe, State.answer_safe, State.holdProposal_safe]

theorem runPatchList_safe {s₀ x2 : State} (h : Safe s₀ x2) (x1 : Cmd) :
    Safe s₀ (runPatchList x1 x2) := by
  unfold runPatchList
  grind [safe_iff, Safe.forAll, Safe.foldl, State.respond_safe]

theorem runConfigSnapshot_safe {s₀ x2 : State} (h : Safe s₀ x2) (x1 : Cmd) :
    Safe s₀ (runConfigSnapshot x1 x2) :=
  h.of_eq rfl rfl

theorem State.finishSnapshot_safe {s₀ s : State} (h : Safe s₀ s) (l : LongCmd) :
    Safe s₀ (s.finishSnapshot l) := by
  unfold State.finishSnapshot
  grind [safe_iff, Safe.forAll, Safe.foldl, State.finishLong_safe, State.bump_safe]

theorem State.restoreDev_safe {s₀ s : State} (h : Safe s₀ s) (g : Snapshot) :
    Safe s₀ (s.restoreDev g) := by
  unfold State.restoreDev
  grind [= safe_iff, =_ safe_iff, Safe.forAll, Safe.foldl, State.switchPin_safe, State.setEpCfg_safe]

theorem runConfigRestore_safe {s₀ x2 : State} (h : Safe s₀ x2) (x1 : Cmd) :
    Safe s₀ (runConfigRestore x1 x2) :=
  h.of_eq rfl rfl

theorem State.finishBulk_safe {s₀ s : State} (h : Safe s₀ s) (l : LongCmd) (ended : Ended) :
    Safe s₀ (s.finishBulk l ended) := by
  unfold State.finishBulk
  grind [safe_iff, Safe.forAll, Safe.foldl, State.finishLong_safe, State.writeResult_safe]

theorem State.withdrawStop_safe {s₀ s : State} (h : Safe s₀ s) (l : LongCmd) (opcode : Nat) :
    Safe s₀ (s.withdrawStop l opcode) := by
  unfold State.withdrawStop
  grind [safe_iff, Safe.forAll, Safe.foldl, State.updChan_safe]

theorem State.abortBist_safe {s₀ s : State} (h : Safe s₀ s) (l : LongCmd) :
    Safe s₀ (s.abortBist l) := by
  unfold State.abortBist
  grind [safe_iff, Safe.forAll, Safe.foldl, State.abortTest_safe, State.finishLong_safe, State.updHealth_safe]

theorem State.abortBulk_safe {s₀ s : State} (h : Safe s₀ s) (l : LongCmd) :
    Safe s₀ (s.abortBulk l) := by
  unfold State.abortBulk
  grind [safe_iff, Safe.forAll, Safe.foldl, State.bump_safe, State.writeResult_safe]

theorem State.abortLong_safe {s₀ s : State} (h : Safe s₀ s) (l : LongCmd) {r}
    (hr : s.abortLong l = some r) : Safe s₀ r := by
  unfold State.abortLong at hr
  grind [safe_iff, Safe.forAll, Safe.foldl, State.finishLong_safe, State.withdrawStop_safe, State.leaveLink_safe, State.updTb_safe, State.abortBulk_safe, State.abortBist_safe]

theorem runAbortCommand_safe {s₀ x2 : State} (h : Safe s₀ x2) (x1 : Cmd) :
    Safe s₀ (runAbortCommand x1 x2) := by
  unfold runAbortCommand
  grind [safe_iff, Safe.forAll, Safe.foldl, State.answer_safe, State.abortLong_safe]

theorem runPowerState_safe {s₀ x2 : State} (h : Safe s₀ x2) (x1 : Cmd) :
    Safe s₀ (runPowerState x1 x2) := by
  unfold runPowerState
  grind [= safe_iff, =_ safe_iff, Safe.forAll, Safe.foldl, State.answer_safe]

theorem State.watchIdle_safe {s₀ s : State} (h : Safe s₀ s) :
    Safe s₀ (s.watchIdle) := by
  unfold State.watchIdle
  grind [safe_iff, Safe.forAll, Safe.foldl]

theorem State.dropEntries_safe {s₀ s : State} (h : Safe s₀ s) :
    Safe s₀ (s.dropEntries) :=
  h.of_eq rfl rfl

theorem State.exportRest_safe {s₀ s : State} (h : Safe s₀ s) :
    Safe s₀ (s.exportRest) := by
  unfold State.exportRest
  grind [safe_iff, Safe.forAll, Safe.foldl, State.exportOne_safe]

theorem State.sleepRecord_safe {s₀ s : State} (h : Safe s₀ s) (p : PowerState) :
    Safe s₀ (s.sleepRecord p) := by
  unfold State.sleepRecord
  grind [safe_iff, Safe.forAll, Safe.foldl, State.exportRest_safe, State.flushTrace_safe, State.note_safe, State.updTb_safe]

theorem State.intermit_safe {s₀ s : State} (h : Safe s₀ s) :
    Safe s₀ (s.intermit) := by
  unfold State.intermit
  grind [= safe_iff, =_ safe_iff, Safe.forAll, Safe.foldl, State.persistTrace_safe]

theorem State.sink_safe {s₀ s : State} (h : Safe s₀ s) (p : PowerState) :
    Safe s₀ (s.sink p) :=
  h.of_eq rfl rfl

theorem State.sinkDeep_safe {s₀ s : State} (h : Safe s₀ s) (p : PowerState) :
    Safe s₀ (s.sinkDeep p) := by
  unfold State.sinkDeep
  grind [= safe_iff, =_ safe_iff, Safe.forAll, Safe.foldl, State.sleepRecord_safe, State.dropEntries_safe, State.intermit_safe, State.updTb_safe, State.sink_safe]

theorem State.refill_safe {s₀ s : State} (h : Safe s₀ s) : Safe s₀ s.refill := by
  unfold State.refill
  dsimp only
  refine Safe.forAll ?_ _ fun e t ht => State.judgeFill_safe ht e
  refine ⟨fun hb => ?_, h.2⟩
  have hw := h.1 hb
  simp only [Memory.wf, Bool.and_eq_true] at hw ⊢
  exact ⟨rfl, hw.2⟩

theorem State.returnHeld_safe {s₀ s : State} (h : Safe s₀ s) (c : ChanId) :
    Safe s₀ (s.returnHeld c) := by
  unfold State.returnHeld
  grind [safe_iff, Safe.forAll, Safe.foldl, State.updSq_safe]

theorem State.refetch_safe {s₀ s : State} (h : Safe s₀ s) (c : ChanId) :
    Safe s₀ (s.refetch c) := by
  unfold State.refetch
  grind [safe_iff, Safe.forAll, Safe.foldl, State.returnHeld_safe, State.updChan_safe]

theorem State.clocksUp_safe {s₀ s : State} (h : Safe s₀ s) :
    Safe s₀ (s.clocksUp) :=
  h.of_eq rfl rfl

theorem State.wakeRecord_safe {s₀ s : State} (h : Safe s₀ s) :
    Safe s₀ (s.wakeRecord) := by
  unfold State.wakeRecord
  grind [= safe_iff, =_ safe_iff, Safe.forAll, Safe.foldl, State.note_safe, State.updTb_safe]

theorem State.applyMissed_safe {s₀ s : State} (h : Safe s₀ s) (page : Page) :
    Safe s₀ (s.applyMissed page) := by
  unfold State.applyMissed
  grind [safe_iff, Safe.forAll, Safe.foldl, State.lateUpdate_safe, State.strobe_safe, State.updCtl_safe]

theorem State.ringHeldBells_safe {s₀ s : State} (h : Safe s₀ s) :
    Safe s₀ (s.ringHeldBells) := by
  unfold State.ringHeldBells
  grind [safe_iff, Safe.forAll, Safe.foldl, State.ring_safe]

theorem State.deliverEdge_safe {s₀ s : State} (h : Safe s₀ s) (p : PinId) :
    Safe s₀ (s.deliverEdge p) := by
  unfold State.deliverEdge
  grind [safe_iff, Safe.forAll, Safe.foldl, State.updPin_safe, State.lineEvent_safe, State.signal_safe]

theorem State.rise_safe {s₀ s : State} (h : Safe s₀ s) :
    Safe s₀ (s.rise) :=
  h.of_eq rfl rfl

theorem State.climb_safe {s₀ s : State} (h : Safe s₀ s) : Safe s₀ s.climb := by
  have h1 : Safe s₀ (if s.power.state = .shuttered then s.refill.forAll allChans fun c s => s.refetch c else s) := by
    split
    · exact Safe.forAll (State.refill_safe h) _ fun c t ht => State.refetch_safe ht c
    · exact h
  unfold State.climb
  generalize (if s.power.state = .shuttered then s.refill.forAll allChans fun c s => s.refetch c else s) = s1 at h1 ⊢
  have h2 := State.wakeRecord_safe (State.rise_safe (State.clocksUp_safe h1))
  dsimp only
  generalize s1.clocksUp.rise.wakeRecord = s2 at h2 ⊢
  refine State.go_safe (Safe.forAll (Safe.forAll (State.ringHeldBells_safe (Safe.forAll ?_ _ ?_)) _ ?_) _ ?_) _
  · exact h2.of_eq rfl rfl
  · exact fun p t ht => State.applyMissed_safe ht p
  · exact fun c t ht => State.releasePending_safe ht c
  · exact fun p t ht => State.deliverEdge_safe ht p

theorem State.updBoot_safe {s₀ s : State} (h : Safe s₀ s) (f : Boot → Boot) :
    Safe s₀ (s.updBoot f) :=
  h.of_eq rfl rfl

theorem State.toStep_safe {s₀ s : State} (h : Safe s₀ s) (n : Nat) :
    Safe s₀ (s.toStep n) :=
  h.of_eq rfl rfl

theorem State.failStart_safe {s₀ s : State} (h : Safe s₀ s) (alert : Nat) :
    Safe s₀ (s.failStart alert) := by
  unfold State.failStart
  grind [safe_iff, Safe.forAll, Safe.foldl, State.enterFaulted_safe, State.raiseAlert_safe]

theorem State.startRefclk_safe {s₀ s : State} (h : Safe s₀ s) (i : StartupInput) :
    Safe s₀ (s.startRefclk i) := by
  unfold State.startRefclk
  grind [safe_iff, Safe.forAll, Safe.foldl, State.toStep_safe, State.updTb_safe, State.failStart_safe]

theorem State.startPll_safe {s₀ s : State} (h : Safe s₀ s) (i : StartupInput) :
    Safe s₀ (s.startPll i) := by
  unfold State.startPll
  grind [safe_iff, Safe.forAll, Safe.foldl, State.toStep_safe, State.updBoot_safe, State.updTb_safe, State.failStart_safe]

theorem State.startBook_safe {s₀ s : State} (h : Safe s₀ s) (i : StartupInput) :
    Safe s₀ (s.startBook i) := by
  unfold State.startBook
  grind [safe_iff, Safe.forAll, Safe.foldl, State.updBoot_safe, State.failStart_safe, State.raiseAlert_safe, State.toStep_safe]

theorem State.startPatches_safe {s₀ s : State} (h : Safe s₀ s) (i : StartupInput) :
    Safe s₀ (s.startPatches i) := by
  unfold State.startPatches
  grind [safe_iff, Safe.forAll, Safe.foldl, State.toStep_safe, State.updBoot_safe]

theorem State.startDram_safe {s₀ s : State} (h : Safe s₀ s) (i : StartupInput) :
    Safe s₀ (s.startDram i) := by
  unfold State.startDram
  grind [= safe_iff, =_ safe_iff, Safe.forAll, Safe.foldl, State.setDevBoth_safe, State.toStep_safe, State.updBoot_safe, State.raiseAlert_safe]

theorem State.startFill_safe {s₀ s : State} (h : Safe s₀ s) : Safe s₀ s.startFill := by
  unfold State.startFill
  dsimp only
  refine State.toStep_safe (State.enterDev_safe (s := _) ?_ _) 8
  refine ⟨fun hb => ?_, h.2⟩
  have hw := h.1 hb
  simp only [Memory.wf, Bool.and_eq_true] at hw ⊢
  refine ⟨rfl, ?_⟩
  split
  · rfl
  · exact hw.2

theorem State.startCheck_safe {s₀ s : State} (h : Safe s₀ s) (i : StartupInput) :
    Safe s₀ (s.startCheck i) := by
  unfold State.startCheck
  grind [safe_iff, Safe.forAll, Safe.foldl, State.toStep_safe, State.updHealth_safe, State.failStart_safe]

theorem State.reachHouseOnly_safe {s₀ s : State} (h : Safe s₀ s) :
    Safe s₀ (s.reachHouseOnly) := by
  unfold State.reachHouseOnly
  grind [safe_iff, Safe.forAll, Safe.foldl, State.enterDev_safe, State.updBoot_safe, State.toStep_safe, State.note_safe, State.complete_safe]

theorem State.startPrompter_safe {s₀ s : State} (h : Safe s₀ s) (i : StartupInput) :
    Safe s₀ (s.startPrompter i) := by
  unfold State.startPrompter
  grind [safe_iff, Safe.forAll, Safe.foldl, State.reachHouseOnly_safe, State.failStart_safe, State.countFailedBoot_safe]

theorem tick_safe {s₀ s : State} (h : Safe s₀ s) :
    Safe s₀ (tick s) := by
  unfold tick
  grind [= safe_iff, =_ safe_iff, Safe.forAll, Safe.foldl, State.freeLb_safe, State.watchIdle_safe, State.sampleBits_safe]

/-! ### Safety.lean -/

end Sys2Proof.Machine
end

section
/-! PROOF. The rows of every command that leaves the map in force. -/

namespace Sys2Proof.Machine

theorem serve_safe {spec : CmdSpec} {checks : Cmd → State → Checks} {run : Cmd → State → State} {p : Packet} {s₀ s t : State}
    (h : Safe s₀ s) (hrun : ∀ c u, Safe s₀ u → Safe s₀ (run c u)) (ht : serve spec checks run p s = .next t) : Safe s₀ t := by
  unfold serve at ht
  grind [= safe_iff, =_ safe_iff, State.takeOff_safe, State.answer_safe]

theorem State.barGate_safe {a : BarAccess} {bar : Nat} {perform : State → Result} {s₀ s t : State} (h : Safe s₀ s)
    (hrun : ∀ u v, Safe s₀ u → perform u = .next v → Safe s₀ v) (ht : s.barGate a bar perform = .next t) : Safe s₀ t := by
  unfold State.barGate at ht
  grind [= safe_iff, =_ safe_iff, State.wakeBy_safe, State.aerNonfatal_safe, State.barRefused_safe]

/-- A row that answers one state answers a `Safe` one where that state is `Safe`. -/
theorem Safe.of_next {s₀ u t : State} (h : Safe s₀ u) (ht : (.next u : Result) = .next t) : Safe s₀ t := by
  cases ht; exact h

theorem State.houseFrame_safe {run : State → State} {s₀ s t : State} (h : Safe s₀ s)
    (hrun : ∀ u, Safe s₀ u → Safe s₀ (run u)) (ht : s.houseFrame run = .next t) : Safe s₀ t := by
  unfold State.houseFrame at ht
  grind [= safe_iff, =_ safe_iff, State.wakeBy_safe, State.updHouse_safe]

theorem execIdentify_safe {s₀ s t : State} (h : Safe s₀ s) (p : Packet)
    (ht : execIdentify p s = .next t) : Safe s₀ t :=
  serve_safe h (fun c _ hu => runIdentify_safe hu c) ht

theorem execGetState_safe {s₀ s t : State} (h : Safe s₀ s) (p : Packet)
    (ht : execGetState p s = .next t) : Safe s₀ t :=
  serve_safe h (fun c _ hu => runGetState_safe hu c) ht

theorem execSetFeature_safe {s₀ s t : State} (h : Safe s₀ s) (p : Packet)
    (ht : execSetFeature p s = .next t) : Safe s₀ t :=
  serve_safe h (fun c _ hu => runSetFeature_safe hu c) ht

theorem execGetFeature_safe {s₀ s t : State} (h : Safe s₀ s) (p : Packet)
    (ht : execGetFeature p s = .next t) : Safe s₀ t :=
  serve_safe h (fun c _ hu => runGetFeature_safe hu c) ht

theorem execEcho_safe {s₀ s t : State} (h : Safe s₀ s) (p : Packet)
    (ht : execEcho p s = .next t) : Safe s₀ t :=
  serve_safe h (fun c _ hu => runEcho_safe hu c) ht

theorem execCreateCq_safe {s₀ s t : State} (h : Safe s₀ s) (p : Packet)
    (ht : execCreateCq p s = .next t) : Safe s₀ t :=
  serve_safe h (fun c _ hu => runCreateCq_safe hu c) ht

theorem execCreateSq_safe {s₀ s t : State} (h : Safe s₀ s) (p : Packet)
    (ht : execCreateSq p s = .next t) : Safe s₀ t :=
  serve_safe h (fun c _ hu => runCreateSq_safe hu c) ht

theorem execDeleteSq_safe {s₀ s t : State} (h : Safe s₀ s) (p : Packet)
    (ht : execDeleteSq p s = .next t) : Safe s₀ t :=
  serve_safe h (fun c _ hu => runDeleteSq_safe hu c) ht

theorem execDeleteCq_safe {s₀ s t : State} (h : Safe s₀ s) (p : Packet)
    (ht : execDeleteCq p s = .next t) : Safe s₀ t :=
  serve_safe h (fun c _ hu => runDeleteCq_safe hu c) ht

theorem execMove_safe {s₀ s t : State} (h : Safe s₀ s) (c : ChanId)
    (ht : execMove c s = .next t) : Safe s₀ t := by
  unfold execMove at ht
  grind [= safe_iff, =_ safe_iff, Safe.forAll, Safe.foldl, State.takeRow_safe]

theorem execRunScript_safe {s₀ s t : State} (h : Safe s₀ s) (c : ChanId)
    (ht : execRunScript c s = .next t) : Safe s₀ t := by
  unfold execRunScript at ht
  grind [= safe_iff, =_ safe_iff, Safe.forAll, Safe.foldl, State.takeRow_safe]

theorem execFill_safe {s₀ s t : State} (h : Safe s₀ s) (c : ChanId)
    (ht : execFill c s = .next t) : Safe s₀ t := by
  unfold execFill at ht
  grind [= safe_iff, =_ safe_iff, Safe.forAll, Safe.foldl, State.takeRow_safe]

theorem execCue_safe {s₀ s t : State} (h : Safe s₀ s) (c : ChanId)
    (ht : execCue c s = .next t) : Safe s₀ t := by
  unfold execCue at ht
  grind [= safe_iff, =_ safe_iff, Safe.forAll, Safe.foldl, State.takeRow_safe]

theorem execCallChain_safe {s₀ s t : State} (h : Safe s₀ s) (c : ChanId)
    (ht : execCallChain c s = .next t) : Safe s₀ t := by
  unfold execCallChain at ht
  grind [= safe_iff, =_ safe_iff, Safe.forAll, Safe.foldl, State.takeRow_safe]

theorem execLink_safe {s₀ s t : State} (h : Safe s₀ s) (c : ChanId)
    (ht : execLink c s = .next t) : Safe s₀ t := by
  unfold execLink at ht
  grind [= safe_iff, =_ safe_iff, Safe.forAll, Safe.foldl, State.takeRow_safe]

theorem execAdmission_safe {s₀ s t : State} (h : Safe s₀ s) (h : ShId)
    (ht : execAdmission h s = .next t) : Safe s₀ t := by
  unfold execAdmission at ht
  grind [= safe_iff, =_ safe_iff, Safe.forAll, Safe.foldl, State.admitAct_safe]

theorem execBeat_safe {s₀ s t : State} (h : Safe s₀ s) (h : ShId)
    (ht : execBeat h s = .next t) : Safe s₀ t := by
  unfold execBeat at ht
  grind [= safe_iff, =_ safe_iff, Safe.forAll, Safe.foldl, State.idleBeat_safe, State.go_safe, State.beatOf_safe, State.passBeat_safe, State.wakeBy_safe, State.issueFirst_safe]

theorem execReadDataReturn_safe {s₀ s t : State} (h : Safe s₀ s) (c : ChanId) (ended : Ended) (bytes : List Byte) (ecc : Ecc)
    (ht : execReadDataReturn c ended bytes ecc s = .next t) : Safe s₀ t := by
  unfold execReadDataReturn at ht
  grind [= safe_iff, =_ safe_iff, Safe.forAll, Safe.foldl, State.go_safe, State.failOldest_safe, State.readReturn_safe]

theorem execWriteBurstComplete_safe {s₀ s t : State} (h : Safe s₀ s) (k : WriteKind) (ended : Ended) (ecc : Ecc)
    (ht : execWriteBurstComplete k ended ecc s = .next t) : Safe s₀ t := by
  unfold execWriteBurstComplete at ht
  grind [= safe_iff, =_ safe_iff, Safe.forAll, Safe.foldl, State.go_safe, State.writeDone_safe, State.completionDone_safe]

theorem execRetry_safe {s₀ s t : State} (h : Safe s₀ s) (c : ChanId)
    (ht : execRetry c s = .next t) : Safe s₀ t := by
  unfold execRetry at ht
  grind [= safe_iff, =_ safe_iff, Safe.forAll, Safe.foldl, State.retryCpls_safe, State.go_safe, State.reissue_safe, State.retryIssued_safe]

theorem execWriteArrivalReadback_safe {s₀ s t : State} (h : Safe s₀ s) (c : ChanId) (target : Option ProofTarget) (ended : Ended) (bytes : List Byte) (ecc : Ecc)
    (ht : execWriteArrivalReadback c target ended bytes ecc s = .next t) : Safe s₀ t := by
  unfold execWriteArrivalReadback at ht
  grind [= safe_iff, =_ safe_iff, Safe.forAll, Safe.foldl, State.go_safe, State.proofReturn_safe]

theorem execResetProofTimeout_safe {s₀ s t : State} (h : Safe s₀ s) (c : ChanId)
    (ht : execResetProofTimeout c s = .next t) : Safe s₀ t := by
  unfold execResetProofTimeout at ht
  dsimp only at ht
  generalize resetProofLimit = limit at ht
  split at ht
  · split at ht
    · exact (State.go_safe (State.updChan_safe h c _) _).of_next ht
    · exact h.of_next ht
  · split at ht
    · cases ht
      refine State.go_safe ?_ _
      exact Safe.of_eq h rfl rfl
    · exact h.of_next ht
  · exact h.of_next ht

theorem execFetchReturn_safe {s₀ s t : State} (h : Safe s₀ s) (c : ChanId) (ended : Ended) (bytes : List Byte) (ecc : Ecc)
    (ht : execFetchReturn c ended bytes ecc s = .next t) : Safe s₀ t := by
  unfold execFetchReturn at ht
  grind [= safe_iff, =_ safe_iff, Safe.forAll, Safe.foldl, State.go_safe, State.fetchReturn_safe, State.readAhead_safe]

theorem execScriptMove_safe {s₀ s t : State} (h : Safe s₀ s) (c : ChanId)
    (ht : execScriptMove c s = .next t) : Safe s₀ t := by
  unfold execScriptMove at ht
  grind [= safe_iff, =_ safe_iff, Safe.forAll, Safe.foldl, State.scriptRow_safe, State.startUnit_safe]

theorem execMove3_safe {s₀ s t : State} (h : Safe s₀ s) (c : ChanId)
    (ht : execMove3 c s = .next t) : Safe s₀ t := by
  unfold execMove3 at ht
  grind [= safe_iff, =_ safe_iff, Safe.forAll, Safe.foldl, State.scriptRow_safe, State.startUnit_safe]

theorem execNop_safe {s₀ s t : State} (h : Safe s₀ s) (c : ChanId)
    (ht : execNop c s = .next t) : Safe s₀ t := by
  unfold execNop at ht
  grind [= safe_iff, =_ safe_iff, Safe.forAll, Safe.foldl, State.scriptRow_safe, State.regInsn_safe]

theorem execSeta_safe {s₀ s t : State} (h : Safe s₀ s) (c : ChanId)
    (ht : execSeta c s = .next t) : Safe s₀ t := by
  unfold execSeta at ht
  grind [= safe_iff, =_ safe_iff, Safe.forAll, Safe.foldl, State.scriptRow_safe, State.regInsn_safe]

theorem execAdda_safe {s₀ s t : State} (h : Safe s₀ s) (c : ChanId)
    (ht : execAdda c s = .next t) : Safe s₀ t := by
  unfold execAdda at ht
  grind [= safe_iff, =_ safe_iff, Safe.forAll, Safe.foldl, State.scriptRow_safe, State.regInsn_safe]

theorem execSetk_safe {s₀ s t : State} (h : Safe s₀ s) (c : ChanId)
    (ht : execSetk c s = .next t) : Safe s₀ t := by
  unfold execSetk at ht
  grind [= safe_iff, =_ safe_iff, Safe.forAll, Safe.foldl, State.scriptRow_safe, State.regInsn_safe]

theorem execAddk_safe {s₀ s t : State} (h : Safe s₀ s) (c : ChanId)
    (ht : execAddk c s = .next t) : Safe s₀ t := by
  unfold execAddk at ht
  grind [= safe_iff, =_ safe_iff, Safe.forAll, Safe.foldl, State.scriptRow_safe, State.regInsn_safe]

theorem execLoop_safe {s₀ s t : State} (h : Safe s₀ s) (c : ChanId)
    (ht : execLoop c s = .next t) : Safe s₀ t := by
  unfold execLoop at ht
  grind [= safe_iff, =_ safe_iff, Safe.forAll, Safe.foldl, State.scriptRow_safe, State.updScript_safe, State.nextPc_safe, State.countSpin_safe, State.branchTo_safe]

theorem execBranch_safe {s₀ s t : State} (h : Safe s₀ s) (c : ChanId)
    (ht : execBranch c s = .next t) : Safe s₀ t := by
  unfold execBranch at ht
  grind [= safe_iff, =_ safe_iff, Safe.forAll, Safe.foldl, State.scriptRow_safe, State.branchTo_safe, State.nextPc_safe, State.countSpin_safe]

theorem execEndScript_safe {s₀ s t : State} (h : Safe s₀ s) (c : ChanId)
    (ht : execEndScript c s = .next t) : Safe s₀ t := by
  unfold execEndScript at ht
  grind [= safe_iff, =_ safe_iff, Safe.forAll, Safe.foldl, State.scriptRow_safe, State.updChan_safe]

theorem execHalt_safe {s₀ s t : State} (h : Safe s₀ s) (c : ChanId)
    (ht : execHalt c s = .next t) : Safe s₀ t := by
  unfold execHalt at ht
  grind [= safe_iff, =_ safe_iff, Safe.forAll, Safe.foldl, State.scriptRow_safe, State.noteChan_safe, State.updScript_safe, State.failPlain_safe]

theorem execWaitCue_safe {s₀ s t : State} (h : Safe s₀ s) (c : ChanId)
    (ht : execWaitCue c s = .next t) : Safe s₀ t := by
  unfold execWaitCue at ht
  grind [= safe_iff, =_ safe_iff, Safe.forAll, Safe.foldl, State.scriptRow_safe, State.beginWait_safe]

theorem execWaitt_safe {s₀ s t : State} (h : Safe s₀ s) (c : ChanId)
    (ht : execWaitt c s = .next t) : Safe s₀ t := by
  unfold execWaitt at ht
  grind [= safe_iff, =_ safe_iff, Safe.forAll, Safe.foldl, State.scriptRow_safe, State.waitNext_safe, State.beginWait_safe, State.passWaitt_safe]

theorem execSignal_safe {s₀ s t : State} (h : Safe s₀ s) (c : ChanId)
    (ht : execSignal c s = .next t) : Safe s₀ t := by
  unfold execSignal at ht
  grind [= safe_iff, =_ safe_iff, Safe.forAll, Safe.foldl, State.scriptRow_safe, State.updChan_safe, State.countSpin_safe]

theorem execFence_safe {s₀ s t : State} (h : Safe s₀ s) (c : ChanId)
    (ht : execFence c s = .next t) : Safe s₀ t := by
  unfold execFence at ht
  grind [= safe_iff, =_ safe_iff, Safe.forAll, Safe.foldl, State.scriptRow_safe, State.updChan_safe, State.countSpin_safe]

theorem execTake_safe {s₀ s t : State} (h : Safe s₀ s) (c : ChanId)
    (ht : execTake c s = .next t) : Safe s₀ t := by
  unfold execTake at ht
  grind [= safe_iff, =_ safe_iff, Safe.forAll, Safe.foldl, State.scriptRow_safe, State.askProp_safe, State.countSpin_safe, State.nextPc_safe, State.updScript_safe, State.updChan_safe, State.beginWait_safe, State.failTarget_safe]

theorem execGive_safe {s₀ s t : State} (h : Safe s₀ s) (c : ChanId)
    (ht : execGive c s = .next t) : Safe s₀ t := by
  unfold execGive at ht
  grind [= safe_iff, =_ safe_iff, Safe.forAll, Safe.foldl, State.scriptRow_safe, State.freePropAt_safe, State.go_safe, State.nextPc_safe, State.countSpin_safe]

theorem execStamp_safe {s₀ s t : State} (h : Safe s₀ s) (c : ChanId)
    (ht : execStamp c s = .next t) : Safe s₀ t := by
  unfold execStamp at ht
  grind [= safe_iff, =_ safe_iff, Safe.forAll, Safe.foldl, State.scriptRow_safe, State.startUnit_safe, State.countSpin_safe]

theorem execIrq_safe {s₀ s t : State} (h : Safe s₀ s) (c : ChanId)
    (ht : execIrq c s = .next t) : Safe s₀ t := by
  unfold execIrq at ht
  grind [= safe_iff, =_ safe_iff, Safe.forAll, Safe.foldl, State.scriptRow_safe, State.updChan_safe, State.countSpin_safe]

theorem execWaitTimeout_safe {s₀ s t : State} (h : Safe s₀ s) (c : ChanId)
    (ht : execWaitTimeout c s = .next t) : Safe s₀ t := by
  unfold execWaitTimeout at ht
  grind [= safe_iff, =_ safe_iff, Safe.forAll, Safe.foldl, State.go_safe, State.failWait_safe]

theorem execTakeTimeout_safe {s₀ s t : State} (h : Safe s₀ s) (c : ChanId)
    (ht : execTakeTimeout c s = .next t) : Safe s₀ t := by
  unfold execTakeTimeout at ht
  grind [= safe_iff, =_ safe_iff, Safe.forAll, Safe.foldl, State.go_safe, State.failTarget_safe]

theorem execWaittInstant_safe {s₀ s t : State} (h : Safe s₀ s) (c : ChanId)
    (ht : execWaittInstant c s = .next t) : Safe s₀ t := by
  unfold execWaittInstant at ht
  grind [= safe_iff, =_ safe_iff, Safe.forAll, Safe.foldl, State.go_safe, State.passWaitt_safe]

theorem execStopTakesEffect_safe {s₀ s t : State} (h : Safe s₀ s) (c : ChanId)
    (ht : execStopTakesEffect c s = .next t) : Safe s₀ t := by
  unfold execStopTakesEffect at ht
  grind [= safe_iff, =_ safe_iff, Safe.forAll, Safe.foldl, State.takeStop_safe]

theorem execShadowSwap_safe {s₀ s t : State} (h : Safe s₀ s) (c : ChanId)
    (ht : execShadowSwap c s = .next t) : Safe s₀ t := by
  unfold execShadowSwap at ht
  grind [= safe_iff, =_ safe_iff, Safe.forAll, Safe.foldl, State.go_safe, State.swapPoint_safe, State.releasePending_safe]

theorem execTimePaceRelease_safe {s₀ s t : State} (h : Safe s₀ s) (c : ChanId)
    (ht : execTimePaceRelease c s = .next t) : Safe s₀ t := by
  unfold execTimePaceRelease at ht
  grind [= safe_iff, =_ safe_iff, Safe.forAll, Safe.foldl, State.go_safe, State.updChan_safe]

theorem execDreq_safe {s₀ s t : State} (h : Safe s₀ s) (p : PinId) (level : Bool)
    (ht : execDreq p level s = .next t) : Safe s₀ t := by
  unfold execDreq at ht
  grind [= safe_iff, =_ safe_iff, Safe.forAll, Safe.foldl, State.ballMoves_safe, State.updPin_safe, State.lineEvent_safe, State.holdEdge_safe]

theorem execWatchmanScan_safe {s₀ s t : State} (h : Safe s₀ s)
    (ht : execWatchmanScan s = .next t) : Safe s₀ t := by
  unfold execWatchmanScan at ht
  grind [= safe_iff, =_ safe_iff, Safe.forAll, Safe.foldl, State.go_safe, State.breakWait_safe]

theorem execBar2Access_safe {s₀ s t : State} (h : Safe s₀ s) (a : BarAccess)
    (ht : execBar2Access a s = .next t) : Safe s₀ t := by
  refine State.barGate_safe h (fun u v hu hv => ?_) ht
  grind [= safe_iff, =_ safe_iff, Safe.forAll, Safe.foldl, State.barRefused_safe, State.wingWrite_safe, State.hostLoad_safe]

theorem execBar4Access_safe {s₀ s t : State} (h : Safe s₀ s) (a : BarAccess)
    (ht : execBar4Access a s = .next t) : Safe s₀ t := by
  refine State.barGate_safe h (fun u v hu hv => ?_) ht
  dsimp only at hv
  split at hv
  · exact hu.of_next hv
  · split at hv
    · exact Safe.of_next (State.barRefused_safe hu ..) hv
    have hd := State.drainAllPosted_safe hu a.port
    split at hv
    · split at hv
      · exact Safe.of_next (State.hostStore_safe hd ..) hv
      · exact Safe.of_next (State.hostLoad_safe hd ..) hv
    · split at hv
      · exact Safe.of_next (State.updPort_safe (State.makeRoom_safe hu ..) ..) hv
      · exact Safe.of_next (State.hostLoad_safe hu ..) hv

theorem execPostedWriteDrain_safe {s₀ s t : State} (h : Safe s₀ s) (port : HostPort) (ecc : Ecc)
    (ht : execPostedWriteDrain port ecc s = .next t) : Safe s₀ t := by
  unfold execPostedWriteDrain at ht
  grind [= safe_iff, =_ safe_iff, Safe.forAll, Safe.foldl, State.drainPosted_safe]

theorem execLowWordRead_safe {s₀ s t : State} (h : Safe s₀ s) (a : RegRead)
    (ht : execLowWordRead a s = .next t) : Safe s₀ t := by
  unfold execLowWordRead at ht
  grind [= safe_iff, =_ safe_iff, Safe.forAll, Safe.foldl, State.requestRead_safe]

theorem execTPropAlloc_safe {s₀ s t : State} (h : Safe s₀ s) (a : RegRead)
    (ht : execTPropAlloc a s = .next t) : Safe s₀ t := by
  unfold execTPropAlloc at ht
  grind [= safe_iff, =_ safe_iff, Safe.forAll, Safe.foldl, State.requestRead_safe]

theorem execPrbsErrRead_safe {s₀ s t : State} (h : Safe s₀ s) (a : RegRead)
    (ht : execPrbsErrRead a s = .next t) : Safe s₀ t := by
  unfold execPrbsErrRead at ht
  grind [= safe_iff, =_ safe_iff, Safe.forAll, Safe.foldl, State.requestRead_safe]

theorem execSqTailDoorbell_safe {s₀ s t : State} (h : Safe s₀ s) (via : Via) (tn : TenantId) (q : QueueId) (value : Dword)
    (ht : execSqTailDoorbell via tn q value s = .next t) : Safe s₀ t :=
  (State.bellRow_safe h via tn false q value).of_next ht

theorem execCqHeadDoorbell_safe {s₀ s t : State} (h : Safe s₀ s) (via : Via) (tn : TenantId) (q : QueueId) (value : Dword)
    (ht : execCqHeadDoorbell via tn q value s = .next t) : Safe s₀ t :=
  (State.bellRow_safe h via tn true q value).of_next ht

theorem execSqEntryFetch_safe {s₀ s t : State} (h : Safe s₀ s) (tn : TenantId) (q : QueueId) (i : BitVec 16) (ended : Ended) (bytes : List Byte) (ecc : Ecc)
    (ht : execSqEntryFetch tn q i ended bytes ecc s = .next t) : Safe s₀ t := by
  unfold execSqEntryFetch at ht
  grind [= safe_iff, =_ safe_iff, State.faultSq_safe, State.fetchedBy_safe, State.holdEntry_safe, State.updSq_safe, State.entryBusFail_safe]

theorem execTimedStrobeApply_safe {s₀ s t : State} (h : Safe s₀ s) (page : Page)
    (ht : execTimedStrobeApply page s = .next t) : Safe s₀ t := by
  unfold execTimedStrobeApply at ht
  grind [= safe_iff, =_ safe_iff, Safe.forAll, Safe.foldl, State.applyArmed_safe]

theorem execCurtain_safe {s₀ s0 t : State} (h : Safe s₀ s0) (c : ChanId)
    (ht : execCurtain c s0 = .next t) : Safe s₀ t := by
  unfold execCurtain at ht
  grind [= safe_iff, =_ safe_iff, Safe.forAll, Safe.foldl, State.strobesFirst_safe, State.go_safe, State.curtainFalls_safe]

theorem execRateCredit_safe {s₀ s0 t : State} (h : Safe s₀ s0) (c : ChanId)
    (ht : execRateCredit c s0 = .next t) : Safe s₀ t := by
  unfold execRateCredit at ht
  grind [= safe_iff, =_ safe_iff, Safe.forAll, Safe.foldl, State.strobesFirst_safe, State.go_safe, State.updChan_safe]

theorem execUnlockWindowExpiry_safe {s₀ s t : State} (h : Safe s₀ s) (page : Page) (via : Via)
    (ht : execUnlockWindowExpiry page via s = .next t) : Safe s₀ t := by
  unfold execUnlockWindowExpiry at ht
  grind [= safe_iff, =_ safe_iff, Safe.forAll, Safe.foldl, State.closePage_safe]

theorem execBindChannel_safe {s₀ s t : State} (h : Safe s₀ s) (p : Packet)
    (ht : execBindChannel p s = .next t) : Safe s₀ t :=
  serve_safe h (fun c _ hu => runBindChannel_safe hu c) ht

theorem execUnbindChannel_safe {s₀ s t : State} (h : Safe s₀ s) (p : Packet)
    (ht : execUnbindChannel p s = .next t) : Safe s₀ t :=
  serve_safe h (fun c _ hu => runUnbindChannel_safe hu c) ht

theorem execChannelConfig_safe {s₀ s t : State} (h : Safe s₀ s) (p : Packet)
    (ht : execChannelConfig p s = .next t) : Safe s₀ t :=
  serve_safe h (fun c _ hu => runChannelConfig_safe hu c) ht

theorem execChannelStart_safe {s₀ s t : State} (h : Safe s₀ s) (p : Packet)
    (ht : execChannelStart p s = .next t) : Safe s₀ t :=
  serve_safe h (fun c _ hu => runChannelStart_safe hu c) ht

theorem execChannelStop_safe {s₀ s t : State} (h : Safe s₀ s) (p : Packet)
    (ht : execChannelStop p s = .next t) : Safe s₀ t :=
  serve_safe h (fun c _ hu => runChannelStop_safe hu c) ht

theorem execChannelDrain_safe {s₀ s t : State} (h : Safe s₀ s) (p : Packet)
    (ht : execChannelDrain p s = .next t) : Safe s₀ t :=
  serve_safe h (fun c _ hu => runChannelDrain_safe hu c) ht

theorem execChannelReset_safe {s₀ s t : State} (h : Safe s₀ s) (p : Packet)
    (ht : execChannelReset p s = .next t) : Safe s₀ t :=
  serve_safe h (fun c _ hu => runChannelReset_safe hu c) ht

theorem execChannelStatus_safe {s₀ s t : State} (h : Safe s₀ s) (p : Packet)
    (ht : execChannelStatus p s = .next t) : Safe s₀ t :=
  serve_safe h (fun c _ hu => runChannelStatus_safe hu c) ht

theorem execCueAlloc_safe {s₀ s t : State} (h : Safe s₀ s) (p : Packet)
    (ht : execCueAlloc p s = .next t) : Safe s₀ t :=
  serve_safe h (fun c _ hu => runCueAlloc_safe hu c) ht

theorem execCueFree_safe {s₀ s t : State} (h : Safe s₀ s) (p : Packet)
    (ht : execCueFree p s = .next t) : Safe s₀ t :=
  serve_safe h (fun c _ hu => runCueFree_safe hu c) ht

theorem execCueSet_safe {s₀ s t : State} (h : Safe s₀ s) (p : Packet)
    (ht : execCueSet p s = .next t) : Safe s₀ t :=
  serve_safe h (fun c _ hu => runCueSet_safe hu c) ht

theorem execPropPoolConfig_safe {s₀ s t : State} (h : Safe s₀ s) (p : Packet)
    (ht : execPropPoolConfig p s = .next t) : Safe s₀ t :=
  serve_safe h (fun c _ hu => runPropPoolConfig_safe hu c) ht

theorem execActConfig_safe {s₀ s t : State} (h : Safe s₀ s) (p : Packet)
    (ht : execActConfig p s = .next t) : Safe s₀ t :=
  serve_safe h (fun c _ hu => runActConfig_safe hu c) ht

theorem execActStart_safe {s₀ s t : State} (h : Safe s₀ s) (p : Packet)
    (ht : execActStart p s = .next t) : Safe s₀ t :=
  serve_safe h (fun c _ hu => runActStart_safe hu c) ht

theorem execActStop_safe {s₀ s t : State} (h : Safe s₀ s) (p : Packet)
    (ht : execActStop p s = .next t) : Safe s₀ t :=
  serve_safe h (fun c _ hu => runActStop_safe hu c) ht

theorem execStreamConfig_safe {s₀ s t : State} (h : Safe s₀ s) (p : Packet)
    (ht : execStreamConfig p s = .next t) : Safe s₀ t :=
  serve_safe h (fun c _ hu => runStreamConfig_safe hu c) ht

theorem execLinkUp_safe {s₀ s t : State} (h : Safe s₀ s) (p : Packet)
    (ht : execLinkUp p s = .next t) : Safe s₀ t :=
  serve_safe h (fun c _ hu => runLinkUp_safe hu c) ht

theorem execLinkDown_safe {s₀ s t : State} (h : Safe s₀ s) (p : Packet)
    (ht : execLinkDown p s = .next t) : Safe s₀ t :=
  serve_safe h (fun c _ hu => runLinkDown_safe hu c) ht

theorem execPinAssign_safe {s₀ s t : State} (h : Safe s₀ s) (p : Packet)
    (ht : execPinAssign p s = .next t) : Safe s₀ t :=
  serve_safe h (fun c _ hu => runPinAssign_safe hu c) ht

theorem execPeriodStart_safe {s₀ s t : State} (h : Safe s₀ s) (a : ActId)
    (ht : execPeriodStart a s = .next t) : Safe s₀ t := by
  unfold execPeriodStart at ht
  grind [= safe_iff, =_ safe_iff, Safe.forAll, Safe.foldl, State.periodOf_safe, State.strobesFirst_safe]

theorem execCallTime_safe {s₀ s t : State} (h : Safe s₀ s)
    (ht : execCallTime s = .next t) : Safe s₀ t := by
  unfold execCallTime at ht
  grind [= safe_iff, =_ safe_iff, Safe.forAll, Safe.foldl, State.wakeBy_safe]

theorem execProtectPropose_safe {s₀ s t : State} (h : Safe s₀ s) (p : Packet)
    (ht : execProtectPropose p s = .next t) : Safe s₀ t :=
  serve_safe h (fun c _ hu => runProtectPropose_safe hu c) ht

theorem execProtectWithdraw_safe {s₀ s t : State} (h : Safe s₀ s) (p : Packet)
    (ht : execProtectWithdraw p s = .next t) : Safe s₀ t :=
  serve_safe h (fun c _ hu => runProtectWithdraw_safe hu c) ht

theorem execProtectRead_safe {s₀ s t : State} (h : Safe s₀ s) (p : Packet)
    (ht : execProtectRead p s = .next t) : Safe s₀ t :=
  serve_safe h (fun c _ hu => runProtectRead_safe hu c) ht

theorem execProposalExpiry_safe {s₀ s t : State} (h : Safe s₀ s)
    (ht : execProposalExpiry s = .next t) : Safe s₀ t := by
  unfold execProposalExpiry at ht
  grind [= safe_iff, =_ safe_iff, Safe.forAll, Safe.foldl, State.endProposal_safe]

theorem execCfgCrcPass_safe {s₀ s t : State} (h : Safe s₀ s)
    (ht : execCfgCrcPass s = .next t) : Safe s₀ t := by
  unfold execCfgCrcPass at ht
  grind [= safe_iff, =_ safe_iff, Safe.forAll, Safe.foldl, State.passScope_safe]

theorem execPrompterStall_safe {s₀ s t : State} (h : Safe s₀ s)
    (ht : execPrompterStall s = .next t) : Safe s₀ t := by
  unfold execPrompterStall at ht
  grind [= safe_iff, =_ safe_iff, Safe.forAll, Safe.foldl, State.countFailedBoot_safe, State.raiseAlert_safe, State.enterFaulted_safe]

theorem execRxUnitAppend_safe {s₀ s t : State} (h : Safe s₀ s) (e : EpId) (unit : RxUnit) (stamp : Tick)
    (ht : execRxUnitAppend e unit stamp s = .next t) : Safe s₀ t := by
  unfold execRxUnitAppend at ht
  grind [= safe_iff, =_ safe_iff, Safe.forAll, Safe.foldl, State.receiveUnit_safe, State.tdmReceive_safe]

theorem execTxTake_safe {s₀ s t : State} (h : Safe s₀ s) (e : EpId) (len : Nat) (ecc : Ecc)
    (ht : execTxTake e len ecc s = .next t) : Safe s₀ t := by
  unfold execTxTake at ht
  grind [= safe_iff, =_ safe_iff, Safe.forAll, Safe.foldl, State.markTaken_safe, State.takeUnit_safe, State.sendSilence_safe]

theorem execTdmMasterFrame_safe {s₀ s t : State} (h : Safe s₀ s) (n : BitVec 2)
    (ht : execTdmMasterFrame n s = .next t) : Safe s₀ t := by
  unfold execTdmMasterFrame at ht
  grind [= safe_iff, =_ safe_iff, Safe.forAll, Safe.foldl, State.masterFrame_safe]

theorem execTdmFrameSync_safe {s₀ s t : State} (h : Safe s₀ s) (n : BitVec 2) (bit : Nat)
    (ht : execTdmFrameSync n bit s = .next t) : Safe s₀ t := by
  unfold execTdmFrameSync at ht
  grind [= safe_iff, =_ safe_iff, Safe.forAll, Safe.foldl, State.driveUnused_safe, State.enterUp_safe, State.frameStart_safe, State.slip_safe]

theorem execTdmLockLoss_safe {s₀ s t : State} (h : Safe s₀ s) (n : BitVec 2)
    (ht : execTdmLockLoss n s = .next t) : Safe s₀ t := by
  unfold execTdmLockLoss at ht
  grind [= safe_iff, =_ safe_iff, Safe.forAll, Safe.foldl, State.leaveLink_safe]

theorem execLaneLock_safe {s₀ s t : State} (h : Safe s₀ s) (lane : BitVec 3)
    (ht : execLaneLock lane s = .next t) : Safe s₀ t := by
  unfold execLaneLock at ht
  grind [= safe_iff, =_ safe_iff, Safe.forAll, Safe.foldl, State.updConv_safe]

theorem execCodeGroupSync_safe {s₀ s t : State} (h : Safe s₀ s) (n : BitVec 2)
    (ht : execCodeGroupSync n s = .next t) : Safe s₀ t := by
  unfold execCodeGroupSync at ht
  grind [= safe_iff, =_ safe_iff, Safe.forAll, Safe.foldl, State.updConv_safe]

theorem execIlas_safe {s₀ s t : State} (h : Safe s₀ s) (n : BitVec 2) (mismatch : Option Byte)
    (ht : execIlas n mismatch s = .next t) : Safe s₀ t := by
  unfold execIlas at ht
  grind [= safe_iff, =_ safe_iff, Safe.forAll, Safe.foldl, State.updConv_safe, State.backToSync_safe]

theorem execFrameRelease_safe {s₀ s t : State} (h : Safe s₀ s) (n : BitVec 2) (fits : Bool)
    (ht : execFrameRelease n fits s = .next t) : Safe s₀ t := by
  unfold execFrameRelease at ht
  grind [= safe_iff, =_ safe_iff, Safe.forAll, Safe.foldl, State.enterUp_safe, State.updConv_safe, State.leaveLink_safe]

theorem execLmfcBoundary_safe {s₀ s t : State} (h : Safe s₀ s) (l : ConvLink)
    (ht : execLmfcBoundary l s = .next t) : Safe s₀ t := by
  unfold execLmfcBoundary at ht
  grind [= safe_iff, =_ safe_iff, Safe.forAll, Safe.foldl, State.rxBoundary_safe, State.txBoundary_safe]

theorem execSyncinHigh_safe {s₀ s t : State} (h : Safe s₀ s) (n : BitVec 2)
    (ht : execSyncinHigh n s = .next t) : Safe s₀ t := by
  unfold execSyncinHigh at ht
  grind [= safe_iff, =_ safe_iff, Safe.forAll, Safe.foldl, State.updConv_safe, State.startIlas_safe]

theorem execSyncinLow_safe {s₀ s t : State} (h : Safe s₀ s) (n : BitVec 2) (octets : Nat)
    (ht : execSyncinLow n octets s = .next t) : Safe s₀ t := by
  unfold execSyncinLow at ht
  grind [= safe_iff, =_ safe_iff, Safe.forAll, Safe.foldl, State.updConv_safe, State.backToK_safe, State.leaveLink_safe]

theorem execCodeGroupError_safe {s₀ s t : State} (h : Safe s₀ s) (lane : BitVec 3)
    (ht : execCodeGroupError lane s = .next t) : Safe s₀ t := by
  unfold execCodeGroupError at ht
  grind [= safe_iff, =_ safe_iff, Safe.forAll, Safe.foldl, State.updConv_safe, State.emit_safe, State.loseRx_safe]

theorem execLaneLockLoss_safe {s₀ s t : State} (h : Safe s₀ s) (lane : BitVec 3)
    (ht : execLaneLockLoss lane s = .next t) : Safe s₀ t := by
  unfold execLaneLockLoss at ht
  grind [= safe_iff, =_ safe_iff, Safe.forAll, Safe.foldl, State.loseRx_safe]

theorem execMisplacedAlignmentCharacter_safe {s₀ s t : State} (h : Safe s₀ s) (lane : BitVec 3)
    (ht : execMisplacedAlignmentCharacter lane s = .next t) : Safe s₀ t := by
  unfold execMisplacedAlignmentCharacter at ht
  grind [= safe_iff, =_ safe_iff, Safe.forAll, Safe.foldl, State.loseRx_safe]

theorem execDevclkReturn_safe {s₀ s t : State} (h : Safe s₀ s)
    (ht : execDevclkReturn s = .next t) : Safe s₀ t := by
  unfold execDevclkReturn at ht
  grind [= safe_iff, =_ safe_iff, Safe.forAll, Safe.foldl, State.updConv_safe]

theorem execDevclkLoss_safe {s₀ s t : State} (h : Safe s₀ s)
    (ht : execDevclkLoss s = .next t) : Safe s₀ t := by
  unfold execDevclkLoss at ht
  grind [= safe_iff, =_ safe_iff, Safe.forAll, Safe.foldl, State.leaveLink_safe]

theorem execDevclkStamp_safe {s₀ s t : State} (h : Safe s₀ s) (vernier : BitVec 4)
    (ht : execDevclkStamp vernier s = .next t) : Safe s₀ t := by
  unfold execDevclkStamp at ht
  grind [= safe_iff, =_ safe_iff, Safe.forAll, Safe.foldl]

theorem execSysrefEvent_safe {s₀ s t : State} (h : Safe s₀ s) (vernier : BitVec 4) (edge : Tick) (misses : Byte)
    (ht : execSysrefEvent vernier edge misses s = .next t) : Safe s₀ t := by
  unfold execSysrefEvent at ht
  grind [= safe_iff, =_ safe_iff, Safe.forAll, Safe.foldl, State.judgeSysref_safe]

theorem execSysrefPulse_safe {s₀ s t : State} (h : Safe s₀ s)
    (ht : execSysrefPulse s = .next t) : Safe s₀ t := by
  unfold execSysrefPulse at ht
  grind [= safe_iff, =_ safe_iff, Safe.forAll, Safe.foldl, State.sysrefAdvance_safe, State.sysrefOut_safe]

theorem execLinkUpTimeout_safe {s₀ s t : State} (h : Safe s₀ s) (l : BitVec 8) (bitClock : Bool)
    (ht : execLinkUpTimeout l bitClock s = .next t) : Safe s₀ t := by
  unfold execLinkUpTimeout at ht
  grind [= safe_iff, =_ safe_iff, Safe.forAll, Safe.foldl, State.leaveLink_safe, State.finishLong_safe]

theorem execLbBeatEnd_safe {s₀ s t : State} (h : Safe s₀ s) (data : Dword)
    (ht : execLbBeatEnd data s = .next t) : Safe s₀ t := by
  unfold execLbBeatEnd at ht
  grind [= safe_iff, =_ safe_iff, Safe.forAll, Safe.foldl, State.go_safe, State.busAbandoned_safe, State.lbPop_safe, State.emit_safe, State.busDone_safe]

theorem execLbReadyTimeout_safe {s₀ s t : State} (h : Safe s₀ s)
    (ht : execLbReadyTimeout s = .next t) : Safe s₀ t := by
  unfold execLbReadyTimeout at ht
  grind [= safe_iff, =_ safe_iff, Safe.forAll, Safe.foldl, State.go_safe, State.busAbandoned_safe, State.lbPop_safe, State.busTimedOut_safe]

theorem execHandoverSwitch_safe {s₀ s t : State} (h : Safe s₀ s)
    (ht : execHandoverSwitch s = .next t) : Safe s₀ t := by
  unfold execHandoverSwitch at ht
  grind [= safe_iff, =_ safe_iff, Safe.forAll, Safe.foldl, State.go_safe, State.staleStaging_safe, State.switchOver_safe]

theorem execInServiceFault_safe {s₀ s t : State} (h : Safe s₀ s) (f : UnitFault)
    (ht : execInServiceFault f s = .next t) : Safe s₀ t := by
  unfold execInServiceFault at ht
  grind [= safe_iff, =_ safe_iff, Safe.forAll, Safe.foldl, State.go_safe, State.copyFinds_safe, State.faultUnit_safe]

theorem execRunBist_safe {s₀ s t : State} (h : Safe s₀ s) (p : Packet)
    (ht : execRunBist p s = .next t) : Safe s₀ t :=
  serve_safe h (fun c _ hu => runRunBist_safe hu c) ht

theorem execBistResult_safe {s₀ s t : State} (h : Safe s₀ s) (p : Packet)
    (ht : execBistResult p s = .next t) : Safe s₀ t :=
  serve_safe h (fun c _ hu => runBistResult_safe hu c) ht

theorem execRotatingTest_safe {s₀ s t : State} (h : Safe s₀ s)
    (ht : execRotatingTest s = .next t) : Safe s₀ t := by
  unfold execRotatingTest at ht
  grind [= safe_iff, =_ safe_iff, Safe.forAll, Safe.foldl, State.rotate_safe]

theorem execHealthEvaluation_safe {s₀ s t : State} (h : Safe s₀ s)
    (ht : execHealthEvaluation s = .next t) : Safe s₀ t := by
  unfold execHealthEvaluation at ht
  grind [= safe_iff, =_ safe_iff, Safe.forAll, Safe.foldl, State.evaluate_safe]

theorem execThermalSample_safe {s₀ s t : State} (h : Safe s₀ s) (tj : BitVec 16)
    (ht : execThermalSample tj s = .next t) : Safe s₀ t := by
  unfold execThermalSample at ht
  grind [= safe_iff, =_ safe_iff, Safe.forAll, Safe.foldl, State.sampleTj_safe]

theorem execThermalBudgetUpdate_safe {s₀ s t : State} (h : Safe s₀ s)
    (ht : execThermalBudgetUpdate s = .next t) : Safe s₀ t := by
  unfold execThermalBudgetUpdate at ht
  grind [= safe_iff, =_ safe_iff, Safe.forAll, Safe.foldl, State.updHealth_safe]

theorem execLifeWriteback_safe {s₀ s t : State} (h : Safe s₀ s)
    (ht : execLifeWriteback s = .next t) : Safe s₀ t := by
  unfold execLifeWriteback at ht
  grind [= safe_iff, =_ safe_iff, Safe.forAll, Safe.foldl, State.updHealth_safe]

theorem execDramScrubRead_safe {s₀ s t : State} (h : Safe s₀ s) (dc : Bool) (line : BitVec 30) (ecc : Ecc)
    (ht : execDramScrubRead dc line ecc s = .next t) : Safe s₀ t := by
  unfold execDramScrubRead at ht
  dsimp only at ht
  split at ht
  · exact h.of_next ht
  · cases ht
    refine State.countPass_safe (Safe.of_eq (s := _) ?_ rfl rfl)
    cases s.lineAt dc (line.toNat * 64) with
    | none => exact h
    | some l => exact State.scrubLine_safe h l ecc srcScrub

theorem execSramScrub_safe {s₀ s t : State} (h : Safe s₀ s) (fifo : Bool) (word : BitVec 21) (ecc : Ecc)
    (ht : execSramScrub fifo word ecc s = .next t) : Safe s₀ t := by
  unfold execSramScrub at ht
  grind [= safe_iff, =_ safe_iff, Safe.forAll, Safe.foldl, State.countWord_safe, State.scrubWord_safe]

theorem execScrubConfig_safe {s₀ s t : State} (h : Safe s₀ s) (p : Packet)
    (ht : execScrubConfig p s = .next t) : Safe s₀ t :=
  serve_safe h (fun c _ hu => runScrubConfig_safe hu c) ht

theorem execScrubNow_safe {s₀ s t : State} (h : Safe s₀ s) (p : Packet)
    (ht : execScrubNow p s = .next t) : Safe s₀ t :=
  serve_safe h (fun c _ hu => runScrubNow_safe hu c) ht

theorem execScrubNowDone_safe {s₀ s t : State} (h : Safe s₀ s) (found : List (Addr × Ecc))
    (ht : execScrubNowDone found s = .next t) : Safe s₀ t := by
  unfold execScrubNowDone at ht
  grind [= safe_iff, =_ safe_iff, Safe.forAll, Safe.foldl, State.scrubFinding_safe, State.finishLong_safe]

theorem execRetirePage_safe {s₀ s t : State} (h : Safe s₀ s) (p : Packet)
    (ht : execRetirePage p s = .next t) : Safe s₀ t :=
  serve_safe h (fun c _ hu => runRetirePage_safe hu c) ht

theorem execRetirementSwitch_safe {s₀ s t : State} (h : Safe s₀ s) (found : List (Addr × Ecc))
    (ht : execRetirementSwitch found s = .next t) : Safe s₀ t := by
  unfold execRetirementSwitch at ht
  grind [= safe_iff, =_ safe_iff, Safe.forAll, Safe.foldl, State.remap_safe, State.copyFinding_safe, State.finishLong_safe]

theorem execMarkChip_safe {s₀ s t : State} (h : Safe s₀ s) (p : Packet)
    (ht : execMarkChip p s = .next t) : Safe s₀ t :=
  serve_safe h (fun c _ hu => runMarkChip_safe hu c) ht

theorem execSummaryWrite_safe {s₀ s t : State} (h : Safe s₀ s)
    (ht : execSummaryWrite s = .next t) : Safe s₀ t := by
  unfold execSummaryWrite at ht
  grind [= safe_iff, =_ safe_iff, Safe.forAll, Safe.foldl, State.summarise_safe]

theorem execMemLogRead_safe {s₀ s t : State} (h : Safe s₀ s) (p : Packet)
    (ht : execMemLogRead p s = .next t) : Safe s₀ t :=
  serve_safe h (fun c _ hu => runMemLogRead_safe hu c) ht

theorem execRefresh_safe {s₀ s t : State} (h : Safe s₀ s) (rank : BitVec 2) (postpone : Bool)
    (ht : execRefresh rank postpone s = .next t) : Safe s₀ t := by
  unfold execRefresh at ht
  grind [= safe_iff, =_ safe_iff, Safe.forAll, Safe.foldl]

theorem execDramTemperaturePoll_safe {s₀ s t : State} (h : Safe s₀ s) (hot : BitVec 4)
    (ht : execDramTemperaturePoll hot s = .next t) : Safe s₀ t := by
  unfold execDramTemperaturePoll at ht
  grind [= safe_iff, =_ safe_iff, Safe.forAll, Safe.foldl, State.raiseHouse_safe, State.raiseSm_safe]

theorem execBar3Access_safe {s₀ s t : State} (h : Safe s₀ s) (port : HostPort) (write : Bool) (off : BitVec 16) (size : Nat) (data : Word)
    (ht : execBar3Access port write off size data s = .next t) : Safe s₀ t := by
  unfold execBar3Access at ht
  grind [= safe_iff, =_ safe_iff, Safe.forAll, Safe.foldl, State.wakeBy_safe, State.barRefused_safe, State.sendPending_safe, State.updPort_safe, State.emit_safe]

theorem execConfigurationRequest_safe {s₀ s t : State} (h : Safe s₀ s) (a : CfgRequest)
    (ht : execConfigurationRequest a s = .next t) : Safe s₀ t := by
  unfold execConfigurationRequest at ht
  grind [= safe_iff, =_ safe_iff, Safe.forAll, Safe.foldl, State.wakeBy_safe, State.sendPending_safe, State.updPort_safe, State.readCfg_safe, State.emit_safe]

theorem execReceivedCompletion_safe {s₀ s t : State} (h : Safe s₀ s) (port : HostPort) (tag : BitVec 8) (status : CplStatus) (bytes : List Byte)
    (ht : execReceivedCompletion port tag status bytes s = .next t) : Safe s₀ t := by
  unfold execReceivedCompletion at ht
  grind [= safe_iff, =_ safe_iff, Safe.forAll, Safe.foldl, State.aerAdvise_safe, State.cplData_safe, State.go_safe, State.portReadFails_safe, State.cfgStatus_safe]

theorem execCompletionTimeout_safe {s₀ s t : State} (h : Safe s₀ s) (port : HostPort) (tag : BitVec 8)
    (ht : execCompletionTimeout port tag s = .next t) : Safe s₀ t := by
  unfold execCompletionTimeout at ht
  grind [= safe_iff, =_ safe_iff, Safe.forAll, Safe.foldl, State.go_safe, State.portReadFails_safe, State.aerAdvise_safe]

theorem execPerstN_safe {s₀ s t : State} (h : Safe s₀ s) (port : HostPort) (low : Bool)
    (ht : execPerstN port low s = .next t) : Safe s₀ t := by
  unfold execPerstN at ht
  grind [= safe_iff, =_ safe_iff, Safe.forAll, Safe.foldl, State.resetPort_safe, State.updPort_safe]

theorem execHotReset_safe {s₀ s t : State} (h : Safe s₀ s) (port : HostPort)
    (ht : execHotReset port s = .next t) : Safe s₀ t := by
  unfold execHotReset at ht
  grind [= safe_iff, =_ safe_iff, Safe.forAll, Safe.foldl, State.resetPort_safe]

theorem execPcieLinkDown_safe {s₀ s t : State} (h : Safe s₀ s) (port : HostPort)
    (ht : execPcieLinkDown port s = .next t) : Safe s₀ t := by
  unfold execPcieLinkDown at ht
  grind [= safe_iff, =_ safe_iff, Safe.forAll, Safe.foldl, State.resetPort_safe]

theorem execHostLinkUp_safe {s₀ s t : State} (h : Safe s₀ s) (port : HostPort) (speed : BitVec 2) (width : BitVec 3)
    (ht : execHostLinkUp port speed width s = .next t) : Safe s₀ t := by
  unfold execHostLinkUp at ht
  grind [= safe_iff, =_ safe_iff, Safe.forAll, Safe.foldl, State.sendPending_safe, State.updPort_safe]

theorem execWrite_safe {s₀ s t : State} (h : Safe s₀ s) (addr : Option Dword) (bytes : List Byte)
    (ht : execWrite addr bytes s = .next t) : Safe s₀ t := by
  refine State.houseFrame_safe h (fun u hu => State.pageAddr_safe hu _ fun a => ?_) ht
  exact State.updHouse_safe hu _

theorem execStatus_safe {s₀ s t : State} (h : Safe s₀ s) (addr : Option Dword) (full : Bool)
    (ht : execStatus addr full s = .next t) : Safe s₀ t := by
  refine State.houseFrame_safe h (fun u hu => ?_) ht
  grind [= safe_iff, =_ safe_iff, State.frameErr_safe, State.addrErr_safe, State.sendSpi_safe, State.updHouse_safe]

theorem execMboxPush_safe {s₀ s t : State} (h : Safe s₀ s) (addr : Option Dword) (bytes : List Byte)
    (ht : execMboxPush addr bytes s = .next t) : Safe s₀ t := by
  refine State.houseFrame_safe h (fun u hu => State.zeroAddr_safe hu _ ?_) ht
  grind [= safe_iff, =_ safe_iff, State.frameErr_safe, State.updHouse_safe]

theorem execMboxPop_safe {s₀ s t : State} (h : Safe s₀ s) (addr : Option Dword) (bytes : Nat)
    (ht : execMboxPop addr bytes s = .next t) : Safe s₀ t := by
  refine State.houseFrame_safe h (fun u hu => State.zeroAddr_safe hu _ ?_) ht
  grind [= safe_iff, =_ safe_iff, State.sendSpi_safe, State.updHouse_safe]

theorem execTimeSet_safe {s₀ s t : State} (h : Safe s₀ s) (p : Packet)
    (ht : execTimeSet p s = .next t) : Safe s₀ t :=
  serve_safe h (fun c _ hu => runTimeSet_safe hu c) ht

theorem execTimeAdjust_safe {s₀ s t : State} (h : Safe s₀ s) (p : Packet)
    (ht : execTimeAdjust p s = .next t) : Safe s₀ t :=
  serve_safe h (fun c _ hu => runTimeAdjust_safe hu c) ht

theorem execSlewEnd_safe {s₀ s t : State} (h : Safe s₀ s)
    (ht : execSlewEnd s = .next t) : Safe s₀ t := by
  unfold execSlewEnd at ht
  grind [= safe_iff, =_ safe_iff, Safe.forAll, Safe.foldl, State.updTb_safe]

theorem execTimeCapture_safe {s₀ s t : State} (h : Safe s₀ s) (p : Packet)
    (ht : execTimeCapture p s = .next t) : Safe s₀ t :=
  serve_safe h (fun c _ hu => runTimeCapture_safe hu c) ht

theorem execPpsIn_safe {s₀ s0 t : State} (h : Safe s₀ s0) (vernier : BitVec 4)
    (ht : execPpsIn vernier s0 = .next t) : Safe s₀ t := by
  unfold execPpsIn at ht
  grind [= safe_iff, =_ safe_iff, Safe.forAll, Safe.foldl, State.wakeBy_safe, State.updTb_safe, State.capturePps_safe, State.ppsStep_safe]

theorem execAtPpsTimeout_safe {s₀ s t : State} (h : Safe s₀ s)
    (ht : execAtPpsTimeout s = .next t) : Safe s₀ t := by
  unfold execAtPpsTimeout at ht
  grind [= safe_iff, =_ safe_iff, Safe.forAll, Safe.foldl, State.updTb_safe, State.finishLong_safe]

theorem execPpsOut_safe {s₀ s t : State} (h : Safe s₀ s)
    (ht : execPpsOut s = .next t) : Safe s₀ t := by
  unfold execPpsOut at ht
  grind [= safe_iff, =_ safe_iff, Safe.forAll, Safe.foldl, State.emit_safe, State.updTb_safe]

theorem execStrobeEvent_safe {s₀ s t : State} (h : Safe s₀ s) (n : BitVec 3)
    (ht : execStrobeEvent n s = .next t) : Safe s₀ t := by
  unfold execStrobeEvent at ht
  grind [= safe_iff, =_ safe_iff, Safe.forAll, Safe.foldl, State.updTb_safe, State.missStrobe_safe, State.setDevReg_safe, State.produceStrobe_safe]

theorem execCaptureEdge_safe {s₀ s t : State} (h : Safe s₀ s) (n : BitVec 3) (rise : Bool) (vernier : BitVec 4)
    (ht : execCaptureEdge n rise vernier s = .next t) : Safe s₀ t := by
  unfold execCaptureEdge at ht
  grind [= safe_iff, =_ safe_iff, Safe.forAll, Safe.foldl, State.seeEdge_safe, State.updTb_safe]

theorem execPulseEnd_safe {s₀ s t : State} (h : Safe s₀ s) (o : PulseOutput)
    (ht : execPulseEnd o s = .next t) : Safe s₀ t := by
  unfold execPulseEnd at ht
  grind [= safe_iff, =_ safe_iff, Safe.forAll, Safe.foldl, State.emit_safe, State.updTb_safe, State.strobeTo_safe, State.endDone_safe]

theorem execPinParkEnd_safe {s₀ s t : State} (h : Safe s₀ s) (p : PinId)
    (ht : execPinParkEnd p s = .next t) : Safe s₀ t := by
  unfold execPinParkEnd at ht
  grind [= safe_iff, =_ safe_iff, Safe.forAll, Safe.foldl, State.updPin_safe]

theorem execPinSettleEnd_safe {s₀ s t : State} (h : Safe s₀ s) (p : PinId)
    (ht : execPinSettleEnd p s = .next t) : Safe s₀ t := by
  unfold execPinSettleEnd at ht
  grind [= safe_iff, =_ safe_iff, Safe.forAll, Safe.foldl, State.updPin_safe, State.lineStart_safe, State.finishPin_safe]

theorem execCueIn_safe {s₀ s t : State} (h : Safe s₀ s) (p : PinId) (rise : Bool)
    (ht : execCueIn p rise s = .next t) : Safe s₀ t := by
  unfold execCueIn at ht
  grind [= safe_iff, =_ safe_iff, Safe.forAll, Safe.foldl, State.seeEdge_safe, State.holdEdge_safe, State.signal_safe]

theorem execWake_safe {s₀ s t : State} (h : Safe s₀ s) (p : PinId) (rise : Bool)
    (ht : execWake p rise s = .next t) : Safe s₀ t := by
  unfold execWake at ht
  grind [= safe_iff, =_ safe_iff, Safe.forAll, Safe.foldl, State.seeEdge_safe, State.wakeBy_safe]

theorem execRefclkLoss_safe {s₀ s t : State} (h : Safe s₀ s)
    (ht : execRefclkLoss s = .next t) : Safe s₀ t := by
  unfold execRefclkLoss at ht
  dsimp only at ht
  have hs := State.loseTime_safe (State.loseFine_safe h)
  split at ht
  · exact h.of_next ht
  · split at ht <;> cases ht
    · exact State.note_safe (State.updTb_safe hs _) _ _ _ _ _
    · exact State.faultOnce_safe (State.raiseAlert_safe (State.note_safe (State.updTb_safe hs _) _ _ _ _ _) 0) 0

theorem execRefclkReturn_safe {s₀ s t : State} (h : Safe s₀ s)
    (ht : execRefclkReturn s = .next t) : Safe s₀ t := by
  unfold execRefclkReturn at ht
  grind [= safe_iff, =_ safe_iff, Safe.forAll, Safe.foldl, State.updTb_safe]

theorem execPllUnlock_safe {s₀ s t : State} (h : Safe s₀ s)
    (ht : execPllUnlock s = .next t) : Safe s₀ t := by
  unfold execPllUnlock at ht
  grind [= safe_iff, =_ safe_iff, Safe.forAll, Safe.foldl, State.updTb_safe, State.loseFine_safe, State.faultOnce_safe, State.raiseAlert_safe]

theorem execTraceConfig_safe {s₀ s t : State} (h : Safe s₀ s) (p : Packet)
    (ht : execTraceConfig p s = .next t) : Safe s₀ t :=
  serve_safe h (fun c _ hu => runTraceConfig_safe hu c) ht

theorem execTraceRead_safe {s₀ s t : State} (h : Safe s₀ s) (p : Packet)
    (ht : execTraceRead p s = .next t) : Safe s₀ t :=
  serve_safe h (fun c _ hu => runTraceRead_safe hu c) ht

theorem execTraceExport_safe {s₀ s t : State} (h : Safe s₀ s)
    (ht : execTraceExport s = .next t) : Safe s₀ t := by
  unfold execTraceExport at ht
  grind [= safe_iff, =_ safe_iff, Safe.forAll, Safe.foldl, State.exportOne_safe, State.flushTrace_safe]

theorem execExtest_safe {s₀ s t : State} (h : Safe s₀ s)
    (ht : execExtest s = .next t) : Safe s₀ t := by
  unfold execExtest at ht
  grind [= safe_iff, =_ safe_iff, Safe.forAll, Safe.foldl, State.tap_safe]

theorem execIdcode_safe {s₀ s t : State} (h : Safe s₀ s)
    (ht : execIdcode s = .next t) : Safe s₀ t := by
  unfold execIdcode at ht
  grind [= safe_iff, =_ safe_iff, Safe.forAll, Safe.foldl, State.emit_safe, State.tap_safe]

theorem execSamplePreload_safe {s₀ s t : State} (h : Safe s₀ s)
    (ht : execSamplePreload s = .next t) : Safe s₀ t := by
  unfold execSamplePreload at ht
  grind [= safe_iff, =_ safe_iff, Safe.forAll, Safe.foldl, State.tap_safe]

theorem execHighz_safe {s₀ s t : State} (h : Safe s₀ s)
    (ht : execHighz s = .next t) : Safe s₀ t := by
  unfold execHighz at ht
  grind [= safe_iff, =_ safe_iff, Safe.forAll, Safe.foldl, State.tap_safe]

theorem execClamp_safe {s₀ s t : State} (h : Safe s₀ s)
    (ht : execClamp s = .next t) : Safe s₀ t := by
  unfold execClamp at ht
  grind [= safe_iff, =_ safe_iff, Safe.forAll, Safe.foldl, State.tap_safe]

theorem execExtestPulse_safe {s₀ s t : State} (h : Safe s₀ s)
    (ht : execExtestPulse s = .next t) : Safe s₀ t := by
  unfold execExtestPulse at ht
  grind [= safe_iff, =_ safe_iff, Safe.forAll, Safe.foldl, State.tap_safe]

theorem execExtestTrain_safe {s₀ s t : State} (h : Safe s₀ s)
    (ht : execExtestTrain s = .next t) : Safe s₀ t := by
  unfold execExtestTrain at ht
  grind [= safe_iff, =_ safe_iff, Safe.forAll, Safe.foldl, State.tap_safe]

theorem execBypass_safe {s₀ s t : State} (h : Safe s₀ s)
    (ht : execBypass s = .next t) : Safe s₀ t := by
  unfold execBypass at ht
  grind [= safe_iff, =_ safe_iff, Safe.forAll, Safe.foldl, State.tap_safe]

theorem execTrstN_safe {s₀ s t : State} (h : Safe s₀ s)
    (ht : execTrstN s = .next t) : Safe s₀ t := by
  unfold execTrstN at ht
  grind [= safe_iff, =_ safe_iff, Safe.forAll, Safe.foldl, State.tap_safe]

theorem execPatchStage_safe {s₀ s t : State} (h : Safe s₀ s) (p : Packet)
    (ht : execPatchStage p s = .next t) : Safe s₀ t :=
  serve_safe h (fun c _ hu => runPatchStage_safe hu c) ht

theorem execPatchActivate_safe {s₀ s t : State} (h : Safe s₀ s) (p : Packet)
    (ht : execPatchActivate p s = .next t) : Safe s₀ t :=
  serve_safe h (fun c _ hu => runPatchActivate_safe hu c) ht

theorem execPatchList_safe {s₀ s t : State} (h : Safe s₀ s) (p : Packet)
    (ht : execPatchList p s = .next t) : Safe s₀ t :=
  serve_safe h (fun c _ hu => runPatchList_safe hu c) ht

theorem execConfigSnapshot_safe {s₀ s t : State} (h : Safe s₀ s) (p : Packet)
    (ht : execConfigSnapshot p s = .next t) : Safe s₀ t :=
  serve_safe h (fun c _ hu => runConfigSnapshot_safe hu c) ht

theorem execConfigRestore_safe {s₀ s t : State} (h : Safe s₀ s) (p : Packet)
    (ht : execConfigRestore p s = .next t) : Safe s₀ t :=
  serve_safe h (fun c _ hu => runConfigRestore_safe hu c) ht

theorem execAbortCommand_safe {s₀ s t : State} (h : Safe s₀ s) (p : Packet)
    (ht : execAbortCommand p s = .next t) : Safe s₀ t :=
  serve_safe h (fun c _ hu => runAbortCommand_safe hu c) ht

theorem execPowerState_safe {s₀ s t : State} (h : Safe s₀ s) (p : Packet)
    (ht : execPowerState p s = .next t) : Safe s₀ t :=
  serve_safe h (fun c _ hu => runPowerState_safe hu c) ht

theorem execIdleDescent_safe {s₀ s t : State} (h : Safe s₀ s)
    (ht : execIdleDescent s = .next t) : Safe s₀ t := by
  unfold execIdleDescent at ht
  grind [= safe_iff, =_ safe_iff, Safe.forAll, Safe.foldl]

theorem execDescent_safe {s₀ s t : State} (h : Safe s₀ s)
    (ht : execDescent s = .next t) : Safe s₀ t := by
  unfold execDescent at ht
  grind [= safe_iff, =_ safe_iff, Safe.forAll, Safe.foldl, State.sink_safe, State.sinkDeep_safe]

theorem execBootConfirmation_safe {s₀ s t : State} (h : Safe s₀ s)
    (ht : execBootConfirmation s = .next t) : Safe s₀ t := by
  unfold execBootConfirmation at ht
  grind [= safe_iff, =_ safe_iff, Safe.forAll, Safe.foldl, State.updBoot_safe]

end Sys2Proof.Machine
end

section
/-! PROOF. Resets, commits, restores and register writes keep the memories in form, so every step does; and no row but PROTECT_COUNTERSIGN changes the map in force. -/

namespace Sys2Proof.Machine

theorem Safe.inv {s t : State} (h : Safe s t) (hs : Inv s) : Inv t := h.1 hs

/-- Only the memories count. -/
theorem Inv.of_mem {s t : State} (h : Inv s) (hm : t.mem = s.mem) : Inv t := by
  rw [Inv, hm]; exact h

/-- Settles O5: empty memories list nothing. -/
theorem resetInv : Obligations.ResetInv := by
  have h : ({} : Memory).wf = true := by decide
  exact h

theorem State.rebooted_inv (s : State) (step : BitVec 4) (cause : BitVec 3) : Inv (s.rebooted step cause) := resetInv

theorem State.powerOn_inv (s : State) : Inv s.powerOn :=
  (State.rebooted_inv s 1 0).of_mem rfl

theorem State.restart_inv {s : State} (h : Inv s) (cause : BitVec 3) : Inv (s.restart cause) := h

theorem State.endFullTest_inv {s : State} (h : Inv s) (j : TestJob) (pass : Bool) (observed expected : Dword) (passed : BitVec 14) :
    Inv (s.endFullTest j pass observed expected passed) := by
  unfold State.endFullTest
  split <;> exact h

theorem State.failRestore_inv {s : State} (h : Inv s) : Inv s.failRestore := by
  refine (State.raiseAlert_safe (Safe.refl _) 7).inv ?_
  exact State.restart_inv h 4

theorem State.installMap_inv {s : State} (h : Inv s) (new : ProtMap) : Inv (s.installMap new) := by
  unfold State.installMap
  extract_lets s0 old s1 kept p s2 s3 s4 s5
  have h1 : Safe s s1 :=
    Safe.forAll (State.closeForming_safe (Safe.refl s)) _ fun t _ hu => State.dropTenant_safe hu old new t
  have h3 : Safe s2 s3 := State.updCtl_safe (State.showSm_safe (Safe.refl s2)) _ _
  have h4 : Safe s2 s4 := by
    show Safe s2 (if s3.devState = .houseOnly then s3.enterDev .staged else s3)
    split
    · exact State.enterDev_safe h3 _
    · exact h3
  have h5 : Safe s2 s5 := State.note_safe (State.raiseHouse_safe (State.raiseSm_safe h4 18) 2) _ _ _ _ _
  have h2 : Inv s2 := h1.inv h
  exact (Safe.forAll h5 _ fun t _ hu => State.raiseTenant_safe hu t 4).inv h2

theorem State.install_inv {s : State} (h : Inv s) (g : Snapshot) : Inv (s.install g) := by
  have hd : Inv (s.restoreDev g) := (State.restoreDev_safe (Safe.refl s) g).inv h
  unfold State.install
  refine State.installMap_inv ?_ _
  unfold Inv at hd ⊢
  dsimp only
  exact hd

theorem State.finishRestore_inv {s : State} (h : Inv s) (l : LongCmd) (good : Bool) : Inv (s.finishRestore l good) := by
  unfold State.finishRestore
  split
  · exact (State.finishLong_safe (Safe.refl s) _ _ _).inv h
  · split
    · exact (State.finishLong_safe (Safe.refl s) _ _ _).inv h
    · exact (State.finishLong_safe (Safe.refl _) _ _ _).inv (State.install_inv h _)

theorem State.autoRestore_inv {s : State} (h : Inv s) (i : StartupInput) : Inv (s.autoRestore i) := by
  have ended {u : State} (hu : Inv u) (f : Boot → Boot) : Inv (((u.updBoot f).raiseHouse 12).toStep 11) :=
    (State.toStep_safe (State.raiseHouse_safe (State.updBoot_safe (Safe.refl u) f) 12) 11).inv hu
  unfold State.autoRestore
  split
  · exact ended h _
  · split
    · exact ended h _
    · split
      · exact ended h _
      · exact ended (State.install_inv h _) _

theorem State.commit_inv {s : State} (h : Inv s) (p : Proposal) : Inv (s.commit p) := by
  unfold State.commit
  split
  · refine (State.note_safe (State.raiseHouse_safe (State.raiseSm_safe (Safe.refl _) 18) 2) _ _ _ _ _).inv ?_
    exact h
  · refine State.installMap_inv ?_ _
    split
    · exact (State.updStaged_safe (Safe.refl _) _ _).inv h
    · exact h

theorem State.countersign_inv {s : State} (h : Inv s) (c : Cmd) : Inv (s.countersign c) := by
  have answers {u : State} (hu : Inv u) (r : Reply) : Inv (u.answer c r) := (State.answer_safe (Safe.refl u) c r).inv hu
  unfold State.countersign
  split
  · exact answers h _
  next p _ =>
  split
  · exact answers h _
  split
  · exact answers ((State.expireBefore_safe (Safe.refl s) _).inv h) _
  split
  · exact answers ((State.endProposal_safe (Safe.refl s) _).inv h) _
  split
  · exact answers ((State.endProposal_safe (Safe.refl s) _).inv h) _
  split
  · exact answers h _
  · exact answers (State.commit_inv h p) _

theorem State.softResetKey_inv {s : State} (h : Inv s) (key : Nat) : Inv (s.softResetKey key) := by
  unfold State.softResetKey
  split
  · exact State.restart_inv h 2
  · exact (State.raiseHouse_safe (State.updCtl_safe (Safe.refl s) _ _) 10).inv h

theorem State.designate_inv {s : State} (h : Inv s) (v : Word) : Inv (s.designate v) := h.of_mem rfl

theorem State.afterDev_inv {s : State} (h : Inv s) (p : Nat) (w : Write) : Inv (s.afterDev p w) := by
  unfold State.afterDev
  have hr := Safe.refl s
  split
  · split
    · exact (State.armOutput_safe hr _).inv h
    · exact h
  split
  · exact h
  split
  · exact h
  split
  · exact (State.updCtl_safe hr _ _).inv h
  · exact (State.unlockKey_safe hr _ _ _).inv h
  · exact (State.updateWrite_safe hr _ _).inv h
  · exact (State.refWrite_safe hr _).inv h
  · split
    · exact h
    · exact State.softResetKey_inv h _
  · exact h
  · split
    · exact h
    · exact (State.dropPps_safe hr).inv h
  · exact h
  · exact h
  · exact h
  · (repeat' split) <;> exact h
  · exact h
  · exact (State.note_safe hr _ _ _ _ _).inv h
  · split
    · exact (State.armSysref_safe hr).inv h
    · exact h
  · exact h

theorem State.afterWrite_inv {s : State} (h : Inv s) (w : Write) : Inv (s.afterWrite w) := by
  unfold State.afterWrite
  split
  · exact State.afterDev_inv h _ w
  · exact (State.afterTen_safe (Safe.refl s) _ _ w).inv h
  · exact (State.afterChan_safe (Safe.refl s) _ _ w).inv h

theorem State.takeWrite_inv {s : State} (h : Inv s) (w : Write) : Inv (s.takeWrite w).1 := by
  unfold State.takeWrite
  split
  · split
    · exact State.designate_inv h _
    · exact (State.logEvent_safe (Safe.refl s) _ _ _ _).inv h
  · exact State.afterWrite_inv ((State.store1_safe (Safe.refl s) _).inv h) _

theorem State.commitWrite_inv {s : State} (h : Inv s) (w : Write) (held : Bool) : Inv (s.commitWrite w held).1 := by
  unfold State.commitWrite
  have hr := Safe.refl s
  split
  · exact (State.writeNothing_safe hr _ _ _).inv h
  · exact h
  · split
    · exact State.takeWrite_inv h w
    split
    · exact State.takeWrite_inv ((State.closePage_safe hr _ _).inv h) w
    split
    · exact (State.logEvent_safe (State.logEvent_safe hr _ _ _ _) _ _ _ _).inv h
    · exact (State.logEvent_safe hr _ _ _ _).inv h

theorem State.write4_inv {s : State} (h : Inv s) (via : Via) (page : Page) (off : BitVec 18) (x : Dword) :
    Inv (s.write4 via page off x).1 := by
  have hr := Safe.refl s
  have log : Inv (s.logEvent page 4 via off) := (State.logEvent_safe hr page 4 via off).inv h
  have held {u : State} (hu : Inv u) (k : Option HalfWord) : Inv (u.setHeld page via k) := (State.setHeld_safe (Safe.refl u) _ _ _).inv hu
  have commit {u : State} (hu : Inv u) (w : Write) (b : Bool) : Inv (u.commitWrite w b).1 := State.commitWrite_inv hu w b
  unfold State.write4
  split
  · dsimp only
    split
    · exact commit h _ _
    · split
      · refine held ?_ _
        split
        · split
          · exact log
          · exact h
        · exact h
      · split
        · split
          · exact commit (held h none) _ _
          · exact commit h _ _
        · exact commit h _ _
  · split
    · exact (State.writeBell_safe hr _ _ _ _).inv h
    · exact (State.writeNothing_safe hr _ _ _).inv h

theorem State.write8_inv {s : State} (h : Inv s) (via : Via) (page : Page) (off : BitVec 18) (home : Home) (r : RegSpec) (x : Word) :
    Inv (s.write8 via page off home r x).1 := by
  have held : Inv (s.setHeld page via none) := (State.setHeld_safe (Safe.refl s) _ _ _).inv h
  unfold State.write8
  exact State.commitWrite_inv (by (repeat' split) <;> assumption) _ _

theorem State.regWrite_inv {s : State} (h : Inv s) (via : Via) (page : Page) (off : BitVec 18) (eight : Bool) (x : Word) :
    Inv (s.regWrite via page off eight x).1 := by
  have nothing := (State.writeNothing_safe (Safe.refl s) via page off).inv h
  have both : Inv ((s.write4 via page off (lo32 x)).1.write4 via page (off + 4) (hi32 x)).1 :=
    State.write4_inv (State.write4_inv h via page off _) via page _ _
  unfold State.regWrite
  split
  · exact nothing
  split
  · exact State.write4_inv h _ _ _ _
  split
  · exact nothing
  dsimp only
  split
  · split
    · exact State.write8_inv h _ _ _ _ _ _
    · exact both
  · exact both

/-- A write request keeps the memories in form where what it performs does. -/
theorem State.requestWrite_inv {s : State} (h : Inv s) (via : Via) (page : Page) (off : BitVec 18) {perform : State → State × Bool}
    (hp : ∀ u, Inv u → Inv (perform u).1) : Inv (s.requestWrite via page off perform) := by
  have touched : Inv (s.touched via) := (State.touched_safe (Safe.refl s) via).inv h
  have ended {u : State} (hu : Inv u) (err : Bool) : Inv (u.writeEnd via page off err) := (State.writeEnd_safe (Safe.refl u) _ _ _ _).inv hu
  unfold State.requestWrite
  split
  · exact h
  dsimp only
  split
  · exact ended touched true
  · refine ended (hp _ ?_) _
    split
    · exact (State.drainAllPosted_safe (Safe.refl _) _).inv touched
    · exact touched

theorem State.writeRow_inv {s : State} (h : Inv s) (a : RegWrite) : Inv (s.writeRow a) := by
  refine State.requestWrite_inv h _ _ _ fun u hu => ?_
  split
  · exact (State.writeNothing_safe (Safe.refl u) _ _ _).inv hu
  · exact State.regWrite_inv hu _ _ _ _ _

theorem State.performWord_inv {s : State} (h : Inv s) : Inv s.performWord := by
  unfold State.performWord
  split
  · exact h
  · exact State.requestWrite_inv ((State.updHouse_safe (Safe.refl s) _).inv h) _ _ _ fun u hu => State.regWrite_inv hu _ _ _ _ _

theorem State.performAll_inv {s : State} (h : Inv s) : Inv s.performAll := by
  unfold State.performAll
  generalize List.range s.house.writes.length = l
  induction l generalizing s with
  | nil => exact h
  | cons _ l ih => exact ih (State.performWord_inv h)

/-- A row that answers one state keeps what that state keeps. -/
theorem Inv.of_next {u t : State} (h : Inv u) (ht : (.next u : Result) = .next t) : Inv t := by
  cases ht; exact h

theorem State.rowAt_inv {s t : State} (h : Inv s) {here : Bool} {a : RegWrite} (ht : s.rowAt here a = .next t) : Inv t := by
  unfold State.rowAt at ht
  split at ht
  · exact (State.writeRow_inv h a).of_next ht
  · exact h.of_next ht

theorem execProtectCountersign_inv {s t : State} (h : Inv s) (p : Packet) (ht : execProtectCountersign p s = .next t) : Inv t := by
  have taken : Inv (s.takeOff p) := (State.takeOff_safe (Safe.refl s) p).inv h
  have answers {u : State} (hu : Inv u) (c : Cmd) (r : Reply) : Inv (u.answer c r) := (State.answer_safe (Safe.refl u) c r).inv hu
  unfold execProtectCountersign serve at ht
  dsimp only at ht
  split at ht
  · exact h.of_next ht
  split at ht
  · split at ht
    · exact h.of_next ht
    · exact (answers taken _ _).of_next ht
  · split at ht
    · exact (answers taken _ _).of_next ht
    · exact (State.countersign_inv taken _).of_next ht

theorem execBistTestEnd_inv {s t : State} (h : Inv s) (target : Byte) (unit : UnitId) (observed : Dword) (failing : BitVec 12) (passed : BitVec 14)
    (ht : execBistTestEnd target unit observed failing passed s = .next t) : Inv t := by
  unfold execBistTestEnd at ht
  split at ht
  · exact h.of_next ht
  next j _ =>
  extract_lets expected pass r s1 done at ht
  have h1 : Safe s s1 := State.updHealth_safe (Safe.refl s) _
  have hd {u : State} (hu : Safe s u) : Safe s (done u) := by
    show Safe s (match s1.bistCommand j with
      | some l => u.finishLong l { status := if pass then 0 else 0x20, dw2 := observed, dw3 := expected } []
      | none => u)
    split
    · exact State.finishLong_safe hu _ _ _
    · exact hu
  split at ht
  · exact (State.endFullTest_inv (h1.inv h) j _ _ _ _).of_next ht
  split at ht
  · exact ((hd (State.endUnitTest_safe h1 _ _)).inv h).of_next ht
  · exact ((State.endOtherTest_safe (hd h1) _ _ _).inv h).of_next ht

theorem execLongCommandFinish_inv {s t : State} (h : Inv s) (source : Source) (ended : Ended)
    (ht : execLongCommandFinish source ended s = .next t) : Inv t := by
  unfold execLongCommandFinish at ht
  dsimp only at ht
  split at ht
  · exact h.of_next ht
  · cases ht
    split
    · exact (State.finishStage_safe (Safe.refl s) _).inv h
    · exact (State.finishSnapshot_safe (Safe.refl s) _).inv h
    · exact State.finishRestore_inv h _ _
    · exact (State.finishBulk_safe (Safe.refl s) _ _).inv h

theorem execExitToLit_inv {s t : State} (h : Inv s) (good : Bool) (ht : execExitToLit good s = .next t) : Inv t := by
  unfold execExitToLit at ht
  dsimp only at ht
  split at ht
  · exact h.of_next ht
  split at ht
  · exact ((State.rise_safe (Safe.refl s)).inv h).of_next ht
  split at ht
  · exact h.of_next ht
  split at ht
  · exact (State.failRestore_inv h).of_next ht
  · exact ((State.climb_safe (Safe.refl s)).inv h).of_next ht

theorem execStartupStep_inv {s t : State} (h : Inv s) (i : StartupInput) (ht : execStartupStep i s = .next t) : Inv t := by
  have hr := Safe.refl s
  unfold execStartupStep at ht
  split at ht
  · exact h.of_next ht
  cases ht
  split
  · exact (State.startRefclk_safe hr i).inv h
  · exact (State.startPll_safe hr i).inv h
  · exact (State.startBook_safe hr i).inv h
  · exact (State.startPatches_safe hr i).inv h
  · exact (State.startDram_safe hr i).inv h
  · exact (State.toStep_safe hr 7).inv h
  · exact (State.startFill_safe hr).inv h
  · exact (State.startCheck_safe hr i).inv h
  · exact (State.startPrompter_safe hr i).inv h
  · exact State.autoRestore_inv h i
  · exact h

theorem execRead_inv {s t : State} (h : Inv s) (addr : Option Dword) (tokens last : Nat) (more : Bool)
    (ht : execRead addr tokens last more s = .next t) : Inv t := by
  have framed {u : State} (hu : Inv u) : Inv (u.pageAddr addr fun a s =>
      match s.performAll.readAccesses last more tokens a with
      | (s1, bs) => s1.sendSpi bs) := by
    unfold State.pageAddr
    split
    · exact (State.frameErr_safe (Safe.refl u)).inv hu
    · split
      · exact (State.addrErr_safe (Safe.refl u)).inv hu
      · exact (State.sendSpi_safe (State.readAccesses_safe (Safe.refl _) last more tokens _) _).inv (State.performAll_inv hu)
  unfold execRead State.houseFrame at ht
  split at ht
  · exact h.of_next ht
  · exact (framed ((State.updHouse_safe (State.wakeBy_safe (Safe.refl s) 1) _).inv h)).of_next ht


/-- Every command of the part keeps the memories in form. -/
theorem exec_inv {s t : State} (h : Inv s) (i : Instr) (ht : exec i s = .next t) : Inv t := by
  have hr := Safe.refl s
  cases i with
  | identify _ => exact (execIdentify_safe hr _ ht).inv h
  | getState _ => exact (execGetState_safe hr _ ht).inv h
  | setFeature _ => exact (execSetFeature_safe hr _ ht).inv h
  | getFeature _ => exact (execGetFeature_safe hr _ ht).inv h
  | echo _ => exact (execEcho_safe hr _ ht).inv h
  | abortCommand _ => exact (execAbortCommand_safe hr _ ht).inv h
  | createCq _ => exact (execCreateCq_safe hr _ ht).inv h
  | createSq _ => exact (execCreateSq_safe hr _ ht).inv h
  | deleteSq _ => exact (execDeleteSq_safe hr _ ht).inv h
  | deleteCq _ => exact (execDeleteCq_safe hr _ ht).inv h
  | bindChannel _ => exact (execBindChannel_safe hr _ ht).inv h
  | unbindChannel _ => exact (execUnbindChannel_safe hr _ ht).inv h
  | channelConfig _ => exact (execChannelConfig_safe hr _ ht).inv h
  | channelStart _ => exact (execChannelStart_safe hr _ ht).inv h
  | channelStop _ => exact (execChannelStop_safe hr _ ht).inv h
  | channelDrain _ => exact (execChannelDrain_safe hr _ ht).inv h
  | channelReset _ => exact (execChannelReset_safe hr _ ht).inv h
  | channelStatus _ => exact (execChannelStatus_safe hr _ ht).inv h
  | cueAlloc _ => exact (execCueAlloc_safe hr _ ht).inv h
  | cueFree _ => exact (execCueFree_safe hr _ ht).inv h
  | cueSet _ => exact (execCueSet_safe hr _ ht).inv h
  | propPoolConfig _ => exact (execPropPoolConfig_safe hr _ ht).inv h
  | actConfig _ => exact (execActConfig_safe hr _ ht).inv h
  | actStart _ => exact (execActStart_safe hr _ ht).inv h
  | actStop _ => exact (execActStop_safe hr _ ht).inv h
  | streamConfig _ => exact (execStreamConfig_safe hr _ ht).inv h
  | linkUp _ => exact (execLinkUp_safe hr _ ht).inv h
  | linkDown _ => exact (execLinkDown_safe hr _ ht).inv h
  | pinAssign _ => exact (execPinAssign_safe hr _ ht).inv h
  | protectPropose _ => exact (execProtectPropose_safe hr _ ht).inv h
  | protectCountersign _ => exact execProtectCountersign_inv h _ ht
  | protectWithdraw _ => exact (execProtectWithdraw_safe hr _ ht).inv h
  | protectRead _ => exact (execProtectRead_safe hr _ ht).inv h
  | powerState _ => exact (execPowerState_safe hr _ ht).inv h
  | memLogRead _ => exact (execMemLogRead_safe hr _ ht).inv h
  | retirePage _ => exact (execRetirePage_safe hr _ ht).inv h
  | markChip _ => exact (execMarkChip_safe hr _ ht).inv h
  | scrubConfig _ => exact (execScrubConfig_safe hr _ ht).inv h
  | scrubNow _ => exact (execScrubNow_safe hr _ ht).inv h
  | runBist _ => exact (execRunBist_safe hr _ ht).inv h
  | bistResult _ => exact (execBistResult_safe hr _ ht).inv h
  | traceConfig _ => exact (execTraceConfig_safe hr _ ht).inv h
  | traceRead _ => exact (execTraceRead_safe hr _ ht).inv h
  | timeSet _ => exact (execTimeSet_safe hr _ ht).inv h
  | timeAdjust _ => exact (execTimeAdjust_safe hr _ ht).inv h
  | timeCapture _ => exact (execTimeCapture_safe hr _ ht).inv h
  | patchStage _ => exact (execPatchStage_safe hr _ ht).inv h
  | patchActivate _ => exact (execPatchActivate_safe hr _ ht).inv h
  | patchList _ => exact (execPatchList_safe hr _ ht).inv h
  | configSnapshot _ => exact (execConfigSnapshot_safe hr _ ht).inv h
  | configRestore _ => exact (execConfigRestore_safe hr _ ht).inv h
  | move _ => exact (execMove_safe hr _ ht).inv h
  | runScript _ => exact (execRunScript_safe hr _ ht).inv h
  | fill _ => exact (execFill_safe hr _ ht).inv h
  | cue _ => exact (execCue_safe hr _ ht).inv h
  | callChain _ => exact (execCallChain_safe hr _ ht).inv h
  | link _ => exact (execLink_safe hr _ ht).inv h
  | scriptMove _ => exact (execScriptMove_safe hr _ ht).inv h
  | move3 _ => exact (execMove3_safe hr _ ht).inv h
  | nop _ => exact (execNop_safe hr _ ht).inv h
  | seta _ => exact (execSeta_safe hr _ ht).inv h
  | adda _ => exact (execAdda_safe hr _ ht).inv h
  | setk _ => exact (execSetk_safe hr _ ht).inv h
  | addk _ => exact (execAddk_safe hr _ ht).inv h
  | loop _ => exact (execLoop_safe hr _ ht).inv h
  | branch _ => exact (execBranch_safe hr _ ht).inv h
  | endScript _ => exact (execEndScript_safe hr _ ht).inv h
  | halt _ => exact (execHalt_safe hr _ ht).inv h
  | waitCue _ => exact (execWaitCue_safe hr _ ht).inv h
  | waitt _ => exact (execWaitt_safe hr _ ht).inv h
  | signal _ => exact (execSignal_safe hr _ ht).inv h
  | fence _ => exact (execFence_safe hr _ ht).inv h
  | take _ => exact (execTake_safe hr _ ht).inv h
  | give _ => exact (execGive_safe hr _ ht).inv h
  | stamp _ => exact (execStamp_safe hr _ ht).inv h
  | irq _ => exact (execIrq_safe hr _ ht).inv h
  | waitTimeout _ => exact (execWaitTimeout_safe hr _ ht).inv h
  | takeTimeout _ => exact (execTakeTimeout_safe hr _ ht).inv h
  | waittInstant _ => exact (execWaittInstant_safe hr _ ht).inv h
  | sqTailDoorbell _ _ _ _ => exact (execSqTailDoorbell_safe hr _ _ _ _ ht).inv h
  | cqHeadDoorbell _ _ _ _ => exact (execCqHeadDoorbell_safe hr _ _ _ _ ht).inv h
  | sqEntryFetch _ _ _ _ _ _ => exact (execSqEntryFetch_safe hr _ _ _ _ _ _ ht).inv h
  | periodStart _ => exact (execPeriodStart_safe hr _ ht).inv h
  | curtain _ => exact (execCurtain_safe hr _ ht).inv h
  | callTime => exact (execCallTime_safe hr ht).inv h
  | timePaceRelease _ => exact (execTimePaceRelease_safe hr _ ht).inv h
  | rateCredit _ => exact (execRateCredit_safe hr _ ht).inv h
  | admission _ => exact (execAdmission_safe hr _ ht).inv h
  | beat _ => exact (execBeat_safe hr _ ht).inv h
  | readDataReturn _ _ _ _ => exact (execReadDataReturn_safe hr _ _ _ _ ht).inv h
  | retry _ => exact (execRetry_safe hr _ ht).inv h
  | writeArrivalReadback _ _ _ _ _ => exact (execWriteArrivalReadback_safe hr _ _ _ _ _ ht).inv h
  | stopTakesEffect _ => exact (execStopTakesEffect_safe hr _ ht).inv h
  | shadowSwap _ => exact (execShadowSwap_safe hr _ ht).inv h
  | watchmanScan => exact (execWatchmanScan_safe hr ht).inv h
  | prompterStall => exact (execPrompterStall_safe hr ht).inv h
  | cfgCrcPass => exact (execCfgCrcPass_safe hr ht).inv h
  | proposalExpiry => exact (execProposalExpiry_safe hr ht).inv h
  | unlock _ => exact State.rowAt_inv h ht
  | updateStrobe _ => exact State.rowAt_inv h ht
  | timedStrobeArm _ => exact State.rowAt_inv h ht
  | discard _ => exact State.rowAt_inv h ht
  | timedStrobeApply _ => exact (execTimedStrobeApply_safe hr _ ht).inv h
  | cfgRefWrite _ => exact State.rowAt_inv h ht
  | tPropAlloc _ => exact (execTPropAlloc_safe hr _ ht).inv h
  | tPropFree _ => exact State.rowAt_inv h ht
  | tCueSet _ => exact State.rowAt_inv h ht
  | traceMark _ => exact State.rowAt_inv h ht
  | softReset _ => exact State.rowAt_inv h ht
  | adminEnable _ => exact State.rowAt_inv h ht
  | adminDisable _ => exact State.rowAt_inv h ht
  | shadowArm _ => exact State.rowAt_inv h ht
  | shadowDisarm _ => exact State.rowAt_inv h ht
  | strobeArm _ => exact State.rowAt_inv h ht
  | ppsOutConfig _ => exact State.rowAt_inv h ht
  | stageManagerDesignation _ => exact State.rowAt_inv h ht
  | memBoardWrite _ => exact State.rowAt_inv h ht
  | apertureMove _ => exact State.rowAt_inv h ht
  | sysrefArm _ => exact State.rowAt_inv h ht
  | prbsErrRead _ => exact (execPrbsErrRead_safe hr _ ht).inv h
  | pinOutWrite _ => exact State.rowAt_inv h ht
  | viewWrite _ => exact State.rowAt_inv h ht
  | lowWordRead _ => exact (execLowWordRead_safe hr _ ht).inv h
  | lowWordWrite _ => exact State.rowAt_inv h ht
  | rearm _ => exact State.rowAt_inv h ht
  | registerWrite _ => exact (State.writeRow_inv h _).of_next ht
  | read _ _ _ _ => exact execRead_inv h _ _ _ _ ht
  | write _ _ => exact (execWrite_safe hr _ _ ht).inv h
  | houseWordPerform => exact (State.performWord_inv h).of_next ht
  | status _ _ => exact (execStatus_safe hr _ _ ht).inv h
  | mboxPush _ _ => exact (execMboxPush_safe hr _ _ ht).inv h
  | mboxPop _ _ => exact (execMboxPop_safe hr _ _ ht).inv h
  | bar2Access _ => exact (execBar2Access_safe hr _ ht).inv h
  | bar4Access _ => exact (execBar4Access_safe hr _ ht).inv h
  | postedWriteDrain _ _ => exact (execPostedWriteDrain_safe hr _ _ ht).inv h
  | bar3Access _ _ _ _ _ => exact (execBar3Access_safe hr _ _ _ _ _ ht).inv h
  | configurationRequest _ => exact (execConfigurationRequest_safe hr _ ht).inv h
  | receivedCompletion _ _ _ _ => exact (execReceivedCompletion_safe hr _ _ _ _ ht).inv h
  | completionTimeout _ _ => exact (execCompletionTimeout_safe hr _ _ ht).inv h
  | lbReadyTimeout => exact (execLbReadyTimeout_safe hr ht).inv h
  | perstN _ _ => exact (execPerstN_safe hr _ _ ht).inv h
  | hotReset _ => exact (execHotReset_safe hr _ ht).inv h
  | pcieLinkDown _ => exact (execPcieLinkDown_safe hr _ ht).inv h
  | ppsIn _ => exact (execPpsIn_safe hr _ ht).inv h
  | atPpsTimeout => exact (execAtPpsTimeout_safe hr ht).inv h
  | slewEnd => exact (execSlewEnd_safe hr ht).inv h
  | ppsOut => exact (execPpsOut_safe hr ht).inv h
  | strobeEvent _ => exact (execStrobeEvent_safe hr _ ht).inv h
  | captureEdge _ _ _ => exact (execCaptureEdge_safe hr _ _ _ ht).inv h
  | refclkLoss => exact (execRefclkLoss_safe hr ht).inv h
  | refclkReturn => exact (execRefclkReturn_safe hr ht).inv h
  | pllUnlock => exact (execPllUnlock_safe hr ht).inv h
  | dreq _ _ => exact (execDreq_safe hr _ _ ht).inv h
  | cueIn _ _ => exact (execCueIn_safe hr _ _ ht).inv h
  | wake _ _ => exact (execWake_safe hr _ _ ht).inv h
  | pinSettleEnd _ => exact (execPinSettleEnd_safe hr _ ht).inv h
  | rxUnitAppend _ _ _ => exact (execRxUnitAppend_safe hr _ _ _ ht).inv h
  | txTake _ _ _ => exact (execTxTake_safe hr _ _ _ ht).inv h
  | tdmMasterFrame _ => exact (execTdmMasterFrame_safe hr _ ht).inv h
  | tdmFrameSync _ _ => exact (execTdmFrameSync_safe hr _ _ ht).inv h
  | tdmLockLoss _ => exact (execTdmLockLoss_safe hr _ ht).inv h
  | sysrefEvent _ _ _ => exact (execSysrefEvent_safe hr _ _ _ ht).inv h
  | sysrefPulse => exact (execSysrefPulse_safe hr ht).inv h
  | devclkStamp _ => exact (execDevclkStamp_safe hr _ ht).inv h
  | devclkLoss => exact (execDevclkLoss_safe hr ht).inv h
  | codeGroupSync _ => exact (execCodeGroupSync_safe hr _ ht).inv h
  | ilas _ _ => exact (execIlas_safe hr _ _ ht).inv h
  | frameRelease _ _ => exact (execFrameRelease_safe hr _ _ ht).inv h
  | syncinHigh _ => exact (execSyncinHigh_safe hr _ ht).inv h
  | syncinLow _ _ => exact (execSyncinLow_safe hr _ _ ht).inv h
  | codeGroupError _ => exact (execCodeGroupError_safe hr _ ht).inv h
  | laneLockLoss _ => exact (execLaneLockLoss_safe hr _ ht).inv h
  | linkUpTimeout _ _ => exact (execLinkUpTimeout_safe hr _ _ ht).inv h
  | idleDescent => exact (execIdleDescent_safe hr ht).inv h
  | descent => exact (execDescent_safe hr ht).inv h
  | exitToLit _ => exact execExitToLit_inv h _ ht
  | porN => cases ht; exact State.powerOn_inv s
  | resetN => cases ht; exact State.restart_inv h 1
  | startupStep _ => exact execStartupStep_inv h _ ht
  | bootConfirmation => exact (execBootConfirmation_safe hr ht).inv h
  | dramScrubRead dc line ecc => exact (execDramScrubRead_safe hr dc line ecc ht).inv h
  | sramScrub _ _ _ => exact (execSramScrub_safe hr _ _ _ ht).inv h
  | scrubNowDone _ => exact (execScrubNowDone_safe hr _ ht).inv h
  | retirementSwitch _ => exact (execRetirementSwitch_safe hr _ ht).inv h
  | summaryWrite => exact (execSummaryWrite_safe hr ht).inv h
  | refresh _ _ => exact (execRefresh_safe hr _ _ ht).inv h
  | dramTemperaturePoll _ => exact (execDramTemperaturePoll_safe hr _ ht).inv h
  | thermalSample _ => exact (execThermalSample_safe hr _ ht).inv h
  | thermalBudgetUpdate => exact (execThermalBudgetUpdate_safe hr ht).inv h
  | lifeWriteback => exact (execLifeWriteback_safe hr ht).inv h
  | healthEvaluation => exact (execHealthEvaluation_safe hr ht).inv h
  | rotatingTest => exact (execRotatingTest_safe hr ht).inv h
  | inServiceFault _ => exact (execInServiceFault_safe hr _ ht).inv h
  | handoverSwitch => exact (execHandoverSwitch_safe hr ht).inv h
  | bistTestEnd _ _ _ _ _ => exact execBistTestEnd_inv h _ _ _ _ _ ht
  | traceExport => exact (execTraceExport_safe hr ht).inv h
  | extest => exact (execExtest_safe hr ht).inv h
  | idcode => exact (execIdcode_safe hr ht).inv h
  | samplePreload => exact (execSamplePreload_safe hr ht).inv h
  | highz => exact (execHighz_safe hr ht).inv h
  | clamp => exact (execClamp_safe hr ht).inv h
  | extestPulse => exact (execExtestPulse_safe hr ht).inv h
  | extestTrain => exact (execExtestTrain_safe hr ht).inv h
  | bypass => exact (execBypass_safe hr ht).inv h
  | trstN => exact (execTrstN_safe hr ht).inv h
  | fetchReturn _ _ _ _ => exact (execFetchReturn_safe hr _ _ _ _ ht).inv h
  | longCommandFinish _ _ => exact execLongCommandFinish_inv h _ _ ht
  | resetProofTimeout _ => exact (execResetProofTimeout_safe hr _ ht).inv h
  | hostLinkUp _ _ _ => exact (execHostLinkUp_safe hr _ _ _ ht).inv h
  | unlockWindowExpiry _ _ => exact (execUnlockWindowExpiry_safe hr _ _ ht).inv h
  | pulseEnd _ => exact (execPulseEnd_safe hr _ ht).inv h
  | pinParkEnd _ => exact (execPinParkEnd_safe hr _ ht).inv h
  | lbBeatEnd _ => exact (execLbBeatEnd_safe hr _ ht).inv h
  | writeBurstComplete _ _ _ => exact (execWriteBurstComplete_safe hr _ _ _ ht).inv h
  | laneLock _ => exact (execLaneLock_safe hr _ ht).inv h
  | misplacedAlignmentCharacter _ => exact (execMisplacedAlignmentCharacter_safe hr _ ht).inv h
  | devclkReturn => exact (execDevclkReturn_safe hr ht).inv h
  | lmfcBoundary _ => exact (execLmfcBoundary_safe hr _ ht).inv h

/-- Settles O6: the queue is no memory, and every command keeps the memories in form. -/
theorem stepKeepsInv : Obligations.StepKeepsInv := by
  unfold Obligations.StepKeepsInv
  intro s t h ht
  unfold step at ht
  split at ht
  · exact ((tick_safe (Safe.refl s)).inv h).of_next ht
  next c rest _ =>
  exact exec_inv (s := { s with pending := rest }) h c ht

/-- A row of the prompter serves a run function that leaves the protection state in force, but that of PROTECT_COUNTERSIGN. -/
def ServesSafely (row : (Packet → Instr) × CmdSpec × (Cmd → State → Checks)) : Prop :=
  ∃ run, (∀ p s, exec (row.1 p) s = serve row.2.1 row.2.2 run p s) ∧
    (row.2.1.opcode ≠ 0x41 → ∀ {s₀ s : State}, Safe s₀ s → ∀ c, Safe s₀ (run c s))

theorem servesSafely_prompterRows1 : ∀ row ∈ prompterRows1, ServesSafely row := by
  simp only [prompterRows1, List.forall_mem_cons]
  refine ⟨⟨runIdentify, fun _ _ => rfl, fun _ => runIdentify_safe⟩,
    ⟨runGetState, fun _ _ => rfl, fun _ => runGetState_safe⟩,
    ⟨runSetFeature, fun _ _ => rfl, fun _ => runSetFeature_safe⟩,
    ⟨runGetFeature, fun _ _ => rfl, fun _ => runGetFeature_safe⟩,
    ⟨runEcho, fun _ _ => rfl, fun _ => runEcho_safe⟩,
    ⟨runAbortCommand, fun _ _ => rfl, fun _ => runAbortCommand_safe⟩,
    ⟨runCreateCq, fun _ _ => rfl, fun _ => runCreateCq_safe⟩,
    ⟨runCreateSq, fun _ _ => rfl, fun _ => runCreateSq_safe⟩,
    ⟨runDeleteSq, fun _ _ => rfl, fun _ => runDeleteSq_safe⟩,
    ⟨runDeleteCq, fun _ _ => rfl, fun _ => runDeleteCq_safe⟩,
    ⟨runBindChannel, fun _ _ => rfl, fun _ => runBindChannel_safe⟩,
    ⟨runUnbindChannel, fun _ _ => rfl, fun _ => runUnbindChannel_safe⟩,
    ⟨runChannelConfig, fun _ _ => rfl, fun _ => runChannelConfig_safe⟩,
    ⟨runChannelStart, fun _ _ => rfl, fun _ => runChannelStart_safe⟩,
    ⟨runChannelStop, fun _ _ => rfl, fun _ => runChannelStop_safe⟩,
    ⟨runChannelDrain, fun _ _ => rfl, fun _ => runChannelDrain_safe⟩,
    ⟨runChannelReset, fun _ _ => rfl, fun _ => runChannelReset_safe⟩,
    List.forall_mem_nil _⟩

theorem servesSafely_prompterRows2 : ∀ row ∈ prompterRows2, ServesSafely row := by
  simp only [prompterRows2, List.forall_mem_cons]
  refine ⟨⟨runChannelStatus, fun _ _ => rfl, fun _ => runChannelStatus_safe⟩,
    ⟨runCueAlloc, fun _ _ => rfl, fun _ => runCueAlloc_safe⟩,
    ⟨runCueFree, fun _ _ => rfl, fun _ => runCueFree_safe⟩,
    ⟨runCueSet, fun _ _ => rfl, fun _ => runCueSet_safe⟩,
    ⟨runPropPoolConfig, fun _ _ => rfl, fun _ => runPropPoolConfig_safe⟩,
    ⟨runActConfig, fun _ _ => rfl, fun _ => runActConfig_safe⟩,
    ⟨runActStart, fun _ _ => rfl, fun _ => runActStart_safe⟩,
    ⟨runActStop, fun _ _ => rfl, fun _ => runActStop_safe⟩,
    ⟨runStreamConfig, fun _ _ => rfl, fun _ => runStreamConfig_safe⟩,
    ⟨runLinkUp, fun _ _ => rfl, fun _ => runLinkUp_safe⟩,
    ⟨runLinkDown, fun _ _ => rfl, fun _ => runLinkDown_safe⟩,
    ⟨runPinAssign, fun _ _ => rfl, fun _ => runPinAssign_safe⟩,
    ⟨runProtectPropose, fun _ _ => rfl, fun _ => runProtectPropose_safe⟩,
    ⟨runProtectCountersign, fun _ _ => rfl, fun h => absurd rfl h⟩,
    ⟨runProtectWithdraw, fun _ _ => rfl, fun _ => runProtectWithdraw_safe⟩,
    ⟨runProtectRead, fun _ _ => rfl, fun _ => runProtectRead_safe⟩,
    ⟨runPowerState, fun _ _ => rfl, fun _ => runPowerState_safe⟩,
    List.forall_mem_nil _⟩

theorem servesSafely_prompterRows3 : ∀ row ∈ prompterRows3, ServesSafely row := by
  simp only [prompterRows3, List.forall_mem_cons]
  refine ⟨⟨runMemLogRead, fun _ _ => rfl, fun _ => runMemLogRead_safe⟩,
    ⟨runRetirePage, fun _ _ => rfl, fun _ => runRetirePage_safe⟩,
    ⟨runMarkChip, fun _ _ => rfl, fun _ => runMarkChip_safe⟩,
    ⟨runScrubConfig, fun _ _ => rfl, fun _ => runScrubConfig_safe⟩,
    ⟨runScrubNow, fun _ _ => rfl, fun _ => runScrubNow_safe⟩,
    ⟨runRunBist, fun _ _ => rfl, fun _ => runRunBist_safe⟩,
    ⟨runBistResult, fun _ _ => rfl, fun _ => runBistResult_safe⟩,
    ⟨runTraceConfig, fun _ _ => rfl, fun _ => runTraceConfig_safe⟩,
    ⟨runTraceRead, fun _ _ => rfl, fun _ => runTraceRead_safe⟩,
    ⟨runTimeSet, fun _ _ => rfl, fun _ => runTimeSet_safe⟩,
    ⟨runTimeAdjust, fun _ _ => rfl, fun _ => runTimeAdjust_safe⟩,
    ⟨runTimeCapture, fun _ _ => rfl, fun _ => runTimeCapture_safe⟩,
    ⟨runPatchStage, fun _ _ => rfl, fun _ => runPatchStage_safe⟩,
    ⟨runPatchActivate, fun _ _ => rfl, fun _ => runPatchActivate_safe⟩,
    ⟨runPatchList, fun _ _ => rfl, fun _ => runPatchList_safe⟩,
    ⟨runConfigSnapshot, fun _ _ => rfl, fun _ => runConfigSnapshot_safe⟩,
    ⟨runConfigRestore, fun _ _ => rfl, fun _ => runConfigRestore_safe⟩,
    List.forall_mem_nil _⟩

theorem servesSafely {row : (Packet → Instr) × CmdSpec × (Cmd → State → Checks)} (h : row ∈ prompterRows) : ServesSafely row := by
  simp only [prompterRows, List.mem_append] at h
  rcases h with (h | h) | h
  · exact servesSafely_prompterRows1 row h
  · exact servesSafely_prompterRows2 row h
  · exact servesSafely_prompterRows3 row h

/-- Settles O19: each of the 50 other rows serves a run function that leaves the protection state in force. -/
theorem mapOnlyByCountersign : Obligations.MapOnlyByCountersign := by
  unfold Obligations.MapOnlyByCountersign
  intro row hrow p s t hop ht
  obtain ⟨run, hrun, hsafe⟩ := servesSafely hrow
  exact (serve_safe (Safe.refl s) (fun c _ hu => hsafe hop hu c) (hrun p s ▸ ht)).2

end Sys2Proof.Machine
end

section
/-! PROOF. The step, the table, the reset state, and the way of every row of the prompter: a packet that waits, fails a check, is another row's, or is served (R221, R243). -/

namespace Sys2Proof.Machine

/-- Settles O1. -/
theorem stepRunsFront : Obligations.StepRunsFront := by
  unfold Obligations.StepRunsFront
  intro c rest s
  rfl

/-- Settles O3. -/
theorem noWordSpellsACommand : Obligations.NoWordSpellsACommand := by
  unfold Obligations.NoWordSpellsACommand
  intro s nbits w
  exact ⟨rfl, rfl⟩

/-- Settles O4: each value is that of one field of the record. -/
theorem resetState : Obligations.ResetState := by
  unfold Obligations.ResetState
  refine ⟨rfl, rfl, rfl, rfl, rfl, rfl, rfl, ?_, ?_, ?_, ?_, ?_, ?_, ?_, rfl⟩
  · decide +kernel
  · decide +kernel
  · decide +kernel
  · decide +kernel
  · decide +kernel
  · decide +kernel
  · decide +kernel

/-- A row whose packet fails a check answers with that failure. -/
theorem serve_fails {spec : CmdSpec} {checks : Cmd → State → Checks} {run : Cmd → State → State} {p : Packet} {s : State} {r : Reply}
    (htake : s.mayTake p = true) (hop : (s.cmdOf p).opcode.toNat = spec.opcode)
    (hjudge : (s.cmdOf p).judge spec (checks (s.cmdOf p) (s.takeOff p)) (s.takeOff p) = some r) :
    serve spec checks run p s = .next ((s.takeOff p).answer (s.cmdOf p) r) := by
  simp [serve, htake, hop, hjudge]

theorem serve_waits {spec : CmdSpec} {checks : Cmd → State → Checks} {run : Cmd → State → State} {p : Packet} {s : State}
    (htake : s.mayTake p = false) : serve spec checks run p s = .next s := by
  simp [serve, htake]

/-- A row of another opcode leaves an assigned one to its own row and answers an unassigned one. -/
theorem serve_elsewhere {spec : CmdSpec} {checks : Cmd → State → Checks} {run : Cmd → State → State} {p : Packet} {s : State}
    (htake : s.mayTake p = true) (hop : (s.cmdOf p).opcode.toNat ≠ spec.opcode) :
    serve spec checks run p s = .next (if assignedOpcodes.contains (s.cmdOf p).opcode.toNat then s
      else (s.takeOff p).answer (s.cmdOf p) { status := 0x08 }) := by
  simp only [serve, htake, Bool.not_true, Bool.false_eq_true, if_false, if_pos hop]
  (repeat' split) <;> rfl

/-- Settles O8: every row of the prompter serves its packets in the one way. -/
theorem failedAndUnassignedCommandsAnswer : Obligations.FailedAndUnassignedCommandsAnswer := by
  unfold Obligations.FailedAndUnassignedCommandsAnswer
  refine ⟨fun row hrow p s r htake hop hjudge => ?_, fun row hrow p s => ⟨fun htake => ?_, fun htake hop => ?_⟩⟩
  all_goals
    obtain ⟨run, hrun, -⟩ := servesSafely hrow
    rw [hrun]
  · exact ⟨_, serve_fails htake hop hjudge, rfl, (s.takeOff_kept p).trans (State.complete_kept _ _ _ _ _)⟩
  · exact serve_waits htake
  · exact serve_elsewhere htake hop

/-- Settles O58: a row that passes runs its own function on the state without its packet. -/
theorem commandsComplete : Obligations.CommandsComplete := by
  unfold Obligations.CommandsComplete
  intro p s
  dsimp only
  exact ⟨fun h => serve_runs h,
    fun h => serve_runs h,
    fun h => serve_runs h,
    fun h => serve_runs h,
    fun h => serve_runs h,
    fun h => serve_runs h,
    fun h => serve_runs h,
    fun h => serve_runs h,
    fun h => serve_runs h,
    fun h => serve_runs h,
    fun h => serve_runs h,
    fun h => serve_runs h,
    fun h => serve_runs h,
    fun h => serve_runs h,
    fun h => serve_runs h,
    fun h => serve_runs h,
    fun h => serve_runs h,
    fun h => serve_runs h,
    fun h => serve_runs h,
    fun h => serve_runs h,
    fun h => serve_runs h,
    fun h => serve_runs h,
    fun h => serve_runs h,
    fun h => serve_runs h,
    fun h => serve_runs h,
    fun h => serve_runs h,
    fun h => serve_runs h,
    fun h => serve_runs h,
    fun h => serve_runs h,
    fun h => serve_runs h,
    fun h => serve_runs h,
    fun h => serve_runs h,
    fun h => serve_runs h,
    fun h => serve_runs h,
    fun h => serve_runs h,
    fun h => serve_runs h,
    fun h => serve_runs h,
    fun h => serve_runs h,
    fun h => serve_runs h,
    fun h => serve_runs h,
    fun h => serve_runs h,
    fun h => serve_runs h,
    fun h => serve_runs h,
    fun h => serve_runs h,
    fun h => serve_runs h,
    fun h => serve_runs h,
    fun h => serve_runs h,
    fun h => serve_runs h,
    fun h => serve_runs h,
    fun h => serve_runs h,
    fun h => serve_runs h⟩

end Sys2Proof.Machine
end

section
/-! PROOF. Every command answers a next state, but one that no hardware can bring: that faults, in every state. -/

namespace Sys2Proof.Machine

/-- The row answers a next state. -/
def Answers (r : Result) : Prop := ∃ t : State, r = .next t

theorem answers_next (t : State) : Answers (.next t) := ⟨t, rfl⟩

theorem serve_answers (spec : CmdSpec) (checks : Cmd → State → Checks) (run : Cmd → State → State) (p : Packet) (s : State) :
    Answers (serve spec checks run p s) := by
  unfold serve
  dsimp only
  repeat' split
  all_goals exact answers_next _

theorem State.rowAt_answers (s : State) (here : Bool) (a : RegWrite) : Answers (s.rowAt here a) := by
  unfold State.rowAt
  split <;> exact answers_next _

theorem State.houseFrame_answers (s : State) (run : State → State) : Answers (s.houseFrame run) := by
  unfold State.houseFrame
  dsimp only
  split <;> exact answers_next _

theorem execWaitTimeout_answers (c : ChanId) (s : State) : Answers (execWaitTimeout c s) := by
  unfold execWaitTimeout
  repeat' split
  all_goals exact answers_next _

theorem execTakeTimeout_answers (c : ChanId) (s : State) : Answers (execTakeTimeout c s) := by
  unfold execTakeTimeout
  repeat' split
  all_goals exact answers_next _

theorem execWaittInstant_answers (c : ChanId) (s : State) : Answers (execWaittInstant c s) := by
  unfold execWaittInstant
  repeat' split
  all_goals exact answers_next _

theorem execSqEntryFetch_answers (t : TenantId) (q : QueueId) (i : BitVec 16) (ended : Ended) (bytes : List Byte) (ecc : Ecc) (s : State) : Answers (execSqEntryFetch t q i ended bytes ecc s) := by
  unfold execSqEntryFetch
  dsimp only
  repeat' split
  all_goals exact answers_next _

theorem execPeriodStart_answers (a : ActId) (s : State) : Answers (execPeriodStart a s) := by
  unfold execPeriodStart
  dsimp only
  repeat' split
  all_goals exact answers_next _

theorem execCurtain_answers (c : ChanId) (s0 : State) : Answers (execCurtain c s0) := by
  unfold execCurtain
  dsimp only
  repeat' split
  all_goals exact answers_next _

theorem execCallTime_answers (s : State) : Answers (execCallTime s) := by
  unfold execCallTime
  dsimp only
  repeat' split
  all_goals exact answers_next _

theorem execTimePaceRelease_answers (c : ChanId) (s : State) : Answers (execTimePaceRelease c s) := by
  unfold execTimePaceRelease
  dsimp only
  repeat' split
  all_goals exact answers_next _

theorem execRateCredit_answers (c : ChanId) (s0 : State) : Answers (execRateCredit c s0) := by
  unfold execRateCredit
  dsimp only
  repeat' split
  all_goals exact answers_next _

theorem execAdmission_answers (h : ShId) (s : State) : Answers (execAdmission h s) := by
  unfold execAdmission
  dsimp only
  repeat' split
  all_goals exact answers_next _

theorem execBeat_answers (h : ShId) (s : State) : Answers (execBeat h s) := by
  unfold execBeat
  dsimp only
  repeat' split
  all_goals exact answers_next _

theorem execRetry_answers (c : ChanId) (s : State) : Answers (execRetry c s) := by
  unfold execRetry
  dsimp only
  repeat' split
  all_goals exact answers_next _

theorem execStopTakesEffect_answers (c : ChanId) (s : State) : Answers (execStopTakesEffect c s) := by
  unfold execStopTakesEffect
  dsimp only
  repeat' split
  all_goals exact answers_next _

theorem execShadowSwap_answers (c : ChanId) (s : State) : Answers (execShadowSwap c s) := by
  unfold execShadowSwap
  dsimp only
  repeat' split
  all_goals exact answers_next _

theorem execWatchmanScan_answers (s : State) : Answers (execWatchmanScan s) := by
  unfold execWatchmanScan
  dsimp only
  repeat' split
  all_goals exact answers_next _

theorem execPrompterStall_answers (s : State) : Answers (execPrompterStall s) := by
  unfold execPrompterStall
  dsimp only
  repeat' split
  all_goals exact answers_next _

theorem execCfgCrcPass_answers (s : State) : Answers (execCfgCrcPass s) := by
  unfold execCfgCrcPass
  repeat' split
  all_goals exact answers_next _

theorem execProposalExpiry_answers (s : State) : Answers (execProposalExpiry s) := by
  unfold execProposalExpiry
  repeat' split
  all_goals exact answers_next _

theorem execTPropAlloc_answers (a : RegRead) (s : State) : Answers (execTPropAlloc a s) := by
  unfold execTPropAlloc
  repeat' split
  all_goals exact answers_next _

theorem execPrbsErrRead_answers (a : RegRead) (s : State) : Answers (execPrbsErrRead a s) := by
  unfold execPrbsErrRead
  repeat' split
  all_goals exact answers_next _

theorem execRead_answers (addr : Option Dword) (tokens : Nat) (last : Nat) (more : Bool) (s : State) : Answers (execRead addr tokens last more s) := s.houseFrame_answers _

theorem execWrite_answers (addr : Option Dword) (bytes : List Byte) (s : State) : Answers (execWrite addr bytes s) := s.houseFrame_answers _

theorem execStatus_answers (addr : Option Dword) (full : Bool) (s : State) : Answers (execStatus addr full s) := s.houseFrame_answers _

theorem execMboxPush_answers (addr : Option Dword) (bytes : List Byte) (s : State) : Answers (execMboxPush addr bytes s) := s.houseFrame_answers _

theorem execMboxPop_answers (addr : Option Dword) (bytes : Nat) (s : State) : Answers (execMboxPop addr bytes s) := s.houseFrame_answers _

theorem execBar3Access_answers (port : HostPort) (write : Bool) (off : BitVec 16) (size : Nat) (data : Word) (s : State) : Answers (execBar3Access port write off size data s) := by
  unfold execBar3Access
  dsimp only
  repeat' split
  all_goals exact answers_next _

theorem execConfigurationRequest_answers (a : CfgRequest) (s : State) : Answers (execConfigurationRequest a s) := by
  unfold execConfigurationRequest
  dsimp only
  repeat' split
  all_goals exact answers_next _

theorem execReceivedCompletion_answers (port : HostPort) (tag : BitVec 8) (status : CplStatus) (bytes : List Byte) (s : State) : Answers (execReceivedCompletion port tag status bytes s) := by
  unfold execReceivedCompletion
  dsimp only
  repeat' split
  all_goals exact answers_next _

theorem execCompletionTimeout_answers (port : HostPort) (tag : BitVec 8) (s : State) : Answers (execCompletionTimeout port tag s) := by
  unfold execCompletionTimeout
  dsimp only
  repeat' split
  all_goals exact answers_next _

theorem execLbReadyTimeout_answers (s : State) : Answers (execLbReadyTimeout s) := by
  unfold execLbReadyTimeout
  repeat' split
  all_goals exact answers_next _

theorem execPerstN_answers (port : HostPort) (low : Bool) (s : State) : Answers (execPerstN port low s) := by
  unfold execPerstN
  repeat' split
  all_goals exact answers_next _

theorem execHotReset_answers (port : HostPort) (s : State) : Answers (execHotReset port s) := by
  unfold execHotReset
  repeat' split
  all_goals exact answers_next _

theorem execPcieLinkDown_answers (port : HostPort) (s : State) : Answers (execPcieLinkDown port s) := by
  unfold execPcieLinkDown
  repeat' split
  all_goals exact answers_next _

theorem execPpsIn_answers (vernier : BitVec 4) (s0 : State) : Answers (execPpsIn vernier s0) := by
  unfold execPpsIn
  dsimp only
  repeat' split
  all_goals exact answers_next _

theorem execAtPpsTimeout_answers (s : State) : Answers (execAtPpsTimeout s) := by
  unfold execAtPpsTimeout
  dsimp only
  repeat' split
  all_goals exact answers_next _

theorem execSlewEnd_answers (s : State) : Answers (execSlewEnd s) := by
  unfold execSlewEnd
  repeat' split
  all_goals exact answers_next _

theorem execPpsOut_answers (s : State) : Answers (execPpsOut s) := by
  unfold execPpsOut
  dsimp only
  repeat' split
  all_goals exact answers_next _

theorem execStrobeEvent_answers (n : BitVec 3) (s : State) : Answers (execStrobeEvent n s) := by
  unfold execStrobeEvent
  dsimp only
  repeat' split
  all_goals exact answers_next _

theorem execCaptureEdge_answers (n : BitVec 3) (rise : Bool) (vernier : BitVec 4) (s : State) : Answers (execCaptureEdge n rise vernier s) := by
  unfold execCaptureEdge
  dsimp only
  repeat' split
  all_goals exact answers_next _

theorem execRefclkLoss_answers (s : State) : Answers (execRefclkLoss s) := by
  unfold execRefclkLoss
  dsimp only
  repeat' split
  all_goals exact answers_next _

theorem execPllUnlock_answers (s : State) : Answers (execPllUnlock s) := by
  unfold execPllUnlock
  dsimp only
  repeat' split
  all_goals exact answers_next _

theorem execPinSettleEnd_answers (p : PinId) (s : State) : Answers (execPinSettleEnd p s) := by
  unfold execPinSettleEnd
  dsimp only
  repeat' split
  all_goals exact answers_next _

theorem execRxUnitAppend_answers (e : EpId) (unit : RxUnit) (stamp : Tick) (s : State) : Answers (execRxUnitAppend e unit stamp s) := by
  unfold execRxUnitAppend
  repeat' split
  all_goals exact answers_next _

theorem execTxTake_answers (e : EpId) (len : Nat) (ecc : Ecc) (s : State) : Answers (execTxTake e len ecc s) := by
  unfold execTxTake
  dsimp only
  repeat' split
  all_goals exact answers_next _

theorem execTdmMasterFrame_answers (n : BitVec 2) (s : State) : Answers (execTdmMasterFrame n s) := by
  unfold execTdmMasterFrame
  dsimp only
  repeat' split
  all_goals exact answers_next _

theorem execTdmFrameSync_answers (n : BitVec 2) (bit : Nat) (s : State) : Answers (execTdmFrameSync n bit s) := by
  unfold execTdmFrameSync
  dsimp only
  repeat' split
  all_goals exact answers_next _

theorem execTdmLockLoss_answers (n : BitVec 2) (s : State) : Answers (execTdmLockLoss n s) := by
  unfold execTdmLockLoss
  dsimp only
  repeat' split
  all_goals exact answers_next _

theorem execSysrefEvent_answers (vernier : BitVec 4) (edge : Tick) (misses : Byte) (s : State) : Answers (execSysrefEvent vernier edge misses s) := by
  unfold execSysrefEvent
  dsimp only
  repeat' split
  all_goals exact answers_next _

theorem execSysrefPulse_answers (s : State) : Answers (execSysrefPulse s) := by
  unfold execSysrefPulse
  repeat' split
  all_goals exact answers_next _

theorem execDevclkStamp_answers (vernier : BitVec 4) (s : State) : Answers (execDevclkStamp vernier s) := by
  unfold execDevclkStamp
  repeat' split
  all_goals exact answers_next _

theorem execDevclkLoss_answers (s : State) : Answers (execDevclkLoss s) := by
  unfold execDevclkLoss
  dsimp only
  exact answers_next _

theorem execCodeGroupSync_answers (n : BitVec 2) (s : State) : Answers (execCodeGroupSync n s) := by
  unfold execCodeGroupSync
  dsimp only
  repeat' split
  all_goals exact answers_next _

theorem execIlas_answers (n : BitVec 2) (mismatch : Option Byte) (s : State) : Answers (execIlas n mismatch s) := by
  unfold execIlas
  dsimp only
  repeat' split
  all_goals exact answers_next _

theorem execFrameRelease_answers (n : BitVec 2) (fits : Bool) (s : State) : Answers (execFrameRelease n fits s) := by
  unfold execFrameRelease
  dsimp only
  repeat' split
  all_goals exact answers_next _

theorem execSyncinHigh_answers (n : BitVec 2) (s : State) : Answers (execSyncinHigh n s) := by
  unfold execSyncinHigh
  dsimp only
  repeat' split
  all_goals exact answers_next _

theorem execSyncinLow_answers (n : BitVec 2) (octets : Nat) (s : State) : Answers (execSyncinLow n octets s) := by
  unfold execSyncinLow
  dsimp only
  repeat' split
  all_goals exact answers_next _

theorem execCodeGroupError_answers (lane : BitVec 3) (s : State) : Answers (execCodeGroupError lane s) := by
  unfold execCodeGroupError
  dsimp only
  repeat' split
  all_goals exact answers_next _

theorem execLaneLockLoss_answers (lane : BitVec 3) (s : State) : Answers (execLaneLockLoss lane s) := by
  unfold execLaneLockLoss
  dsimp only
  repeat' split
  all_goals exact answers_next _

theorem execLinkUpTimeout_answers (l : BitVec 8) (bitClock : Bool) (s : State) : Answers (execLinkUpTimeout l bitClock s) := by
  unfold execLinkUpTimeout
  dsimp only
  repeat' split
  all_goals exact answers_next _

theorem execIdleDescent_answers (s : State) : Answers (execIdleDescent s) := by
  unfold execIdleDescent
  dsimp only
  repeat' split
  all_goals exact answers_next _

theorem execDescent_answers (s : State) : Answers (execDescent s) := by
  unfold execDescent
  dsimp only
  repeat' split
  all_goals exact answers_next _

theorem execExitToLit_answers (snapshotGood : Bool) (s : State) : Answers (execExitToLit snapshotGood s) := by
  unfold execExitToLit
  dsimp only
  repeat' split
  all_goals exact answers_next _

theorem execStartupStep_answers (i : StartupInput) (s : State) : Answers (execStartupStep i s) := by
  unfold execStartupStep
  repeat' split
  all_goals exact answers_next _

theorem execBootConfirmation_answers (s : State) : Answers (execBootConfirmation s) := by
  unfold execBootConfirmation
  dsimp only
  repeat' split
  all_goals exact answers_next _

theorem execDramScrubRead_answers (dc : Bool) (line : BitVec 30) (ecc : Ecc) (s : State) : Answers (execDramScrubRead dc line ecc s) := by
  unfold execDramScrubRead
  dsimp only
  repeat' split
  all_goals exact answers_next _

theorem execSramScrub_answers (fifo : Bool) (word : BitVec 21) (ecc : Ecc) (s : State) : Answers (execSramScrub fifo word ecc s) := by
  unfold execSramScrub
  dsimp only
  repeat' split
  all_goals exact answers_next _

theorem execScrubNowDone_answers (found : List (Addr × Ecc)) (s : State) : Answers (execScrubNowDone found s) := by
  unfold execScrubNowDone
  dsimp only
  repeat' split
  all_goals exact answers_next _

theorem execRetirementSwitch_answers (found : List (Addr × Ecc)) (s : State) : Answers (execRetirementSwitch found s) := by
  unfold execRetirementSwitch
  dsimp only
  repeat' split
  all_goals exact answers_next _

theorem execSummaryWrite_answers (s : State) : Answers (execSummaryWrite s) := by
  unfold execSummaryWrite
  dsimp only
  exact answers_next _

theorem execRefresh_answers (rank : BitVec 2) (postpone : Bool) (s : State) : Answers (execRefresh rank postpone s) := by
  unfold execRefresh
  dsimp only
  repeat' split
  all_goals exact answers_next _

theorem execDramTemperaturePoll_answers (hot : BitVec 4) (s : State) : Answers (execDramTemperaturePoll hot s) := by
  unfold execDramTemperaturePoll
  dsimp only
  repeat' split
  all_goals exact answers_next _

theorem execThermalSample_answers (tj : BitVec 16) (s : State) : Answers (execThermalSample tj s) := by
  unfold execThermalSample
  repeat' split
  all_goals exact answers_next _

theorem execThermalBudgetUpdate_answers (s : State) : Answers (execThermalBudgetUpdate s) := by
  unfold execThermalBudgetUpdate
  dsimp only
  repeat' split
  all_goals exact answers_next _

theorem execLifeWriteback_answers (s : State) : Answers (execLifeWriteback s) := by
  unfold execLifeWriteback
  repeat' split
  all_goals exact answers_next _

theorem execHealthEvaluation_answers (s : State) : Answers (execHealthEvaluation s) := by
  unfold execHealthEvaluation
  repeat' split
  all_goals exact answers_next _

theorem execRotatingTest_answers (s : State) : Answers (execRotatingTest s) := by
  unfold execRotatingTest
  dsimp only
  repeat' split
  all_goals exact answers_next _

theorem execHandoverSwitch_answers (s : State) : Answers (execHandoverSwitch s) := by
  unfold execHandoverSwitch
  repeat' split
  all_goals exact answers_next _

theorem execBistTestEnd_answers (target : Byte) (unit : UnitId) (observed : Dword) (failing : BitVec 12) (passed : BitVec 14) (s : State) : Answers (execBistTestEnd target unit observed failing passed s) := by
  unfold execBistTestEnd
  dsimp only
  repeat' split
  all_goals exact answers_next _

theorem execTraceExport_answers (s : State) : Answers (execTraceExport s) := by
  unfold execTraceExport
  repeat' split
  all_goals exact answers_next _

theorem execSamplePreload_answers (s : State) : Answers (execSamplePreload s) := by
  unfold execSamplePreload
  dsimp only
  exact answers_next _

theorem execFetchReturn_answers (c : ChanId) (ended : Ended) (bytes : List Byte) (ecc : Ecc) (s : State) : Answers (execFetchReturn c ended bytes ecc s) := by
  unfold execFetchReturn
  dsimp only
  repeat' split
  all_goals exact answers_next _

theorem execLongCommandFinish_answers (source : Source) (ended : Ended) (s : State) : Answers (execLongCommandFinish source ended s) := by
  unfold execLongCommandFinish
  dsimp only
  repeat' split
  all_goals exact answers_next _

theorem execResetProofTimeout_answers (c : ChanId) (s : State) : Answers (execResetProofTimeout c s) := by
  unfold execResetProofTimeout
  dsimp only
  repeat' split
  all_goals exact answers_next _

theorem execUnlockWindowExpiry_answers (page : Page) (via : Via) (s : State) : Answers (execUnlockWindowExpiry page via s) := by
  unfold execUnlockWindowExpiry
  repeat' split
  all_goals exact answers_next _

theorem execPulseEnd_answers (o : PulseOutput) (s : State) : Answers (execPulseEnd o s) := by
  unfold execPulseEnd
  dsimp only
  repeat' split
  all_goals exact answers_next _

theorem execPinParkEnd_answers (p : PinId) (s : State) : Answers (execPinParkEnd p s) := by
  unfold execPinParkEnd
  dsimp only
  repeat' split
  all_goals exact answers_next _

theorem execLbBeatEnd_answers (data : Dword) (s : State) : Answers (execLbBeatEnd data s) := by
  unfold execLbBeatEnd
  dsimp only
  repeat' split
  all_goals exact answers_next _

theorem execWriteBurstComplete_answers (k : WriteKind) (ended : Ended) (ecc : Ecc) (s : State) : Answers (execWriteBurstComplete k ended ecc s) := by
  unfold execWriteBurstComplete
  repeat' split
  all_goals exact answers_next _

theorem execLaneLock_answers (lane : BitVec 3) (s : State) : Answers (execLaneLock lane s) := by
  unfold execLaneLock
  dsimp only
  repeat' split
  all_goals exact answers_next _

theorem execMisplacedAlignmentCharacter_answers (lane : BitVec 3) (s : State) : Answers (execMisplacedAlignmentCharacter lane s) := by
  unfold execMisplacedAlignmentCharacter
  repeat' split
  all_goals exact answers_next _

theorem execDevclkReturn_answers (s : State) : Answers (execDevclkReturn s) := by
  unfold execDevclkReturn
  dsimp only
  repeat' split
  all_goals exact answers_next _

theorem execLmfcBoundary_answers (l : ConvLink) (s : State) : Answers (execLmfcBoundary l s) := by
  unfold execLmfcBoundary
  repeat' split
  all_goals exact answers_next _

/-- The command refuses in no state, and where it faults no hardware can bring it. -/
def OnlyMalformed (i : Instr) : Prop :=
  ∀ s, (∀ r, exec i s ≠ .refused r) ∧
    ∀ f, exec i s = .fault f → f = .malformedEvent ∧ i.wf = false ∧ ∀ s', exec i s' = .fault .malformedEvent

theorem onlyMalformed_of_answers {i : Instr} (h : ∀ s, Answers (exec i s)) : OnlyMalformed i := by
  intro s
  obtain ⟨t, ht⟩ := h s
  rw [ht]
  exact ⟨fun r hr => (nomatch hr), fun f hf => (nomatch hf)⟩

/-- A command that faults where it is malformed, in every state, and answers otherwise. -/
theorem onlyMalformed_of_guard {i : Instr} {bad : Bool} (hwf : bad = true → i.wf = false)
    (hbad : bad = true → ∀ s, exec i s = .fault .malformedEvent) (hgood : bad = false → ∀ s, Answers (exec i s)) : OnlyMalformed i := by
  cases bad with
  | false => exact onlyMalformed_of_answers (hgood rfl)
  | true =>
    intro s
    rw [hbad rfl s]
    exact ⟨fun r hr => (nomatch hr), fun f hf => ⟨by cases hf; rfl, hwf rfl, hbad rfl⟩⟩

theorem dreq_onlyMalformed (p : PinId) (level : Bool) : OnlyMalformed (.dreq p level) := by
  refine onlyMalformed_of_guard (bad := decide (48 ≤ p.toNat)) (fun h => ?_) (fun h s => ?_) fun h s => ?_
  · simpa [Instr.wf, pinOk] using h
  · exact if_pos (of_decide_eq_true h)
  · show Answers (execDreq p level s)
    rw [execDreq, if_neg (of_decide_eq_false h)]
    dsimp only
    repeat' split
    all_goals exact answers_next _

theorem cueIn_onlyMalformed (p : PinId) (rise : Bool) : OnlyMalformed (.cueIn p rise) := by
  refine onlyMalformed_of_guard (bad := decide (48 ≤ p.toNat)) (fun h => ?_) (fun h s => ?_) fun h s => ?_
  · simpa [Instr.wf, pinOk] using h
  · exact if_pos (of_decide_eq_true h)
  · show Answers (execCueIn p rise s)
    rw [execCueIn, if_neg (of_decide_eq_false h)]
    dsimp only
    repeat' split
    all_goals exact answers_next _

theorem wake_onlyMalformed (p : PinId) (rise : Bool) : OnlyMalformed (.wake p rise) := by
  refine onlyMalformed_of_guard (bad := decide (48 ≤ p.toNat)) (fun h => ?_) (fun h s => ?_) fun h s => ?_
  · simpa [Instr.wf, pinOk] using h
  · exact if_pos (of_decide_eq_true h)
  · show Answers (execWake p rise s)
    rw [execWake, if_neg (of_decide_eq_false h)]
    dsimp only
    repeat' split
    all_goals exact answers_next _

theorem inServiceFault_onlyMalformed (f : UnitFault) : OnlyMalformed (.inServiceFault f) := by
  refine onlyMalformed_of_guard (bad := decide (14 ≤ f.unit.toNat)) (fun h => ?_) (fun h s => ?_) fun h s => ?_
  · have hu : unitOk f.unit = false := by simpa [unitOk] using h
    simp [Instr.wf, hu]
  · exact if_pos (of_decide_eq_true h)
  · show Answers (execInServiceFault f s)
    rw [execInServiceFault, if_neg (of_decide_eq_false h)]
    exact answers_next _

theorem hostLinkUp_onlyMalformed (port : HostPort) (speed : BitVec 2) (width : BitVec 3) : OnlyMalformed (.hostLinkUp port speed width) := by
  refine onlyMalformed_of_guard (bad := decide (speed = 0 ∨ (width ≠ 1 ∧ width ≠ 2 ∧ width ≠ 4))) (fun h => ?_) (fun h s => ?_) fun h s => ?_
  · have hb := of_decide_eq_true h
    show hostLinkOk speed width = false
    revert speed width
    decide
  · exact if_pos (of_decide_eq_true h)
  · show Answers (execHostLinkUp port speed width s)
    unfold execHostLinkUp
    rw [if_neg (of_decide_eq_false h)]
    dsimp only
    split <;> exact answers_next _

theorem barOk_eq_false (a : BarAccess) (h : (a.write && a.bytes.length != a.enables.length) = true) : barOk a = false := by
  simp only [Bool.and_eq_true, bne_iff_ne] at h
  simp [barOk, h.1, h.2]

/-- A BAR access faults where its enables do not fit its bytes, and answers otherwise where what it performs answers. -/
theorem State.barGate_eq_fault {a : BarAccess} (h : (a.write && a.bytes.length != a.enables.length) = true) (s : State) (bar : Nat)
    (perform : State → Result) : s.barGate a bar perform = .fault .malformedEvent := if_pos h

theorem State.barGate_answers {a : BarAccess} (h : (a.write && a.bytes.length != a.enables.length) = false) (s : State) (bar : Nat)
    {perform : State → Result} (hp : ∀ u, Answers (perform u)) : Answers (s.barGate a bar perform) := by
  rw [State.barGate, if_neg (by simp [h])]
  dsimp only
  split
  · exact answers_next _
  split
  · exact answers_next _
  split
  · exact answers_next _
  · exact hp _

theorem bar2Access_onlyMalformed (a : BarAccess) : OnlyMalformed (.bar2Access a) := by
  refine onlyMalformed_of_guard (bad := a.write && a.bytes.length != a.enables.length) (barOk_eq_false a) (fun h s => ?_) fun h s => ?_
  · show execBar2Access a s = _
    exact State.barGate_eq_fault h s _ _
  · show Answers (execBar2Access a s)
    refine State.barGate_answers h s _ fun u => ?_
    dsimp only
    repeat' split
    all_goals exact answers_next _

theorem bar4Access_onlyMalformed (a : BarAccess) : OnlyMalformed (.bar4Access a) := by
  refine onlyMalformed_of_guard (bad := a.write && a.bytes.length != a.enables.length) (barOk_eq_false a) (fun h s => ?_) fun h s => ?_
  · show execBar4Access a s = _
    exact State.barGate_eq_fault h s _ _
  · show Answers (execBar4Access a s)
    refine State.barGate_answers h s _ fun u => ?_
    dsimp only
    repeat' split
    all_goals exact answers_next _

theorem exec_onlyMalformed (i : Instr) : OnlyMalformed i := by
  cases i with
  | identify _ => exact onlyMalformed_of_answers (fun _ => serve_answers _ _ _ _ _)
  | getState _ => exact onlyMalformed_of_answers (fun _ => serve_answers _ _ _ _ _)
  | setFeature _ => exact onlyMalformed_of_answers (fun _ => serve_answers _ _ _ _ _)
  | getFeature _ => exact onlyMalformed_of_answers (fun _ => serve_answers _ _ _ _ _)
  | echo _ => exact onlyMalformed_of_answers (fun _ => serve_answers _ _ _ _ _)
  | abortCommand _ => exact onlyMalformed_of_answers (fun _ => serve_answers _ _ _ _ _)
  | createCq _ => exact onlyMalformed_of_answers (fun _ => serve_answers _ _ _ _ _)
  | createSq _ => exact onlyMalformed_of_answers (fun _ => serve_answers _ _ _ _ _)
  | deleteSq _ => exact onlyMalformed_of_answers (fun _ => serve_answers _ _ _ _ _)
  | deleteCq _ => exact onlyMalformed_of_answers (fun _ => serve_answers _ _ _ _ _)
  | bindChannel _ => exact onlyMalformed_of_answers (fun _ => serve_answers _ _ _ _ _)
  | unbindChannel _ => exact onlyMalformed_of_answers (fun _ => serve_answers _ _ _ _ _)
  | channelConfig _ => exact onlyMalformed_of_answers (fun _ => serve_answers _ _ _ _ _)
  | channelStart _ => exact onlyMalformed_of_answers (fun _ => serve_answers _ _ _ _ _)
  | channelStop _ => exact onlyMalformed_of_answers (fun _ => serve_answers _ _ _ _ _)
  | channelDrain _ => exact onlyMalformed_of_answers (fun _ => serve_answers _ _ _ _ _)
  | channelReset _ => exact onlyMalformed_of_answers (fun _ => serve_answers _ _ _ _ _)
  | channelStatus _ => exact onlyMalformed_of_answers (fun _ => serve_answers _ _ _ _ _)
  | cueAlloc _ => exact onlyMalformed_of_answers (fun _ => serve_answers _ _ _ _ _)
  | cueFree _ => exact onlyMalformed_of_answers (fun _ => serve_answers _ _ _ _ _)
  | cueSet _ => exact onlyMalformed_of_answers (fun _ => serve_answers _ _ _ _ _)
  | propPoolConfig _ => exact onlyMalformed_of_answers (fun _ => serve_answers _ _ _ _ _)
  | actConfig _ => exact onlyMalformed_of_answers (fun _ => serve_answers _ _ _ _ _)
  | actStart _ => exact onlyMalformed_of_answers (fun _ => serve_answers _ _ _ _ _)
  | actStop _ => exact onlyMalformed_of_answers (fun _ => serve_answers _ _ _ _ _)
  | streamConfig _ => exact onlyMalformed_of_answers (fun _ => serve_answers _ _ _ _ _)
  | linkUp _ => exact onlyMalformed_of_answers (fun _ => serve_answers _ _ _ _ _)
  | linkDown _ => exact onlyMalformed_of_answers (fun _ => serve_answers _ _ _ _ _)
  | pinAssign _ => exact onlyMalformed_of_answers (fun _ => serve_answers _ _ _ _ _)
  | protectPropose _ => exact onlyMalformed_of_answers (fun _ => serve_answers _ _ _ _ _)
  | protectCountersign _ => exact onlyMalformed_of_answers (fun _ => serve_answers _ _ _ _ _)
  | protectWithdraw _ => exact onlyMalformed_of_answers (fun _ => serve_answers _ _ _ _ _)
  | protectRead _ => exact onlyMalformed_of_answers (fun _ => serve_answers _ _ _ _ _)
  | powerState _ => exact onlyMalformed_of_answers (fun _ => serve_answers _ _ _ _ _)
  | memLogRead _ => exact onlyMalformed_of_answers (fun _ => serve_answers _ _ _ _ _)
  | retirePage _ => exact onlyMalformed_of_answers (fun _ => serve_answers _ _ _ _ _)
  | markChip _ => exact onlyMalformed_of_answers (fun _ => serve_answers _ _ _ _ _)
  | scrubConfig _ => exact onlyMalformed_of_answers (fun _ => serve_answers _ _ _ _ _)
  | scrubNow _ => exact onlyMalformed_of_answers (fun _ => serve_answers _ _ _ _ _)
  | runBist _ => exact onlyMalformed_of_answers (fun _ => serve_answers _ _ _ _ _)
  | bistResult _ => exact onlyMalformed_of_answers (fun _ => serve_answers _ _ _ _ _)
  | traceConfig _ => exact onlyMalformed_of_answers (fun _ => serve_answers _ _ _ _ _)
  | traceRead _ => exact onlyMalformed_of_answers (fun _ => serve_answers _ _ _ _ _)
  | timeSet _ => exact onlyMalformed_of_answers (fun _ => serve_answers _ _ _ _ _)
  | timeAdjust _ => exact onlyMalformed_of_answers (fun _ => serve_answers _ _ _ _ _)
  | timeCapture _ => exact onlyMalformed_of_answers (fun _ => serve_answers _ _ _ _ _)
  | patchStage _ => exact onlyMalformed_of_answers (fun _ => serve_answers _ _ _ _ _)
  | patchActivate _ => exact onlyMalformed_of_answers (fun _ => serve_answers _ _ _ _ _)
  | patchList _ => exact onlyMalformed_of_answers (fun _ => serve_answers _ _ _ _ _)
  | configSnapshot _ => exact onlyMalformed_of_answers (fun _ => serve_answers _ _ _ _ _)
  | configRestore _ => exact onlyMalformed_of_answers (fun _ => serve_answers _ _ _ _ _)
  | move _ => exact onlyMalformed_of_answers (fun _ => answers_next _)
  | runScript _ => exact onlyMalformed_of_answers (fun _ => answers_next _)
  | fill _ => exact onlyMalformed_of_answers (fun _ => answers_next _)
  | cue _ => exact onlyMalformed_of_answers (fun _ => answers_next _)
  | callChain _ => exact onlyMalformed_of_answers (fun _ => answers_next _)
  | link _ => exact onlyMalformed_of_answers (fun _ => answers_next _)
  | scriptMove _ => exact onlyMalformed_of_answers (fun _ => answers_next _)
  | move3 _ => exact onlyMalformed_of_answers (fun _ => answers_next _)
  | nop _ => exact onlyMalformed_of_answers (fun _ => answers_next _)
  | seta _ => exact onlyMalformed_of_answers (fun _ => answers_next _)
  | adda _ => exact onlyMalformed_of_answers (fun _ => answers_next _)
  | setk _ => exact onlyMalformed_of_answers (fun _ => answers_next _)
  | addk _ => exact onlyMalformed_of_answers (fun _ => answers_next _)
  | loop _ => exact onlyMalformed_of_answers (fun _ => answers_next _)
  | branch _ => exact onlyMalformed_of_answers (fun _ => answers_next _)
  | endScript _ => exact onlyMalformed_of_answers (fun _ => answers_next _)
  | halt _ => exact onlyMalformed_of_answers (fun _ => answers_next _)
  | waitCue _ => exact onlyMalformed_of_answers (fun _ => answers_next _)
  | waitt _ => exact onlyMalformed_of_answers (fun _ => answers_next _)
  | signal _ => exact onlyMalformed_of_answers (fun _ => answers_next _)
  | fence _ => exact onlyMalformed_of_answers (fun _ => answers_next _)
  | take _ => exact onlyMalformed_of_answers (fun _ => answers_next _)
  | give _ => exact onlyMalformed_of_answers (fun _ => answers_next _)
  | stamp _ => exact onlyMalformed_of_answers (fun _ => answers_next _)
  | irq _ => exact onlyMalformed_of_answers (fun _ => answers_next _)
  | waitTimeout _ => exact onlyMalformed_of_answers (fun _ => execWaitTimeout_answers _ _)
  | takeTimeout _ => exact onlyMalformed_of_answers (fun _ => execTakeTimeout_answers _ _)
  | waittInstant _ => exact onlyMalformed_of_answers (fun _ => execWaittInstant_answers _ _)
  | sqTailDoorbell _ _ _ _ => exact onlyMalformed_of_answers (fun _ => answers_next _)
  | cqHeadDoorbell _ _ _ _ => exact onlyMalformed_of_answers (fun _ => answers_next _)
  | sqEntryFetch _ _ _ _ _ _ => exact onlyMalformed_of_answers (fun _ => execSqEntryFetch_answers _ _ _ _ _ _ _)
  | periodStart _ => exact onlyMalformed_of_answers (fun _ => execPeriodStart_answers _ _)
  | curtain _ => exact onlyMalformed_of_answers (fun _ => execCurtain_answers _ _)
  | callTime => exact onlyMalformed_of_answers (fun _ => execCallTime_answers _)
  | timePaceRelease _ => exact onlyMalformed_of_answers (fun _ => execTimePaceRelease_answers _ _)
  | rateCredit _ => exact onlyMalformed_of_answers (fun _ => execRateCredit_answers _ _)
  | admission _ => exact onlyMalformed_of_answers (fun _ => execAdmission_answers _ _)
  | beat _ => exact onlyMalformed_of_answers (fun _ => execBeat_answers _ _)
  | readDataReturn _ _ _ _ => exact onlyMalformed_of_answers (fun _ => answers_next _)
  | retry _ => exact onlyMalformed_of_answers (fun _ => execRetry_answers _ _)
  | writeArrivalReadback _ _ _ _ _ => exact onlyMalformed_of_answers (fun _ => answers_next _)
  | stopTakesEffect _ => exact onlyMalformed_of_answers (fun _ => execStopTakesEffect_answers _ _)
  | shadowSwap _ => exact onlyMalformed_of_answers (fun _ => execShadowSwap_answers _ _)
  | watchmanScan => exact onlyMalformed_of_answers (fun _ => execWatchmanScan_answers _)
  | prompterStall => exact onlyMalformed_of_answers (fun _ => execPrompterStall_answers _)
  | cfgCrcPass => exact onlyMalformed_of_answers (fun _ => execCfgCrcPass_answers _)
  | proposalExpiry => exact onlyMalformed_of_answers (fun _ => execProposalExpiry_answers _)
  | unlock _ => exact onlyMalformed_of_answers (fun s => s.rowAt_answers _ _)
  | updateStrobe _ => exact onlyMalformed_of_answers (fun s => s.rowAt_answers _ _)
  | timedStrobeArm _ => exact onlyMalformed_of_answers (fun s => s.rowAt_answers _ _)
  | discard _ => exact onlyMalformed_of_answers (fun s => s.rowAt_answers _ _)
  | timedStrobeApply _ => exact onlyMalformed_of_answers (fun _ => answers_next _)
  | cfgRefWrite _ => exact onlyMalformed_of_answers (fun s => s.rowAt_answers _ _)
  | tPropAlloc _ => exact onlyMalformed_of_answers (fun _ => execTPropAlloc_answers _ _)
  | tPropFree _ => exact onlyMalformed_of_answers (fun s => s.rowAt_answers _ _)
  | tCueSet _ => exact onlyMalformed_of_answers (fun s => s.rowAt_answers _ _)
  | traceMark _ => exact onlyMalformed_of_answers (fun s => s.rowAt_answers _ _)
  | softReset _ => exact onlyMalformed_of_answers (fun s => s.rowAt_answers _ _)
  | adminEnable _ => exact onlyMalformed_of_answers (fun s => s.rowAt_answers _ _)
  | adminDisable _ => exact onlyMalformed_of_answers (fun s => s.rowAt_answers _ _)
  | shadowArm _ => exact onlyMalformed_of_answers (fun s => s.rowAt_answers _ _)
  | shadowDisarm _ => exact onlyMalformed_of_answers (fun s => s.rowAt_answers _ _)
  | strobeArm _ => exact onlyMalformed_of_answers (fun s => s.rowAt_answers _ _)
  | ppsOutConfig _ => exact onlyMalformed_of_answers (fun s => s.rowAt_answers _ _)
  | stageManagerDesignation _ => exact onlyMalformed_of_answers (fun s => s.rowAt_answers _ _)
  | memBoardWrite _ => exact onlyMalformed_of_answers (fun s => s.rowAt_answers _ _)
  | apertureMove _ => exact onlyMalformed_of_answers (fun s => s.rowAt_answers _ _)
  | sysrefArm _ => exact onlyMalformed_of_answers (fun s => s.rowAt_answers _ _)
  | prbsErrRead _ => exact onlyMalformed_of_answers (fun _ => execPrbsErrRead_answers _ _)
  | pinOutWrite _ => exact onlyMalformed_of_answers (fun s => s.rowAt_answers _ _)
  | viewWrite _ => exact onlyMalformed_of_answers (fun s => s.rowAt_answers _ _)
  | lowWordRead _ => exact onlyMalformed_of_answers (fun _ => answers_next _)
  | lowWordWrite _ => exact onlyMalformed_of_answers (fun s => s.rowAt_answers _ _)
  | rearm _ => exact onlyMalformed_of_answers (fun s => s.rowAt_answers _ _)
  | registerWrite _ => exact onlyMalformed_of_answers (fun _ => answers_next _)
  | read _ _ _ _ => exact onlyMalformed_of_answers (fun _ => execRead_answers _ _ _ _ _)
  | write _ _ => exact onlyMalformed_of_answers (fun _ => execWrite_answers _ _ _)
  | houseWordPerform => exact onlyMalformed_of_answers (fun _ => answers_next _)
  | status _ _ => exact onlyMalformed_of_answers (fun _ => execStatus_answers _ _ _)
  | mboxPush _ _ => exact onlyMalformed_of_answers (fun _ => execMboxPush_answers _ _ _)
  | mboxPop _ _ => exact onlyMalformed_of_answers (fun _ => execMboxPop_answers _ _ _)
  | bar2Access a => exact bar2Access_onlyMalformed a
  | bar4Access a => exact bar4Access_onlyMalformed a
  | postedWriteDrain _ _ => exact onlyMalformed_of_answers (fun _ => answers_next _)
  | bar3Access _ _ _ _ _ => exact onlyMalformed_of_answers (fun _ => execBar3Access_answers _ _ _ _ _ _)
  | configurationRequest _ => exact onlyMalformed_of_answers (fun _ => execConfigurationRequest_answers _ _)
  | receivedCompletion _ _ _ _ => exact onlyMalformed_of_answers (fun _ => execReceivedCompletion_answers _ _ _ _ _)
  | completionTimeout _ _ => exact onlyMalformed_of_answers (fun _ => execCompletionTimeout_answers _ _ _)
  | lbReadyTimeout => exact onlyMalformed_of_answers (fun _ => execLbReadyTimeout_answers _)
  | perstN _ _ => exact onlyMalformed_of_answers (fun _ => execPerstN_answers _ _ _)
  | hotReset _ => exact onlyMalformed_of_answers (fun _ => execHotReset_answers _ _)
  | pcieLinkDown _ => exact onlyMalformed_of_answers (fun _ => execPcieLinkDown_answers _ _)
  | ppsIn _ => exact onlyMalformed_of_answers (fun _ => execPpsIn_answers _ _)
  | atPpsTimeout => exact onlyMalformed_of_answers (fun _ => execAtPpsTimeout_answers _)
  | slewEnd => exact onlyMalformed_of_answers (fun _ => execSlewEnd_answers _)
  | ppsOut => exact onlyMalformed_of_answers (fun _ => execPpsOut_answers _)
  | strobeEvent _ => exact onlyMalformed_of_answers (fun _ => execStrobeEvent_answers _ _)
  | captureEdge _ _ _ => exact onlyMalformed_of_answers (fun _ => execCaptureEdge_answers _ _ _ _)
  | refclkLoss => exact onlyMalformed_of_answers (fun _ => execRefclkLoss_answers _)
  | refclkReturn => exact onlyMalformed_of_answers (fun _ => answers_next _)
  | pllUnlock => exact onlyMalformed_of_answers (fun _ => execPllUnlock_answers _)
  | dreq p level => exact dreq_onlyMalformed p level
  | cueIn p rise => exact cueIn_onlyMalformed p rise
  | wake p rise => exact wake_onlyMalformed p rise
  | pinSettleEnd _ => exact onlyMalformed_of_answers (fun _ => execPinSettleEnd_answers _ _)
  | rxUnitAppend _ _ _ => exact onlyMalformed_of_answers (fun _ => execRxUnitAppend_answers _ _ _ _)
  | txTake _ _ _ => exact onlyMalformed_of_answers (fun _ => execTxTake_answers _ _ _ _)
  | tdmMasterFrame _ => exact onlyMalformed_of_answers (fun _ => execTdmMasterFrame_answers _ _)
  | tdmFrameSync _ _ => exact onlyMalformed_of_answers (fun _ => execTdmFrameSync_answers _ _ _)
  | tdmLockLoss _ => exact onlyMalformed_of_answers (fun _ => execTdmLockLoss_answers _ _)
  | sysrefEvent _ _ _ => exact onlyMalformed_of_answers (fun _ => execSysrefEvent_answers _ _ _ _)
  | sysrefPulse => exact onlyMalformed_of_answers (fun _ => execSysrefPulse_answers _)
  | devclkStamp _ => exact onlyMalformed_of_answers (fun _ => execDevclkStamp_answers _ _)
  | devclkLoss => exact onlyMalformed_of_answers (fun _ => execDevclkLoss_answers _)
  | codeGroupSync _ => exact onlyMalformed_of_answers (fun _ => execCodeGroupSync_answers _ _)
  | ilas _ _ => exact onlyMalformed_of_answers (fun _ => execIlas_answers _ _ _)
  | frameRelease _ _ => exact onlyMalformed_of_answers (fun _ => execFrameRelease_answers _ _ _)
  | syncinHigh _ => exact onlyMalformed_of_answers (fun _ => execSyncinHigh_answers _ _)
  | syncinLow _ _ => exact onlyMalformed_of_answers (fun _ => execSyncinLow_answers _ _ _)
  | codeGroupError _ => exact onlyMalformed_of_answers (fun _ => execCodeGroupError_answers _ _)
  | laneLockLoss _ => exact onlyMalformed_of_answers (fun _ => execLaneLockLoss_answers _ _)
  | linkUpTimeout _ _ => exact onlyMalformed_of_answers (fun _ => execLinkUpTimeout_answers _ _ _)
  | idleDescent => exact onlyMalformed_of_answers (fun _ => execIdleDescent_answers _)
  | descent => exact onlyMalformed_of_answers (fun _ => execDescent_answers _)
  | exitToLit _ => exact onlyMalformed_of_answers (fun _ => execExitToLit_answers _ _)
  | porN => exact onlyMalformed_of_answers (fun _ => answers_next _)
  | resetN => exact onlyMalformed_of_answers (fun _ => answers_next _)
  | startupStep _ => exact onlyMalformed_of_answers (fun _ => execStartupStep_answers _ _)
  | bootConfirmation => exact onlyMalformed_of_answers (fun _ => execBootConfirmation_answers _)
  | dramScrubRead dc line ecc => exact onlyMalformed_of_answers (execDramScrubRead_answers dc line ecc)
  | sramScrub _ _ _ => exact onlyMalformed_of_answers (fun _ => execSramScrub_answers _ _ _ _)
  | scrubNowDone _ => exact onlyMalformed_of_answers (fun _ => execScrubNowDone_answers _ _)
  | retirementSwitch _ => exact onlyMalformed_of_answers (fun _ => execRetirementSwitch_answers _ _)
  | summaryWrite => exact onlyMalformed_of_answers (fun _ => execSummaryWrite_answers _)
  | refresh _ _ => exact onlyMalformed_of_answers (fun _ => execRefresh_answers _ _ _)
  | dramTemperaturePoll _ => exact onlyMalformed_of_answers (fun _ => execDramTemperaturePoll_answers _ _)
  | thermalSample _ => exact onlyMalformed_of_answers (fun _ => execThermalSample_answers _ _)
  | thermalBudgetUpdate => exact onlyMalformed_of_answers (fun _ => execThermalBudgetUpdate_answers _)
  | lifeWriteback => exact onlyMalformed_of_answers (fun _ => execLifeWriteback_answers _)
  | healthEvaluation => exact onlyMalformed_of_answers (fun _ => execHealthEvaluation_answers _)
  | rotatingTest => exact onlyMalformed_of_answers (fun _ => execRotatingTest_answers _)
  | inServiceFault f => exact inServiceFault_onlyMalformed f
  | handoverSwitch => exact onlyMalformed_of_answers (fun _ => execHandoverSwitch_answers _)
  | bistTestEnd _ _ _ _ _ => exact onlyMalformed_of_answers (fun _ => execBistTestEnd_answers _ _ _ _ _ _)
  | traceExport => exact onlyMalformed_of_answers (fun _ => execTraceExport_answers _)
  | extest => exact onlyMalformed_of_answers (fun _ => answers_next _)
  | idcode => exact onlyMalformed_of_answers (fun _ => answers_next _)
  | samplePreload => exact onlyMalformed_of_answers (fun _ => execSamplePreload_answers _)
  | highz => exact onlyMalformed_of_answers (fun _ => answers_next _)
  | clamp => exact onlyMalformed_of_answers (fun _ => answers_next _)
  | extestPulse => exact onlyMalformed_of_answers (fun _ => answers_next _)
  | extestTrain => exact onlyMalformed_of_answers (fun _ => answers_next _)
  | bypass => exact onlyMalformed_of_answers (fun _ => answers_next _)
  | trstN => exact onlyMalformed_of_answers (fun _ => answers_next _)
  | fetchReturn _ _ _ _ => exact onlyMalformed_of_answers (fun _ => execFetchReturn_answers _ _ _ _ _)
  | longCommandFinish _ _ => exact onlyMalformed_of_answers (fun _ => execLongCommandFinish_answers _ _ _)
  | resetProofTimeout _ => exact onlyMalformed_of_answers (fun _ => execResetProofTimeout_answers _ _)
  | hostLinkUp port speed width => exact hostLinkUp_onlyMalformed port speed width
  | unlockWindowExpiry _ _ => exact onlyMalformed_of_answers (fun _ => execUnlockWindowExpiry_answers _ _ _)
  | pulseEnd _ => exact onlyMalformed_of_answers (fun _ => execPulseEnd_answers _ _)
  | pinParkEnd _ => exact onlyMalformed_of_answers (fun _ => execPinParkEnd_answers _ _)
  | lbBeatEnd _ => exact onlyMalformed_of_answers (fun _ => execLbBeatEnd_answers _ _)
  | writeBurstComplete _ _ _ => exact onlyMalformed_of_answers (fun _ => execWriteBurstComplete_answers _ _ _ _)
  | laneLock _ => exact onlyMalformed_of_answers (fun _ => execLaneLock_answers _ _)
  | misplacedAlignmentCharacter _ => exact onlyMalformed_of_answers (fun _ => execMisplacedAlignmentCharacter_answers _ _)
  | devclkReturn => exact onlyMalformed_of_answers (fun _ => execDevclkReturn_answers _)
  | lmfcBoundary _ => exact onlyMalformed_of_answers (fun _ => execLmfcBoundary_answers _ _)

/-- Settles O7. -/
theorem onlyMalformedFaults : Obligations.OnlyMalformedFaults := by
  unfold Obligations.OnlyMalformedFaults
  exact exec_onlyMalformed

end Sys2Proof.Machine
end

section
/-! PROOF. What a clock cycle counts and what it leaves (R49, R67, log entry 2). -/

namespace Sys2Proof.Machine

/-! ### What a tick leaves (log entry 2) -/

/-- What a clock cycle leaves as it is. -/
structure TickKeeps (s t : State) : Prop where
  mem : t.mem = s.mem
  chans : t.chans = s.chans
  tenants : t.tenants = s.tenants
  prot : t.prot = s.prot
  house : t.house = s.house
  out : t.out = s.out
  pending : t.pending = s.pending

/-- What the local bus, the idle timer and the trace leave of a state within a clock cycle. -/
structure EdgeKeeps (s t : State) : Prop extends TickKeeps s t where
  tb : t.tb = s.tb
  edgeSignals : t.edgeSignals = s.edgeSignals
  edgeBits : t.edgeBits = s.edgeBits

theorem EdgeKeeps.refl (s : State) : EdgeKeeps s s := ⟨⟨rfl, rfl, rfl, rfl, rfl, rfl, rfl⟩, rfl, rfl, rfl⟩

theorem EdgeKeeps.trans {s t u : State} (h : EdgeKeeps s t) (k : EdgeKeeps t u) : EdgeKeeps s u :=
  ⟨⟨k.mem.trans h.mem, k.chans.trans h.chans, k.tenants.trans h.tenants, k.prot.trans h.prot, k.house.trans h.house, k.out.trans h.out,
    k.pending.trans h.pending⟩, k.tb.trans h.tb, k.edgeSignals.trans h.edgeSignals, k.edgeBits.trans h.edgeBits⟩

theorem State.applyAt_dev_keeps (s : State) (p : Nat) : EdgeKeeps s (s.applyAt (.dev p)) := by
  unfold State.applyAt
  split <;> exact ⟨⟨rfl, rfl, rfl, rfl, rfl, rfl, rfl⟩, rfl, rfl, rfl⟩

theorem State.applyLb_keeps (s : State) : EdgeKeeps s s.applyLb := by
  unfold State.applyLb
  split
  · have h := ((s.applyAt_dev_keeps 0x2000).trans (State.applyAt_dev_keeps _ 0x2010)).trans (State.applyAt_dev_keeps _ 0x2018)
    exact h.trans ⟨⟨rfl, rfl, rfl, rfl, rfl, rfl, rfl⟩, rfl, rfl, rfl⟩
  · exact ⟨⟨rfl, rfl, rfl, rfl, rfl, rfl, rfl⟩, rfl, rfl, rfl⟩

theorem State.freeLb_keeps (s : State) : EdgeKeeps s s.freeLb := by
  unfold State.freeLb
  split
  · split
    · exact s.applyLb_keeps.trans ⟨⟨rfl, rfl, rfl, rfl, rfl, rfl, rfl⟩, rfl, rfl, rfl⟩
    · exact ⟨⟨rfl, rfl, rfl, rfl, rfl, rfl, rfl⟩, rfl, rfl, rfl⟩
  · exact .refl s

theorem State.freeLb_dev {s : State} (h : s.lbDue = false) : s.freeLb.dev = s.dev := by
  unfold State.freeLb
  rw [h]
  split <;> rfl

/-- The idle timer is a note of the power state alone. -/
theorem State.watchIdle_eq (s : State) : ∃ p, s.watchIdle = { s with power := p } := by
  unfold State.watchIdle
  (repeat' split) <;> exact ⟨_, rfl⟩

/-- A tick: the counted time base, what the local bus does, and the forgotten signals and bits of the last edges. -/
theorem tick_eq (s : State) : ∃ (tr : Trace) (p : Power),
    let u := ({ s with tb := s.tb.tick, trace := tr, power := p } : State).freeLb
    let v : State := if u.coreEdge = s.coreEdge then u else { u with edgeSignals := [] }
    tick s = if s.tb.tick.tbPhase = 0 then v.sampleBits else v := by
  unfold tick
  extract_lets t s1 s2 s3 s4
  obtain ⟨tr, h2⟩ : ∃ tr, s2 = { s with tb := s.tb.tick, trace := tr } := by
    by_cases h : t.tbPhase % 3 = 0
    · exact ⟨_, if_pos h⟩
    · exact ⟨_, if_neg h⟩
  obtain ⟨p, hp⟩ := s2.watchIdle_eq
  rw [h2] at hp
  refine ⟨tr, p, ?_⟩
  have h3 : s3 = State.freeLb { s with tb := s.tb.tick, trace := tr, power := p } := by
    rw [← hp, ← h2]
  rw [← h3]

theorem tick_keeps (s : State) : TickKeeps s (tick s) ∧ (tick s).tb = s.tb.tick := by
  obtain ⟨tr, p, ht⟩ := tick_eq s
  have hu := State.freeLb_keeps { s with tb := s.tb.tick, trace := tr, power := p }
  rw [ht]
  split <;> split <;> exact ⟨⟨hu.mem, hu.chans, hu.tenants, hu.prot, hu.house, hu.out, hu.pending⟩, hu.tb⟩

theorem tick_dev {s : State} (h : s.lbDue = false) : (tick s).dev = s.dev := by
  obtain ⟨tr, p, ht⟩ := tick_eq s
  have hu := State.freeLb_dev (s := { s with tb := s.tb.tick, trace := tr, power := p }) h
  rw [ht]
  split <;> split <;> exact hu

@[simp] theorem State.sampleBits_coreEdge (s : State) : s.sampleBits.coreEdge = s.coreEdge := rfl

@[simp] theorem State.sampleBits_edgeSignals (s : State) : s.sampleBits.edgeSignals = s.edgeSignals := rfl

theorem tick_edgeSignals {s : State} (h : (tick s).coreEdge ≠ s.coreEdge) : (tick s).edgeSignals = [] := by
  obtain ⟨tr, p, ht⟩ := tick_eq s
  dsimp only at ht
  rw [ht] at h ⊢
  generalize State.freeLb _ = u at h ⊢
  by_cases hc : u.coreEdge = s.coreEdge
  · rw [if_pos hc] at h
    exact absurd (by split <;> exact hc) h
  · rw [if_neg hc]
    split <;> rfl

theorem tick_edgeBits {s : State} (h : (tick s).tb.tbPhase ≠ 0) : (tick s).edgeBits = s.edgeBits := by
  obtain ⟨tr, p, ht⟩ := tick_eq s
  have hu := State.freeLb_keeps { s with tb := s.tb.tick, trace := tr, power := p }
  rw [(tick_keeps s).2] at h
  rw [ht]
  rw [if_neg h]
  split <;> exact hu.edgeBits

theorem TimeBase.tick_coasting {t : TimeBase} (h : t.refclkPresent = false) : t.tick = t := by
  simp [TimeBase.tick, h]

theorem TimeBase.tick_locked {t : TimeBase} (hr : t.refclkPresent = true) (hl : t.pllLock = true) : t.tick = t.fineTick := by
  simp [TimeBase.tick, hr, hl]

/-- A CLK_TB cycle counts 16 ticks and goes on to the next phase. -/
theorem TimeBase.fineTick_fields (t : TimeBase) : t.fineTick.time = (t.count 16).time ∧ t.fineTick.acc = (t.count 16).acc ∧
    t.fineTick.slewLeft = (t.count 16).slewLeft ∧ t.fineTick.tbPhase = if t.tbPhase < 23 then t.tbPhase + 1 else 0 := by
  unfold TimeBase.fineTick
  dsimp only
  split <;> exact ⟨rfl, rfl, rfl, rfl⟩

/-- Settles O2. -/
theorem stepIdleTicks : Obligations.StepIdleTicks := by
  unfold Obligations.StepIdleTicks
  intro s hq
  obtain ⟨hk, htb⟩ := tick_keeps s
  refine ⟨tick s, by rw [step, hq], fun hr => ?_, fun hr hl => ?_, tick_dev, tick_edgeSignals, tick_edgeBits,
    hk.mem, hk.chans, hk.tenants, hk.prot, hk.house, hk.out, hk.pending.trans hq⟩
  · rw [htb, TimeBase.tick_coasting hr]
  · rw [htb, TimeBase.tick_locked hr hl]
    obtain ⟨htime, hacc, hslew, hphase⟩ := s.tb.fineTick_fields
    intro corr sum
    have hsum : (s.tb.acc.toNat : Int) + ((16 : Nat) : Int) * 2 ^ 40 + (s.tb.extra 16).1 = sum := (Int.add_assoc _ _ _).symm
    rw [htime, hacc, hslew, hphase, ← hsum]
    exact ⟨rfl, rfl, rfl, rfl⟩

end Sys2Proof.Machine
end

section
/-! PROOF. What a register write that lands leaves, and the first write of DEV_STAGE_MANAGER (R131 to R148, R193). -/

namespace Sys2Proof.Machine

theorem baseOf_mod_eight (off : BitVec 18) : baseOf off % 8 = off.toNat % 8 := by
  unfold baseOf
  omega

theorem State.regAt_home {s : State} {via : Via} {page : Page} {off : BitVec 18} {h : Home} {r : RegSpec}
    (hr : s.regAt via page off = some (h, r)) : s.home page (baseOf off) = some h ∧ s.specAt h = some r := by
  unfold State.regAt at hr
  simp only [Option.ite_none_left_eq_some] at hr
  obtain ⟨-, hr⟩ := hr
  split at hr
  · exact nomatch hr
  next h' hh =>
  split at hr
  · exact nomatch hr
  next r' hs =>
  simp only [Option.ite_none_right_eq_some, Option.some.injEq, Prod.mk.injEq] at hr
  obtain ⟨-, rfl, rfl⟩ := hr
  exact ⟨hh, hs⟩

/-- A write that no judgement, guard or WONCE turns away reaches the copies, and then brings about what it does. -/
theorem State.commitWrite_of_takes {s : State} {w : Write} (hj : s.judgeWrite w = .takes) (ho : w.onceHit = false)
    (hg : w.guardHit = true → s.isOpen w.page w.via = true) (held : Bool) :
    let u := if w.guardHit then s.closePage w.page w.via else s
    s.commitWrite w held = ((u.store1 (u.eventsWin w)).afterWrite (u.eventsWin w), false) := by
  unfold State.commitWrite
  rw [hj]
  dsimp only
  cases hw : w.guardHit with
  | false => simp [State.takeWrite, ho]
  | true => simp [State.takeWrite, ho, hg hw]

section
variable {a : RegWrite} {s : State} {h : Home} {r : RegSpec}

theorem Lands.commitWrite (l : Lands a s h r) (held : Bool) :
    (s.arrival a.via).commitWrite (s.written a h r) held = ((s.landing a h r).afterWrite (s.performed a h r), false) :=
  State.commitWrite_of_takes l.takes l.once l.guarded held

/-- A 4-byte write to a register that is no 64-bit one is committed at once. -/
theorem State.write4_narrow {u : State} (hat : u.regAt a.via a.page a.off = some (h, r)) (hw : r.wide = false) (h4 : a.eight = false) :
    u.write4 a.via a.page a.off (lo32 a.data) = u.commitWrite (u.writeOf a.via a.page a.off h r [partOf a]) false := by
  unfold State.write4
  rw [hat]
  simp only [hw, Bool.not_false, if_true, baseOf_mod_eight]
  unfold partOf
  simp only [h4, Bool.false_eq_true, if_false]
  split <;> simp_all

theorem Lands.write4 (l : Lands a s h r) (h4 : a.eight = false) :
    (s.arrival a.via).write4 a.via a.page a.off (lo32 a.data) = ((s.landing a h r).afterWrite (s.performed a h r), false) := by
  rw [State.write4_narrow l.there (l.whole ▸ h4) h4]
  exact l.commitWrite false

theorem Lands.onlyFour (l : Lands a s h r) (h8 : a.eight = true) : (s.arrival a.via).onlyFour a.page a.off = false := by
  obtain ⟨hh, hs⟩ := State.regAt_home l.there
  have ho : r.only4 = false := by
    cases hr : r.only4 with
    | false => rfl
    | true => exact absurd (l.only hr) (by simp [h8])
  unfold State.onlyFour
  simp only [hh, hs, ho, Bool.or_false]
  split
  · rfl
  · exact l.bell h8

theorem Lands.write8 (l : Lands a s h r) (h8 : a.eight = true) :
    (s.arrival a.via).write8 a.via a.page a.off h r a.data = ((s.landing a h r).afterWrite (s.performed a h r), false) := by
  have hc := l.commitWrite false
  unfold State.written partOf at hc
  rw [if_pos h8] at hc
  unfold State.write8
  rw [l.noHalf]
  exact hc

theorem Lands.regWrite (l : Lands a s h r) :
    (s.arrival a.via).regWrite a.via a.page a.off a.eight a.data = ((s.landing a h r).afterWrite (s.performed a h r), false) := by
  unfold State.regWrite
  rw [if_neg (by simp [l.size])]
  cases h8 : a.eight with
  | false => exact l.write4 h8
  | true =>
    rw [if_neg (by simp), if_neg (by simp [l.onlyFour h8]), l.there]
    have hw : r.wide = true := l.whole ▸ h8
    simpa [hw] using l.write8 h8

/-- A register write that reaches its port's pages is performed in the state of its arrival. -/
theorem State.writeRow_eq (hreach : s.reaches a.via = true) (hopen : (s.touched a.via).barsShut = false) (hodd : a.odd = false) :
    s.writeRow a = ((s.arrival a.via).regWrite a.via a.page a.off a.eight a.data).1.writeEnd a.via a.page a.off
      ((s.arrival a.via).regWrite a.via a.page a.off a.eight a.data).2 := by
  unfold State.writeRow State.requestWrite State.arrival
  rw [if_neg (by simp [hreach])]
  simp only [hopen, Bool.false_eq_true, if_false, hodd] <;> rfl

/-- A register write that lands leaves what its effect leaves of the state in which the copies hold it. -/
theorem Lands.writeRow (l : Lands a s h r) : s.writeRow a = (s.landing a h r).afterWrite (s.performed a h r) := by
  rw [State.writeRow_eq l.reaches l.answers l.even, l.regWrite]
  rfl

/-- A row at whose place the write is runs it. -/
theorem Lands.rowAt (l : Lands a s h r) {here : Bool} (hh : here = true) :
    s.rowAt here a = .next ((s.landing a h r).afterWrite (s.performed a h r)) := by
  rw [State.rowAt, if_pos hh, l.writeRow]

end

/-! ### The first write of DEV_STAGE_MANAGER (R193, R194) -/

/-- A 4-byte write that reaches DEV_STAGE_MANAGER names its WONCE field, no guarded one, and is turned away by no judgement. -/
theorem State.commitWrite_designation {u : State} {w : Write} {r : RegSpec} (hr : devSpec 0x68 = some r)
    (hw : w.home = .dev 0x68) (hs : w.spec = r) (hsel : w.sel = bits 31 0) (hplain : w.plain = bits 31 0)
    (hv : w.via = .house) (hd : u.devState = .houseOnly) (hm : u.prot.designated = false) (held : Bool) :
    u.commitWrite w held = (u.designate w.new, false) := by
  have hspec : r = { hi := true, once := bits 4 0, wo := bits 63 32, guarded := bits 63 32, only4 := true, houseHi := true } := by
    simpa [devSpec, devSpecLow] using hr.symm
  have hjudge : u.judgeWrite w = .takes := by simp [State.judgeWrite, hw, State.judgeDev]
  have honce : w.onceHit = true := by
    rw [Write.onceHit, hs, hspec, hsel]
    decide
  have hguard : w.guardHit = false := by
    rw [Write.guardHit, hs, hspec, hplain]
    generalize w.old ^^^ w.new = x
    have h0 : x &&& bits 63 32 &&& ~~~(bits 63 32) = 0 := by
      rw [BitVec.and_assoc, BitVec.and_not_self]; exact BitVec.and_zero
    simp only [h0]
    decide
  unfold State.commitWrite
  simp [hjudge, hguard, State.takeWrite, honce, hw, hv, hd, hm]

theorem stageManagerDesignation_runs {a : RegWrite} {s : State} {r : RegSpec} (hreach : s.reaches a.via = true)
    (hopen : (s.touched a.via).barsShut = false) (hodd : a.odd = false) (hat : (s.arrival a.via).regAt a.via .device a.off = some (.dev 0x68, r))
    (hpage : a.page = .device) (hoff : a.off = 0x68) (h4 : a.eight = false) (hv : a.via = .house)
    (hd : (s.arrival a.via).devState = .houseOnly) (hm : (s.arrival a.via).prot.designated = false) :
    exec (.stageManagerDesignation a) s = .next ((s.arrival a.via).designate
      ((s.arrival a.via).writeOf a.via a.page a.off (.dev 0x68) r [⟨0, (lo32 a.data).zeroExtend 64, bits 31 0⟩]).new) := by
  have hspec : devSpec 0x68 = some r := (State.regAt_home hat).2
  have hwide : r.wide = false := by
    have := hspec
    simp [devSpec, devSpecLow] at this
    rw [← this]
  have hhere : (onDevice a 0x68 && decide (baseOf a.off % 8 = 0)) = true := by
    simp [onDevice, hpage, placeOf, hoff, baseOf]
  have hpart : partOf a = ⟨0, (lo32 a.data).zeroExtend 64, bits 31 0⟩ := by
    simp [partOf, h4, hoff, viewOf]
  have hrun : (s.arrival a.via).regWrite a.via a.page a.off a.eight a.data =
      (s.arrival a.via).commitWrite ((s.arrival a.via).writeOf a.via a.page a.off (.dev 0x68) r [partOf a]) false := by
    rw [State.regWrite, if_neg (by simp [hoff, h4, sizeOk]), if_pos (by simp [h4])]
    exact State.write4_narrow (hpage ▸ hat) hwide h4
  rw [hpart, State.commitWrite_designation hspec rfl rfl (by simp [State.writeOf]) (by simp [State.writeOf]) hv hd hm] at hrun
  show s.rowAt _ a = _
  rw [State.rowAt, if_pos hhere, State.writeRow_eq hreach hopen hodd, hrun]
  rfl

/-- A register read that reaches its port's pages ends with what the register read gives. -/
theorem State.requestRead_eq {s : State} {a : RegRead} (hreach : s.reaches a.via = true) (hopen : (s.touched a.via).barsShut = false)
    (hodd : a.odd = false) : s.requestRead a = State.readDone ((s.arrival a.via).regRead a.via a.page a.off a.eight) a.via a.eight := by
  unfold State.requestRead State.arrival
  rw [if_neg (by simp [hreach])]
  simp only [hopen, Bool.and_false, Bool.false_eq_true, if_false, hodd] <;> rfl

/-- Settles O59. -/
theorem registerRowsComplete : Obligations.RegisterRowsComplete := by
  unfold Obligations.RegisterRowsComplete
  refine ⟨fun a s h r l => ?_, ?_, ?_, ?_⟩
  · exact ⟨congrArg _ l.writeRow, l.rowAt, l.rowAt, l.rowAt, l.rowAt, l.rowAt, l.rowAt, l.rowAt, l.rowAt, l.rowAt, l.rowAt, l.rowAt, l.rowAt, l.rowAt, l.rowAt, l.rowAt, l.rowAt, l.rowAt, l.rowAt, l.rowAt, l.rowAt, l.rowAt, l.rowAt⟩
  · intro a s r u hreach hopen hodd hat hpage hview hoff h4 hv hd hm
    exact stageManagerDesignation_runs hreach hopen hodd hat hpage hoff h4 hv hd hm
  · intro a s hreach hopen hodd
    have hrun := congrArg (Host.Outcome.next (φ := Fault) (ρ := Refusal)) (State.requestRead_eq hreach hopen hodd)
    refine ⟨hrun, fun t hpage hbase => ?_, fun hpage hbase => ?_⟩
    · show execTPropAlloc a s = _
      simp only [execTPropAlloc, hpage, hbase, if_true]
      rw [← hpage]
      exact hrun
    · show execPrbsErrRead a s = _
      simp only [execPrbsErrRead, hpage, hbase, if_true]
      rw [← hpage]
      exact hrun
  · intro page s h
    exact congrArg _ (if_pos h)

end Sys2Proof.Machine
end

section
/-! PROOF. SAMPLE/PRELOAD under an instruction that takes the pins (R810, R812, R813). -/

namespace Sys2Proof.Machine

/-- HIGHZ holds the pins while MFP3 carries GPIO_OUT with its latch at 1: what SAMPLE/PRELOAD captures is not what the part drives once the instruction is in the TAP. -/
def floatingOutput : State :=
  { (State.reset.setDevBoth (0x800 + 8 * 3) 2).setDevReg 0x0988 8 with jtag := { instr := .highz } }

theorem floatingOutput_sampled : floatingOutput.boundary.getLsbD 3 = false ∧ (floatingOutput.tap .samplePreload).boundary.getLsbD 3 = true := by
  decide +kernel

/-- Refutes O60, in the clause on SAMPLE/PRELOAD: the command captures the levels as they stand while the instruction before it still holds the pins. -/
theorem not_eventsComplete : ¬ Obligations.EventsComplete := by
  unfold Obligations.EventsComplete
  intro h
  obtain ⟨-, -, -, -, -, -, -, -, -, -, -, -, -, -, -, -, -, -, -, -, -, -, -, -, -, -, -, -, -, -, hsample, -⟩ := h floatingOutput
  have hcells : floatingOutput.boundary = (floatingOutput.tap .samplePreload).boundary :=
    congrArg (fun r : Result => match r with | .next t => t.jtag.sampled | _ => 0) hsample
  obtain ⟨hbefore, hafter⟩ := floatingOutput_sampled
  rw [hcells, hafter] at hbefore
  exact nomatch hbefore

end Sys2Proof.Machine
end

section
/-! PROOF. What a register write that lands leaves in the copies of its register, and what it leaves everywhere else (R126 to R131, R153 to R155). -/

namespace Sys2Proof.Machine

/-! ### What a register write leaves outside its page -/

/-- From `s` to `t` only the device page, the tenants and the channels may change. -/
def OnlyPages (s t : State) : Prop := t = { s with dev := t.dev, tenants := t.tenants, chans := t.chans }

theorem OnlyPages.refl (s : State) : OnlyPages s s := rfl

theorem OnlyPages.trans {s t u : State} (h : OnlyPages s t) (k : OnlyPages t u) : OnlyPages s u := by
  unfold OnlyPages at *
  rw [k, h]

theorem State.updCtl_onlyPages (s : State) (page : Page) (f : PageCtl → PageCtl) : OnlyPages s (s.updCtl page f) := by
  cases page <;> rfl

theorem State.updStaged_onlyPages (s : State) (h : Home) (f : Staged → Staged) : OnlyPages s (s.updStaged h f) := by
  cases h <;> rfl

theorem State.closePage_onlyPages (s : State) (page : Page) (via : Via) : OnlyPages s (s.closePage page via) :=
  s.updCtl_onlyPages _ _

theorem State.markPending_onlyPages (s : State) (w : Write) : OnlyPages s (s.markPending w) := by
  unfold State.markPending
  split
  · exact .refl s
  · split
    · rfl
    · split
      · exact s.updCtl_onlyPages _ _
      · exact .refl s

theorem State.store1_onlyPages (s : State) (w : Write) : OnlyPages s (s.store1 w) := by
  unfold State.store1
  split
  · rfl
  · exact (s.updStaged_onlyPages _ _).trans (State.markPending_onlyPages _ _)

theorem State.opened_onlyPages (s : State) (a : RegWrite) (h : Home) (r : RegSpec) : OnlyPages (s.arrival a.via) (s.opened a h r) := by
  unfold State.opened
  split
  · exact State.closePage_onlyPages _ _ _
  · exact .refl _

theorem State.landing_onlyPages (s : State) (a : RegWrite) (h : Home) (r : RegSpec) : OnlyPages (s.arrival a.via) (s.landing a h r) :=
  (s.opened_onlyPages a h r).trans (State.store1_onlyPages _ _)

/-! ### The copies of a register -/

@[simp] theorem State.updCtl_devRegs (s : State) (page : Page) (f : PageCtl → PageCtl) : (s.updCtl page f).dev.regs = s.dev.regs := by
  cases page <;> rfl

@[simp] theorem State.updCtl_chans (s : State) (page : Page) (f : PageCtl → PageCtl) : (s.updCtl page f).chans = s.chans := by
  cases page <;> rfl

@[simp] theorem State.updCtl_tenantRegs (s : State) (page : Page) (f : PageCtl → PageCtl) (t : TenantId) :
    ((s.updCtl page f).tenants.look t).regs = (s.tenants.look t).regs := by
  cases page with
  | device => rfl
  | tenant u => by_cases hu : u = t <;> simp [State.updCtl, State.updTenant, Tbl.look_upd, hu]

theorem State.updCtl_otherTenant (s : State) {page : Page} (f : PageCtl → PageCtl) {t : TenantId} (h : page ≠ .tenant t) :
    (s.updCtl page f).tenants.look t = s.tenants.look t := by
  cases page with
  | device => rfl
  | tenant u =>
    have hu : u ≠ t := fun e => h (e ▸ rfl)
    simp [State.updCtl, State.updTenant, Tbl.look_upd, hu]

@[simp] theorem State.updCtl_staged (s : State) (page : Page) (f : PageCtl → PageCtl) (h : Home) : (s.updCtl page f).staged h = s.staged h := by
  cases h <;> simp [State.staged, State.chan]

@[simp] theorem State.updStaged_staged_same (s : State) (h : Home) (f : Staged → Staged) : (s.updStaged h f).staged h = f (s.staged h) := by
  cases h <;> simp [State.updStaged, State.staged]

@[simp] theorem State.updDirty_chanRegs (s : State) (c d : ChanId) : ((s.updChan c fun n => { n with dirty := true }).chan d).regs = (s.chan d).regs := by
  by_cases h : c = d
  · rw [h, State.chan_updChan_same]
  · rw [State.chan_updChan_other _ _ h]

@[simp] theorem State.markPending_staged (s : State) (w : Write) (h : Home) : (s.markPending w).staged h = s.staged h := by
  unfold State.markPending
  split
  · rfl
  · split
    · cases h <;> simp [State.staged]
    · split
      · simp
      · rfl

@[simp] theorem State.opened_staged (s : State) (a : RegWrite) (h k : Home) (r : RegSpec) :
    (s.opened a h r).staged k = (s.arrival a.via).staged k := by
  unfold State.opened State.closePage
  split <;> simp

/-- A register of the store takes the write, where the write is no write of T_PIN_OUT. -/
theorem State.store1_eq (s : State) (w : Write) (hn : ∀ t, w.home ≠ .ten t 0x98) : s.store1 w = (s.updStaged w.home w.stored).markPending w := by
  unfold State.store1
  split
  · next t heq => exact absurd heq (hn t)
  · rfl

theorem State.landing_staged (s : State) (a : RegWrite) (h : Home) (r : RegSpec) (hn : ∀ t, h ≠ .ten t 0x98) :
    (s.landing a h r).staged h = (s.performed a h r).stored ((s.arrival a.via).staged h) := by
  unfold State.landing
  rw [State.store1_eq _ _ hn, State.markPending_staged]
  exact (State.updStaged_staged_same _ h _).trans (by rw [State.opened_staged])

/-! ### The bits that a write leaves -/

section
variable (w : Write) (x : Staged)

theorem Write.stored_pend : (w.stored x).pend = (x.pend &&& ~~~w.spec.stg) ||| ((w.stored x).pend &&& w.spec.stg) := by
  simp only [Write.stored]
  generalize (if w.home = .dev 0xBC0 then w.new ||| traceAlways else w.new) = v
  ext i
  simp
  grind

theorem Write.stored_act_other : (w.stored x).act &&& ~~~(w.spec.imm ||| w.spec.once ||| w.spec.w1c) = x.act &&& ~~~(w.spec.imm ||| w.spec.once ||| w.spec.w1c) := by
  simp only [Write.stored]
  ext i
  simp
  grind

theorem Write.stored_act_w1c (h : w.spec.w1c &&& (w.spec.imm ||| w.spec.once) = 0) :
    (w.stored x).act &&& w.spec.w1c = x.act &&& w.spec.w1c &&& ~~~w.ones := by
  simp only [Write.stored]
  ext i hi
  have hb := congrArg (fun y : Word => y.getLsbD i) h
  simp at hb ⊢
  grind

theorem Write.stored_act_imm (h : w.home ≠ .dev 0xBC0) :
    (w.stored x).act &&& (w.spec.imm &&& ~~~w.spec.w1c) = w.new &&& (w.spec.imm &&& ~~~w.spec.w1c) := by
  simp only [Write.stored, if_neg h]
  ext i
  simp
  grind

end

/-! ### The registers that a write does not name -/

/-- Every register but that at the home stays, on a tenant page with everything of the other tenants, in a slot with every other channel. -/
def RegsElse (h : Home) (s t : State) : Prop :=
  match h with
  | .dev p => ∀ i, i ≠ BitVec.ofNat 11 (p / 8) → t.dev.regs.look i = s.dev.regs.look i
  | .ten u p => t.dev.regs = s.dev.regs ∧ (∀ i, i ≠ BitVec.ofNat 9 (p / 8) → (t.tenants.look u).regs.look i = (s.tenants.look u).regs.look i) ∧
      ∀ u', u' ≠ u → t.tenants.look u' = s.tenants.look u'
  | .chan _ c p => t.dev.regs = s.dev.regs ∧ (∀ i, i ≠ BitVec.ofNat 5 (p / 8) → (t.chan c).regs.look i = (s.chan c).regs.look i) ∧
      ∀ d, d ≠ c → t.chan d = s.chan d

theorem RegsElse.refl (h : Home) (s : State) : RegsElse h s s := by
  cases h with
  | dev p => exact fun _ _ => rfl
  | ten u p => exact ⟨rfl, fun _ _ => rfl, fun _ _ => rfl⟩
  | chan u c p => exact ⟨rfl, fun _ _ => rfl, fun _ _ => rfl⟩

theorem RegsElse.trans {h : Home} {s t u : State} (k : RegsElse h s t) (l : RegsElse h t u) : RegsElse h s u := by
  cases h with
  | dev p => exact fun i hi => (l i hi).trans (k i hi)
  | ten x p => exact ⟨l.1.trans k.1, fun i hi => (l.2.1 i hi).trans (k.2.1 i hi), fun u hu => (l.2.2 u hu).trans (k.2.2 u hu)⟩
  | chan x c p => exact ⟨l.1.trans k.1, fun i hi => (l.2.1 i hi).trans (k.2.1 i hi), fun u hu => (l.2.2 u hu).trans (k.2.2 u hu)⟩

theorem State.home_page {s : State} {page : Page} {base : Nat} {h : Home} (hh : s.home page base = some h) :
    match h with
    | .dev _ => page = .device
    | .ten t _ => page = .tenant t
    | .chan t _ _ => page = .tenant t := by
  unfold State.home at hh
  cases page with
  | device =>
    simp only [Option.ite_none_right_eq_some, Option.some.injEq] at hh
    obtain ⟨-, rfl⟩ := hh
    rfl
  | tenant t =>
    dsimp only at hh
    split at hh
    · cases hh
      rfl
    · split at hh
      · obtain ⟨c, -, rfl⟩ := Option.map_eq_some_iff.mp hh
        rfl
      · exact nomatch hh

theorem State.updCtl_regsElse (s : State) {page : Page} (f : PageCtl → PageCtl) {h : Home} (hp : ∀ t p, h = .ten t p → page = .tenant t) :
    RegsElse h s (s.updCtl page f) := by
  cases h with
  | dev p => exact fun i _ => by simp
  | ten u p =>
    refine ⟨by simp, fun i _ => by simp, fun u' hu => s.updCtl_otherTenant f ?_⟩
    rw [hp u p rfl]
    exact fun e => hu (Page.tenant.inj e).symm
  | chan u c p => exact ⟨by simp, fun i _ => by simp [State.chan], fun d _ => by simp [State.chan]⟩

theorem State.updStaged_regsElse (s : State) (h : Home) (f : Staged → Staged) : RegsElse h s (s.updStaged h f) := by
  cases h with
  | dev p => exact fun i hi => Tbl.look_upd_other _ _ (Ne.symm hi)
  | ten u p =>
    refine ⟨rfl, fun i hi => ?_, fun u' hu => Tbl.look_upd_other _ _ (Ne.symm hu)⟩
    simp [State.updStaged, Tbl.look_upd_other _ _ (Ne.symm hi)]
  | chan u c p =>
    refine ⟨rfl, fun i hi => ?_, fun d hd => Tbl.look_upd_other _ _ (Ne.symm hd)⟩
    simp [State.updStaged, Tbl.look_upd_other _ _ (Ne.symm hi)]

theorem State.markPending_regsElse (s : State) (w : Write) (hp : ∀ t p, w.home = .ten t p → w.page = .tenant t) :
    RegsElse w.home s (s.markPending w) := by
  unfold State.markPending
  split
  · exact .refl _ s
  · split
    · next heq =>
      rw [heq]
      exact ⟨rfl, fun i _ => by simp, fun d hd => State.chan_updChan_other _ _ (Ne.symm hd)⟩
    · split
      · exact s.updCtl_regsElse _ hp
      · exact .refl _ s

theorem Lands.page {a : RegWrite} {s : State} {h : Home} {r : RegSpec} (l : Lands a s h r) : ∀ t p, h = .ten t p → a.page = .tenant t := by
  rintro t p rfl
  exact State.home_page (State.regAt_home l.there).1

theorem Lands.regsElse {a : RegWrite} {s : State} {h : Home} {r : RegSpec} (l : Lands a s h r) (hn : ∀ t, h ≠ .ten t 0x98) :
    RegsElse h (s.arrival a.via) (s.landing a h r) := by
  have hopen : RegsElse h (s.arrival a.via) (s.opened a h r) := by
    unfold State.opened
    split
    · exact State.updCtl_regsElse _ _ l.page
    · exact .refl _ _
  unfold State.landing
  rw [State.store1_eq _ _ hn]
  exact (hopen.trans (State.updStaged_regsElse _ h _)).trans (State.markPending_regsElse _ (s.performed a h r) l.page)

/-- A row whose place is that of the write runs it. -/
theorem Lands.rowsOf_runs {a : RegWrite} {s : State} {h : Home} {r : RegSpec} (l : Lands a s h r) :
    ∀ row ∈ rowsOf a, row.1 = true → exec row.2 s = .next ((s.landing a h r).afterWrite (s.performed a h r)) := by
  simp only [rowsOf, List.forall_mem_cons]
  exact ⟨fun _ => congrArg _ l.writeRow, l.rowAt, l.rowAt, l.rowAt, l.rowAt, l.rowAt, l.rowAt, l.rowAt, l.rowAt, l.rowAt, l.rowAt, l.rowAt, l.rowAt, l.rowAt, l.rowAt, l.rowAt, l.rowAt, l.rowAt, l.rowAt, l.rowAt, l.rowAt, l.rowAt, l.rowAt, List.forall_mem_nil _⟩

/-- Settles O31. -/
theorem registerWritesLand : Obligations.RegisterWritesLand := by
  unfold Obligations.RegisterWritesLand
  intro a s h r l u v w
  refine ⟨l.rowsOf_runs, fun hn => ?_⟩
  have hv : v.staged h = w.stored (u.staged h) := s.landing_staged a h r hn
  have hframe : OnlyPages u v := s.landing_onlyPages a h r
  rw [hv]
  refine ⟨Write.stored_pend w _, Write.stored_act_other w _, Write.stored_act_w1c w _, Write.stored_act_imm w _,
    by rw [hframe], by rw [hframe], by rw [hframe], by rw [hframe], by rw [hframe], ?_⟩
  have helse := l.regsElse hn
  cases h <;> exact helse

end Sys2Proof.Machine
end

section
/-! PROOF. The key, the error log and the reference of a page, and the expiry of its unlock window (R141 to R149, R172). -/

namespace Sys2Proof.Machine

/-! ### Pages and their views -/

@[simp] theorem State.updCtl_ctl_same (s : State) (page : Page) (f : PageCtl → PageCtl) : (s.updCtl page f).ctl page = f (s.ctl page) := by
  cases page <;> simp [State.updCtl, State.ctl, State.updTenant]

theorem State.updCtl_ctl_other (s : State) {page q : Page} (f : PageCtl → PageCtl) (h : q ≠ page) : (s.updCtl page f).ctl q = s.ctl q := by
  cases page with
  | device => cases q with
    | device => exact absurd rfl h
    | tenant t => rfl
  | tenant u => cases q with
    | device => rfl
    | tenant t => exact congrArg Tenant.ctl (s.updCtl_otherTenant f fun e => h e.symm)

@[simp] theorem PageCtl.updView_view_same (c : PageCtl) (via : Via) (f : PortView → PortView) : (c.updView via f).view via = f (c.view via) := by
  cases via <;> rfl

theorem PageCtl.updView_view_other (c : PageCtl) {via q : Via} (f : PortView → PortView) (h : q ≠ via) : (c.updView via f).view q = c.view q := by
  cases via <;> cases q <;> first | rfl | exact absurd rfl h

@[simp] theorem PageCtl.updView_errLog (c : PageCtl) (via : Via) (f : PortView → PortView) : (c.updView via f).errLog = c.errLog := by
  cases via <;> rfl

@[simp] theorem State.updCtl_cues (s : State) (page : Page) (f : PageCtl → PageCtl) : (s.updCtl page f).cues = s.cues := by
  cases page <;> rfl

@[simp] theorem State.updCtl_tb (s : State) (page : Page) (f : PageCtl → PageCtl) : (s.updCtl page f).tb = s.tb := by
  cases page <;> rfl

/-! ### The place and the word of a write that lands -/

section
variable {a : RegWrite} {s : State} {r : RegSpec}

theorem Lands.onDevice {p : Nat} (l : Lands a s (.dev p) r) : onDevice a p = true := by
  obtain ⟨hh, -⟩ := State.regAt_home l.there
  have hpage : a.page = .device := State.home_page hh
  rw [hpage] at hh
  simp only [State.home, Option.ite_none_right_eq_some, Option.some.injEq, Home.dev.injEq] at hh
  simp [Machine.onDevice, hpage, placeOf, hh.2]

theorem Lands.onTenant {t : TenantId} {p : Nat} (l : Lands a s (.ten t p) r) : onTenant a p = true := by
  obtain ⟨hh, -⟩ := State.regAt_home l.there
  have hpage : a.page = .tenant t := State.home_page hh
  rw [hpage] at hh
  simp only [State.home] at hh
  split at hh
  · simp only [Option.some.injEq, Home.ten.injEq] at hh
    simp [Machine.onTenant, hpage, placeOf, hh.2]
  · split at hh
    · simp at hh
    · exact nomatch hh

theorem Lands.spec_dev {p : Nat} (l : Lands a s (.dev p) r) : devSpec p = some r := (State.regAt_home l.there).2

theorem Lands.spec_ten {t : TenantId} {p : Nat} (l : Lands a s (.ten t p) r) : tenSpec p = some r := (State.regAt_home l.there).2

theorem partOf_narrow (h4 : a.eight = false) (hlow : a.off.toNat % 8 = 0) (hview : viewOf a.off = 0) :
    partOf a = ⟨0, (lo32 a.data).zeroExtend 64, bits 31 0⟩ := by
  simp [partOf, h4, hlow, hview]

theorem partOf_wide (h8 : a.eight = true) (hview : viewOf a.off = 0) : partOf a = ⟨0, a.data, allBits⟩ := by
  simp [partOf, h8, hview]

theorem State.performed_home (h : Home) : (s.performed a h r).home = h := rfl
theorem State.performed_spec (h : Home) : (s.performed a h r).spec = r := rfl

/-- The bits written 1 through the normal view, but those whose event comes in the same CLK_REG cycle (R18). -/
theorem State.performed_ones {x : Word} {sel : Word} (h : Home) (hp : partOf a = ⟨0, x, sel⟩) :
    (s.performed a h r).ones = x &&& sel &&& ~~~(r.w1c &&& ~~~((s.opened a h r).clearable h)) := by
  simp [State.performed, State.eventsWin, State.written, State.writeOf, hp]

theorem State.clearable_quiet (h : Home) (hq : eventHomes.contains h.key = false) : s.clearable h = allBits := by
  exact if_neg (by simp only [hq, Bool.false_eq_true, not_false_eq_true])

/-- The word written reaches a register that no event writes. -/
theorem State.performed_ones_quiet {x : Word} {sel : Word} (h : Home) (hp : partOf a = ⟨0, x, sel⟩) (hq : eventHomes.contains h.key = false) :
    (s.performed a h r).ones = x &&& sel := by
  have hall : ~~~allBits = 0#64 := by decide
  rw [State.performed_ones h hp, State.clearable_quiet h hq, hall, BitVec.and_zero]
  exact BitVec.and_allOnes

theorem lo32_zeroExtend_low (x : Dword) : lo32 (x.zeroExtend 64 &&& bits 31 0) = x := by
  have hb : (bits 31 0).toNat = 2 ^ 32 - 1 := by decide
  have hm : (x.zeroExtend 64 &&& bits 31 0).toNat = x.toNat % 2 ^ 32 := by
    rw [BitVec.toNat_and, hb, Nat.and_two_pow_sub_one_eq_mod]
    simp
  refine BitVec.eq_of_toNat_eq ?_
  rw [lo32, BitVec.truncate_eq_setWidth, BitVec.toNat_setWidth, hm]
  omega

/-- The device place or the place of a tenant page that the write names. -/
def OnPage (a : RegWrite) (h : Home) (p : Nat) : Prop :=
  (∃ k : TenantId, a.page = .tenant k ∧ h = .ten k p) ∨ (a.page = .device ∧ h = .dev p)

theorem Lands.both {h : Home} {p : Nat} (l : Lands a s h r) (hp : OnPage a h p) : (Machine.onDevice a p || Machine.onTenant a p) = true := by
  rcases hp with ⟨k, -, rfl⟩ | ⟨-, rfl⟩
  · rw [l.onTenant, Bool.or_true]
  · rw [l.onDevice, Bool.true_or]

/-- A register that the same place of the device page and of every tenant page holds. -/
theorem Lands.spec_both {h : Home} {p : Nat} (l : Lands a s h r) (hp : OnPage a h p) : devSpec p = some r ∨ tenSpec p = some r := by
  rcases hp with ⟨k, -, rfl⟩ | ⟨-, rfl⟩
  · exact .inr l.spec_ten
  · exact .inl l.spec_dev

end

/-- No event writes the bits of UNLOCK, UPDATE, the error log or the reference. -/
theorem quiet_both {a : RegWrite} {h : Home} {p : Nat} (hp : OnPage a h p) (hq : p ∈ [0x28, 0x40, 0x48, 0x60]) :
    eventHomes.contains h.key = false := by
  have hten : ∀ p ∈ [0x28, 0x40, 0x48, 0x60], ∀ k : TenantId, eventHomes.contains (Home.ten k p).key = false := by decide +kernel
  have hdev : ∀ p ∈ [0x28, 0x40, 0x48, 0x60], eventHomes.contains (Home.dev p).key = false := by decide +kernel
  rcases hp with ⟨k, -, rfl⟩ | ⟨-, rfl⟩
  · exact hten p hq k
  · exact hdev p hq

/-! ### UNLOCK, the error log and the reference (R141 to R149, R172) -/

section
variable {a : RegWrite} {s : State} {h : Home} {r : RegSpec}

theorem Lands.unlock (l : Lands a s h r) (hp : OnPage a h 0x40) (hview : viewOf a.off = 0) (hlow : a.off.toNat % 8 = 0) :
    exec (.unlock a) s = .next ((s.landing a h r).unlockKey a.via a.page (lo32 a.data)) := by
  have hspec : r = { wo := bits 31 0, only4 := true } := by
    rcases l.spec_both hp with hs | hs
    · simpa [Machine.devSpec, devSpecLow] using hs.symm
    · simpa [Machine.tenSpec] using hs.symm
  have h4 : a.eight = false := l.only (by rw [hspec])
  have hones : lo32 (s.performed a h r).ones = lo32 a.data := by
    rw [State.performed_ones_quiet h (partOf_narrow h4 hlow hview) (quiet_both hp (by decide)), lo32_zeroExtend_low]
  have hrun : (s.landing a h r).afterWrite (s.performed a h r) = (s.landing a h r).unlockKey a.via a.page (lo32 (s.performed a h r).ones) := by
    rcases hp with ⟨k, hpage, rfl⟩ | ⟨hpage, rfl⟩
    · rfl
    · rw [hpage]
      rfl
  rw [← hones, ← hrun]
  exact l.rowAt (l.both hp)

theorem Lands.rearm (l : Lands a s h r) (hp : OnPage a h 0x28) (hview : viewOf a.off = 0) :
    exec (.rearm a) s = .next ((s.landing a h r).updCtl a.page fun k => { k with errLog := k.errLog.write a.data }) := by
  have hspec : r = { wide := true, w1c := bits 11 8, wo := bits 13 12 } := by
    rcases l.spec_both hp with hs | hs
    · simpa [Machine.devSpec, devSpecLow] using hs.symm
    · simpa [Machine.tenSpec] using hs.symm
  have h8 : a.eight = true := by rw [l.whole, hspec]
  have hones : (s.performed a h r).ones = a.data := by
    rw [State.performed_ones_quiet h (partOf_wide h8 hview) (quiet_both hp (by decide))]
    exact BitVec.and_allOnes
  have hrun : (s.landing a h r).afterWrite (s.performed a h r) =
      (s.landing a h r).updCtl a.page fun k => { k with errLog := k.errLog.write (s.performed a h r).ones } := by
    rcases hp with ⟨k, hpage, rfl⟩ | ⟨hpage, rfl⟩
    · rfl
    · rw [hpage]
      rfl
  rw [hones] at hrun
  rw [← hrun]
  exact l.rowAt (l.both hp)

theorem Lands.cfgRefWrite (l : Lands a s h r) (hp : OnPage a h 0x60) : exec (.cfgRefWrite a) s = .next ((s.landing a h r).refWrite a.page) := by
  have hrun : (s.landing a h r).afterWrite (s.performed a h r) = (s.landing a h r).refWrite a.page := by
    rcases hp with ⟨k, hpage, rfl⟩ | ⟨hpage, rfl⟩
    · rfl
    · rw [hpage]
      rfl
  rw [← hrun]
  exact l.rowAt (l.both hp)

end

theorem ErrLog.write_fields (e : ErrLog) (ones : Word) :
    (e.write ones).lockViolation = (e.lockViolation && !(bitAt ones 8)) ∧ (e.write ones).pairDropped = (e.pairDropped && !(bitAt ones 9)) ∧
      (e.write ones).reservedHit = (e.reservedHit && !(bitAt ones 10)) ∧ (e.write ones).updateLate = (e.updateLate && !(bitAt ones 11)) ∧
      (e.write ones).lockFaults = (if bitAt ones 12 then 0 else e.lockFaults) ∧
      (e.write ones).firstKind = (if bitAt ones 13 then 0 else e.firstKind) ∧ (e.write ones).firstOffset = (if bitAt ones 13 then 0 else e.firstOffset) := by
  unfold ErrLog.write
  dsimp only
  split <;> exact ⟨rfl, rfl, rfl, rfl, rfl, rfl, rfl⟩

/-- The key opens the page for its port, another value closes it for that port and counts a fault. -/
theorem State.unlockKey_ctl (s : State) (via : Via) (page : Page) (x : Dword) :
    (((s.unlockKey via page x).ctl page).view via).openUntil = (if x = 0xC0DA then some (s.now + 38400) else none) ∧
      ((s.unlockKey via page x).ctl page).errLog.lockFaults =
        (if x = 0xC0DA then (s.ctl page).errLog.lockFaults else satAdd (s.ctl page).errLog.lockFaults 1) ∧
      (∀ q, q ≠ via → ((s.unlockKey via page x).ctl page).view q = (s.ctl page).view q) ∧
      ∀ q, q ≠ page → (s.unlockKey via page x).ctl q = s.ctl q := by
  unfold State.unlockKey
  split
  · refine ⟨by simp, by simp, fun q hq => ?_, fun q hq => s.updCtl_ctl_other _ hq⟩
    rw [State.updCtl_ctl_same, PageCtl.updView_view_other _ _ hq]
  · refine ⟨?_, by simp, fun q hq => ?_, fun q hq => s.updCtl_ctl_other _ hq⟩
    · rw [State.updCtl_ctl_same]
      exact congrArg PortView.openUntil (PageCtl.updView_view_same _ via _)
    · rw [State.updCtl_ctl_same]
      exact PageCtl.updView_view_other _ _ hq

theorem State.unlockKey_keeps (s : State) (via : Via) (page : Page) (x : Dword) :
    (s.unlockKey via page x).chans = s.chans ∧ (s.unlockKey via page x).prot = s.prot ∧ (s.unlockKey via page x).cues = s.cues := by
  unfold State.unlockKey
  split <;> simp

/-- A reference written to a FROZEN page takes effect at once. -/
theorem State.refWrite_frozen {a : RegWrite} {s : State} {h : Home} (hp : OnPage a h 0x60) (hf : (s.ctl a.page).frozen = true) :
    ((s.refWrite a.page).ctl a.page).frozen = false ∧ ((s.refWrite a.page).staged h).act &&& bits 33 0 = (s.staged h).pend &&& bits 33 0 ∧
      (s.refWrite a.page).chans = s.chans ∧ (s.refWrite a.page).prot = s.prot := by
  have hspec : ∃ r, s.specAt h = some r ∧ r.stg = bits 33 0 := by
    rcases hp with ⟨k, -, rfl⟩ | ⟨-, rfl⟩
    · exact ⟨_, rfl, rfl⟩
    · exact ⟨_, rfl, rfl⟩
  have href : s.applyRef a.page = s.applyAt h := by
    rcases hp with ⟨k, hpage, rfl⟩ | ⟨hpage, rfl⟩ <;> rw [hpage] <;> rfl
  obtain ⟨r, hr, hstg⟩ := hspec
  unfold State.refWrite
  rw [if_pos hf, href, State.applyAt, hr]
  refine ⟨by simp, ?_, ?_, ?_⟩
  · rw [State.updCtl_staged, State.updStaged_staged_same, hstg]
    ext i
    simp
    grind
  · rcases hp with ⟨k, -, rfl⟩ | ⟨-, rfl⟩ <;> simp [State.updStaged]
  · rcases hp with ⟨k, -, rfl⟩ | ⟨-, rfl⟩ <;> simp [State.updStaged]

/-- Settles O32. -/
theorem unlockAndErrorLog : Obligations.UnlockAndErrorLog := by
  unfold Obligations.UnlockAndErrorLog
  intro a s h r l v x isTen
  refine ⟨fun hp hview hlow => ?_, fun hp hview => ?_, fun hp hf => ?_, fun hp hf => ?_, fun page via t ht => ⟨fun hnow => ?_, fun hnow => ?_⟩⟩
  · obtain ⟨hopen, hfaults, hviews, hpages⟩ := v.unlockKey_ctl a.via a.page x
    obtain ⟨hchans, hprot, hcues⟩ := v.unlockKey_keeps a.via a.page x
    exact ⟨_, l.unlock hp hview hlow, hopen, hfaults, hviews, hpages, hchans, hprot, hcues⟩
  · refine ⟨_, l.rearm hp hview, ?_⟩
    rw [State.updCtl_ctl_same, State.updCtl_chans]
    obtain ⟨h1, h2, h3, h4, h5, h6, h7⟩ := (v.ctl a.page).errLog.write_fields a.data
    exact ⟨h1, h2, h3, h4, h5, h6, h7, rfl⟩
  · obtain ⟨hfrozen, hact, hchans, hprot⟩ := State.refWrite_frozen hp hf
    exact ⟨_, l.cfgRefWrite hp, hfrozen, hact, hchans, hprot⟩
  · rw [l.cfgRefWrite hp, State.refWrite, if_neg (by rw [hf]; exact Bool.false_ne_true)]
  · have hopen : s.isOpen page via = false := by
      rw [State.isOpen, ht]
      simpa using hnow
    refine ⟨?_, ?_, fun q hq => ?_⟩
    · show execUnlockWindowExpiry page via s = _
      simp [execUnlockWindowExpiry, ht, hopen]
    · simp [State.isOpen, State.closePage]
    · rw [State.closePage, State.updCtl_ctl_same, PageCtl.updView_view_other _ _ hq]
  · have hopen : s.isOpen page via = true := by
      rw [State.isOpen, ht]
      simpa using hnow
    show execUnlockWindowExpiry page via s = _
    simp [execUnlockWindowExpiry, ht, hopen]

end Sys2Proof.Machine
end

section
/-! PROOF. Update strobes, DISCARD and timed strobes of a page (R154 to R165, R176). -/

namespace Sys2Proof.Machine

theorem zeroExtend_and_low (x : Dword) : x.zeroExtend 64 &&& bits 31 0 = x.zeroExtend 64 := by
  have hb : (bits 31 0).toNat = 2 ^ 32 - 1 := by decide
  refine BitVec.eq_of_toNat_eq ?_
  rw [BitVec.toNat_and, hb, Nat.and_two_pow_sub_one_eq_mod]
  simp
  omega

/-- A property that holds of the state and that every step of the walk keeps. -/
theorem State.forAll_induction {α : Type} {P : State → Prop} {f : α → State → State} (l : List α) {s : State} (h : P s)
    (hf : ∀ x t, P t → P (f x t)) : P (s.forAll l f) := by
  induction l generalizing s with
  | nil => exact h
  | cons x l ih => exact ih (hf x s h)

/-! ### Strobes of the staged trace and power registers (groups 5 and 6) -/

theorem State.strobe_frozen {s : State} {page : Page} (h : (s.ctl page).frozen = true) (groups : BitVec 16) : s.strobe page groups = s :=
  if_pos h

@[simp] theorem State.applyAt_dev_chans (s : State) (p : Nat) : (s.applyAt (.dev p)).chans = s.chans := (s.applyAt_dev_keeps p).chans

theorem State.strobeDev_five (s : State) : s.strobeDev 5 = (s.applyAt (.dev 0xB80)).updCtl .device fun c =>
    { c with pendingGroups := c.pendingGroups &&& ~~~((1 : BitVec 16) <<< 5) } := rfl

theorem State.strobeDev_six (s : State) : s.strobeDev 6 = (s.applyAt (.dev 0xBC0)).updCtl .device fun c =>
    { c with pendingGroups := c.pendingGroups &&& ~~~((1 : BitVec 16) <<< 6) } := rfl

/-- A strobe of one group of the device page that is not FROZEN. -/
theorem State.strobe_device_single {s : State} (h : (s.ctl .device).frozen = false) {groups : BitVec 16} {g : Nat}
    (hg : ((List.range 8).filter fun g => bitAt groups g) = [g]) :
    s.strobe .device groups = ((s.applyAt (.dev 0x60)).updCtl .device fun c => { c with disturbed := true }).strobeDev g := by
  unfold State.strobe
  rw [if_neg (by rw [h]; exact Bool.false_ne_true)]
  simp only [hg]
  rfl

/-- What a strobe makes of the copies of a device register: its staged bits become active. -/
theorem State.applyAt_staged_same (s : State) {p : Nat} {r : RegSpec} (h : devSpec p = some r) :
    (s.applyAt (.dev p)).staged (.dev p) =
      { s.staged (.dev p) with act := ((s.staged (.dev p)).act &&& ~~~r.stg) ||| ((s.staged (.dev p)).pend &&& r.stg) } := by
  have hs : s.specAt (.dev p) = some r := h
  unfold State.applyAt
  rw [hs]
  exact State.updStaged_staged_same _ _ _

theorem State.applyAt_staged_other (s : State) {p q : Nat} (h : BitVec.ofNat 11 (p / 8) ≠ BitVec.ofNat 11 (q / 8)) :
    (s.applyAt (.dev p)).staged (.dev q) = s.staged (.dev q) := by
  unfold State.applyAt
  split
  · exact Tbl.look_upd_other _ _ h
  · rfl

theorem State.devReg_eq_staged (s : State) (p : Nat) : s.devReg p = (s.staged (.dev p)).act := rfl

/-- The bits of a mask come from the pending copy, the others stay. -/
theorem masked_copy (x y m : Word) : ((x &&& ~~~m) ||| (y &&& m)) &&& m = y &&& m ∧ ((x &&& ~~~m) ||| (y &&& m)) &&& ~~~m = x &&& ~~~m := by
  constructor <;> (ext i; simp; grind)

/-- What the strobe of one group leaves of the state. -/
theorem State.strobeTwo_keeps (s : State) (p : Nat) (f g : PageCtl → PageCtl) :
    let t := (((s.applyAt (.dev 0x60)).updCtl .device f).applyAt (.dev p)).updCtl .device g
    t.chans = s.chans ∧ t.acts = s.acts ∧ t.tenants = s.tenants := by
  have hacts (u : State) (q : Nat) : (u.applyAt (.dev q)).acts = u.acts := by
    unfold State.applyAt
    split <;> rfl
  refine ⟨?_, ?_, ?_⟩
  · simp
  · exact ((hacts _ p).trans (hacts s 0x60))
  · exact ((State.applyAt_dev_keeps _ p).tenants.trans (s.applyAt_dev_keeps 0x60).tenants)

theorem State.strobe_traceGroup {s : State} (h : (s.ctl .device).frozen = false) :
    let t := s.strobe .device 0x40
    let m := bits 4 1 ||| bits 19 8 ||| bits 47 32
    (t.devReg 0xBC0 &&& m = (s.staged (.dev 0xBC0)).pend &&& m ∧ t.devReg 0xBC0 &&& ~~~m = s.devReg 0xBC0 &&& ~~~m) ∧
      bitAt t.dev.ctl.pendingGroups 6 = false ∧ t.chans = s.chans ∧ t.acts = s.acts ∧ t.tenants = s.tenants := by
  intro t m
  have ht : t = _ := (State.strobe_device_single h (g := 6) (by decide)).trans (State.strobeDev_six _)
  have hspec : devSpec 0xBC0 = some (stg64 m 6) := rfl
  have hreg : t.devReg 0xBC0 = ((s.staged (.dev 0xBC0)).act &&& ~~~m) ||| ((s.staged (.dev 0xBC0)).pend &&& m) := by
    rw [State.devReg_eq_staged, ht, State.updCtl_staged, State.applyAt_staged_same _ hspec, State.updCtl_staged,
      State.applyAt_staged_other _ (by decide)]
    rfl
  refine ⟨?_, ?_, ?_⟩
  · rw [hreg]
    exact masked_copy _ _ m
  · rw [ht]
    show bitAt (_ &&& ~~~((1 : BitVec 16) <<< 6)) 6 = false
    simp [bitAt]
  · rw [ht]
    exact State.strobeTwo_keeps s 0xBC0 _ _

theorem State.strobe_powerGroup {s : State} (h : (s.ctl .device).frozen = false) :
    let t := s.strobe .device 0x20
    let m := bits 3 0 ||| bits 63 8
    (t.devReg 0xB80 &&& m = (s.staged (.dev 0xB80)).pend &&& m ∧ t.devReg 0xB80 &&& ~~~m = s.devReg 0xB80 &&& ~~~m) ∧
      t.devReg 0xBC0 = s.devReg 0xBC0 ∧ t.chans = s.chans := by
  intro t m
  have ht : t = _ := (State.strobe_device_single h (g := 5) (by decide)).trans (State.strobeDev_five _)
  have hspec : devSpec 0xB80 = some (stg64 m 5) := rfl
  have hreg : t.devReg 0xB80 = ((s.staged (.dev 0xB80)).act &&& ~~~m) ||| ((s.staged (.dev 0xB80)).pend &&& m) := by
    rw [State.devReg_eq_staged, ht, State.updCtl_staged, State.applyAt_staged_same _ hspec, State.updCtl_staged,
      State.applyAt_staged_other _ (by decide)]
    rfl
  refine ⟨?_, ?_, ?_⟩
  · rw [hreg]
    exact masked_copy _ _ m
  · rw [State.devReg_eq_staged, ht, State.updCtl_staged, State.applyAt_staged_other _ (by decide), State.updCtl_staged,
      State.applyAt_staged_other _ (by decide)]
    rfl
  · rw [ht]
    exact (State.strobeTwo_keeps s 0xB80 _ _).1

/-! ### DISCARD -/

@[simp] theorem State.revertAt_ctl (s : State) (h : Home) (page : Page) : (s.revertAt h).ctl page = s.ctl page := by
  unfold State.revertAt
  split
  · cases h with
    | dev p => cases page <;> rfl
    | chan u c p => cases page <;> rfl
    | ten u p =>
      cases page with
      | device => rfl
      | tenant t => by_cases hu : u = t <;> simp [State.updStaged, State.updTenant, State.ctl, Tbl.look_upd, hu]
  · rfl

@[simp] theorem State.updChan_ctl (s : State) (c : ChanId) (f : Chan → Chan) (page : Page) : (s.updChan c f).ctl page = s.ctl page := by
  cases page <;> rfl

/-- After the armed strobe has lost its groups, DISCARD changes pending copies only. -/
theorem State.discardGroups_ctl (s : State) (page : Page) (groups : BitVec 16) :
    ((s.discardGroups page groups).ctl page).armed = match (s.ctl page).armed with
      | none => none
      | some k => if k.groups &&& ~~~groups = 0 then none else some { k with groups := k.groups &&& ~~~groups } := by
  have keeps {α : Type} (l : List α) (h : α → Home) {u : State} {x : PageCtl} (hu : u.ctl page = x) :
      (u.forAll l fun p s => s.revertAt (h p)).ctl page = x :=
    State.forAll_induction (P := fun u => u.ctl page = x) l hu fun p t ht => (t.revertAt_ctl _ page).trans ht
  unfold State.discardGroups
  extract_lets s1
  have h1 : s1.ctl page = _ := State.updCtl_ctl_same s page _
  refine Eq.trans (congrArg PageCtl.armed (a₂ := s1.ctl page) ?_) (congrArg PageCtl.armed h1)
  split
  · exact State.forAll_induction (P := fun u => u.ctl .device = s1.ctl .device) _ rfl fun g t ht => keeps _ _ ht
  · next t =>
    extract_lets s2
    have h2 : s2.ctl (.tenant t) = s1.ctl (.tenant t) := by
      show State.ctl (if bitAt groups 0 then _ else s1) (.tenant t) = _
      split
      · exact keeps _ _ rfl
      · rfl
    exact State.forAll_induction (P := fun u => u.ctl (.tenant t) = s1.ctl (.tenant t)) _ h2 fun c u hu => by
      rw [State.updChan_ctl]
      exact keeps _ _ hu

theorem State.discard_traceGroup (s : State) :
    let t := s.discardGroups .device 0x40
    let m := bits 4 1 ||| bits 19 8 ||| bits 47 32
    (t.staged (.dev 0xBC0)).pend &&& m = (s.staged (.dev 0xBC0)).act &&& m ∧ (t.staged (.dev 0xBC0)).act = (s.staged (.dev 0xBC0)).act := by
  intro t m
  have hg : ((List.range 8).filter fun g => bitAt (0x40 : BitVec 16) g) = [6] := by decide
  have hst : t.staged (.dev 0xBC0) = { s.staged (.dev 0xBC0) with
      pend := ((s.staged (.dev 0xBC0)).pend &&& ~~~m) ||| ((s.staged (.dev 0xBC0)).act &&& m) } := by
    have ht : t = ((s.updCtl .device _).forAll ((List.range 8).filter fun g => bitAt (0x40 : BitVec 16) g) fun g s =>
      s.forAll (devPlaces g) fun p s => s.revertAt (.dev p)) := rfl
    rw [ht, hg]
    show ((s.updCtl .device _).updStaged (.dev 0xBC0) _).staged (.dev 0xBC0) = _
    rw [State.updStaged_staged_same, State.updCtl_staged]
    rfl
  rw [hst]
  exact ⟨(masked_copy _ _ m).1, rfl⟩

/-! ### The rows -/

section
variable {a : RegWrite} {s : State} {h : Home} {r : RegSpec}

/-- A write of T_UPDATE or DEV_UPDATE is one of the low word. -/
theorem Lands.update_narrow (l : Lands a s h r) (hp : OnPage a h 0x48) : a.eight = false := by
  have hspec : r = { wo := bits 31 0 } := by
    rcases l.spec_both hp with hs | hs
    · simpa [devSpec, devSpecLow] using hs.symm
    · simpa [tenSpec] using hs.symm
  rw [l.whole, hspec]

theorem updateBit_low (h4 : a.eight = false) (hlow : a.off.toNat % 8 = 0) (i : Nat) : updateBit a i = (lo32 a.data).getLsbD i := by
  have hl : baseOf a.off % 8 ≠ 4 := by rw [baseOf_mod_eight, hlow]; decide
  simp [updateBit, writtenWord, h4, hl, bitAt]

theorem Lands.afterUpdate (l : Lands a s h r) (hp : OnPage a h 0x48) (hview : viewOf a.off = 0) (hlow : a.off.toNat % 8 = 0) :
    (s.landing a h r).afterWrite (s.performed a h r) = (s.landing a h r).updateWrite a.page ((lo32 a.data).zeroExtend 64) := by
  have hones : (s.performed a h r).ones = (lo32 a.data).zeroExtend 64 := by
    rw [State.performed_ones_quiet h (partOf_narrow (l.update_narrow hp) hlow hview) (quiet_both hp (by decide)), zeroExtend_and_low]
  have hrun : (s.landing a h r).afterWrite (s.performed a h r) = (s.landing a h r).updateWrite a.page (s.performed a h r).ones := by
    rcases hp with ⟨k, hpage, rfl⟩ | ⟨hpage, rfl⟩
    · rfl
    · rw [hpage]
      rfl
  rw [hrun, hones]

end

theorem State.updateWrite_eq (s : State) (page : Page) (x : Dword) : s.updateWrite page (x.zeroExtend 64) =
    if x.getLsbD 17 then s.discardGroups page (x.extractLsb' 0 16)
    else if x.getLsbD 16 then s.armStrobe page (x.extractLsb' 0 16) else s.strobe page (x.extractLsb' 0 16) := by
  have hg : BitVec.truncate 16 (x.zeroExtend 64) = x.extractLsb' 0 16 := by
    ext i hi
    simp
  unfold State.updateWrite
  simp [bitAt, hg]

/-- Settles O33. -/
theorem strobesAndDiscard : Obligations.StrobesAndDiscard := by
  unfold Obligations.StrobesAndDiscard
  intro a s h r l hview hlow hp v x groups left
  have hrun : ∀ here : Bool, here = true → s.rowAt here a = .next (v.updateWrite a.page (x.zeroExtend 64)) := fun here hh => by
    rw [l.rowAt hh, l.afterUpdate hp hview hlow]
  have hboth := l.both hp
  have hbit := updateBit_low (l.update_narrow hp) hlow
  refine ⟨fun h16 h17 => ⟨?_, fun hf => State.strobe_frozen hf _, fun hf hpage hg => ?_, fun hf hpage hg => ?_⟩, fun h17 => ⟨?_, fun hpage hg => ?_, fun k hk => ?_⟩,
    fun h16 h17 => ⟨fun hnow => ?_, fun hnow => ?_⟩, fun k hk => ⟨fun hnow hclock hedge => ?_, fun hno => ?_⟩⟩
  · refine (hrun _ ?_).trans ?_
    · rw [hboth, hbit, hbit, h16, h17]
      rfl
    · rw [State.updateWrite_eq, h17, h16]
      rfl
  · rw [hpage] at hf ⊢
    rw [hg]
    exact State.strobe_traceGroup hf
  · rw [hpage] at hf ⊢
    rw [hg]
    exact State.strobe_powerGroup hf
  · refine (hrun _ ?_).trans ?_
    · rw [hboth, hbit, h17]
      rfl
    · rw [State.updateWrite_eq, h17]
      rfl
  · rw [hpage, hg]
    exact State.discard_traceGroup v
  · rw [State.discardGroups_ctl, hk]
    exact ⟨fun h0 => if_pos h0, fun h0 => if_neg h0⟩
  · refine (hrun _ ?_).trans ?_
    · rw [hboth, hbit, hbit, h16, h17]
      rfl
    · rw [State.updateWrite_eq, h17, h16]
      have hat : futureBy 64 (v.updateAt a.page) v.now = true := by
        cases hpage : a.page <;> simpa [State.updateAt, hpage] using hnow
      simp only [Bool.false_eq_true, if_false, if_true, State.armStrobe, hat]
      cases hf : (v.ctl a.page).frozen <;> cases hpage : a.page <;> simp [State.updateAt, groups]
  · have hat : futureBy 64 (v.updateAt a.page) v.now = false := by
      cases hpage : a.page <;> simpa [State.updateAt, hpage] using hnow
    have harm : v.updateWrite a.page (x.zeroExtend 64) = ((v.updCtl a.page fun c => { c with armed := none }).strobe a.page groups).lateUpdate a.page := by
      rw [State.updateWrite_eq, h17, h16]
      simp only [Bool.false_eq_true, if_false, if_true, State.armStrobe, hat, groups]
    refine ⟨_, (hrun _ ?_).trans (congrArg _ harm), ?_, rfl⟩
    · rw [hboth, hbit, hbit, h16, h17]
      rfl
    · simp [State.lateUpdate]
  · have hdue : s.strobeDue a.page = true := by
      have hedge' : (a.page == .device && bitAt k.groups 2 && s.coreEdge != s.refEdge) = false := by
        refine Classical.byContradiction fun hc => ?_
        simp only [Bool.not_eq_false, Bool.and_eq_true, beq_iff_eq, bne_iff_ne] at hc
        exact hc.2 (hedge hc.1.1 hc.1.2)
      obtain ⟨h1, h2, h3⟩ := hclock
      rw [State.strobeDue, hk]
      simp only [hnow, hedge', beq_eq_false_iff_ne.mpr h1, beq_eq_false_iff_ne.mpr h2, beq_eq_false_iff_ne.mpr h3]
      rfl
    show Host.Outcome.next (if s.strobeDue a.page = true then s.applyArmed a.page else s) = _
    rw [if_pos hdue, State.applyArmed, hk]
  · have hdue : s.strobeDue a.page = false := by
      rw [State.strobeDue, hk]
      rcases hno with hno | hno
      · simp [hno]
      · have hoff : (s.power.state == .interval || s.power.state == .dark || s.power.state == .shuttered) = true := by
          refine Classical.byContradiction fun hc => ?_
          simp only [Bool.not_eq_true, Bool.or_eq_false_iff, beq_eq_false_iff_ne] at hc
          exact hno ⟨hc.1.1, hc.1.2, hc.2⟩
        simp only [hoff, Bool.not_true, Bool.and_false, Bool.false_and]
    show Host.Outcome.next (if s.strobeDue a.page = true then s.applyArmed a.page else s) = _
    rw [hdue]
    rfl

end Sys2Proof.Machine
end

section
/-! PROOF. The rows of a tenant's control block (O34). -/

namespace Sys2Proof.Machine

/-! ### Words and their parts -/

theorem field_zeroExtend (x : Dword) (hi lo : Nat) : field (x.zeroExtend 64) hi lo = field x hi lo := by
  have hx : (x.zeroExtend 64).toNat = x.toNat := by
    simp
    omega
  rw [field, field, hx]

@[simp] theorem satAdd_toNat {w : Nat} (x : BitVec w) (n : Nat) : (satAdd x n).toNat = min (x.toNat + n) (2 ^ w - 1) := by
  have h0 : 0 < 2 ^ w := Nat.two_pow_pos w
  rw [satAdd, BitVec.toNat_ofNat, Nat.mod_eq_of_lt]
  omega

theorem getLsbD_natCast_one_shiftLeft {i k : Nat} (hi : i < 64) : ((1 <<< k : Nat) : Word).getLsbD i = decide (k = i) := by
  show (BitVec.ofNat 64 (1 <<< k)).getLsbD i = _
  rw [BitVec.getLsbD_ofNat, Nat.one_shiftLeft, Nat.testBit_two_pow]
  simp [hi]

/-- A word built from the pins that satisfy a test. -/
theorem pinWord_fold (f : PinId → Bool) (l : List PinId) (w : Word) {i : Nat} (hi : i < 64) :
    (l.foldl (fun w p => if f p then w ||| ((1 <<< p.toNat : Nat) : Word) else w) w).getLsbD i =
      (w.getLsbD i || l.any fun p => f p && decide (p.toNat = i)) := by
  induction l generalizing w with
  | nil => simp
  | cons p l ih =>
    rw [List.foldl_cons, ih, List.any_cons]
    cases hp : f p with
    | false => simp
    | true =>
      rw [if_pos rfl, BitVec.getLsbD_or, getLsbD_natCast_one_shiftLeft hi, Bool.true_and, Bool.or_assoc]

theorem pinWord_bit (f : PinId → Bool) {p : PinId} (hp : p.toNat < 48) : bitAt (pinWord f) p.toNat = f p := by
  have hmem : p ∈ allPins := by
    refine List.mem_map.mpr ⟨p.toNat, List.mem_range.mpr hp, ?_⟩
    simp
  unfold bitAt pinWord
  have hzero : BitVec.getLsbD (0 : Word) p.toNat = false := BitVec.getLsbD_zero
  rw [pinWord_fold f _ _ (by omega), hzero, Bool.false_or, Bool.eq_iff_iff, List.any_eq_true]
  simp only [Bool.and_eq_true, decide_eq_true_eq]
  constructor
  · rintro ⟨q, -, hq, he⟩
    rwa [← BitVec.eq_of_toNat_eq he]
  · exact fun h => ⟨p, hmem, h, rfl⟩

/-! ### Rows of a tenant's control block -/

section
variable {a : RegWrite} {s : State} {t : TenantId} {p : Nat} {r : RegSpec}

theorem quiet_tenant (t : TenantId) (hp : p ∈ [0x78, 0x80, 0x110, 0x98]) : eventHomes.contains (Home.ten t p).key = false := by
  have hall : ∀ p ∈ [0x78, 0x80, 0x110, 0x98], ∀ k : TenantId, eventHomes.contains (Home.ten k p).key = false := by decide +kernel
  exact hall p hp t

/-- The low word written to a place of the control block that no event writes. -/
theorem Lands.tenant_ones (hp : p ∈ [0x78, 0x80, 0x110, 0x98]) (hview : viewOf a.off = 0) (h4 : a.eight = false) (hlow : a.off.toNat % 8 = 0) :
    (s.performed a (.ten t p) r).ones = (lo32 a.data).zeroExtend 64 := by
  rw [State.performed_ones_quiet _ (partOf_narrow h4 hlow hview) (quiet_tenant t hp), zeroExtend_and_low]

theorem lowBit_low (h4 : a.eight = false) (hlow : a.off.toNat % 8 = 0) (i : Nat) : lowBit a i = (lo32 a.data).getLsbD i :=
  updateBit_low h4 hlow i

theorem Lands.tPropFree (l : Lands a s (.ten t 0x78) r) (hview : viewOf a.off = 0) (hlow : a.off.toNat % 8 = 0) :
    exec (.tPropFree a) s = .next ((s.landing a (.ten t 0x78) r).propFreeWrite t ((lo32 a.data).extractLsb' 0 16).toNat) := by
  have hspec : r = { wo := bits 31 0, only4 := true } := by simpa [tenSpec] using l.spec_ten.symm
  have h4 : a.eight = false := l.only (by rw [hspec])
  have hi : ((lo32 a.data).extractLsb' 0 16).toNat = field (s.performed a (.ten t 0x78) r).ones 15 0 := by
    rw [Lands.tenant_ones (by decide) hview h4 hlow, field_zeroExtend, field_eq_toNat_extractLsb']
  rw [hi]
  exact l.rowAt l.onTenant

theorem Lands.tCueSet (l : Lands a s (.ten t 0x80) r) (hview : viewOf a.off = 0) (hlow : a.off.toNat % 8 = 0) :
    exec (.tCueSet a) s = .next ((s.landing a (.ten t 0x80) r).signal ((lo32 a.data).extractLsb' 0 10) ((lo32 a.data).extractLsb' 16 16).toNat) := by
  have hspec : r = { wo := bits 31 0, only4 := true } := by simpa [tenSpec] using l.spec_ten.symm
  have h4 : a.eight = false := l.only (by rw [hspec])
  have hq : (lo32 a.data).extractLsb' 0 10 = BitVec.ofNat 10 (field (s.performed a (.ten t 0x80) r).ones 9 0) := by
    rw [Lands.tenant_ones (by decide) hview h4 hlow, field_zeroExtend, field_eq_toNat_extractLsb', BitVec.ofNat_toNat]
    rfl
  have hn : ((lo32 a.data).extractLsb' 16 16).toNat = field (s.performed a (.ten t 0x80) r).ones 31 16 := by
    rw [Lands.tenant_ones (by decide) hview h4 hlow, field_zeroExtend, field_eq_toNat_extractLsb']
  rw [hq, hn]
  exact l.rowAt l.onTenant

theorem State.performed_new {x sel : Word} (h : Home) (hp : partOf a = ⟨0, x, sel⟩) :
    (s.performed a h r).new = ((s.performed a h r).old &&& ~~~r.rw) ||| ((((s.performed a h r).old &&& ~~~sel) ||| (x &&& sel)) &&& r.rw) := by
  simp [State.performed, State.eventsWin, State.written, State.writeOf, hp, WritePart.on]

/-- A bit that the write names takes its data. -/
theorem State.performed_new_named {x sel : Word} {h : Home} {i : Nat} (hp : partOf a = ⟨0, x, sel⟩) (hrw : r.rw.getLsbD i = true)
    (hsel : sel.getLsbD i = true) : (s.performed a h r).new.getLsbD i = x.getLsbD i := by
  rw [State.performed_new h hp]
  simp [hrw, hsel]

theorem Lands.admin_spec (l : Lands a s (.ten t 0x110) r) : r = { imm := bits 15 0 ||| bits 31 31 } := by
  simpa [tenSpec] using l.spec_ten.symm

theorem Lands.admin_enable_bit (l : Lands a s (.ten t 0x110) r) (hview : viewOf a.off = 0) (hlow : a.off.toNat % 8 = 0) :
    bitAt (s.performed a (.ten t 0x110) r).new 31 = (lo32 a.data).getLsbD 31 := by
  have h4 : a.eight = false := by rw [l.whole, l.admin_spec]
  have hrw : r.rw.getLsbD 31 = true := by
    rw [l.admin_spec]
    decide
  rw [bitAt, State.performed_new_named (partOf_narrow h4 hlow hview) hrw (by decide)]
  simp

theorem Lands.adminEnable (l : Lands a s (.ten t 0x110) r) (hview : viewOf a.off = 0) (hlow : a.off.toNat % 8 = 0)
    (hon : (lo32 a.data).getLsbD 31 = true) (hoff : bitAt (s.written a (.ten t 0x110) r).old 31 = false) :
    exec (.adminEnable a) s = .next ((s.landing a (.ten t 0x110) r).adminEnableWrite t (s.written a (.ten t 0x110) r).new) := by
  have h4 : a.eight = false := by rw [l.whole, l.admin_spec]
  have hnew : bitAt (s.performed a (.ten t 0x110) r).new 31 = true := (l.admin_enable_bit hview hlow).trans hon
  have hold : bitAt (s.performed a (.ten t 0x110) r).old 31 = false := hoff
  have hrun : (s.landing a (.ten t 0x110) r).afterWrite (s.performed a (.ten t 0x110) r) =
      (s.landing a (.ten t 0x110) r).adminEnableWrite t (s.performed a (.ten t 0x110) r).new := by
    show State.afterTen _ t 0x110 _ = _
    simp only [State.afterTen, hnew, hold, if_true, Bool.false_eq_true, if_false]
  exact (l.rowAt (by rw [l.onTenant, lowBit_low h4 hlow, hon]; rfl)).trans (congrArg _ hrun)

theorem Lands.adminDisable (l : Lands a s (.ten t 0x110) r) (hview : viewOf a.off = 0) (hlow : a.off.toNat % 8 = 0)
    (hoff : (lo32 a.data).getLsbD 31 = false) (hon : bitAt (s.written a (.ten t 0x110) r).old 31 = true) :
    exec (.adminDisable a) s = .next ((s.landing a (.ten t 0x110) r).adminStop t) := by
  have h4 : a.eight = false := by rw [l.whole, l.admin_spec]
  have hnew : bitAt (s.performed a (.ten t 0x110) r).new 31 = false := (l.admin_enable_bit hview hlow).trans hoff
  have hold : bitAt (s.performed a (.ten t 0x110) r).old 31 = true := hon
  have hrun : (s.landing a (.ten t 0x110) r).afterWrite (s.performed a (.ten t 0x110) r) = (s.landing a (.ten t 0x110) r).adminStop t := by
    show State.afterTen _ t 0x110 _ = _
    simp only [State.afterTen, hnew, hold, if_true, Bool.false_eq_true, if_false]
  exact (l.rowAt (by rw [l.onTenant, lowBit_low h4 hlow, hoff]; rfl)).trans (congrArg _ hrun)

end


section
variable (v : State) (t : TenantId)

theorem State.sq_updCq (q k : QueueId) (f : CompQueue → CompQueue) : (v.updCq t q f).sq t k = v.sq t k := by
  simp [State.sq, State.updCq]

/-- A change of a tenant that is none of its queues. -/
theorem State.sq_updTenant (f : Tenant → Tenant) (h : ∀ n, (f n).sqs = n.sqs) (q : QueueId) : (v.updTenant t f).sq t q = v.sq t q := by
  simp [State.sq, State.updTenant, h]

theorem State.cq_updTenant (f : Tenant → Tenant) (h : ∀ n, (f n).cqs = n.cqs) (q : QueueId) : (v.updTenant t f).cq t q = v.cq t q := by
  simp [State.cq, State.updTenant, h]

theorem State.tenants_updTenant (f : Tenant → Tenant) : (v.updTenant t f).tenants.look t = f (v.tenants.look t) := by
  simp [State.updTenant]

theorem State.tenReg_updTenant (f : Tenant → Tenant) (h : ∀ n, (f n).regs = n.regs) (off : Nat) : (v.updTenant t f).tenReg t off = v.tenReg t off := by
  simp [State.tenReg, State.updTenant, h]

end

theorem State.adminEnableWrite_ready {v : State} {t : TenantId} {e : Word} (h : v.adminReady t e = true) :
    let u := v.adminEnableWrite t e
    (u.sq t 0).state = .active ∧ (u.sq t 0).base = v.tenReg t 0x100 ∧ (u.sq t 0).head = 0 ∧ (u.sq t 0).tail = 0 ∧ (u.sq t 0).log2.toNat = field e 3 0 ∧
      (u.cq t 0).state = .active ∧ (u.cq t 0).base = v.tenReg t 0x108 ∧ (u.cq t 0).log2.toNat = field e 7 4 ∧ (u.cq t 0).vector.toNat = field e 15 8 ∧
      (u.tenants.look t).adminErr = false ∧ (u.tenants.look t).untaken = [] ∧ (∀ q, q ≠ 0 → u.sq t q = v.sq t q) ∧ u.chans = v.chans := by
  have hf (hi lo : Nat) : field e hi lo < 2 ^ (hi + 1 - lo) := Nat.mod_lt _ (Nat.two_pow_pos _)
  intro u
  have hu : u = _ := if_pos h
  dsimp only at hu
  have hsq (q : QueueId) : u.sq t q =
      if q = 0 then { state := .active, base := v.tenReg t 0x100, log2 := BitVec.ofNat 4 (field e 3 0), phase := true } else v.sq t q := by
    rw [hu, State.sq_updTenant, State.sq_updCq, State.sq_updSq]
    · simp only [eq_comm (a := (0 : QueueId)), true_and]
    · exact fun _ => rfl
  have hcq : u.cq t 0 = { state := .active, base := v.tenReg t 0x108, log2 := BitVec.ofNat 4 (field e 7 4), phase := true, vector := BitVec.ofNat 8 (field e 15 8) } := by
    rw [hu, State.cq_updTenant, State.cq_updCq]
    · simp
    · exact fun _ => rfl
  have hten : (u.tenants.look t).adminErr = false ∧ (u.tenants.look t).untaken = [] := by
    rw [hu, State.tenants_updTenant]
    exact ⟨rfl, rfl⟩
  obtain ⟨herr, huntaken⟩ := hten
  have hlog {k : Nat} (n : Nat) (hn : n < 2 ^ k) : (BitVec.ofNat k n).toNat = n := by rw [BitVec.toNat_ofNat, Nat.mod_eq_of_lt hn]
  rw [hsq, if_pos rfl, hcq]
  refine ⟨rfl, rfl, rfl, rfl, hlog _ (hf 3 0), rfl, rfl, hlog _ (hf 7 4), hlog _ (hf 15 8), herr, huntaken, fun q hq => ?_, ?_⟩
  · rw [hsq, if_neg hq]
  · rw [hu]
    rfl

theorem State.adminEnableWrite_unready {v : State} {t : TenantId} {e : Word} (h : v.adminReady t e = false) :
    let u := v.adminEnableWrite t e
    (u.tenants.look t).adminErr = true ∧ bitAt (u.tenReg t 0x110) 31 = false ∧ (∀ q, u.sq t q = v.sq t q) ∧ u.chans = v.chans := by
  intro u
  have hu : u = _ := if_neg (by rw [h]; exact Bool.false_ne_true)
  rw [hu]
  refine ⟨?_, ?_, fun q => ?_, rfl⟩
  · rw [State.tenants_updTenant]
  · rw [State.tenReg_updTenant, State.tenReg_setTenReg_same]
    · simp [bitAt]
    · exact fun _ => rfl
  · rw [State.sq_updTenant, State.setTenReg, State.sq_updTenant]
    all_goals exact fun _ => rfl

theorem State.adminStop_fields (v : State) (t : TenantId) :
    let u := v.adminStop t
    (u.tenants.look t).untaken = [] ∧ (u.sq t 0).stamps = [] ∧ (u.sq t 0).head = (v.sq t 0).head ∧ (∀ q, q ≠ 0 → u.sq t q = v.sq t q) ∧ u.chans = v.chans := by
  intro u
  have hsq (q : QueueId) : u.sq t q = (v.updSq t 0 fun q => { q with stamps := [], ownWait := false, retries := [] }).sq t q := by
    refine State.sq_updTenant _ _ _ ?_ q
    exact fun _ => rfl
  refine ⟨?_, ?_, ?_, fun q hq => ?_, rfl⟩
  · show ((State.updTenant _ t _).tenants.look t).untaken = _
    rw [State.tenants_updTenant]
  · rw [hsq, State.sq_updSq]
    simp
  · rw [hsq, State.sq_updSq]
    simp
  · rw [hsq, State.sq_updSq, if_neg fun h => hq h.2.symm]

/-- What a count added to a cue changes before its waiters act. -/
theorem State.addCue_state (v : State) (q : CueId) (n : Nat) :
    let u := (v.addCue q n).1
    (u.cues.look q).count.toNat = min ((v.cues.look q).count.toNat + n) 0xFFFF ∧ (∀ k, k ≠ q → u.cues.look k = v.cues.look k) ∧
      Kept { v with cues := u.cues, edgeSignals := u.edgeSignals } u := by
  refine ⟨?_, fun k hk => ?_, ?_⟩
  · simp [State.addCue, State.updCue, State.putSignals]
  · simp [State.addCue, State.updCue, State.putSignals, Tbl.look_upd_other _ _ hk.symm]
  · constructor
    case tenants => exact fun t => TenantKept.refl _
    all_goals rfl

/-- T_PIN_OUT writes the pins of the tenant that carry GPIO_OUT. -/
theorem Lands.pinOutWrite {a : RegWrite} {s : State} {t : TenantId} {r : RegSpec} (l : Lands a s (.ten t 0x98) r) :
    exec (.pinOutWrite a) s = .next (s.landing a (.ten t 0x98) r) :=
  l.rowAt (by rw [l.onTenant, Bool.or_true])

theorem State.opened_devReg (s : State) (a : RegWrite) (h : Home) (r : RegSpec) (p : Nat) : (s.opened a h r).devReg p = (s.arrival a.via).devReg p :=
  congrArg Staged.act (s.opened_staged a h (.dev p) r)

/-- The pins of the tenant take the data written, every other latch stays. -/
theorem Lands.pinOut_bit {a : RegWrite} {s : State} {t : TenantId} {r : RegSpec} (l : Lands a s (.ten t 0x98) r) (h8 : a.eight = true)
    (hview : viewOf a.off = 0) {m : PinId} (hm : m.toNat < 48) : bitAt ((s.landing a (.ten t 0x98) r).devReg 0x988) m.toNat =
      if (s.arrival a.via).ownsPin t m = true ∧ (s.arrival a.via).pinFunc m = 2 then bitAt a.data m.toNat
      else bitAt ((s.arrival a.via).devReg 0x988) m.toNat := by
  have hspec : r = imm64 (bits 47 0) := by simpa [tenSpec] using l.spec_ten.symm
  have hrw : r.rw.getLsbD m.toNat = true := by
    have hall : ∀ i < 48, (imm64 (bits 47 0)).rw.getLsbD i = true := by decide
    rw [hspec, hall _ hm]
  have hall : allBits.getLsbD m.toNat = true := by
    simp only [allBits, BitVec.getLsbD_allOnes, decide_eq_true_eq]
    omega
  have hgpio : bitAt ((s.opened a (.ten t 0x98) r).gpioOf t) m.toNat =
      ((s.arrival a.via).ownsPin t m && decide ((s.arrival a.via).pinFunc m = 2)) := by
    rw [State.gpioOf, pinWord_bit _ hm]
    simp only [State.ownsPin, State.pinOwner, State.pinFunc, State.pinMux, State.opened_devReg]
    rfl
  have hnew : bitAt (s.performed a (.ten t 0x98) r).new m.toNat = bitAt a.data m.toNat :=
    State.performed_new_named (partOf_wide h8 hview) hrw hall
  show bitAt ((State.setDevReg _ 0x988 _).devReg 0x988) m.toNat = _
  rw [State.devReg_setDevReg_same, State.opened_devReg]
  unfold bitAt at hgpio hnew ⊢
  rw [BitVec.getLsbD_or, BitVec.getLsbD_and, BitVec.getLsbD_and, BitVec.getLsbD_not, hgpio, hnew, decide_eq_true (show m.toNat < 64 by omega), Bool.true_and]
  by_cases hown : (s.arrival a.via).ownsPin t m = true <;> by_cases hf : (s.arrival a.via).pinFunc m = 2 <;> simp [hown, hf]

/-- Settles O34: each write of the control block is its row over the state in which the copies hold it. -/
theorem tenantWrites : Obligations.TenantWrites := by
  unfold Obligations.TenantWrites
  intro a s t p r l hpage hview v x
  refine ⟨?_, ?_, ?_, ?_, ?_⟩
  · rintro rfl hlow i mine
    refine ⟨fun ⟨h, hmem, hmine⟩ => ?_, fun hnone => ?_⟩
    · intro u
      rw [l.tPropFree hview hlow, State.propFreeWrite, if_pos (List.any_eq_true.mpr ⟨h, hmem, hmine⟩)]
      rfl
    · have hheld : ¬ v.props.held.any mine = true := by
        rw [List.any_eq_true]
        rintro ⟨h, hmem, hmine⟩
        exact Bool.false_ne_true ((hnone h hmem).symm.trans hmine)
      refine ⟨_, (l.tPropFree hview hlow).trans (congrArg _ (if_neg hheld)), ?_, rfl, rfl⟩
      rw [State.tenReg_setTenReg_same]
      simp [bitAt]
  · rintro rfl hlow q
    exact ⟨_, l.tCueSet hview hlow, State.addCue_state _ _ _⟩
  · rintro rfl hlow hon hoff e
    exact ⟨fun hr => ⟨_, l.adminEnable hview hlow hon hoff, State.adminEnableWrite_ready hr⟩,
      fun hr => ⟨_, l.adminEnable hview hlow hon hoff, State.adminEnableWrite_unready hr⟩⟩
  · rintro rfl hlow hoff hon
    exact ⟨_, l.adminDisable hview hlow hoff hon, State.adminStop_fields _ _⟩
  · rintro rfl h8
    exact ⟨l.pinOutWrite, fun m hm => l.pinOut_bit h8 hview hm⟩

end Sys2Proof.Machine
end

section
/-! PROOF. The rows of the device page (O35). -/

namespace Sys2Proof.Machine

/-! ### The bits of a register that take effect at once -/

section
variable {a : RegWrite} {s : State} {h : Home} {r : RegSpec}

/-- A bit that takes effect at once holds what the write leaves it. -/
theorem State.landing_imm_bit (hn : ∀ t, h ≠ .ten t 0x98) (hc : h ≠ .dev 0xBC0) {i : Nat} (himm : r.imm.getLsbD i = true)
    (hw1c : r.w1c.getLsbD i = false) : ((s.landing a h r).staged h).act.getLsbD i = (s.performed a h r).new.getLsbD i := by
  rw [State.landing_staged s a h r hn]
  have hstored := Write.stored_act_imm (s.performed a h r) ((s.arrival a.via).staged h) hc
  have hi : i < 64 := BitVec.lt_of_getLsbD himm
  have hb := congrArg (fun y : Word => y.getLsbD i) hstored
  simp only [State.performed_spec, BitVec.getLsbD_and, BitVec.getLsbD_not, himm, hw1c, hi, Bool.not_false, decide_true, Bool.and_true] at hb
  exact hb

theorem rw_of_imm {i : Nat} (himm : r.imm.getLsbD i = true) : r.rw.getLsbD i = true := by simp [RegSpec.rw, himm]

/-- A bit that takes effect at once holds the data that names it. -/
theorem State.landing_imm_named (hn : ∀ t, h ≠ .ten t 0x98) (hc : h ≠ .dev 0xBC0) {x sel : Word} (hp : partOf a = ⟨0, x, sel⟩) {i : Nat}
    (himm : r.imm.getLsbD i = true) (hw1c : r.w1c.getLsbD i = false) (hsel : sel.getLsbD i = true) :
    ((s.landing a h r).staged h).act.getLsbD i = x.getLsbD i :=
  (State.landing_imm_bit hn hc himm hw1c).trans (State.performed_new_named hp (rw_of_imm himm) hsel)

theorem partOf_high (h4 : a.eight = false) (hhigh : a.off.toNat % 8 = 4) (hview : viewOf a.off = 0) :
    partOf a = ⟨0, (lo32 a.data).zeroExtend 64 <<< 32, bits 63 32⟩ := by
  simp [partOf, h4, hhigh, hview]

/-- The same for a register of the device page written whole. -/
theorem State.landing_devBit {p : Nat} (h8 : a.eight = true) (hview : viewOf a.off = 0) (hc : p ≠ 0xBC0) {i : Nat} (himm : r.imm.getLsbD i = true)
    (hw1c : r.w1c.getLsbD i = false) : bitAt ((s.landing a (.dev p) r).devReg p) i = bitAt a.data i := by
  have hi : i < 64 := BitVec.lt_of_getLsbD himm
  refine State.landing_imm_named (fun t => by simp) (fun h => hc (Home.dev.inj h)) (partOf_wide h8 hview) himm hw1c ?_
  rw [allBits, BitVec.getLsbD_allOnes, decide_eq_true hi]

end

/-! ### Rows of the device page -/

section
variable {a : RegWrite} {s : State} {r : RegSpec}

theorem Lands.traceMark (l : Lands a s (.dev 0xBD0) r) (hview : viewOf a.off = 0) (hlow : a.off.toNat % 8 = 0) :
    exec (.traceMark a) s = .next ((s.landing a (.dev 0xBD0) r).note 0 0x05 none none (lo32 a.data)) := by
  have hspec : r = { wo := bits 31 0, only4 := true } := by simpa [devSpec, devSpecCare] using l.spec_dev.symm
  have h4 : a.eight = false := l.only (by rw [hspec])
  have hx : lo32 a.data = lo32 (s.performed a (.dev 0xBD0) r).ones := by
    rw [State.performed_ones_quiet _ (partOf_narrow h4 hlow hview) (by decide), lo32_zeroExtend_low]
  rw [hx]
  exact l.rowAt l.onDevice

theorem Lands.strobe_spec {p : Nat} (l : Lands a s (.dev p) r) (hlo : 0x140 ≤ p) (hhi : p < 0x180) :
    r = { wide := true, imm := bits 7 0 ||| bits 47 16, w1c := bits 8 8 } := by
  have h := l.spec_dev
  simp only [devSpec] at h
  rw [if_neg (by omega), if_pos (by omega)] at h
  simp only [devSpecTime] at h
  rw [if_neg (by omega), if_neg (by omega), if_neg (by omega), if_neg (by omega), if_neg (by omega), if_neg (by omega), if_neg (by omega),
    if_pos ⟨hlo, hhi⟩] at h
  exact (Option.some.inj h).symm

/-- A strobe row arms its output over the state in which the copies hold the write. -/
theorem Lands.strobeArm {n : BitVec 3} (l : Lands a s (.dev (0x140 + 8 * n.toNat)) r) (hview : viewOf a.off = 0) (hon : bitAt a.data 0 = true) :
    exec (.strobeArm a) s = .next ((s.landing a (.dev (0x140 + 8 * n.toNat)) r).armOutput n.toNat) := by
  have hn := n.isLt
  have hspec := l.strobe_spec (by omega) (by omega)
  have h8 : a.eight = true := by rw [l.whole, hspec]
  have hwrote : bitAt (s.performed a (.dev (0x140 + 8 * n.toNat)) r).wrote 0 = true := by
    simp [State.performed, State.eventsWin, State.written, State.writeOf, partOf_wide h8 hview, WritePart.wrote, bitAt]
    decide
  have hnew : bitAt (s.performed a (.dev (0x140 + 8 * n.toNat)) r).new 0 = true :=
    (State.performed_new_named (partOf_wide h8 hview) (by rw [hspec]; decide) (by decide)).trans hon
  have hrun : (s.landing a (.dev (0x140 + 8 * n.toNat)) r).afterWrite (s.performed a (.dev (0x140 + 8 * n.toNat)) r) =
      (s.landing a (.dev (0x140 + 8 * n.toNat)) r).armOutput n.toNat := by
    show State.afterDev _ (0x140 + 8 * n.toNat) _ = _
    have hindex : (0x140 + 8 * n.toNat - 0x140) / 8 = n.toNat := by omega
    refine (if_pos ⟨by omega, by omega⟩).trans ?_
    rw [hwrote, hnew, hindex]
    rfl
  have hplace := l.onDevice
  simp only [Machine.onDevice, Bool.and_eq_true, decide_eq_true_eq] at hplace
  obtain ⟨hpage, hplace⟩ := hplace
  refine (l.rowAt ?_).trans (congrArg _ hrun)
  rw [hplace]
  simp [hpage]
  omega

/-- No output of the strobe is due. -/
def State.unscheduled (v : State) (n : BitVec 3) : State := { v with tb := { v.tb with strobeDue := v.tb.strobeDue.put n none } }

theorem State.armOutput_eq (v : State) (n : BitVec 3) : v.armOutput n.toNat =
    if (bitAt (v.devReg (0x140 + 8 * n.toNat)) 3 || futureBy 64 (v.devReg (0x180 + 8 * n.toNat)) v.now) = true then v.unscheduled n
    else ((v.unscheduled n).setDevReg (0x140 + 8 * n.toNat)
      ((v.devReg (0x140 + 8 * n.toNat) &&& ~~~(1 : Word)) ||| (1 <<< 8))).note 9 0x93 none none (BitVec.ofNat 32 n.toNat) := by
  unfold State.armOutput
  rw [BitVec.ofNat_toNat, BitVec.setWidth_eq]
  rfl

theorem State.armOutput_absolute (v : State) (n : BitVec 3) (habs : bitAt (v.devReg (0x140 + 8 * n.toNat)) 3 = false) :
    let t := v.armOutput n.toNat
    t.tb.strobeDue.look n = none ∧
      (futureBy 64 (v.devReg (0x180 + 8 * n.toNat)) v.now = true → t.devReg (0x140 + 8 * n.toNat) = v.devReg (0x140 + 8 * n.toNat) ∧ t.dev = v.dev) ∧
      (futureBy 64 (v.devReg (0x180 + 8 * n.toNat)) v.now = false →
        bitAt (t.devReg (0x140 + 8 * n.toNat)) 0 = false ∧ bitAt (t.devReg (0x140 + 8 * n.toNat)) 8 = true) := by
  intro t
  have hnone : (v.unscheduled n).tb.strobeDue.look n = none := Tbl.look_put_same _ _ _
  have ht : t = _ := v.armOutput_eq n
  rw [habs, Bool.false_or] at ht
  cases hf : futureBy 64 (v.devReg (0x180 + 8 * n.toNat)) v.now with
  | true =>
    rw [if_pos hf] at ht
    rw [ht]
    exact ⟨hnone, fun _ => ⟨rfl, rfl⟩, fun h => absurd h (by decide)⟩
  | false =>
    rw [if_neg (by rw [hf]; exact Bool.false_ne_true)] at ht
    rw [ht]
    refine ⟨?_, fun h => absurd h (by decide), fun _ => ?_⟩
    · rw [(State.note_kept _ _ _ _ _ _).tb]
      exact hnone
    · rw [State.note_devReg, State.devReg_setDevReg_same]
      constructor <;> simp [bitAt]

theorem Lands.ppsOutConfig (l : Lands a s (.dev 0x130) r) (hview : viewOf a.off = 0) :
    bitAt ((s.landing a (.dev 0x130) r).devReg 0x130) 0 = bitAt a.data 0 ∧
    exec (.ppsOutConfig a) s = .next (if bitAt a.data 0 then s.landing a (.dev 0x130) r else (s.landing a (.dev 0x130) r).dropPps) := by
  have hspec : r = imm64 (bits 0 0 ||| bits 35 4) := by simpa [devSpec, devSpecTime] using l.spec_dev.symm
  have h8 : a.eight = true := by rw [l.whole, hspec]; rfl
  have hnew : bitAt (s.performed a (.dev 0x130) r).new 0 = bitAt a.data 0 :=
    State.performed_new_named (partOf_wide h8 hview) (by rw [hspec]; decide) (by decide)
  refine ⟨State.landing_devBit h8 hview (by decide) (by rw [hspec]; decide) (by rw [hspec]; decide), ?_⟩
  rw [← hnew]
  exact l.rowAt l.onDevice

theorem State.dropPps_fields (v : State) :
    (v.dropPps).tb.ppsOut = false ∧ (∀ p, (v.dropPps).devReg p = v.devReg p) ∧ (v.dropPps).chans = v.chans ∧ (v.dropPps).acts = v.acts ∧ (v.dropPps).prot = v.prot := by
  unfold State.dropPps
  split
  · exact ⟨rfl, fun _ => rfl, rfl, rfl, rfl⟩
  · next h => exact ⟨Bool.eq_false_iff.mpr h, fun _ => rfl, rfl, rfl, rfl⟩

theorem Lands.memBoardWrite (l : Lands a s (.dev 0xB08) r) (hview : viewOf a.off = 0) (hlow : a.off.toNat % 8 = 0) :
    ∃ v : State, exec (.memBoardWrite a) s = .next v ∧ v.boot.boardRecord = some (lo32 a.data &&& 0x1F) ∧
      v.chans = (s.landing a (.dev 0xB08) r).chans ∧ v.prot = (s.landing a (.dev 0xB08) r).prot ∧ v.guard = (s.landing a (.dev 0xB08) r).guard := by
  have hspec : r = { hi := true, imm := bits 4 0, guarded := bits 4 0, houseLo := true } := by simpa [devSpec, devSpecCare] using l.spec_dev.symm
  have h4 : a.eight = false := by rw [l.whole, hspec]
  have hpart := partOf_narrow h4 hlow hview
  have hsel : (s.performed a (.dev 0xB08) r).sel &&& bits 31 0 ≠ 0 := by
    simp only [State.performed, State.eventsWin, State.written, State.writeOf, hpart, List.foldl_cons, List.foldl_nil]
    decide
  have hnew : lo32 (s.performed a (.dev 0xB08) r).new &&& 0x1F = lo32 a.data &&& 0x1F := by
    refine BitVec.eq_of_getLsbD_eq fun i hi => ?_
    rw [BitVec.getLsbD_and, BitVec.getLsbD_and]
    rcases Nat.lt_or_ge i 5 with h5 | h5
    · have himm : ∀ i < 5, (bits 4 0).getLsbD i = true ∧ (bits 31 0).getLsbD i = true := by decide
      obtain ⟨hm, hlowBit⟩ := himm i h5
      have hb := State.performed_new_named (s := s) (h := .dev 0xB08) hpart (rw_of_imm (r := r) (by rw [hspec]; exact hm)) hlowBit
      simp only [lo32, BitVec.truncate_eq_setWidth, BitVec.getLsbD_setWidth, hi, decide_true, Bool.true_and] at hb ⊢
      rw [hb]
      simp [hi, show i < 64 by omega]
    · have hmask : ∀ i < 32, 5 ≤ i → (0x1F : Dword).getLsbD i = false := by decide
      rw [hmask i hi h5, Bool.and_false, Bool.and_false]
  have hrun : (s.landing a (.dev 0xB08) r).afterWrite (s.performed a (.dev 0xB08) r) = _ := if_neg hsel
  refine ⟨_, (l.rowAt l.onDevice).trans (congrArg _ hrun), ?_, rfl, rfl, rfl⟩
  exact congrArg some hnew

/-- A write of DEV_SOFT_RESET judges the word written to its high half. -/
theorem Lands.softReset (l : Lands a s (.dev 0x68) r) (hpage : a.page = .device) (hoff : a.off = 0x6C) :
    exec (.softReset a) s = .next ((s.landing a (.dev 0x68) r).softResetKey (lo32 a.data).toNat) := by
  have hspec : r = { hi := true, once := bits 4 0, wo := bits 63 32, guarded := bits 63 32, only4 := true, houseHi := true } := by
    simpa [devSpec, devSpecLow] using l.spec_dev.symm
  have h4 : a.eight = false := l.only (by rw [hspec])
  have hpart := partOf_high h4 (by rw [hoff]; decide) (by rw [hoff]; decide)
  have hplain : (s.performed a (.dev 0x68) r).plain &&& (s.performed a (.dev 0x68) r).spec.wo ≠ 0 := by
    rw [State.performed_spec, hspec]
    simp only [State.performed, State.eventsWin, State.written, State.writeOf, hpart, List.filter_cons, List.filter_nil, beq_self_eq_true, if_true,
      List.foldl_cons, List.foldl_nil]
    decide
  have hkey : field (s.performed a (.dev 0x68) r).ones 63 32 = (lo32 a.data).toNat := by
    rw [State.performed_ones_quiet _ hpart (by decide), field_eq_toNat_extractLsb']
    congr 1
    refine BitVec.eq_of_getLsbD_eq fun i hi => ?_
    have hmask : ∀ i < 32, (bits 63 32).getLsbD (32 + i) = true := by decide
    rw [BitVec.getLsbD_extractLsb', BitVec.getLsbD_and, hmask i hi, Bool.and_true]
    simp [hi, show 32 + i < 64 by omega]
  have hrun : (s.landing a (.dev 0x68) r).afterWrite (s.performed a (.dev 0x68) r) = (s.landing a (.dev 0x68) r).softResetKey (lo32 a.data).toNat := by
    rw [← hkey]
    exact if_neg hplain
  exact (l.rowAt (by simp [Machine.onDevice, hpage, placeOf, hoff, baseOf])).trans (congrArg _ hrun)

theorem State.softResetKey_wrong {v : State} {k : Nat} (h : k ≠ 0x5E7A) :
    let t := v.softResetKey k
    t.dev.ctl.errLog.lockViolation = true ∧ t.chans = v.chans ∧ t.acts = v.acts ∧ t.prot = v.prot ∧ t.mem = v.mem ∧ t.tb = v.tb ∧ t.tenants = v.tenants := by
  intro t
  have ht : t = _ := if_neg h
  rw [ht]
  exact ⟨rfl, rfl, rfl, rfl, rfl, rfl, rfl⟩

end

/-- What the designation of the first Stage Manager leaves. -/
theorem State.designate_fields (u : State) (x : Word) :
    let t := u.designate x
    t.prot.designated = true ∧ t.prot.map.smTenant = x.truncate 4 ∧ t.prot.map.smPort = bitAt x 4 ∧
      t.prot.map.records.look (x.truncate 4) = provisionalRecord (bitAt x 4) ∧
      (∀ k, k ≠ x.truncate 4 → t.prot.map.records.look k = u.prot.map.records.look k) ∧ t.chans = u.chans ∧ t.tenants = u.tenants :=
  ⟨rfl, rfl, rfl, Tbl.look_put_same _ _ _, fun _ hk => Tbl.look_put_other _ _ hk.symm, rfl, rfl⟩

theorem provisionalRecord_window (port : Bool) :
    let w := (provisionalRecord port).windows.look 0
    w.valid = true ∧ w.tag = (if port then 3 else 2) ∧ w.base = 0 ∧ w.last = BitVec.allOnes 60 ∧ w.read = true ∧ w.write = true := by
  have h0 : (provisionalRecord port).windows.look 0 = _ := Tbl.look_put_same _ _ _
  rw [h0]
  exact ⟨rfl, rfl, rfl, rfl, rfl, rfl⟩

/-- The tenant and the port that the first write of DEV_STAGE_MANAGER names. -/
theorem State.writeOf_designation {u : State} {via : Via} {page : Page} {off : BitVec 18} {r : RegSpec} (h : devSpec 0x68 = some r) (x : Dword) :
    let w := (u.writeOf via page off (.dev 0x68) r [⟨0, x.zeroExtend 64, bits 31 0⟩]).new
    w.truncate 4 = x.extractLsb' 0 4 ∧ bitAt w 4 = x.getLsbD 4 := by
  have hspec : r = { hi := true, once := bits 4 0, wo := bits 63 32, guarded := bits 63 32, only4 := true, houseHi := true } := by
    simpa [devSpec, devSpecLow] using h.symm
  have hbit (i : Nat) (hi : i < 5) : ((u.writeOf via page off (.dev 0x68) r [⟨0, x.zeroExtend 64, bits 31 0⟩]).new).getLsbD i = x.getLsbD i := by
    have hmask : ∀ i < 5, (bits 4 0).getLsbD i = true ∧ (bits 31 0).getLsbD i = true := by decide
    obtain ⟨hrw, hsel⟩ := hmask i hi
    have hrw' : r.rw.getLsbD i = true := by
      rw [hspec]
      simp [RegSpec.rw, hrw]
    simp [State.writeOf, WritePart.on, hrw', hsel]
    omega
  refine ⟨BitVec.eq_of_getLsbD_eq fun i hi => ?_, hbit 4 (by decide)⟩
  simpa [hi] using hbit i (by omega)

/-- Settles O35: each write of the device page is its row over the state in which the copies hold it. -/
theorem deviceWrites : Obligations.DeviceWrites := by
  unfold Obligations.DeviceWrites
  refine ⟨fun a s p r hpage hview hoff => ?_, fun a s r hpage hoff l => ?_⟩
  · intro u v x
    refine ⟨?_, ?_, ?_, ?_, ?_⟩
    · rintro rfl l
      exact l.traceMark hview (by rw [hoff])
    · rintro n rfl l hon habs
      have hspec := l.strobe_spec (by omega) (by omega)
      have h8 : a.eight = true := by rw [l.whole, hspec]
      have habs' : bitAt (v.devReg (0x140 + 8 * n.toNat)) 3 = false :=
        (State.landing_devBit h8 hview (by omega) (by rw [hspec]; decide) (by rw [hspec]; decide)).trans habs
      have hon' : bitAt (v.devReg (0x140 + 8 * n.toNat)) 0 = true :=
        (State.landing_devBit h8 hview (by omega) (by rw [hspec]; decide) (by rw [hspec]; decide)).trans hon
      obtain ⟨hnone, hahead, hlate⟩ := v.armOutput_absolute n habs'
      exact ⟨_, l.strobeArm hview hon, hnone, fun hf => ⟨(congrArg (bitAt · 0) (hahead hf).1).trans hon', (hahead hf).2⟩, hlate⟩
    · rintro rfl l
      obtain ⟨hbit, hrun⟩ := l.ppsOutConfig hview
      obtain ⟨hlow, hregs, hchans, hacts, hprot⟩ := State.dropPps_fields v
      refine ⟨_, hrun, ?_⟩
      cases hd : bitAt a.data 0 with
      | true => exact ⟨fun h => absurd h (by decide), fun _ => rfl, hbit.trans hd, rfl, rfl, rfl⟩
      | false => exact ⟨fun _ => hlow, fun h => absurd h (by decide), (congrArg (bitAt · 0) (hregs _)).trans (hbit.trans hd), hchans, hacts, hprot⟩
    · rintro rfl l
      exact l.memBoardWrite hview (by rw [hoff])
    · rintro rfl hlow hodd hreach hopen hat h4 hvia hstate hnone
      have hoff' : a.off = 0x68 := BitVec.eq_of_toNat_eq hoff
      obtain ⟨hten, hport⟩ := State.writeOf_designation (u := u) (via := a.via) (page := a.page) (off := a.off) (State.regAt_home hat).2 x
      obtain ⟨hdes, hsm, hsp, hrec, hother, hchans, htenants⟩ := u.designate_fields (u.writeOf a.via a.page a.off (.dev 0x68) r [⟨0, x.zeroExtend 64, bits 31 0⟩]).new
      rw [hten] at hsm hrec hother
      rw [hport] at hsp hrec
      refine ⟨_, stageManagerDesignation_runs hreach hopen hodd hat hpage hoff' h4 hvia hstate hnone, hdes, hsm, hsp, ⟨_, rfl, ?_⟩, hother, hchans, htenants⟩
      rw [hrec]
      exact provisionalRecord_window _
  · have hne (h : lo32 a.data ≠ 0x5E7A) : (lo32 a.data).toNat ≠ 0x5E7A := fun he => h (BitVec.eq_of_toNat_eq he)
    refine ⟨fun h => ?_, fun h => ⟨_, l.softReset hpage hoff, State.softResetKey_wrong (hne h)⟩⟩
    rw [l.softReset hpage hoff, h]
    rfl

end Sys2Proof.Machine
end

section
/-! PROOF. The shadow sets, the apertures and SYSREF (O36). -/

namespace Sys2Proof.Machine

/-! ### What a landing write leaves of its channel and of the channels -/

section
variable {a : RegWrite} {s : State}

/-- Everything of a channel but its registers and its mark of pending writes stays. -/
theorem State.landing_mode {t : TenantId} {c : ChanId} {p : Nat} {r : RegSpec} :
    ((s.landing a (.chan t c p) r).chan c).mode = ((s.arrival a.via).chan c).mode := by
  have hopen : (s.opened a (.chan t c p) r).chans = (s.arrival a.via).chans := by
    unfold State.opened State.closePage
    split <;> simp
  have hmark (v : State) : ((v.markPending (s.performed a (.chan t c p) r)).chan c).mode = (v.chan c).mode := by
    unfold State.markPending
    split
    · rfl
    · rw [State.performed_home]
      dsimp only
      rw [State.chan_updChan_same]
  unfold State.landing
  rw [State.store1_eq _ _ (fun _ => by rw [State.performed_home]; exact Home.noConfusion), hmark]
  show ((State.updChan _ c _).chan c).mode = _
  rw [State.chan_updChan_same, State.chan, hopen]
  rfl

theorem State.landing_dev_chans {p : Nat} {r : RegSpec} : (s.landing a (.dev p) r).chans = (s.arrival a.via).chans := by
  have hopen : (s.opened a (.dev p) r).chans = (s.arrival a.via).chans := by
    unfold State.opened State.closePage
    split <;> simp
  have hmark (v : State) : (v.markPending (s.performed a (.dev p) r)).chans = v.chans := by
    unfold State.markPending
    split
    · rfl
    · show (match r.group with | some _ => _ | none => _ : State).chans = _
      cases r.group
      · rfl
      · simp
  unfold State.landing
  rw [State.store1_eq _ _ (fun _ => by rw [State.performed_home]; exact Home.noConfusion), hmark]
  exact hopen

/-- A field whose bits take effect at once holds the data. -/
theorem State.landing_devField {p hi lo : Nat} {r : RegSpec} (h8 : a.eight = true) (hview : viewOf a.off = 0) (hc : p ≠ 0xBC0)
    (himm : ∀ i < hi + 1 - lo, r.imm.getLsbD (lo + i) = true) (hw1c : ∀ i < hi + 1 - lo, r.w1c.getLsbD (lo + i) = false) :
    field ((s.landing a (.dev p) r).devReg p) hi lo = field a.data hi lo := by
  rw [field_eq_toNat_extractLsb', field_eq_toNat_extractLsb']
  congr 1
  refine BitVec.eq_of_getLsbD_eq fun i hi => ?_
  have hbit : BitVec.getLsbD ((s.landing a (.dev p) r).devReg p) (lo + i) = a.data.getLsbD (lo + i) :=
    State.landing_devBit h8 hview hc (himm i hi) (hw1c i hi)
  rw [BitVec.getLsbD_extractLsb', BitVec.getLsbD_extractLsb', hbit]

end

/-! ### The mode area of a slot in SHADOW mode -/

section
variable {a : RegWrite} {s : State} {t : TenantId} {c : ChanId} {r : RegSpec}

theorem Lands.shadow_spec (l : Lands a s (.chan t c 0x50) r) (hm : ((s.landing a (.chan t c 0x50) r).chan c).mode = .shadow) :
    r = { wide := true, imm := 1, w1c := 2 } := by
  have hspec : ((s.arrival a.via).chan c).spec 0x50 = some r := (State.regAt_home l.there).2
  rw [State.landing_mode] at hm
  simp only [Chan.spec, hm] at hspec
  rw [if_neg (by decide)] at hspec
  split at hspec
  · exact nomatch hspec
  · exact (Option.some.inj hspec).symm

theorem Lands.onSlot (l : Lands a s (.chan t c 0x50) r) : onSlot a 0x50 = true := by
  have hh := (State.regAt_home l.there).1
  have hpage : a.page = .tenant t := State.home_page hh
  rw [hpage] at hh
  simp only [State.home] at hh
  split at hh
  · exact nomatch hh
  next hge =>
  split at hh
  · next hrange =>
    obtain ⟨d, -, hd⟩ := Option.map_eq_some_iff.mp hh
    have hp : baseOf a.off / 8 * 8 % 0x100 = 0x50 := by injection hd
    simp only [Machine.onSlot, placeOf, hpage, hp, hrange]
    simp
  · exact nomatch hh

theorem lowBit_wide (h8 : a.eight = true) : lowBit a 0 = bitAt a.data 0 := by
  simp [lowBit, writtenWord, h8, lo32, bitAt]

/-- What a write to the arm bit brings about. -/
theorem Lands.afterArm (l : Lands a s (.chan t c 0x50) r) (hview : viewOf a.off = 0)
    (hm : ((s.landing a (.chan t c 0x50) r).chan c).mode = .shadow) :
    (s.landing a (.chan t c 0x50) r).afterWrite (s.performed a (.chan t c 0x50) r) =
      if bitAt a.data 0 = true then (s.landing a (.chan t c 0x50) r).armSet c else s.landing a (.chan t c 0x50) r := by
  have hspec := l.shadow_spec hm
  have h8 : a.eight = true := by rw [l.whole, hspec]
  have hwrote : bitAt (s.performed a (.chan t c 0x50) r).wrote 0 = true := by
    simp [State.performed, State.eventsWin, State.written, State.writeOf, partOf_wide h8 hview, WritePart.wrote, bitAt]
    decide
  have hnew : bitAt (s.performed a (.chan t c 0x50) r).new 0 = bitAt a.data 0 :=
    State.performed_new_named (partOf_wide h8 hview) (by rw [hspec]; decide) (by decide)
  show State.afterChan _ c 0x50 _ = _
  unfold State.afterChan
  dsimp only
  rw [if_neg (by decide), if_pos hm, hwrote, hnew]
  simp

theorem Lands.armBit (l : Lands a s (.chan t c 0x50) r) (hview : viewOf a.off = 0)
    (hm : ((s.landing a (.chan t c 0x50) r).chan c).mode = .shadow) :
    bitAt (((s.landing a (.chan t c 0x50) r).chan c).reg 0x50) 0 = bitAt a.data 0 := by
  have hspec := l.shadow_spec hm
  have h8 : a.eight = true := by rw [l.whole, hspec]
  exact State.landing_imm_named (h := .chan t c 0x50) (fun _ => Home.noConfusion) Home.noConfusion (partOf_wide h8 hview) (by rw [hspec]; decide) (by rw [hspec]; decide) (by decide)

theorem Lands.shadowArm (l : Lands a s (.chan t c 0x50) r) (hview : viewOf a.off = 0)
    (hm : ((s.landing a (.chan t c 0x50) r).chan c).mode = .shadow) (hon : bitAt a.data 0 = true) :
    exec (.shadowArm a) s = .next ((s.landing a (.chan t c 0x50) r).armSet c) := by
  have h8 : a.eight = true := by rw [l.whole, l.shadow_spec hm]
  refine (l.rowAt ?_).trans (congrArg _ ((l.afterArm hview hm).trans (if_pos hon)))
  rw [l.onSlot, lowBit_wide h8, hon]
  rfl

theorem Lands.shadowDisarm (l : Lands a s (.chan t c 0x50) r) (hview : viewOf a.off = 0)
    (hm : ((s.landing a (.chan t c 0x50) r).chan c).mode = .shadow) (hoff : bitAt a.data 0 = false) :
    exec (.shadowDisarm a) s = .next (s.landing a (.chan t c 0x50) r) := by
  have h8 : a.eight = true := by rw [l.whole, l.shadow_spec hm]
  refine (l.rowAt ?_).trans (congrArg _ ((l.afterArm hview hm).trans (if_neg (by rw [hoff]; exact Bool.false_ne_true))))
  rw [l.onSlot, lowBit_wide h8, hoff]
  rfl

end

/-- A set with an error disarms, with the offset and the kind. -/
theorem State.armSet_error {v : State} {c : ChanId} {off kind : Nat} (h : v.setError c = some (off, kind)) :
    let u := v.armSet c
    bitAt ((u.chan c).reg 0x50) 0 = false ∧ bitAt ((u.chan c).reg 0x50) 1 = true ∧ (u.chan c).shadow.armErrOffset = BitVec.ofNat 8 off ∧
      (u.chan c).shadow.armErrKind = BitVec.ofNat 4 kind ∧ (∀ d, d ≠ c → u.chan d = v.chan d) ∧ u.cues = v.cues := by
  have hu : v.armSet c = v.updChan c fun n =>
      let m := n.setAct 0x50 ((n.reg 0x50 &&& ~~~(1 : Word)) ||| 2)
      { m with shadow := { m.shadow with armErrOffset := BitVec.ofNat 8 off, armErrKind := BitVec.ofNat 4 kind } } := by
    simp only [State.armSet, h]
  rw [hu]
  have hreg : (((v.chan c).setAct 0x50 (((v.chan c).reg 0x50 &&& ~~~(1 : Word)) ||| 2)).reg 0x50) = ((v.chan c).reg 0x50 &&& ~~~(1 : Word)) ||| 2 := by
    simp [Chan.setAct, Chan.reg]
  refine ⟨?_, ?_, ?_, ?_, fun d hd => State.chan_updChan_other _ _ hd.symm, rfl⟩
  · rw [State.chan_updChan_same]
    refine (congrArg (bitAt · 0) hreg).trans ?_
    simp [bitAt]
  · rw [State.chan_updChan_same]
    refine (congrArg (bitAt · 1) hreg).trans ?_
    simp [bitAt]
  · rw [State.chan_updChan_same]
  · rw [State.chan_updChan_same]

/-- What arming SYSREF leaves: nothing due without ARM, one pulse at its time with ARM of a single pulse. -/
theorem State.armSysref_fields (v : State) :
    let u := v.armSysref; let w := v.devReg 0x1850
    (bitAt w 0 = false → u.conv.sysrefNext = none ∧ u.conv.sysrefLeft = none ∧ u.dev = v.dev) ∧
    (bitAt w 0 = true → field w 2 1 = 0 → bitAt w 3 = false → futureBy 64 (v.devReg 0x1858) v.now = true →
      u.conv.sysrefNext = some (v.devReg 0x1858) ∧ u.conv.sysrefLeft = some 1 ∧ u.dev = v.dev) ∧
    u.chans = v.chans ∧ u.acts = v.acts ∧ u.prot = v.prot := by
  intro u w
  refine ⟨fun h0 => ?_, fun h0 hp h3 hf => ?_, ?_⟩
  · have hu : u = _ := if_pos (by simp [w] at h0; simp [h0])
    rw [hu]
    exact ⟨rfl, rfl, rfl⟩
  · have hu : u = { v with conv := { v.conv with sysrefNext := some (v.devReg 0x1858), sysrefLeft := some 1 } } := by
      show State.armSysref v = _
      simp only [w] at h0 hp h3
      simp [State.armSysref, h0, hp, h3, hf]
    rw [hu]
    exact ⟨rfl, rfl, rfl⟩
  · show (State.armSysref v).chans = _ ∧ (State.armSysref v).acts = _ ∧ (State.armSysref v).prot = _
    unfold State.armSysref
    dsimp only
    (repeat' split) <;> simp [(State.note_kept _ _ _ _ _ _).chans, (State.note_kept _ _ _ _ _ _).acts]

theorem Lands.apertureMove {a : RegWrite} {s : State} {r : RegSpec} {k : Nat} (hk : k < 2) (l : Lands a s (.dev (0x90 + 8 * k)) r)
    (hview : viewOf a.off = 0) : exec (.apertureMove a) s = .next (s.landing a (.dev (0x90 + 8 * k)) r) ∧
      field ((s.landing a (.dev (0x90 + 8 * k)) r).devReg (0x90 + 8 * k)) 35 20 = field a.data 35 20 := by
  have hspec : r = imm64 (bits 35 20) := by
    have h := l.spec_dev
    obtain rfl | rfl : k = 0 ∨ k = 1 := (by omega)
    all_goals simpa [devSpec, devSpecLow] using h.symm
  have h8 : a.eight = true := by
    rw [l.whole, hspec]
    rfl
  refine ⟨?_, State.landing_devField h8 hview (by omega) (by rw [hspec]; decide) (by rw [hspec]; decide)⟩
  have hplace := l.onDevice
  obtain rfl | rfl : k = 0 ∨ k = 1 := (by omega)
  · exact l.rowAt (by rw [hplace]; rfl)
  · exact l.rowAt (by rw [hplace, Bool.or_true])

theorem Lands.sysrefArm {a : RegWrite} {s : State} {r : RegSpec} (l : Lands a s (.dev 0x1850) r) (hview : viewOf a.off = 0) :
    exec (.sysrefArm a) s = .next (s.landing a (.dev 0x1850) r).armSysref ∧
      (∀ i < 8, bitAt ((s.landing a (.dev 0x1850) r).devReg 0x1850) i = bitAt a.data i) ∧
      field ((s.landing a (.dev 0x1850) r).devReg 0x1850) 2 1 = field a.data 2 1 := by
  have hspec : r = { wide := true, imm := bits 7 0 ||| bits 47 16, w1c := bits 9 8 } := by
    simpa [devSpec, devSpecPorts] using l.spec_dev.symm
  have h8 : a.eight = true := by rw [l.whole, hspec]
  have hwrote : bitAt (s.performed a (.dev 0x1850) r).wrote 0 = true := by
    simp [State.performed, State.eventsWin, State.written, State.writeOf, partOf_wide h8 hview, WritePart.wrote, bitAt]
    decide
  have hrun : (s.landing a (.dev 0x1850) r).afterWrite (s.performed a (.dev 0x1850) r) = (s.landing a (.dev 0x1850) r).armSysref := if_pos hwrote
  have hall : ∀ i < 8, r.imm.getLsbD i = true ∧ r.w1c.getLsbD i = false := by
    rw [hspec]
    decide
  exact ⟨(l.rowAt l.onDevice).trans (congrArg _ hrun), fun i hi => State.landing_devBit h8 hview (by decide) (hall i hi).1 (hall i hi).2,
    State.landing_devField h8 hview (by decide) (by rw [hspec]; decide) (by rw [hspec]; decide)⟩

/-- Settles O36: each write is its row over the state in which the copies hold it. -/
theorem shadowApertureSysref : Obligations.ShadowApertureSysref := by
  unfold Obligations.ShadowApertureSysref
  intro a s h r l hview v
  refine ⟨?_, ?_, ?_⟩
  · rintro t c hpage rfl hm
    refine ⟨fun hon => ⟨fun hnone => ⟨?_, (l.armBit hview hm).trans hon⟩, fun off kind herr => ⟨_, l.shadowArm hview hm hon, State.armSet_error herr⟩⟩,
      fun hoff => ⟨l.shadowDisarm hview hm hoff, (l.armBit hview hm).trans hoff, ?_⟩⟩
    · rw [l.shadowArm hview hm hon]
      unfold State.armSet
      rw [hnone]
    · obtain ⟨-, hregs, hother⟩ := l.regsElse (fun _ => Home.noConfusion)
      refine ⟨fun k hk => congrArg Staged.act (hregs _ ?_), hother⟩
      revert k hk
      decide
  · rintro k hk hpage rfl
    obtain ⟨hrun, hfield⟩ := l.apertureMove hk hview
    have hframe : OnlyPages (s.arrival a.via) v := s.landing_onlyPages a _ r
    exact ⟨hrun, hfield, State.landing_dev_chans, by rw [hframe]⟩
  · rintro hpage rfl
    obtain ⟨hrun, hbits, hfield⟩ := l.sysrefArm hview
    obtain ⟨hidle, harm, hchans, hacts, hprot⟩ := v.armSysref_fields
    have h0 : bitAt (v.devReg 0x1850) 0 = bitAt a.data 0 := hbits 0 (by decide)
    have hreg {u : State} (hdev : u.dev = v.dev) : bitAt (u.devReg 0x1850) 0 = bitAt a.data 0 := by
      rw [State.devReg, hdev]
      exact h0
    refine ⟨_, hrun, fun hoff => ?_, fun hon hp h3 hf => ?_, hchans, hacts, hprot⟩
    · obtain ⟨hnext, hleft, hdev⟩ := hidle (h0.trans hoff)
      exact ⟨hnext, hleft, (hreg hdev).trans hoff⟩
    · obtain ⟨hnext, hleft, hdev⟩ := harm (h0.trans hon) (hfield.trans hp) ((hbits 3 (by decide)).trans h3) hf
      exact ⟨hnext, hleft, (hreg hdev).trans hon⟩

end Sys2Proof.Machine
end

section
/-! PROOF. Writes through views, and the two words of a 64-bit register (O37). -/

namespace Sys2Proof.Machine

/-! ### A write through a view -/

section
variable {a : RegWrite} {s : State} {h : Home} {r : RegSpec}

theorem partOf_view (a : RegWrite) : (partOf a).view = viewOf a.off := by
  unfold partOf
  (repeat' split) <;> rfl

/-- What a write leaves in the RW bits is what its part makes of the value before. -/
theorem State.performed_new_part : (s.performed a h r).new = ((s.performed a h r).old &&& ~~~r.rw) ||| ((partOf a).on (s.performed a h r).old &&& r.rw) := rfl

theorem State.performed_new_rw : (s.performed a h r).new &&& r.rw = (partOf a).on (s.performed a h r).old &&& r.rw := by
  rw [State.performed_new_part]
  generalize (s.performed a h r).old = x
  generalize (partOf a).on x = y
  ext i
  simp
  grind

theorem State.performed_new_else : (s.performed a h r).new &&& ~~~r.rw = (s.performed a h r).old &&& ~~~r.rw := by
  rw [State.performed_new_part]
  generalize (s.performed a h r).old = x
  generalize (partOf a).on x = y
  ext i
  simp
  grind

/-- A view writes no bit of the normal view. -/
theorem State.performed_ones_view (hv : viewOf a.off ≠ 0) : (s.performed a h r).ones = 0 := by
  have hnone : [partOf a].filter (fun p => p.view == 0) = [] := by
    rw [List.filter_eq_nil_iff]
    simp [partOf_view, hv]
  simp [State.performed, State.eventsWin, State.written, State.writeOf, hnone]

end

/-- The SET, CLEAR and TOGGLE views (R126). -/
theorem WritePart.on_view (p : WritePart) (x : Word) :
    (p.view = 1 → p.on x = x ||| (p.data &&& p.sel)) ∧ (p.view = 2 → p.on x = x &&& ~~~(p.data &&& p.sel)) ∧
      (p.view = 3 → p.on x = x ^^^ (p.data &&& p.sel)) := by
  refine ⟨fun hv => ?_, fun hv => ?_, fun hv => ?_⟩ <;> simp [WritePart.on, hv]

/-! ### The two words of a 64-bit register -/

section
variable {a : RegWrite} {u : State} {h : Home} {r : RegSpec}

@[simp] theorem State.setHeld_staged (s : State) (page : Page) (via : Via) (k : Option HalfWord) (h : Home) :
    (s.setHeld page via k).staged h = s.staged h := s.updCtl_staged page _ h

@[simp] theorem State.setHeld_heldLow (s : State) (page : Page) (via : Via) (k : Option HalfWord) :
    (((s.setHeld page via k).ctl page).view via).heldLow = k := by
  rw [State.setHeld, State.updCtl_ctl_same, PageCtl.updView_view_same]

theorem State.regWrite_narrow (h4 : a.eight = false) (halign : a.off.toNat % 4 = 0) :
    u.regWrite a.via a.page a.off a.eight a.data = u.write4 a.via a.page a.off (lo32 a.data) := by
  rw [State.regWrite, if_neg (by simp [h4, sizeOk, halign]), if_pos (by rw [h4]; rfl)]

/-- The low word of a 64-bit register waits for its high word. -/
theorem State.write4_low (hat : u.regAt a.via a.page a.off = some (h, r)) (hw : r.wide = true) (hlow : a.off.toNat % 8 = 0)
    (hheld : ((u.ctl a.page).view a.via).heldLow = none) :
    u.write4 a.via a.page a.off (lo32 a.data) = (u.setHeld a.page a.via (some ⟨a.off, lo32 a.data⟩), false) := by
  unfold State.write4
  rw [hat]
  simp [hw, hheld, baseOf_mod_eight, hlow]

/-- The write that both words of a 64-bit register make. -/
def State.pairWrite (v : State) (a : RegWrite) (h : Home) (r : RegSpec) (k : HalfWord) : Write :=
  v.writeOf a.via a.page a.off h r [⟨0, k.word.zeroExtend 64, bits 31 0⟩, ⟨0, (lo32 a.data).zeroExtend 64 <<< 32, bits 63 32⟩]

theorem State.pairWrite_new (v : State) (k : HalfWord) :
    (v.pairWrite a h r k).new &&& r.rw = (lo32 a.data ++ k.word) &&& r.rw := by
  have hall : (⟨0, (lo32 a.data).zeroExtend 64 <<< 32, bits 63 32⟩ : WritePart).on
      ((⟨0, k.word.zeroExtend 64, bits 31 0⟩ : WritePart).on (v.writeBase h r)) = lo32 a.data ++ k.word := by
    generalize v.writeBase h r = x
    generalize lo32 a.data = y
    refine BitVec.eq_of_getLsbD_eq fun i hi => ?_
    have hmask : ∀ i < 64, (bits 31 0).getLsbD i = decide (i < 32) ∧ (bits 63 32).getLsbD i = !decide (i < 32) := by decide
    obtain ⟨hlow, hhigh⟩ := hmask i hi
    rw [BitVec.getLsbD_eq_getElem hi] at hlow hhigh
    rw [BitVec.getLsbD_append]
    by_cases h32 : i < 32
    · simp [WritePart.on, hlow, hhigh, h32, hi]
    · simp [WritePart.on, hlow, hhigh, h32, hi]
  have hnew : (v.pairWrite a h r k).new = (v.writeBase h r &&& ~~~r.rw) ||| ((lo32 a.data ++ k.word) &&& r.rw) := by
    rw [← hall]
    rfl
  rw [hnew]
  generalize v.writeBase h r = x
  generalize lo32 a.data ++ k.word = y
  ext i
  simp
  grind

theorem State.write4_high {k : HalfWord} (hat : u.regAt a.via a.page a.off = some (h, r)) (hw : r.wide = true) (hhigh : a.off.toNat % 8 = 4)
    (hview : viewOf a.off = 0) (hheld : ((u.ctl a.page).view a.via).heldLow = some k) (hk : k.off = a.off - 4) :
    u.write4 a.via a.page a.off (lo32 a.data) =
      (u.setHeld a.page a.via none).commitWrite ((u.setHeld a.page a.via none).pairWrite a h r k) true := by
  have hlt := a.off.isLt
  have hoff : k.off.toNat = a.off.toNat - 4 := by
    rw [hk]
    bv_omega
  have hbelongs : k.belongs a.off = true := by
    rw [HalfWord.belongs, decide_eq_true_eq, baseOf, baseOf, hoff]
    omega
  have hviewLow : viewOf k.off = 0 := by
    unfold viewOf at hview ⊢
    omega
  have hbase : baseOf a.off % 8 = 4 := by rw [baseOf_mod_eight, hhigh]
  unfold State.write4
  rw [hat]
  simp only [hw, hheld, hbase, hbelongs, hview, hviewLow, Bool.not_true, Bool.false_eq_true, if_false, decide_true, if_true]
  rfl

end

/-- Settles O37: what each view makes of the bits, and the two words of a pair. -/
theorem viewsAndHalves : Obligations.ViewsAndHalves := by
  unfold Obligations.ViewsAndHalves
  intro a s h r
  refine ⟨partOf_view a, fun l hv => ?_, ?_, ?_⟩
  · intro w d
    obtain ⟨hset, hclear, htoggle⟩ := (partOf a).on_view w.old
    rw [partOf_view] at hset hclear htoggle
    have hrw : w.new &&& r.rw = (partOf a).on w.old &&& r.rw := State.performed_new_rw
    rw [hrw]
    exact ⟨l.rowAt (decide_eq_true hv), State.performed_ones_view hv, State.performed_new_else, fun h => by rw [hset h], fun h => by rw [hclear h], fun h => by rw [htoggle h]⟩
  · intro u hreach hopen hodd h4 hlow hat hw hheld v
    have hhere : (!a.eight && decide (baseOf a.off % 8 = 0)) = true := by simp [h4, baseOf_mod_eight, hlow]
    refine ⟨?_, State.setHeld_staged .., State.setHeld_heldLow ..⟩
    show s.rowAt _ a = _
    rw [State.rowAt, if_pos hhere, State.writeRow_eq hreach hopen hodd, State.regWrite_narrow h4 (by omega), State.write4_low hat hw hlow hheld]
    rfl
  · intro u k hreach hopen hodd h4 hhigh hat hw hview hheld hk v w hj hg ho
    refine ⟨?_, State.pairWrite_new v k⟩
    have hcommit : v.commitWrite w true = _ := State.commitWrite_of_takes hj ho (fun h => absurd (hg.symm.trans h) (by decide)) true
    rw [if_neg (by rw [hg]; decide)] at hcommit
    show Host.Outcome.next (s.writeRow a) = _
    rw [State.writeRow_eq hreach hopen hodd, State.regWrite_narrow h4 (by omega), State.write4_high hat hw hhigh hview hheld hk]
    refine congrArg Host.Outcome.next ?_
    have hpair : (u.setHeld a.page a.via none).commitWrite ((u.setHeld a.page a.via none).pairWrite a h r k) true = _ := hcommit
    rw [hpair]
    rfl

end Sys2Proof.Machine
end

section
/-! PROOF. Reads of registers (O38). -/

namespace Sys2Proof.Machine

/-! ### Which registers a read finds -/

theorem modeSpec_houseHi (m : ChanMode) (p : Nat) {r : RegSpec} (h : modeSpec m p = some r) : r.houseHi = false := by
  cases m <;> simp only [modeSpec, reduceCtorEq, if_false, if_true] at h <;> (repeat' split at h) <;> cases h <;> rfl

theorem Chan.spec_houseHi {n : Chan} {p : Nat} {r : RegSpec} (h : n.spec p = some r) : r.houseHi = false := by
  unfold Chan.spec at h
  split at h
  · split at h <;> cases h <;> rfl
  · split at h
    · exact nomatch h
    · exact modeSpec_houseHi _ _ h

theorem tenSpec_houseHi {p : Nat} {r : RegSpec} (h : tenSpec p = some r) : r.houseHi = false := by
  unfold tenSpec at h
  split at h
  · cases h; rfl
  split at h
  · cases h; rfl
  split at h
  · cases h; rfl
  · split at h <;> cases h <;> rfl

/-- A 64-bit register is not the House's alone in its high word. -/
def RegSpec.shared (r : RegSpec) : Bool := !r.wide || !r.houseHi

theorem devSpecTime_shared (p : Nat) : (devSpecTime p).all RegSpec.shared = true := by
  simp only [devSpecTime, apply_ite (Option.all RegSpec.shared), Option.all_some, Option.all_none]
  simp [RegSpec.shared, ro64, ro32, ro32x2, imm64]

theorem devSpecActs_shared (p : Nat) : (devSpecActs p).all RegSpec.shared = true := by
  unfold devSpecActs
  split
  · split <;> rfl
  · simp only [apply_ite (Option.all RegSpec.shared), Option.all_some, Option.all_none]
    simp [RegSpec.shared, ro64, stg64, imm64]

theorem devSpecPorts_shared (p : Nat) : (devSpecPorts p).all RegSpec.shared = true := by
  simp only [devSpecPorts, apply_ite (Option.all RegSpec.shared), Option.all_some, Option.all_none]
  simp [RegSpec.shared, ro64, ro32, stg64, imm64]

theorem devSpecLow_shared (p : Nat) : (devSpecLow p).all RegSpec.shared = true := by
  unfold devSpecLow
  split <;> rfl

theorem devSpecCare_shared (p : Nat) : (devSpecCare p).all RegSpec.shared = true := by
  unfold devSpecCare
  split <;> rfl

/-- The registers of which the high word is the House's alone are no 64-bit ones. -/
theorem devSpec_houseHi {p : Nat} {r : RegSpec} (h : devSpec p = some r) (hw : r.wide = true) : r.houseHi = false := by
  have hall : (devSpec p).all RegSpec.shared = true := by
    simp only [devSpec, apply_ite (Option.all RegSpec.shared), devSpecLow_shared, devSpecTime_shared, devSpecActs_shared, devSpecCare_shared,
      devSpecPorts_shared, ite_self]
  simpa [h, RegSpec.shared, hw] using hall

theorem State.specAt_houseHi {s : State} {h : Home} {r : RegSpec} (hs : s.specAt h = some r) (hw : r.wide = true) : r.houseHi = false := by
  cases h with
  | dev p => exact devSpec_houseHi hs hw
  | ten t p => exact tenSpec_houseHi hs
  | chan t c p => exact Chan.spec_houseHi hs

/-- A control block or view of a port changed leaves the places and their registers. -/
theorem State.updCtl_regAt (s : State) (q : Page) (f : PageCtl → PageCtl) (via : Via) (page : Page) (off : BitVec 18) :
    (s.updCtl q f).regAt via page off = s.regAt via page off := by
  have hresp : (s.updCtl q f).responds via page = s.responds via page := by
    simp [State.responds, State.record, State.portOfTenant]
  have hhome (b : Nat) : (s.updCtl q f).home page b = s.home page b := by
    simp only [State.home, State.physical, State.record, State.updCtl_prot]
    rfl
  have hspec (h : Home) : (s.updCtl q f).specAt h = s.specAt h := by
    cases h <;> simp [State.specAt, State.chan]
  unfold State.regAt
  simp only [hresp, hhome, hspec]

/-- The high word of a 64-bit register lies beside its low word. -/
theorem State.regAt_high {s : State} {via : Via} {page : Page} {off : BitVec 18} {h : Home} {r : RegSpec}
    (hat : s.regAt via page off = some (h, r)) (hw : r.wide = true) (hlow : off.toNat % 8 = 0) (hview : viewOf off = 0) :
    s.regAt via page (off + 4) = some (h, r) := by
  obtain ⟨hhome, hspec⟩ := State.regAt_home hat
  have hresp : s.responds via page = true := by
    unfold State.regAt at hat
    cases hr : s.responds via page with
    | true => rfl
    | false => simp [hr] at hat
  have hlt : off.toNat < 0x10000 := by
    have := off.isLt
    unfold viewOf at hview
    omega
  have hoff : (off + 4).toNat = off.toNat + 4 := by
    rw [BitVec.toNat_add]
    exact Nat.mod_eq_of_lt (by simp; omega)
  have hbase : baseOf (off + 4) / 8 * 8 = baseOf off / 8 * 8 := by
    unfold baseOf
    omega
  have hhigh : baseOf (off + 4) % 8 = 4 := by
    unfold baseOf
    omega
  have hhome' : s.home page (baseOf (off + 4)) = some h := by
    rw [← hhome]
    unfold State.home
    rw [hbase]
  have hview' : viewOf (off + 4) = 0 := by
    unfold viewOf
    omega
  unfold State.regAt
  simp only [hresp, hhome', hspec, hw, hhigh, State.specAt_houseHi hspec hw, hview']
  simp

/-! ### Reads of 4 bytes -/

section
variable {a : RegRead} {s u : State} {h : Home} {r : RegSpec}

/-- A read that has no effect of its own. -/
theorem State.readEffect_quiet (via : Via) {h : Home} (ht : ∀ t, h ≠ .ten t 0x70) (hd : h ≠ .dev 0x1898) (x : Word) :
    u.readEffect via h x = (u, x) := by
  cases h with
  | dev p => exact if_neg fun hp => hd (by rw [hp])
  | ten t p => exact if_neg fun hp => ht t (by rw [hp])
  | chan t c p => rfl

theorem State.regRead_narrow (h4 : a.eight = false) (hsize : sizeOk a.off a.eight = true) :
    u.regRead a.via a.page a.off a.eight = u.read4 a.via a.page a.off := by
  rw [State.regRead, if_neg (by simp [hsize]), if_pos (by rw [h4]; rfl)]

/-- The state in which the port has latched the high word of a register. -/
def State.latched (u : State) (a : RegRead) (x : Word) : State :=
  u.updCtl a.page fun c => c.updView a.via fun y => { y with shadow := some ⟨BitVec.ofNat 18 (baseOf a.off / 8 * 8), hi32 x⟩ }

theorem State.read4_low (hat : u.regAt a.via a.page a.off = some (h, r)) (hw : r.wide = true) (hlow : a.off.toNat % 8 = 0)
    (ht : ∀ t, h ≠ .ten t 0x70) (hd : h ≠ .dev 0x1898) :
    u.read4 a.via a.page a.off = ⟨u.latched a (u.regValue a.via h r), u.regValue a.via h r &&& bits 31 0, false⟩ := by
  unfold State.read4
  rw [hat]
  dsimp only
  rw [State.readEffect_quiet a.via ht hd]
  simp [hw, baseOf_mod_eight, hlow, State.latched]

theorem State.read4_high {via : Via} {page : Page} {off : BitVec 18} {w : Dword} (hat : u.regAt via page off = some (h, r)) (hw : r.wide = true) (hhigh : off.toNat % 8 = 4)
    (ht : ∀ t, h ≠ .ten t 0x70) (hd : h ≠ .dev 0x1898)
    (hs : ((u.ctl page).view via).shadow = some ⟨BitVec.ofNat 18 (baseOf off / 8 * 8), w⟩) :
    u.read4 via page off = ⟨u, w.zeroExtend 64, false⟩ := by
  unfold State.read4
  rw [hat]
  dsimp only
  rw [State.readEffect_quiet via ht hd]
  simp [hw, baseOf_mod_eight, hhigh, hs]

theorem Got.readDone_ok (g : Got) (via : Via) (eight : Bool) (h : g.err = false) : State.readDone g via eight = g.s.emit (.regData via eight g.data) :=
  if_pos (by rw [h]; rfl)

end

/-! ### T_PROP_ALLOC (R452) -/

/-- The requester of a port's register reads. -/
def takerOf (via : Via) : Nat := if via = .hp1 then 97 else 96

/-- The state at whose edge the arbiter considers a request. -/
def State.propEdge (u : State) : State := { u with props := u.props.atEdge u.coreEdge }

/-- What the arbiter gives a register read against the requests that stand before it. -/
def State.allocGrant (u : State) (via : Via) (t : TenantId) : Option Nat :=
  u.propEdge.propFor t (takerOf via) (u.propRivals.filter fun x => x.2 != takerOf via)

/-- The arbiter after a grant. -/
def PropRoom.granted (p : PropRoom) (held : HeldProp) (taker : Nat) : PropRoom :=
  if (p.reach.map fun d => decide (takerAfter p.first taker < d)) = some true then { p with held := held :: p.held }
  else { p with held := held :: p.held, pointer := (taker + 1) % 98, reach := some (takerAfter p.first taker) }

theorem PropRoom.atEdge_same (p : PropRoom) (e : Tick) : (p.atEdge e).held = p.held ∧ (p.atEdge e).count = p.count := by
  unfold PropRoom.atEdge
  split <;> exact ⟨rfl, rfl⟩

theorem State.grantProp_index (v : State) (t : TenantId) (taker : Nat) : (v.grantProp t taker).2 = if v.propsLeft t then v.freeProp else none := by
  unfold State.grantProp
  cases v.propsLeft t <;> cases v.freeProp <;> rfl

/-- Without a rival the arbiter gives the lowest free prop to a tenant that may take one. -/
theorem State.propFor_alone (v : State) (t : TenantId) (taker : Nat) : v.propFor t taker [] = if v.propsLeft t then v.freeProp else none := by
  have hbefore : [(t, taker)].takeWhile (fun r => r.2 != taker) = [] := by simp
  rw [← State.grantProp_index v t taker]
  simp only [State.propFor, List.foldl_nil, hbefore]

theorem State.allocGrant_alone (u : State) (via : Via) (t : TenantId) (h : (u.propRivals.filter fun x => x.2 != takerOf via) = []) :
    u.allocGrant via t = if u.propsLeft t then u.freeProp else none := by
  obtain ⟨hheld, hcount⟩ := u.props.atEdge_same u.coreEdge
  rw [State.allocGrant, h, State.propFor_alone]
  simp only [State.propsLeft, State.freeProp, State.propEdge, hheld, hcount]
  rfl

section
variable {a : RegRead} {s u : State} {t : TenantId} {r : RegSpec}

theorem State.readEffect_alloc_some (via : Via) (x : Word) {i : Nat} (h : u.allocGrant via t = some i) :
    u.readEffect via (.ten t 0x70) x =
      ({ u with props := (u.props.atEdge u.coreEdge).granted ⟨BitVec.ofNat 16 i, t, takerOf via⟩ (takerOf via) }, BitVec.ofNat 64 i) := by
  have hfor : (State.propFor { u with props := u.props.atEdge u.coreEdge } t (takerOf via) (u.propRivals.filter fun x => x.2 != takerOf via)) = some i := h
  have hask : u.askProp t (takerOf via) (u.propRivals.filter fun x => x.2 != takerOf via) =
      ({ u with props := (u.props.atEdge u.coreEdge).granted ⟨BitVec.ofNat 16 i, t, takerOf via⟩ (takerOf via) }, some i) := by
    simp only [State.askProp, hfor, PropRoom.granted]
    (repeat' split) <;> rfl
  simp only [takerOf] at hask ⊢
  simp only [State.readEffect, if_true, hask]

theorem State.readEffect_alloc_none (via : Via) (x : Word) (h : u.allocGrant via t = none) :
    u.readEffect via (.ten t 0x70) x = (u.propEdge.updTenant t fun n => { n with starved := satAdd n.starved 1 }, 0xFFFF) := by
  have hfor : (State.propFor { u with props := u.props.atEdge u.coreEdge } t (takerOf via) (u.propRivals.filter fun x => x.2 != takerOf via)) = none := h
  have hask : u.askProp t (takerOf via) (u.propRivals.filter fun x => x.2 != takerOf via) = (u.propEdge, none) := by
    simp only [State.askProp, hfor]
    rfl
  simp only [takerOf] at hask ⊢
  simp only [State.readEffect, if_true, hask]

/-- A 4-byte read of the low word of a narrow register. -/
theorem State.read4_narrow {h : Home} (hat : u.regAt a.via a.page a.off = some (h, r)) (hw : r.wide = false) (hlow : a.off.toNat % 8 = 0) :
    u.read4 a.via a.page a.off =
      ⟨(u.readEffect a.via h (u.regValue a.via h r)).1, (u.readEffect a.via h (u.regValue a.via h r)).2 &&& bits 31 0, false⟩ := by
  unfold State.read4
  rw [hat]
  simp [hw, baseOf_mod_eight, hlow]

theorem State.regRead_wide {p : Nat} (h8 : a.eight = true) (hsize : sizeOk a.off a.eight = true) (hat : u.regAt a.via a.page a.off = some (.dev p, r))
    (hw : r.wide = true) (h4 : r.only4 = false) (hpage : a.page = .device) :
    u.regRead a.via a.page a.off a.eight =
      ⟨(u.readEffect a.via (.dev p) (u.regValue a.via (.dev p) r)).1, (u.readEffect a.via (.dev p) (u.regValue a.via (.dev p) r)).2, false⟩ := by
  obtain ⟨hhome, hspec⟩ := State.regAt_home hat
  have honly : u.onlyFour a.page a.off = false := by
    unfold State.onlyFour
    dsimp only
    rw [hhome]
    dsimp only
    rw [hspec, hpage]
    exact h4
  rw [State.regRead, if_neg (by simp [hsize]), if_neg (by simp [h8]), if_neg (by simp [honly]), hat]
  simp [hw]

end

/-- Settles O38: each read gives the value of its register and leaves what its effect leaves. -/
theorem registerReads : Obligations.RegisterReads := by
  unfold Obligations.RegisterReads
  intro a s h r u hreach hopen hodd hsize hat
  have hread : s.requestRead a = State.readDone (u.regRead a.via a.page a.off a.eight) a.via a.eight := State.requestRead_eq hreach hopen hodd
  refine ⟨?_, ?_, ?_⟩
  · intro h4 hlow hw ht hd x v
    refine ⟨?_, fun b hvia hpage hbodd hb4 hboff hview hsame hbopen hbreach => ?_⟩
    · show Host.Outcome.next (s.requestRead a) = _
      rw [hread, State.regRead_narrow h4 hsize, State.read4_low hat hw hlow ht hd, Got.readDone_ok _ _ _ rfl, h4]
      rfl
    · have hboff' : b.off.toNat % 8 = 4 := by
        have := a.off.isLt
        rw [hboff, BitVec.toNat_add]
        show (a.off.toNat + 4) % 2 ^ 18 % 8 = 4
        omega
      have hbase : baseOf (a.off + 4) / 8 * 8 = baseOf a.off / 8 * 8 := by
        have := a.off.isLt
        rw [baseOf, baseOf, BitVec.toNat_add]
        show (a.off.toNat + 4) % 2 ^ 18 % 0x10000 / 8 * 8 = _
        omega
      have hlatch : ((v.ctl b.page).view b.via).shadow = some ⟨BitVec.ofNat 18 (baseOf b.off / 8 * 8), hi32 x⟩ := by
        rw [hvia, hpage, hboff, hbase, State.updCtl_ctl_same, PageCtl.updView_view_same]
      have hbat : v.regAt b.via b.page b.off = some (h, r) := by
        rw [hvia, hpage, hboff]
        exact (State.updCtl_regAt u _ _ _ _ _).trans (State.regAt_high hat hw hlow hview)
      have hbread : v.requestRead b = State.readDone (v.regRead b.via b.page b.off b.eight) b.via b.eight := by
        have hb := State.requestRead_eq (s := v) (a := b) (by rw [hvia]; exact hbreach) (by rw [hvia]; exact hbopen) hbodd
        rwa [hvia, hsame, ← hvia] at hb
      show Host.Outcome.next (v.requestRead b) = _
      rw [hbread, State.regRead_narrow hb4 (by simp [sizeOk, hb4]; omega), State.read4_high hbat hw hboff' ht hd hlatch, Got.readDone_ok _ _ _ rfl, hb4, hvia]
  · rintro t hpage rfl h4 hbase taker pr rivals g far
    have hspec : r = { only4 := true } := by simpa [State.specAt, tenSpec] using (State.regAt_home hat).2.symm
    have hlow : a.off.toNat % 8 = 0 := by
      unfold baseOf at hbase
      omega
    have hrun : exec (.tPropAlloc a) s = .next (s.requestRead a) := by
      show execTPropAlloc a s = _
      simp only [execTPropAlloc, hpage, hbase, if_true]
    rw [hrun, hread, State.regRead_narrow h4 hsize, State.read4_narrow hat (by rw [hspec]) hlow, Got.readDone_ok _ _ _ rfl, h4]
    refine ⟨fun hnone => u.allocGrant_alone a.via t hnone, fun i hi => ?_, fun hnone => ?_⟩
    · rw [State.readEffect_alloc_some a.via _ hi]
      have hheld := (u.props.atEdge_same u.coreEdge).1
      simp only [PropRoom.granted, hheld]
      rfl
    · rw [State.readEffect_alloc_none a.via _ hnone]
      have hall : (0xFFFF : Word) &&& bits 31 0 = 0xFFFF := by decide
      dsimp only
      rw [hall]
      rfl
  · rintro hpage rfl h8
    have hspec : r = ro64 := by simpa [State.specAt, devSpec, devSpecPorts] using (State.regAt_home hat).2.symm
    have hplace : baseOf a.off / 8 * 8 = 0x1898 := by
      have hh := (State.regAt_home hat).1
      rw [hpage] at hh
      simp only [State.home, Option.ite_none_right_eq_some, Option.some.injEq, Home.dev.injEq] at hh
      exact hh.2
    have hrun : exec (.prbsErrRead a) s = .next (s.requestRead a) := by
      show execPrbsErrRead a s = _
      simp only [execPrbsErrRead, hpage, hplace, if_true]
    refine ⟨{ u with conv := { u.conv with prbsErr := 0 } }, ?_, rfl, rfl, rfl, rfl⟩
    rw [hrun, hread, State.regRead_wide h8 hsize hat (by rw [hspec]; rfl) (by rw [hspec]; rfl) hpage, Got.readDone_ok _ _ _ rfl, h8]
    rfl

end Sys2Proof.Machine
end

section
/-! PROOF. Doorbells and the reads of ring, chain and script memory (O39). -/

namespace Sys2Proof.Machine

/-! ### A doorbell over a port that is up -/

section
variable {s u : State} {via : Via} {t : TenantId} {q : QueueId} {value : Dword}

/-- A doorbell of a queue that exists is written in the state of its arrival. -/
theorem State.bellRow_eq {cq : Bool} (hreach : s.reaches via = true) (hopen : (s.touched via).barsShut = false)
    (hbell : ((s.arrival via).bellAt via (.tenant t) (bellOffset cq q)).isSome = true) :
    s.bellRow via t cq q value = (s.arrival via).writeBell t cq q value := by
  obtain ⟨k, hk⟩ := Option.isSome_iff_exists.mp hbell
  unfold State.bellRow State.requestWrite
  rw [if_neg (by simp [hreach])]
  dsimp only
  rw [if_neg (by simp [hopen])]
  unfold State.arrival at hk ⊢
  cases hv : viaHost via <;> rw [hv] at hk <;> dsimp only at hk ⊢ <;> rw [hk] <;> rfl

theorem State.writeBell_held {cq : Bool} (h : u.clocksOff = true) :
    u.writeBell t cq q value = { u with power := { u.power with held := u.power.held ++ [⟨cq, t, q, value⟩] } } := if_pos h

theorem State.writeBell_rings {cq : Bool} (h : u.clocksOff = false) : u.writeBell t cq q value = u.ring cq t q value :=
  if_neg (by rw [h]; exact Bool.false_ne_true)

theorem State.ringTail_faulted (h : (u.sq t q).state = .faulted) : u.ringTail t q value = u := by
  simp only [State.ringTail, h]

theorem State.ringTail_refused {k : Nat} (h : (u.sq t q).state = .active) (hj : (u.sq t q).judgeTail value = some k) :
    u.ringTail t q value = u.faultSq t q k 0x09 (BitVec.ofNat 32 (k + 65536 * (value.toNat % 65536))) := by
  simp only [State.ringTail, h, hj]

/-- The state in which the published entries of an SQ reach a new tail. -/
def State.published (u : State) (t : TenantId) (q : QueueId) (value : Dword) : State :=
  u.updSq t q fun x => { x with tail := value.truncate 16, ownWait := false, stamps := if q = 0 then x.stamps ++ [(value.truncate 16, u.now)] else [] }

theorem State.ringTail_bound {c : ChanId} (h : (u.sq t q).state = .active) (hj : (u.sq t q).judgeTail value = none) (hc : (u.sq t q).slot = some c) :
    u.ringTail t q value = (u.published t q value).go [c] := by
  simp only [State.ringTail, h, hj, hc]
  rfl

theorem State.ringTail_unbound (h : (u.sq t q).state = .active) (hj : (u.sq t q).judgeTail value = none) (hc : (u.sq t q).slot = none) :
    u.ringTail t q value = u.published t q value := by
  simp only [State.ringTail, h, hj, hc]
  rfl

theorem SubQueue.judgeTail_beyond (x : SubQueue) (h : ringSize x.log2 ≤ value.toNat) : x.judgeTail value = some 1 := if_pos (Or.inr h)

theorem SubQueue.judgeTail_within (x : SubQueue) (h : value.toNat < ringSize x.log2) (h16 : value.toNat < 65536)
    (hroom : ringDiff x.log2 (value.truncate 16) x.tail ≤ ringSize x.log2 - 1 - ringDiff x.log2 x.tail x.head) : x.judgeTail value = none := by
  rw [SubQueue.judgeTail, if_neg (by rw [not_or]; exact ⟨by omega, by omega⟩), if_neg (by omega)]

theorem CompQueue.judgeHead_within (x : CompQueue) (h : value.toNat < ringSize x.log2) (h16 : value.toNat < 65536)
    (hroom : ringDiff x.log2 (value.truncate 16) x.head ≤ ringDiff x.log2 x.tail x.head) : x.judgeHead value = none := by
  rw [CompQueue.judgeHead, if_neg (by rw [not_or]; exact ⟨by omega, by omega⟩), if_neg (by omega)]

theorem State.chansOnCq_updCq (f : CompQueue → CompQueue) : (u.updCq t q f).chansOnCq t q = u.chansOnCq t q := by
  have hcq (c : ChanId) : (u.updCq t q f).cqIdOf c = u.cqIdOf c := by
    have hsq (k : TenantId) (r : QueueId) : (u.updCq t q f).sq k r = u.sq k r := by
      simp only [State.sq, State.updCq, State.updTenant, Tbl.look_upd]
      split
      · next h => rw [h]
      · rfl
    exact congrArg (fun x : SubQueue => x.cq.zeroExtend 7) (hsq _ _)
  unfold State.chansOnCq
  simp only [hcq]
  rfl

theorem State.ringHead_frees (h : (u.cq t q).state = .active) (hj : (u.cq t q).judgeHead value = none) (hheld : (u.cq t q).held = []) :
    u.ringHead t q value = (u.updCq t q fun c => { c with head := value.truncate 16 }).go (u.chansOnCq t q) := by
  unfold State.ringHead
  simp only [h, hj, hheld, List.length_nil, State.releaseHeld, State.chansOnCq_updCq]

end

/-! ### Reads of ring, chain and script memory over a host port -/

section
variable {s : State} {a : Addr} {bytes : List Byte} {ecc : Ecc}

/-- A good read of a host port that may send brings its bytes. -/
theorem State.fetchedBy_host {p : HostPort} (hhost : hostOf a = some p) (hport : (s.port p).usable = true) {source len : Nat} {report : Bool}
    (hlen : bytes.length = len) : s.fetchedBy source a len .good bytes ecc report = (s, .data bytes) := by
  have hext : isInternal a = false := by
    unfold hostOf at hhost
    unfold isInternal
    (repeat' split at hhost) <;> simp_all
  unfold State.fetchedBy
  rw [hext, hhost]
  simp [hport, ← hlen]

theorem updSq_updSq (s : State) (t : TenantId) (q : QueueId) (f g : SubQueue → SubQueue) :
    (s.updSq t q f).updSq t q g = s.updSq t q fun x => g (f x) := by
  simp only [State.updSq, State.updTenant, Tbl.upd_upd]

/-- A change of a channel is what it makes of the channel. -/
theorem State.updChan_congr {c : ChanId} {f g : Chan → Chan} (h : f (s.chan c) = g (s.chan c)) : s.updChan c f = s.updChan c g := by
  have h' : f (s.chans.look c) = g (s.chans.look c) := h
  simp only [State.updChan, Tbl.upd, h']

section
variable {t : TenantId} {q : QueueId} {i : BitVec 16}

/-- The entry read that comes back good, over a port that may send. -/
theorem exec_sqEntryFetch (hread : s.entryReadable t q i = some true) (hretry : (s.sq t q).retryOf i = none)
    (haccess : s.checkAccess t ((s.sq t q).base + BitVec.ofNat 64 (64 * i.toNat)) 64 false = none) (hlen : bytes.length = 64)
    (hhost : ∃ p, hostOf ((s.sq t q).base + BitVec.ofNat 64 (64 * i.toNat)) = some p ∧ (s.port p).usable = true) :
    exec (.sqEntryFetch t q i .good bytes ecc) s = .next
      (if bitAt (packetDw (descOf bytes) 0) 31 = (s.sq t q).markAt i then s.holdEntry t q i (descOf bytes)
      else s.updSq t q fun x => { x.forget i with ownWait := true, waitAt := i }) := by
  obtain ⟨p, hhost, hport⟩ := hhost
  show execSqEntryFetch t q i .good bytes ecc s = _
  unfold execSqEntryFetch
  simp only [hread, hretry, haccess, State.fetchedBy_host hhost hport hlen, Bool.false_and, Bool.false_eq_true, if_false, if_true]
  (repeat' split) <;> rfl

theorem State.holdEntry_bound {dw : Vector Dword 16} {c : ChanId} (hq : q ≠ 0) (hc : (s.sq t q).slot = some c) :
    s.holdEntry t q i dw = (s.updSq t q fun x => { x.forget i with entries := x.entries ++ [⟨i, dw⟩] }).go [c] := by
  simp only [State.holdEntry, if_neg hq, hc, updSq_updSq]
  rfl

end

section
variable {c : ChanId}

/-- The fetch that a channel waits for comes back good, over a port that may send. -/
theorem exec_fetchReturn {k : FetchFor} (hretry : (s.chan c).retries = []) (hhost : ∃ p, hostOf a = some p ∧ (s.port p).usable = true)
    (hfetch : (s.chan c).fetch = some (a, k)) (hlen : bytes.length = k.size) :
    exec (.fetchReturn c .good bytes ecc) s = .next (((s.updChan c fun n => { n with fetch := none }).fetchArrived c a k bytes).go [c]) := by
  obtain ⟨p, hhost, hport⟩ := hhost
  have hdone : (s.updChan c fun n => { n with fetch := none }).retryDone c rFetch a = s.updChan c fun n => { n with fetch := none } := by
    rw [State.retryDone, updChan_updChan]
    refine State.updChan_congr ?_
    simp only [hretry, List.filter_nil]
  show execFetchReturn c .good bytes ecc s = _
  simp only [execFetchReturn, hfetch, State.fetchReturn, Chan.retryWaits, hretry, List.any_nil, Bool.false_eq_true, if_false, State.fetched,
    State.fetchedBy_host hhost hport hlen, hdone]

end

end

/-- Settles O39: the doorbell of each ring, and the entry, chain and script reads that come back. -/
theorem doorbellsAndFetches : Obligations.DoorbellsAndFetches := by
  unfold Obligations.DoorbellsAndFetches
  refine ⟨fun via t q value s => ?_, fun s t q i bytes ecc => ?_, fun s c a bytes ecc hretry hhost => ?_⟩
  · intro u hreach hopen
    have htail (hb : (u.bellAt via (.tenant t) (bellOffset false q)).isSome = true) :
        exec (.sqTailDoorbell via t q value) s = .next (u.writeBell t false q value) := congrArg _ (State.bellRow_eq hreach hopen hb)
    have hhead (hb : (u.bellAt via (.tenant t) (bellOffset true q)).isSome = true) :
        exec (.cqHeadDoorbell via t q value) s = .next (u.writeBell t true q value) := congrArg _ (State.bellRow_eq hreach hopen hb)
    refine ⟨fun hb => ⟨fun hoff => ?_, fun hon hfault => ?_, fun hon hact => ?_⟩, fun hb hon hact hheld _ => ?_⟩
    · rw [htail hb, State.writeBell_held hoff]
    · rw [htail hb, State.writeBell_rings hon]
      exact congrArg _ (State.ringTail_faulted hfault)
    · intro n x
      rw [htail hb, State.writeBell_rings hon]
      refine ⟨fun hbeyond => congrArg _ (State.ringTail_refused hact (x.judgeTail_beyond hbeyond)), fun hlt h16 hroom => ?_⟩
      have hj : (u.sq t q).judgeTail value = none := x.judgeTail_within hlt h16 hroom
      refine congrArg _ ?_
      cases hc : x.slot with
      | some c => exact State.ringTail_bound hact hj hc
      | none => exact State.ringTail_unbound hact hj hc
    · intro x hlt h16 hroom
      rw [hhead hb, State.writeBell_rings hon]
      exact congrArg _ (State.ringHead_frees hact (x.judgeHead_within hlt h16 hroom) hheld)
  · intro x a dw hread hretry haccess hlen hhost
    have hdw : dw = descOf bytes := congrArg descOf (List.take_of_length_le (by omega))
    rw [hdw, exec_sqEntryFetch hread hretry haccess hlen hhost]
    refine ⟨fun hown hq c hc => ?_, fun hown => congrArg _ (if_neg hown)⟩
    rw [if_pos hown, State.holdEntry_bound hq hc]
  · refine ⟨fun hfetch hlen => ?_, fun hfetch hlen => ?_⟩
    · rw [exec_fetchReturn hretry hhost hfetch hlen, State.fetchArrived, updChan_updChan]
    · rw [exec_fetchReturn hretry hhost hfetch hlen, State.fetchArrived, State.updScript, updChan_updChan]

end Sys2Proof.Machine
end

section
/-! PROOF. Period starts, call times and pacers (O40). -/

namespace Sys2Proof.Machine

theorem Tbl.upd_of_fixed {w : Nat} {α : Type} (t : Tbl w α) (i : BitVec w) {f : α → α} (h : f (t.look i) = t.look i) : t.upd i f = t := by
  rw [Tbl.upd, h]
  exact Vector.set_getElem_self _

/-- A change that leaves the channel as it is leaves the state. -/
theorem State.updChan_of_fixed {s : State} {c : ChanId} {f : Chan → Chan} (h : f (s.chan c) = s.chan c) : s.updChan c f = s := by
  rw [State.updChan, Tbl.upd_of_fixed _ _ h]

/-- A trace event changes the trace, or the count of those that sleep. -/
theorem State.note_eq (s : State) (cls event : Nat) (t : Option TenantId) (c : Option ChanId) (d : Dword) :
    ∃ (p : Power) (tr : Trace), s.note cls event t c d = { s with power := p, trace := tr } := by
  unfold State.note State.traceAs
  dsimp only
  (repeat' split) <;> exact ⟨_, _, rfl⟩

/-- A property that every step of the walk keeps, at the members of the list. -/
theorem State.forAll_induction_mem {α : Type} {P : State → Prop} {f : α → State → State} (l : List α) {s : State} (h : P s)
    (hf : ∀ x ∈ l, ∀ t, P t → P (f x t)) : P (s.forAll l f) := by
  induction l generalizing s with
  | nil => exact h
  | cons x l ih => exact ih (hf x List.mem_cons_self s h) fun y hy => hf y (List.mem_cons_of_mem _ hy)

/-! ### A strobe leaves the configuration of a running act (R92, R159) -/

/-- The acts and the cue of an act stay. -/
structure ActKept (a : ActId) (s t : State) : Prop where
  acts : t.acts = s.acts
  cfg : t.devReg (actBase a + 0x18) = s.devReg (actBase a + 0x18)

section
variable {a : ActId}

theorem ActKept.refl (s : State) : ActKept a s s := ⟨rfl, rfl⟩

theorem ActKept.trans {s t u : State} (h : ActKept a s t) (k : ActKept a t u) : ActKept a s u := ⟨k.acts.trans h.acts, k.cfg.trans h.cfg⟩

/-- Only the acts and the registers of the device page count. -/
theorem ActKept.of_eq {s t : State} (ha : t.acts = s.acts) (hd : t.dev.regs = s.dev.regs) : ActKept a s t := ⟨ha, by rw [State.devReg, hd, State.devReg]⟩

theorem ActKept.forAll {α : Type} {f : α → State → State} (l : List α) (hf : ∀ x ∈ l, ∀ s, ActKept a s (f x s)) (s : State) :
    ActKept a s (s.forAll l f) :=
  State.forAll_induction_mem l (.refl s) fun x hx t ht => ht.trans (hf x hx t)

theorem ActKept.actCue {s t : State} (h : ActKept a s t) : t.actCue a = s.actCue a := by rw [State.actCue, h.cfg, State.actCue]

/-- The index of the register that names the cue of an act. -/
theorem actCfg_index : BitVec.ofNat 11 ((actBase a + 0x18) / 8) = BitVec.ofNat 11 (131 + 8 * a.toNat) := by
  congr 1
  unfold actBase
  omega

/-- A register elsewhere on the device page. -/
def AwayFrom (a : ActId) (p : Nat) : Prop := BitVec.ofNat 11 (p / 8) ≠ BitVec.ofNat 11 ((actBase a + 0x18) / 8)

theorem awayFrom_low {p : Nat} (h : p < 0x400) : AwayFrom a p := by
  have ha := a.isLt
  rw [AwayFrom, actCfg_index]
  bv_omega

theorem awayFrom_high {p : Nat} (h : 0x800 ≤ p) (hp : p < 0x4000) : AwayFrom a p := by
  have ha := a.isLt
  rw [AwayFrom, actCfg_index]
  bv_omega

theorem State.setDevReg_actKept (s : State) {p : Nat} (h : AwayFrom a p) (x : Word) : ActKept a s (s.setDevReg p x) :=
  ⟨rfl, s.devReg_setDevReg _ _ x h⟩

theorem State.applyAt_actKept (s : State) {p : Nat} (h : AwayFrom a p) : ActKept a s (s.applyAt (.dev p)) := by
  refine ⟨?_, ?_⟩
  · unfold State.applyAt
    split <;> rfl
  · rw [State.devReg_eq_staged, State.applyAt_staged_other _ h]
    rfl

theorem State.updCtl_actKept (s : State) (page : Page) (f : PageCtl → PageCtl) : ActKept a s (s.updCtl page f) :=
  .of_eq (by cases page <;> rfl) (s.updCtl_devRegs page f)

theorem State.updChan_actKept (s : State) (c : ChanId) (f : Chan → Chan) : ActKept a s (s.updChan c f) := .of_eq rfl rfl

theorem State.switchPin_actKept (s : State) (p : PinId) (w : Word) : ActKept a s (s.switchPin p w) := by
  have hp := p.isLt
  have hoff : ActKept a s (if s.pinFunc p = 3 then s.lineOff (s.pinIndex p % 32) else s) := by
    split
    · exact .forAll _ (fun c _ s => s.updChan_actKept c _) s
    · exact .refl s
  unfold State.switchPin
  split
  · exact .refl s
  · exact (hoff.trans (State.setDevReg_actKept _ (awayFrom_high (by omega) (by omega)) w)).trans (.of_eq rfl rfl)

theorem State.strobePins_actKept (s : State) : ActKept a s s.strobePins := by
  refine .forAll _ (fun x _ s => ?_) s
  split
  · exact s.switchPin_actKept _ _
  · exact (s.switchPin_actKept _ _).trans (State.setDevReg_actKept _ (awayFrom_high (by decide) (by decide)) _)

theorem State.judgeFill_actKept (s : State) (e : EpId) : ActKept a s (s.judgeFill e) :=
  .forAll _ (fun c _ s => s.updChan_actKept c _) s

theorem State.setEpCfg_actKept (s : State) (e : EpId) (w : Word) : ActKept a s (s.setEpCfg e w) := by
  have he := e.isLt
  have hset : ActKept a s (s.setDevReg (0x1000 + 8 * e.toNat) w) := s.setDevReg_actKept (awayFrom_high (by omega) (by omega)) w
  unfold State.setEpCfg
  dsimp only
  split
  · exact (hset.trans (ActKept.of_eq (t := State.updEp (s.setDevReg (0x1000 + 8 * e.toNat) w) e fun _ => {}) rfl rfl)).trans (State.judgeFill_actKept _ e)
  split
  · exact hset
  · exact hset.trans (State.judgeFill_actKept _ e)

theorem State.strobeEps_actKept (s : State) : ActKept a s s.strobeEps := by
  refine (ActKept.forAll _ (fun x _ s => s.setEpCfg_actKept x.1 x.2) s).trans (.forAll _ (fun e _ s => s.applyAt_actKept ?_) _)
  have he := e.isLt
  exact awayFrom_high (by omega) (by omega)

theorem State.applyLb_actKept (s : State) : ActKept a s s.applyLb := by
  unfold State.applyLb
  split
  · have h (s : State) {p : Nat} (hp : p ∈ [0x2000, 0x2010, 0x2018]) : ActKept a s (s.applyAt (.dev p)) := by
      simp only [List.mem_cons, List.not_mem_nil, or_false] at hp
      exact s.applyAt_actKept (awayFrom_high (by omega) (by omega))
    have hall : ActKept a s ([0x2000, 0x2010, 0x2018].foldl (fun s p => s.applyAt (.dev p)) s) := .forAll _ (fun p hp s => h s hp) s
    exact (hall.trans (State.updCtl_actKept _ .device fun c => { c with disturbed := true })).trans (.of_eq rfl rfl)
  · exact .of_eq rfl rfl

theorem State.strobeLinks_actKept (s : State) : ActKept a s s.strobeLinks := by
  have hconv (s : State) (l : List Nat) (hl : ∀ i ∈ l, i < 8) : ActKept a s (s.forAll l fun i s => s.applyAt (.dev (0x1800 + 8 * i))) :=
    .forAll _ (fun i hi s => s.applyAt_actKept (awayFrom_high (by omega) (by have := hl i hi; omega))) s
  have htdm (s : State) {n : Nat} (hn : n < 4) : ActKept a s (s.forAll ([0x1C00 + 256 * n, 0x1C08 + 256 * n, 0x1C10 + 256 * n] ++ (List.range 16).map fun k => 0x1C80 + 256 * n + 8 * k)
      fun p s => s.applyAt (.dev p)) := by
    refine .forAll _ (fun p hp s => s.applyAt_actKept ?_) s
    simp only [List.cons_append, List.nil_append, List.mem_cons, List.mem_map, List.mem_range] at hp
    obtain rfl | rfl | rfl | ⟨k, hk, rfl⟩ := hp <;> exact awayFrom_high (by omega) (by omega)
  have hlist : ∀ i ∈ (List.range 8).filter fun i => s.linkState i = .down, i < 8 := fun i hi => List.mem_range.mp (List.mem_filter.mp hi).1
  unfold State.strobeLinks
  dsimp only
  refine ((hconv s _ hlist).trans ?_).trans (.forAll _ (fun n hn s => htdm s (List.mem_range.mp (List.mem_filter.mp hn).1)) _)
  split
  · exact State.applyAt_actKept _ (awayFrom_high (by decide) (by decide))
  · exact .refl _

/-- Of group 1 the registers of a running act wait. -/
theorem State.strobeActs_actKept (s : State) (h : (s.acts.look a).running = true) :
    ActKept a s (s.forAll (devPlaces 1) fun p s => if (s.acts.look (actOf p)).running then s else s.applyAt (.dev p)) := by
  refine State.forAll_induction_mem (P := ActKept a s) _ (.refl s) fun p hp t ht => ?_
  split
  · exact ht
  next hrun =>
  refine ht.trans (t.applyAt_actKept fun heq => hrun ?_)
  have hact : actOf p = a := by
    have ha := a.isLt
    rw [actCfg_index] at heq
    simp only [devPlaces, List.mem_flatMap, List.mem_range, List.mem_cons, List.not_mem_nil, or_false] at hp
    obtain ⟨k, hk, hp⟩ := hp
    have heq' := congrArg BitVec.toNat heq
    simp only [BitVec.toNat_ofNat] at heq'
    rw [actOf]
    refine BitVec.eq_of_toNat_eq ?_
    rw [BitVec.toNat_ofNat]
    omega
  rw [hact, ht.acts, h]

theorem devPlaces_away {g p : Nat} (hg : g ≠ 1) (hp : p ∈ devPlaces g) : AwayFrom a p := by
  suffices h : p < 0x400 ∨ (0x800 ≤ p ∧ p < 0x4000) by
    rcases h with hlow | ⟨hlo, hhi⟩
    · exact awayFrom_low hlow
    · exact awayFrom_high hlo hhi
  unfold devPlaces at hp
  split at hp
  case h_2 => exact absurd rfl hg
  case h_9 => exact absurd hp List.not_mem_nil
  all_goals
    simp only [List.mem_append, List.mem_flatMap, List.mem_map, List.mem_range, List.mem_cons, List.not_mem_nil, or_false] at hp
  case h_3 =>
    obtain ⟨m, hm, rfl⟩ := hp
    omega
  case h_4 => obtain (((⟨e, he, rfl⟩ | ⟨i, hi, rfl⟩) | ⟨n, hn, hp | ⟨k, hk, rfl⟩⟩) | hp) := hp <;> omega
  all_goals omega

theorem State.strobeDev_actKept (s : State) (h : (s.acts.look a).running = true) (g : Nat) : ActKept a s (s.strobeDev g) := by
  have hplaces (hg : g ≠ 1) (s : State) : ActKept a s (s.forAll (devPlaces g) fun p s => s.applyAt (.dev p)) :=
    .forAll _ (fun p hp s => s.applyAt_actKept (devPlaces_away hg hp)) s
  have hend (t : State) (b : Bool) (p : Prop) [Decidable p] (f k : PageCtl → PageCtl) : ActKept a t
      (if b then (if p then t.updCtl .device k else t) else (if p then t.updCtl .device k else t).updCtl .device f) := by
    split
    · split
      · exact t.updCtl_actKept _ _
      · exact .refl t
    · split
      · exact (t.updCtl_actKept _ _).trans (State.updCtl_actKept _ _ _)
      · exact t.updCtl_actKept _ _
  unfold State.strobeDev
  dsimp only
  refine ActKept.trans ?_ (hend _ _ _ _ _)
  split
  · exact s.strobeActs_actKept h
  · exact s.strobePins_actKept
  · exact (s.strobeLinks_actKept.trans (State.strobeEps_actKept _)).trans (State.applyLb_actKept _)
  · split
    · exact hplaces (by decide) s
    · exact (hplaces (by decide) s).trans (.of_eq rfl rfl)
  · exact hplaces (by assumption) s

theorem State.applyTen_actKept (s : State) (t : TenantId) (p : Nat) : ActKept a s (s.applyAt (.ten t p)) := by
  unfold State.applyAt
  split <;> exact .of_eq rfl rfl

theorem State.applySlot_actKept (s : State) (t : TenantId) (c : ChanId) (p : Nat) : ActKept a s (s.applyAt (.chan t c p)) := by
  unfold State.applyAt
  split <;> exact .of_eq rfl rfl

theorem State.applyRef_actKept (s : State) (page : Page) : ActKept a s (s.applyRef page) := by
  cases page with
  | device => exact s.applyAt_actKept (p := 0x60) (awayFrom_low (by decide))
  | tenant t => exact s.applyTen_actKept t 0x60

theorem State.strobeSlot_actKept (s : State) (t : TenantId) (c : ChanId) : ActKept a s (s.strobeSlot t c) :=
  (ActKept.forAll _ (fun p _ s => s.applySlot_actKept t c p) s).trans (State.updChan_actKept _ c _)

theorem ActKept.running {s t : State} (k : ActKept a s t) (h : (s.acts.look a).running = true) : (t.acts.look a).running = true := by
  rw [k.acts, h]

theorem State.strobe_actKept (s : State) (h : (s.acts.look a).running = true) (page : Page) (groups : BitVec 16) : ActKept a s (s.strobe page groups) := by
  unfold State.strobe
  split
  · exact .refl s
  have href : ActKept a s ((s.applyRef page).updCtl page fun c => { c with disturbed := true }) :=
    (s.applyRef_actKept page).trans (State.updCtl_actKept _ page _)
  cases page with
  | device => exact State.forAll_induction_mem (P := ActKept a s) _ href fun g _ t ht => ht.trans (t.strobeDev_actKept (ht.running h) g)
  | tenant t =>
    refine ActKept.trans ?_ (.forAll _ (fun c _ s => s.strobeSlot_actKept t c) _)
    split
    · exact (href.trans (.forAll _ (fun p _ s => s.applyTen_actKept t p) _)).trans (State.updCtl_actKept _ _ _)
    · exact href

/-- The strobes of an edge leave the acts, and the configuration of one that runs. -/
theorem State.strobesFirst_actKept (s : State) (h : (s.acts.look a).running = true) : ActKept a s s.strobesFirst := by
  refine State.forAll_induction (P := ActKept a s) _ (.refl s) fun page t ht => ?_
  unfold State.applyArmed
  split
  · exact ht
  · have hctl : ActKept a s (t.updCtl page fun c => { c with armed := none }) := ht.trans (t.updCtl_actKept page _)
    exact hctl.trans (State.strobe_actKept _ (hctl.running h) page _)

end

/-! ### A period start (R103, R104) -/

/-- What the endpoints, TDM ports and strobes of an act leave when its period starts. -/
structure PeriodKept (a : ActId) (s t : State) : Prop extends ActKept a s t where
  chans : t.chans = s.chans
  cues : t.cues = s.cues
  prot : t.prot = s.prot
  mem : t.mem = s.mem

section
variable {a : ActId}

theorem PeriodKept.refl (s : State) : PeriodKept a s s := ⟨.refl s, rfl, rfl, rfl, rfl⟩

theorem PeriodKept.trans {s t u : State} (h : PeriodKept a s t) (k : PeriodKept a t u) : PeriodKept a s u :=
  ⟨h.toActKept.trans k.toActKept, k.chans.trans h.chans, k.cues.trans h.cues, k.prot.trans h.prot, k.mem.trans h.mem⟩

theorem PeriodKept.forAll {α : Type} {f : α → State → State} (l : List α) (hf : ∀ x s, PeriodKept a s (f x s)) (s : State) :
    PeriodKept a s (s.forAll l f) :=
  State.forAll_induction (P := PeriodKept a s) l (.refl s) fun x t ht => ht.trans (hf x t)

theorem State.resetCounts_keeps (s : State) : PeriodKept a s (s.resetCounts a) :=
  .forAll _ (fun e t => (⟨.of_eq rfl rfl, rfl, rfl, rfl, rfl⟩ : PeriodKept a t (t.updEp e fun q => { q with appended := 0 }))) s

theorem State.restartTdm_keeps (s : State) (n : BitVec 2) (b : ActId) (p : Tick) : PeriodKept a s (s.restartTdm n b p) := by
  unfold State.restartTdm
  dsimp only
  split <;> exact ⟨.of_eq rfl rfl, rfl, rfl, rfl, rfl⟩

theorem State.note_periodKept (s : State) (cls event : Nat) (t : Option TenantId) (c : Option ChanId) (d : Dword) :
    PeriodKept a s (s.note cls event t c d) := by
  obtain ⟨p, tr, h⟩ := s.note_eq cls event t c d
  rw [h]
  exact ⟨.of_eq rfl rfl, rfl, rfl, rfl, rfl⟩

theorem State.periodStrobe_keeps (s : State) (n : BitVec 3) (b : ActId) (p : Tick) : PeriodKept a s (s.periodStrobe n b p) := by
  have hn := n.isLt
  unfold State.periodStrobe
  dsimp only
  split
  · split
    · exact ⟨.of_eq rfl rfl, rfl, rfl, rfl, rfl⟩
    · exact PeriodKept.trans ⟨State.setDevReg_actKept _ (awayFrom_low (by omega)) _, rfl, rfl, rfl, rfl⟩ (State.note_periodKept _ _ _ _ _ _)
  · exact .refl s

theorem State.periodSysref_keeps (s : State) (b : ActId) (p : Tick) : PeriodKept a s (s.periodSysref b p) := by
  unfold State.periodSysref
  dsimp only
  split <;> exact ⟨.of_eq rfl rfl, rfl, rfl, rfl, rfl⟩

/-- The state in which an act has counted a period start, and its endpoints, ports and strobes have seen it. -/
def State.counted (u : State) (a : ActId) : State :=
  let p := (u.acts.look a).nextStart
  let v := ((u.countPeriod a).resetCounts a).forAll (indices 2 4) fun n s => s.restartTdm n a p
  (v.forAll (indices 3 8) fun n s => s.periodStrobe n a p).periodSysref a p

theorem State.counted_keeps (u : State) : PeriodKept a (u.countPeriod a) (u.counted a) :=
  (((State.resetCounts_keeps _).trans (.forAll _ (fun _ _ => State.restartTdm_keeps _ _ _ _) _)).trans
    (.forAll _ (fun _ _ => State.periodStrobe_keeps _ _ _ _) _)).trans (State.periodSysref_keeps _ _ _)

end

/-! ### A period start reaches a channel -/

section
variable {s : State} {c : ChanId} {p : Tick}

theorem State.noteChan_chan (s : State) (cls event : Nat) (c : ChanId) (d : Dword) (k : ChanId) : (s.noteChan cls event c d).chan k = s.chan k := by
  rw [State.chan, (State.noteChan_kept s cls event c d).chans, State.chan]

theorem Chan.restartRate_off {n : Chan} (h : bitAt (n.reg 0x40) 1 = false) : n.restartRate = n := by
  rw [Chan.restartRate, if_neg (by rw [h]; exact Bool.false_ne_true)]

theorem State.reachChan_eq (h : bitAt ((s.chan c).reg 0x40) 1 = false) : s.reachChan c p =
    if (s.chan c).state = .armed ∧ s.actMay c = false then s
    else if ((s.chan c).holdsScene && s.dataOn) = true then s.release c p else s.pendPeriod c p := by
  rw [State.reachChan, State.updChan_of_fixed (Chan.restartRate_off h)]

theorem Chan.holdsScene_armed {n : Chan} (h : n.holdsScene = true) : n.state = .armed := by
  simp only [Chan.holdsScene, Bool.and_eq_true, beq_iff_eq] at h
  obtain ⟨⟨⟨⟨⟨harmed, -⟩, -⟩, -⟩, -⟩, -⟩ := h
  exact harmed

theorem State.pendPeriod_chan (s : State) (c : ChanId) (p : Tick) :
    ((s.pendPeriod c p).chan c).periodPending = some p ∧
      ((s.pendPeriod c p).chan c).sceneSkip = (if (s.chan c).periodPending.isSome then satAdd (s.chan c).sceneSkip 1 else (s.chan c).sceneSkip) ∧
      ∀ d, d ≠ c → (s.pendPeriod c p).chan d = s.chan d := by
  unfold State.pendPeriod
  dsimp only
  split
  · refine ⟨?_, ?_, fun d hd => ?_⟩
    · rw [State.noteChan_chan, State.chan_updChan_same, State.chan_updChan_same]
    · rw [State.noteChan_chan, State.chan_updChan_same, State.chan_updChan_same]
    · rw [State.noteChan_chan, State.chan_updChan_other _ _ hd.symm, State.chan_updChan_other _ _ hd.symm]
  · refine ⟨?_, ?_, fun d hd => State.chan_updChan_other _ _ hd.symm⟩
    · rw [State.chan_updChan_same]
    · rw [State.chan_updChan_same]

theorem State.curtainDue_none {s : State} {c : ChanId} (h : (s.chan c).curtain = none) : s.curtainDue c = false := by
  rw [State.curtainDue, h]

/-- A descriptor without a curtain begins after the proof of the one before. -/
theorem State.beginWork_open {w : Taken} (hw : descFlag w.dw fCurtain = false) (h : (s.chan c).curtain = none) :
    s.beginWork c w = s.updChan c fun n => { n with work := some w, armedWork := none, state := .running, curtain := n.curtain, after := some .startUnit } := by
  have hone : ((s.updChan c fun n => { n with work := some w, armedWork := none, state := .running }).chan c).curtain = none := by
    rw [State.chan_updChan_same]
    exact h
  unfold State.beginWork
  dsimp only
  rw [State.curtainDue_none hone, if_neg Bool.false_ne_true]
  simp only [hw, Bool.false_eq_true, if_false]
  rw [State.curtainDue_none (by rw [State.chan_updChan_same]; exact hone), if_neg Bool.false_ne_true, updChan_updChan, updChan_updChan]

/-- The state in which a period start has released the scene of a channel, before its work begins. -/
def State.sceneStarted (s : State) (c : ChanId) (p : Tick) : State :=
  (s.updChan c fun n =>
    { n with
      periodPending := none, sceneStart := p, state := .running, atBoundary := false, timeOpen := false, lateEps := []
      curtain := n.curtain.map fun t => p + (t - n.sceneStart)
      script := { n.script with tt := p } }).noteChan 3 0x30 c ((s.chan c).actSel.zeroExtend 32)

/-- A scene of a queue channel that a period start releases. -/
theorem State.release_queue {w : Taken} (hm : (s.chan c).mode = .queue) (harm : (s.chan c).armedWork = some w) (hw : descFlag w.dw fCurtain = false)
    (h : (s.chan c).curtain = none) :
    let r := (s.release c p).chan c
    r.state = .running ∧ r.work = some w ∧ r.armedWork = none ∧ r.sceneStart = p ∧ r.script.tt = p ∧ r.atBoundary = false ∧ r.after = some .startUnit := by
  have hstarted : (s.sceneStarted c p).chan c = _ := (State.noteChan_chan _ _ _ _ _ _).trans (State.chan_updChan_same ..)
  have hcurtain : ((s.sceneStarted c p).chan c).curtain = none := by
    rw [hstarted]
    simp only [h, Option.map_none]
  have hrel : s.release c p = (s.sceneStarted c p).beginWork c w := by
    have hmode : ((s.sceneStarted c p).chan c).mode = .queue := by rw [hstarted, ← hm]
    have hwork : ((s.sceneStarted c p).chan c).armedWork = some w := by rw [hstarted, ← harm]
    simp only [State.sceneStarted] at hmode hwork ⊢
    simp only [State.release, hmode, hwork]
  rw [hrel, State.beginWork_open hw hcurtain, State.chan_updChan_same, hstarted]
  exact ⟨rfl, rfl, rfl, rfl, rfl, rfl, rfl⟩

end

/-! ### The call time of an act (R119) and the pacers (R79 to R83, R446) -/

/-- A wake event below LIT begins the climb, or finds it begun. -/
theorem State.wakeBy_below {s : State} (h : s.power.state ≠ .lit) (bit : Nat) :
    ∃ c k, s.wakeBy bit = { s with power := { s.power with waking := true, wakeAt := k, wakeCause := c } } ∧
      (s.power.waking = false → c = 1 <<< bit ∧ k = s.tb.refclkCount) := by
  unfold State.wakeBy
  rw [if_neg h]
  split
  · exact ⟨_, _, rfl, fun _ => ⟨rfl, rfl⟩⟩
  · next hw =>
    have hw' : s.power.waking = true := by simpa using hw
    split
    · refine ⟨_, _, congrArg (fun b => ({ s with power := { s.power with waking := b, wakeCause := s.power.wakeCause ||| (1 <<< bit) } } : State)) hw', fun h => ?_⟩
      exact absurd (h.symm.trans hw') (by decide)
    · refine ⟨_, _, congrArg (fun b => ({ s with power := { s.power with waking := b } } : State)) hw', fun h => ?_⟩
      exact absurd (h.symm.trans hw') (by decide)

theorem exec_callTime {s : State} {a : ActId} (hc : s.called = some a) (hl : s.power.state ≠ .lit) :
    ∃ t : State, exec .callTime s = .next t ∧ t.power.waking = true ∧
      (s.power.waking = false → t.power.wakeAct = a ∧ t.power.wakeAt = s.tb.refclkCount ∧ t.power.wakeCause = 1 <<< 3) ∧ Kept { s with power := t.power } t := by
  obtain ⟨cause, at0, hw, hfirst⟩ := State.wakeBy_below hl 3
  have hkept (p : Power) : Kept { s with power := p } { s with power := p } := .refl _
  have hrun : exec .callTime s = if (bitAt cause 3 && !(s.power.waking && bitAt s.power.wakeCause 3)) = true then
      .next { s with power := { s.power with waking := true, wakeAt := at0, wakeCause := cause, wakeAct := a } }
      else .next { s with power := { s.power with waking := true, wakeAt := at0, wakeCause := cause } } := by
    show execCallTime s = _
    simp only [execCallTime, hc, if_neg hl, hw]
  rw [hrun]
  split
  · refine ⟨_, rfl, rfl, fun hidle => ?_, hkept _⟩
    obtain ⟨rfl, rfl⟩ := hfirst hidle
    exact ⟨rfl, rfl, rfl⟩
  · next hnew =>
    refine ⟨_, rfl, rfl, fun hidle => absurd ?_ hnew, hkept _⟩
    obtain ⟨rfl, rfl⟩ := hfirst hidle
    rw [hidle, Bool.false_and]
    decide

theorem Chan.rateStep_tracked {n : Chan} {f : Nat} (h : bitAt (n.reg 0x40) 0 = true) :
    let inc := field (n.reg 0x28) 47 0; let m := field (n.reg 0x30) 47 0
    let scaled := inc * f + n.rateFrac; let total := n.rateAcc.toNat + scaled / 2 ^ 40
    n.rateStep f = { Chan.credits (total / m) { n with rateFrac := scaled % 2 ^ 40 } with rateAcc := BitVec.ofNat 48 (total % m) } := by
  simp only [Chan.rateStep, h, if_true]

/-- Without tracking the accumulator goes up by RATE_INC, and gives one credit where it reaches RATE_MOD. -/
theorem Chan.rateStep_plain {n : Chan} {f : Nat} (h : bitAt (n.reg 0x40) 0 = false) (hok : n.rateOk = true)
    (hacc : n.rateAcc.toNat < field (n.reg 0x30) 47 0) :
    n.rateStep f =
      if n.rateAcc.toNat + field (n.reg 0x28) 47 0 < field (n.reg 0x30) 47 0 then
        { n with rateAcc := BitVec.ofNat 48 (n.rateAcc.toNat + field (n.reg 0x28) 47 0) }
      else { n.credit with rateAcc := BitVec.ofNat 48 (n.rateAcc.toNat + field (n.reg 0x28) 47 0 - field (n.reg 0x30) 47 0) } := by
  simp only [Chan.rateOk, Bool.and_eq_true, decide_eq_true_eq] at hok
  obtain ⟨⟨⟨hm, -⟩, hle⟩, -⟩ := hok
  have hscaled (x : Nat) : x * 2 ^ 40 / 2 ^ 40 = x := Nat.mul_div_cancel _ (Nat.two_pow_pos _)
  simp only [Chan.rateStep, h, Bool.false_eq_true, if_false, hscaled]
  split
  · next hlt => rw [Nat.div_eq_of_lt hlt, Nat.mod_eq_of_lt hlt]; rfl
  next hge =>
  have hdiv : (n.rateAcc.toNat + field (n.reg 0x28) 47 0) / field (n.reg 0x30) 47 0 = 1 :=
    Nat.div_eq_of_lt_le (by omega) (by omega)
  have hmod : (n.rateAcc.toNat + field (n.reg 0x28) 47 0) % field (n.reg 0x30) 47 0 = n.rateAcc.toNat + field (n.reg 0x28) 47 0 - field (n.reg 0x30) 47 0 := by
    rw [Nat.mod_eq_sub_mod (by omega), Nat.mod_eq_of_lt (by omega)]
  rw [hdiv, hmod]
  rfl

theorem exec_rateCredit {s : State} {c : ChanId} (hp : s.strobesFirst.paces c 3 = true) (hok : (s.strobesFirst.chan c).rateOk = true) {f : Chan → Chan}
    (hf : (s.strobesFirst.chan c).rateStep s.strobesFirst.tb.factor = f (s.strobesFirst.chan c)) :
    exec (.rateCredit c) s = .next ((s.strobesFirst.updChan c f).go [c]) := by
  show execRateCredit c s = _
  rw [execRateCredit, hp, hok]
  exact congrArg (fun t : State => Host.Outcome.next (t.go [c])) (State.updChan_congr hf)

/-- Settles O40: what a period start, a call time and the pacers leave. -/
theorem periodsAndPacing : Obligations.PeriodsAndPacing := by
  unfold Obligations.PeriodsAndPacing
  refine ⟨⟨fun a s => ?_, fun s c p hoff => ?_, fun s a hc hl => exec_callTime hc hl, fun s hs => ?_⟩, fun c s => ⟨?_, ?_⟩⟩
  · intro x
    refine ⟨fun hrun hvalid hdue => ?_, fun hnot => ?_⟩
    · intro u y
      have hkeep : PeriodKept a (u.countPeriod a) (u.counted a) := u.counted_keeps
      have hcue : (u.counted a).actCue a = s.actCue a := (hkeep.actCue.trans rfl).trans (s.strobesFirst_actKept hrun).actCue
      have hcount : (u.counted a).acts = _ := hkeep.acts
      refine ⟨u.counted a, ?_, ?_⟩
      · have hexec : exec (.periodStart a) s = .next (u.periodOf a) := by
          refine if_pos ?_
          rw [hrun, hvalid, hdue]
          rfl
        rw [hexec, ← hcue]
        rfl
      · rw [hcount]
        have hsame : (u.countPeriod a).acts.look a =
            { y with nextIndex := y.nextIndex + 1, nextStart := u.periodAt a (y.nextIndex + 1), periodCount := y.periodCount + 1 } := Tbl.look_upd_same ..
        rw [hsame]
        exact ⟨rfl, rfl, rfl, rfl, fun b hb => Tbl.look_upd_other _ _ hb.symm, hkeep.prot, hkeep.mem, hkeep.chans, hkeep.cues⟩
    · refine if_neg ?_
      rcases hnot with h | h | h
      · rw [h, Bool.false_and, Bool.false_and]
        exact Bool.false_ne_true
      · rw [h, Bool.and_false, Bool.false_and]
        exact Bool.false_ne_true
      · rw [h, Bool.and_false]
        exact Bool.false_ne_true
  · obtain ⟨hpend, hskip, hother⟩ := s.pendPeriod_chan c p
    refine ⟨fun hstate => ?_, fun harm hmay => ?_, fun hholds hmay hdata => ?_, fun w hm hw hflag hcur => State.release_queue hm hw hflag hcur⟩
    · have hheld : ¬ ((s.chan c).holdsScene && s.dataOn) = true := fun h => hstate (Chan.holdsScene_armed (Bool.and_eq_true _ _ ▸ h).1)
      rw [State.reachChan_eq hoff, if_neg (fun h => hstate h.1), if_neg hheld]
      exact ⟨hpend, hskip, hother⟩
    · rw [State.reachChan_eq hoff, if_pos ⟨harm, hmay⟩]
    · rw [State.reachChan_eq hoff, if_neg (fun h => absurd (h.2.symm.trans hmay) (by decide)), if_pos (by rw [hholds, hdata]; rfl)]
  · rcases hs with h | h
    · show execCallTime s = _
      rw [execCallTime, h]
    · show execCallTime s = _
      cases hc : s.called <;> simp [execCallTime, hc, h]
  · intro n i
    refine ⟨fun hp ho hx hd => if_pos ?_, fun hd => if_neg ?_⟩
    · simp only [n, i] at ho hx hd ⊢
      rw [hp, ho, hx, hd]
      rfl
    · simp only [n, i] at hd
      simp [hd]
  · intro v n hp hok inc m sum steps
    refine ⟨?_, fun htrack hacc => ⟨fun hlt => ?_, fun hge hwant => ?_, fun hge hwant hbank => ?_, fun hge hwant hbank => ?_⟩⟩
    · intro htrack scaled total
      exact exec_rateCredit hp hok (Chan.rateStep_tracked htrack)
    · exact exec_rateCredit hp hok ((Chan.rateStep_plain htrack hok hacc).trans (if_pos hlt))
    · refine exec_rateCredit hp hok ((Chan.rateStep_plain htrack hok hacc).trans ((if_neg (Nat.not_lt.mpr hge)).trans ?_))
      rw [Chan.credit, if_pos hwant]
    · refine exec_rateCredit hp hok ((Chan.rateStep_plain htrack hok hacc).trans ((if_neg (Nat.not_lt.mpr hge)).trans ?_))
      rw [Chan.credit, if_neg (by rw [hwant]; exact Bool.false_ne_true), if_neg hbank]
    · refine exec_rateCredit hp hok ((Chan.rateStep_plain htrack hok hacc).trans ((if_neg (Nat.not_lt.mpr hge)).trans ?_))
      rw [Chan.credit, if_neg (by rw [hwant]; exact Bool.false_ne_true), if_pos hbank]

end Sys2Proof.Machine
end

section
/-! PROOF. Curtains, stops and swaps (O41). -/

namespace Sys2Proof.Machine

/-! ### CURTAIN on a QUEUE channel (R109, R110) -/

section
variable {s : State} {c : ChanId}

theorem exec_curtain_queue (hm : (s.strobesFirst.chan c).mode = .queue) (hlive : (s.strobesFirst.chan c).live = true) (hdue : s.strobesFirst.curtainDue c = true)
    (hunit : s.strobesFirst.frozenUnit c = false) (hhalt : (s.strobesFirst.chan c).haltDue = false) :
    exec (.curtain c) s = .next ((s.strobesFirst.curtainQueue c).go [c]) := by
  have hrun : exec (.curtain c) s = .next ((s.strobesFirst.curtainFalls c).go [c]) := by
    refine if_neg ?_
    rw [hlive, hdue, hunit, hhalt]
    exact Bool.false_ne_true
  rw [hrun, State.curtainFalls, hm]

theorem exec_curtain_early (hdue : s.strobesFirst.curtainDue c = false) : exec (.curtain c) s = .next s := by
  refine if_pos ?_
  rw [hdue, Bool.and_false]
  rfl

/-- A unit not yet moved to its end is cut. -/
theorem State.curtainQueue_cuts (hwork : (s.chan c).work.isSome = true)
    (h : (s.chan c).after = some .startUnit ∨ ((s.chan c).after = none ∧ ∃ x, (s.chan c).xfer = some x ∧ x.done = false)) :
    s.curtainQueue c = s.startLate c := by
  obtain ⟨w, hw⟩ := Option.isSome_iff_exists.mp hwork
  unfold State.curtainQueue
  dsimp only
  rcases h with ha | ⟨ha, x, hx, hdone⟩
  · rw [hw, ha]
  · rw [hw, ha, hx]
    simp [hdone]

theorem State.curtainQueue_between (hwork : (s.chan c).work = none) (hd : (s.chan c).discard = none) :
    s.curtainQueue c = s.updChan c fun n => { n with discard := some ⟨true, 0, 0, 0, 0, false⟩, state := .waiting } := by
  unfold State.curtainQueue
  dsimp only
  rw [hwork, hd]
  rfl

theorem State.startLate_chan (s : State) (c : ChanId) :
    let n := (s.startLate c).chan c
    n.after = some .late ∧ n.reads = [] ∧ n.fetch = none ∧ n.walk = none ∧ n.retries = [] ∧ n.wait = none := by
  intro n
  have hn : n = _ := State.chan_updChan_same ..
  rw [hn]
  exact ⟨rfl, rfl, rfl, rfl, rfl, rfl⟩

end

/-! ### A stop takes effect (R457, R458) -/

/-- What the completion of long commands leaves. -/
structure LongKept (s t : State) : Prop where
  chans : t.chans = s.chans
  cues : t.cues = s.cues
  acts : t.acts = s.acts
  prot : t.prot = s.prot

section
variable {s : State} {c : ChanId}

theorem LongKept.refl (s : State) : LongKept s s := ⟨rfl, rfl, rfl, rfl⟩

theorem LongKept.trans {s t u : State} (h : LongKept s t) (k : LongKept t u) : LongKept s u :=
  ⟨k.chans.trans h.chans, k.cues.trans h.cues, k.acts.trans h.acts, k.prot.trans h.prot⟩

theorem Kept.longKept {s t : State} (h : Kept s t) : LongKept s t := ⟨h.chans, h.cues, h.acts, h.prot⟩

theorem State.finishLong_keeps (s : State) (l : LongCmd) (a : Reply) (result : List Byte) : LongKept s (s.finishLong l a result) := by
  have hlong : LongKept s { s with long := s.long.filter fun x => x.order != l.order } := ⟨rfl, rfl, rfl, rfl⟩
  refine LongKept.trans ?_ (State.forAll_induction (P := LongKept _) _ (.refl _) fun x t ht => ht.trans (State.complete_kept _ _ _ _ _).longKept)
  exact hlong.trans (State.complete_kept _ _ _ _ _).longKept

theorem State.finishStops_keeps (s : State) (c : ChanId) : LongKept s (s.finishStops c) := by
  refine State.forAll_induction (P := LongKept s) _ (.refl s) fun l t ht => ht.trans ?_
  split
  · exact .refl t
  · exact t.finishLong_keeps l _ _

/-- What a stop leaves of its channel. -/
theorem State.takeStop_fields (s : State) (c : ChanId) :
    let t := s.takeStop c
    (t.chan c).state = .stopped ∧ (t.chan c).stopPending = false ∧ (t.chan c).drainPending = false ∧ (t.chan c).periodPending = none ∧
      (t.chan c).wait = none ∧ (t.chan c).work = (s.chan c).work ∧ (∀ d, d ≠ c → t.chan d = s.chan d) ∧ t.cues = s.cues ∧ t.acts = s.acts ∧ t.prot = s.prot := by
  intro t
  obtain ⟨hchans, hcues, hacts, hprot⟩ : LongKept _ t := (State.noteChan_kept _ _ _ _ _).longKept.trans (State.finishStops_keeps _ c)
  have hchan (d : ChanId) : t.chan d = _ := congrArg (fun x : Tbl 7 Chan => x.look d) hchans
  have hsame : t.chan c = _ := (hchan c).trans (State.chan_updChan_same ..)
  rw [hsame]
  exact ⟨rfl, rfl, rfl, rfl, rfl, rfl, fun d hd => (hchan d).trans (State.chan_updChan_other _ _ hd.symm), hcues, hacts, hprot⟩

end

/-! ### The swap of a shadow set (R411) -/

section
variable {s : State} {c : ChanId}

/-- Registers of the shadow set of `n` copied to the active set of `m`. -/
def Chan.copySets (n m : Chan) (l : List Nat) : Chan := l.foldl (fun m i => m.setReg (0x80 + 8 * i) (n.reg (0xC0 + 8 * i))) m

theorem Chan.copySets_shadow (n m : Chan) (l : List Nat) : (n.copySets m l).shadow = m.shadow := by
  induction l generalizing m with
  | nil => rfl
  | cons i l ih => exact ih _

theorem Chan.copySets_reg_other (n m : Chan) (l : List Nat) {p : Nat} (h : ∀ i ∈ l, BitVec.ofNat 5 ((0x80 + 8 * i) / 8) ≠ BitVec.ofNat 5 (p / 8)) :
    (n.copySets m l).reg p = m.reg p := by
  induction l generalizing m with
  | nil => rfl
  | cons i l ih =>
    refine (ih _ fun j hj => h j (List.mem_cons_of_mem _ hj)).trans ?_
    exact congrArg Staged.act (Tbl.look_put_other _ _ (h i List.mem_cons_self))

theorem Chan.copySets_reg_copied (n m : Chan) (l : List Nat) (hl : ∀ i ∈ l, i < 8) {k : Nat} (hk : k ∈ l) :
    (n.copySets m l).reg (0x80 + 8 * k) = n.reg (0xC0 + 8 * k) := by
  induction l generalizing m with
  | nil => exact absurd hk List.not_mem_nil
  | cons i l ih =>
    have hl' : ∀ j ∈ l, j < 8 := fun j hj => hl j (List.mem_cons_of_mem _ hj)
    by_cases hin : k ∈ l
    · exact ih _ hl' hin
    · have hik : i = k := by simpa [hin, eq_comm] using hk
      subst hik
      have hi : i < 8 := hl i List.mem_cons_self
      have hset : (m.setReg (0x80 + 8 * i) (n.reg (0xC0 + 8 * i))).reg (0x80 + 8 * i) = n.reg (0xC0 + 8 * i) := by
        rw [Chan.setReg, Chan.reg, Tbl.look_put_same]
        rfl
      refine (n.copySets_reg_other _ l fun j hj heq => hin ?_).trans hset
      have hj8 := hl' j hj
      have heq' := congrArg BitVec.toNat heq
      simp only [BitVec.toNat_ofNat] at heq'
      have hji : j = i := by omega
      exact hji ▸ hj

/-- The channel at whose swap point an armed set becomes active. -/
def Chan.swapped (n : Chan) : Chan :=
  let m := n.copySets n (List.range 8)
  let m := m.setAct 0x50 (m.reg 0x50 &&& ~~~(1 : Word))
  { m with shadow := { m.shadow with swapCount := m.shadow.swapCount + 1, setValid := true, current := 0, queued := true, ended := false } }

theorem Chan.swapped_reg (n : Chan) {p : Nat} (h : BitVec.ofNat 5 10 ≠ BitVec.ofNat 5 (p / 8)) : n.swapped.reg p = (n.copySets n (List.range 8)).reg p :=
  congrArg Staged.act (Tbl.look_upd_other _ _ h)

theorem Chan.swapped_sets (n : Chan) : ∀ k : Nat, k < 8 → n.swapped.reg (0x80 + 8 * k) = n.reg (0xC0 + 8 * k) ∧ n.swapped.reg (0xC0 + 8 * k) = n.reg (0xC0 + 8 * k) := by
  intro k hk
  constructor
  · rw [Chan.swapped_reg _ (by bv_omega)]
    exact n.copySets_reg_copied n _ (fun i hi => List.mem_range.mp hi) (List.mem_range.mpr hk)
  · rw [Chan.swapped_reg _ (by bv_omega)]
    refine n.copySets_reg_other n _ fun i hi => ?_
    have hi' := List.mem_range.mp hi
    bv_omega

theorem Chan.swapped_disarmed (n : Chan) : bitAt (n.swapped.reg 0x50) 0 = false := by
  have hreg : n.swapped.reg 0x50 = (n.copySets n (List.range 8)).reg 0x50 &&& ~~~(1 : Word) := congrArg Staged.act (Tbl.look_upd_same _ _ _)
  rw [hreg]
  simp [bitAt]

theorem Chan.swapped_shadow (n : Chan) : n.swapped.shadow.swapCount = n.shadow.swapCount + 1 ∧ n.swapped.shadow.setValid = true := by
  refine ⟨?_, rfl⟩
  show (n.copySets n (List.range 8)).shadow.swapCount + 1 = _
  rw [Chan.copySets_shadow]

theorem State.swapSets_eq (s : State) (c : ChanId) : s.swapSets c = s.updChan c Chan.swapped := rfl

theorem State.swapPoint_armed (h : bitAt ((s.chan c).reg 0x50) 0 = true) :
    let r := (s.swapPoint c).chan c; let n := s.chan c
    (∀ k : Nat, k < 8 → r.reg (0x80 + 8 * k) = n.reg (0xC0 + 8 * k) ∧ r.reg (0xC0 + 8 * k) = n.reg (0xC0 + 8 * k)) ∧ bitAt (r.reg 0x50) 0 = false ∧
      r.shadow.swapCount = n.shadow.swapCount + 1 ∧ r.shadow.setValid = true ∧ r.state = .running ∧ ∀ d, d ≠ c → (s.swapPoint c).chan d = s.chan d := by
  intro r n
  have hswap : s.swapPoint c = (s.swapSets c).updChan c _ := if_pos h
  have hr : r = _ := (congrArg (fun t : State => t.chan c) hswap).trans (State.chan_updChan_same ..)
  rw [State.swapSets_eq, State.chan_updChan_same] at hr
  obtain ⟨hcount, hvalid⟩ := n.swapped_shadow
  have hreg (p : Nat) : r.reg p = n.swapped.reg p := by
    rw [hr]
    rfl
  refine ⟨fun k hk => ?_, ?_, ?_, ?_, ?_, fun d hd => ?_⟩
  · rw [hreg, hreg]
    exact n.swapped_sets k hk
  · rw [hreg]
    exact n.swapped_disarmed
  · rw [hr]
    exact hcount
  · rw [hr]
    exact hvalid
  · rw [hr]
  · rw [hswap, State.chan_updChan_other _ _ hd.symm, State.swapSets_eq, State.chan_updChan_other _ _ hd.symm]

end

/-- Settles O41: curtains, stops and swaps at their edges. -/
theorem curtainsStopsSwaps : Obligations.CurtainsStopsSwaps := by
  unfold Obligations.CurtainsStopsSwaps
  intro c s0
  refine ⟨?_, ?_⟩
  · intro s n
    refine ⟨fun hm hlive hdue hunit hhalt => ⟨fun hwork h => ?_, fun hwork hd => ?_⟩, fun hdue => exec_curtain_early hdue⟩
    · refine ⟨?_, s.startLate_chan c⟩
      rw [exec_curtain_queue hm hlive hdue hunit hhalt, State.curtainQueue_cuts hwork h]
    · rw [exec_curtain_queue hm hlive hdue hunit hhalt, State.curtainQueue_between hwork hd]
  · intro s n
    refine ⟨fun hlive hstop hhalt hfrozen hhere => ⟨_, if_pos ?_, s.takeStop_fields c⟩, fun hswap => if_pos hswap, fun hswap hon => State.swapPoint_armed hon⟩
    rw [hlive, hstop, hhalt, hfrozen]
    exact hhere

end Sys2Proof.Machine
end

section
/-! PROOF. Admission, beats and read data (O42). -/

namespace Sys2Proof.Machine

/-! ### ADMISSION (R431, R434, R435) -/

section
variable {s : State} {h : ShId} {c : ChanId} {x : Xfer}

/-- The state in which a channel with a unit has entered a stagehand. -/
def State.entered (s : State) (h : ShId) (c : ChanId) (x : Xfer) : State :=
  ({ s with sh := s.sh.upd h fun g =>
      { g with occupants := g.occupants ++ [c], pointers := g.pointers.put (s.chan c).priority (BitVec.ofNat 7 ((c.toNat + 1) % 96)) } } : State).updChan c
    fun n => { n with
      slot := some (s.freeSlotOf (s.sh.look h).occupants)
      xfer := some { x with
        profCtrl := (if x.stamp then (0, 0) else s.profile (s.tenantOf c) x.profile.toNat).1
        profMute := (if x.stamp then (0, 0) else s.profile (s.tenantOf c) x.profile.toNat).2 } }

theorem State.admitAct_plain (hx : (s.chan c).xfer = some x) (hp : x.profile = 0) : s.admitAct h c = (s.entered h c x).go [c] := by
  unfold State.admitAct
  dsimp only
  rw [hx]
  exact if_neg fun hbad => hbad.1 hp

theorem exec_admission (hd : s.dataOn = true) (hf : s.shFrozen h = false)
    (hbest : bestOf (s.betterCandidate h) (allChans.filter fun d => s.candidate h d && s.qualifies (s.sh.look h).occupants d) = some c) :
    exec (.admission h) s = .next (s.admitAct h c) := by
  show execAdmission h s = _
  unfold execAdmission
  dsimp only
  rw [if_neg (by rw [hd, hf]; exact Bool.false_ne_true), hbest]

/-- What the entry of a channel leaves of the stagehands and of the channels. -/
theorem State.entered_fields (s : State) (h : ShId) (c : ChanId) (x : Xfer) :
    let w := s.entered h c x
    (w.sh.look h).occupants = (s.sh.look h).occupants ++ [c] ∧ (w.chan c).slot = some (s.freeSlotOf (s.sh.look h).occupants) ∧
      (∀ k, k ≠ h → w.sh.look k = s.sh.look k) ∧ ((w.sh.look h).pointers.look (s.chan c).priority).toNat = (c.toNat + 1) % 96 ∧
      (∀ d, d ≠ c → w.chan d = s.chan d) ∧ Kept { s with sh := w.sh, chans := w.chans } w := by
  intro w
  have hh : w.sh.look h = { s.sh.look h with
      occupants := (s.sh.look h).occupants ++ [c]
      pointers := (s.sh.look h).pointers.put (s.chan c).priority (BitVec.ofNat 7 ((c.toNat + 1) % 96)) } := Tbl.look_upd_same _ _ _
  have hc : w.chan c = _ := State.chan_updChan_same ..
  rw [hh, hc]
  refine ⟨rfl, rfl, fun k hk => Tbl.look_upd_other _ _ hk.symm, ?_, fun d hd => State.chan_updChan_other _ _ hd.symm, .refl _⟩
  have hlt : (c.toNat + 1) % 96 < 96 := Nat.mod_lt _ (by decide)
  rw [Tbl.look_put_same, BitVec.toNat_ofNat, Nat.mod_eq_of_lt (by omega)]

end

/-! ### BEAT (R437, R438) -/

section
variable {s : State} {h : ShId} {c : ChanId} {m : Nat}

theorem exec_beat_writes (hd : s.dataOn = true) (hf : s.shFrozen h = false) (hw : s.beatWinner h = some (c, m)) :
    let y := (((s.wakeBy 5).passBeat h c).beatOf c m).go [c]
    exec (.beat h) s = .next ((y.issueFirst (y.serveOrder (y.sh.look h).occupants)).go (y.sh.look h).occupants) := by
  show execBeat h s = _
  unfold execBeat
  rw [if_neg (by rw [hd, hf]; exact Bool.false_ne_true), hw]

theorem exec_beat_idle (hd : s.dataOn = true) (hf : s.shFrozen h = false) (hw : s.beatWinner h = none) (hn : (s.sh.look h).writing = none) :
    exec (.beat h) s = .next ((s.issueFirst (s.serveOrder (s.sh.look h).occupants)).go (s.sh.look h).occupants) := by
  show execBeat h s = _
  unfold execBeat
  rw [if_neg (by rw [hd, hf]; exact Bool.false_ne_true), hw]
  have hidle : s.idleBeat h = s := by
    unfold State.idleBeat
    rw [hn]
  dsimp only
  rw [hidle]

/-- The unit after a beat that its burst goes on with. -/
def Xfer.beaten (x : Xfer) (m : Nat) (a : Addr) (bs : List Byte) (planned : Nat) : Xfer :=
  { x with
    dstBuf := x.dstBuf.drop m
    written := x.written + m
    lastBytes := (x.lastBytes ++ x.dstBuf.take m).drop ((x.lastBytes ++ x.dstBuf.take m).length - 8)
    burst := some (a, bs ++ x.dstBuf.take m, planned)
    moved := x.movedAt (x.written + m) }

/-- The channel after a beat of its unit. -/
def Chan.beaten (n : Chan) (x y : Xfer) (m : Nat) : Chan :=
  { n.spend x (y.moved - x.moved) with
    xfer := some y, spin := 0
    shadow := if (decide (n.mode = .shadow) && n.shadow.moving.isNone) = true then { n.shadow with current := n.shadow.current + BitVec.ofNat 32 m } else n.shadow }

/-- The bytes of a beat join the burst that goes on. -/
theorem State.beatOf_goes_on {x : Xfer} {a : Addr} {bs : List Byte} {planned : Nat} (hx : (s.chan c).xfer = some x) (hb : x.burst = some (a, bs, planned))
    (he : x.dstEp = none) (hp : x.pattern = none) (hlen : bs.length + m < planned) (hdone : ({ x with written := x.written + m } : Xfer).done = false) :
    ∃ z : Xfer, ((s.beatOf c m).chan c).xfer = some z ∧ z.written = x.written + m ∧ z.burst = some (a, bs ++ x.dstBuf.take m, planned) ∧
      z.dstBuf = x.dstBuf.drop m ∧ z.moved = x.movedAt (x.written + m) ∧ ∀ d, d ≠ c → (s.beatOf c m).chan d = s.chan d := by
  have hrun : s.beatOf c m = s.writeBeat c x m a bs planned := by
    unfold State.beatOf
    rw [hx]
    dsimp only
    rw [hb]
  have hy : (x.beaten m a bs planned).done = false := hdone
  have hbeat : s.writeBeat c x m a bs planned = s.updChan c fun n => n.beaten x (x.beaten m a bs planned) m := by
    have hlast : decide (planned ≤ bs.length + m) = false := decide_eq_false (by omega)
    have hy' := hy
    unfold Xfer.beaten at hy'
    unfold State.writeBeat Xfer.beaten Chan.beaten
    simp only [hp, he, Option.isSome_none, Bool.false_eq_true, if_false, Bool.or_false, hlast] at hy' ⊢
    simp only [hy', Bool.false_eq_true, if_false]
  refine ⟨x.beaten m a bs planned, ?_, rfl, rfl, rfl, rfl, fun d hd => ?_⟩
  · rw [hrun, hbeat, State.chan_updChan_same]
    rfl
  · rw [hrun, hbeat, State.chan_updChan_other _ _ hd.symm]

end

/-! ### READ_DATA_RETURN (R432) -/

section
variable {s : State} {c : ChanId} {r : ReadReq} {rest : List ReadReq} {x : Xfer} {p : HostPort} {bytes : List Byte} {ecc : Ecc}

theorem hostOf_tag {a : Addr} (h : hostOf a = some p) : tagOf a = 2 ∨ tagOf a = 3 := by
  unfold hostOf at h
  split at h
  · exact Or.inl ‹_›
  · split at h
    · exact Or.inr ‹_›
    · cases h

theorem State.dropPortRead_chan (s : State) (a : Addr) (tag : Option Byte) (d : ChanId) : (s.dropPortRead a tag).chan d = s.chan d := by
  unfold State.dropPortRead
  split
  · simp [State.chan]
  · rfl

/-- A good read of a host port lands in its slot. -/
theorem State.readReturn_host (hr : (s.chan c).reads = r :: rest) (hx : (s.chan c).xfer = some x) (hretry : (s.chan c).retries = [])
    (hhost : hostOf r.addr = some p) (hgot : r.got = none) (hlen : bytes.length = r.len) :
    s.readReturn c .good bytes ecc = (s.dropPortRead r.addr r.tag).updChan c fun n =>
      { n with reads := rest, xfer := some (Xfer.convert (({ x with srcBuf := x.srcBuf ++ bytes } : Xfer).srcBuf.length + 1) { x with srcBuf := x.srcBuf ++ bytes }) } := by
  have htag := hostOf_tag hhost
  have hland : s.readReturn c .good bytes ecc = (s.dropPortRead r.addr r.tag).landRead c r x bytes := by
    unfold State.readReturn
    simp only [hr, hx, Chan.retryWaits, hretry, List.any_nil, Bool.false_eq_true, if_false, hgot]
    rw [if_neg (by omega), if_neg (by rw [isInternal, decide_eq_true_eq]; omega), if_neg (by omega)]
    simp only [State.readEnded, if_pos hlen]
  rw [hland, State.landRead, State.retryDone, updChan_updChan]
  refine State.updChan_congr ?_
  simp only [State.dropPortRead_chan, hr, hretry, List.filter_nil, List.drop_succ_cons, List.drop_zero]

end

/-- Settles O42: admission, beats and the reads that return. -/
theorem stagehandCommands : Obligations.StagehandCommands := by
  unfold Obligations.StagehandCommands
  refine ⟨fun h s c x => ?_, fun h s hd hf => ⟨fun c m hw => ?_, fun hw hn => exec_beat_idle hd hf hw hn⟩,
    fun s c r rest x p bytes ecc hr hx hretry hhost hgot hlen => ?_⟩
  · intro occ hd hf hbest hx hp
    refine ⟨s.entered h c x, ?_, s.entered_fields h c x⟩
    rw [exec_admission hd hf hbest, State.admitAct_plain hx hp]
  · intro v w y occ
    exact ⟨exec_beat_writes hd hf hw, fun x a bs planned hx hb he hpat hlen hdone => State.beatOf_goes_on hx hb he hpat hlen hdone⟩
  · intro v y w
    show Host.Outcome.next (((s.readReturn c .good bytes ecc).failOldest c).go [c]) = _
    rw [State.readReturn_host hr hx hretry hhost hgot hlen]

end Sys2Proof.Machine
end

section
/-! PROOF. Write completions, retries and proofs (O43). -/

namespace Sys2Proof.Machine

/-! ### Write bursts and completion writes over a host port (R279, R481) -/

section
variable {s : State} {c : ChanId} {land : LandAt} {w : WriteReq} {p : HostPort} {ecc : Ecc}

/-- The proof target of a host port. -/
def targetOf : HostPort → ProofTarget
  | .hp0 => .hp0
  | .hp1 => .hp1

theorem State.proofTarget_host {a : Addr} (h : hostOf a = some p) : s.proofTarget a = some (targetOf p) := by
  unfold hostOf at h
  unfold State.proofTarget
  split at h
  · next h2 =>
    cases h
    rw [h2]
    rfl
  · split at h
    · next h3 =>
      cases h
      rw [h3]
      rfl
    · cases h

/-- The burst is landed and its last address is to be proven. -/
theorem State.writeLanded_host (hretry : (s.chan c).retries = []) (hhost : hostOf w.addr = some p) :
    s.writeLanded c w = s.updChan c fun n =>
      { n with
        writes := n.writes.filter fun x => x != w
        unproven := (targetOf p, w.addr + BitVec.ofNat 64 (w.bytes.length - 1)) :: n.unproven.filter fun q => q.1 != targetOf p } := by
  have hmark : (s.updChan c fun n => n.without w).markUnproven c w = (s.updChan c fun n => n.without w).updChan c fun n =>
      { n with unproven := (targetOf p, w.addr + BitVec.ofNat 64 (w.bytes.length - 1)) :: n.unproven.filter fun q => q.1 != targetOf p } := by
    unfold State.markUnproven
    rw [State.proofTarget_host hhost]
  rw [State.writeLanded, hmark, State.retryDone, updChan_updChan, updChan_updChan]
  refine State.updChan_congr ?_
  simp only [Chan.without, hretry, List.filter_nil]

theorem State.writeDone_host (hnext : s.nextLanding c land = some w) (hout : w.stand = .out) (hretry : (s.chan c).retries = [])
    (hhost : hostOf w.addr = some p) (hport : (s.port p).usable = true) : s.writeDone c land .good ecc = s.writeLanded c w := by
  have hstuck : (s.chan c).stuck w = false := by
    rw [Chan.stuck, hretry]
    rfl
  unfold State.writeDone
  rw [hnext]
  dsimp only
  rw [if_neg (by rw [hout, hstuck]; simp), hhost]
  exact if_pos hport

theorem State.completionDone_host {k : CplWrite} (hnext : s.cplLanding land = some k) (hhost : hostOf k.addr = some p) (hport : (s.port p).usable = true) :
    s.completionDone land .good ecc = (s.sendVectors k.tenant k.vectors).cplLeaves k := by
  unfold State.completionDone
  rw [hnext]
  dsimp only
  rw [hhost]
  exact if_pos hport

end

/-! ### Retries (R472, R474) -/

section
variable {s : State} {c : ChanId}

theorem State.retryCpls_none (h : ∀ w ∈ s.cplWrites, w.retryAt = none) : s.retryCpls c = s := by
  have hmine : s.cplWrites.filter (fun w => (w.chan == some c || w.chan.isNone) && (w.retryAt.any fun t => due t s.coreEdge)) = [] := by
    rw [List.filter_eq_nil_iff]
    intro w hw
    rw [h w hw]
    simp
  rw [State.retryCpls, hmine]
  rfl

theorem exec_retry_none (h : (s.retryCpls c).dueRetry c = none) : exec (.retry c) s = .next ((s.retryCpls c).go allChans) := by
  show execRetry c s = _
  unfold execRetry
  dsimp only
  rw [h]

theorem exec_retry_due {r : Retry} (h : (s.retryCpls c).dueRetry c = some r) (hd : (s.retryCpls c).dataOn = true)
    (hcur : (s.retryCpls c).curtainDue c = false) (hunit : (s.retryCpls c).frozenUnit c = false) :
    exec (.retry c) s = .next ((((s.retryCpls c).retryIssued c r).reissue c r).go allChans) := by
  show execRetry c s = _
  unfold execRetry
  dsimp only
  rw [h]
  exact if_pos (by rw [hd, hcur, hunit]; rfl)

/-- A write burst that the map still allows is issued again whole. -/
theorem State.reissue_write {r : Retry} {w : WriteReq} (hr : r.what = rWrite) (hw : (s.chan c).writes.find? (fun w => w.addr == r.addr) = some w)
    (hcheck : s.checkAccess (s.tenantOf c) w.addr w.bytes.length true = none) : s.reissue c r = s.sendWrite c w := by
  unfold State.reissue
  dsimp only
  rw [if_neg (by rw [hr]; decide), if_pos hr, hw]
  dsimp only
  rw [hcheck]

theorem State.retryIssued_writes (s : State) (c : ChanId) (r : Retry) : ((s.retryIssued c r).chan c).writes = (s.chan c).writes := by
  rw [State.retryIssued, State.chan_updChan_same]

end

/-! ### Proofs (R465, R475) -/

section
variable {s : State} {c : ChanId}

theorem State.proofReturn_host {t : ProofTarget} {a : Addr} {p : HostPort} {bytes : List Byte} {ecc : Ecc} (hon : (s.chan c).proofOn = true)
    (hfind : (s.chan c).proving.find? (fun p => p.1 == t) = some (t, a)) (hretry : (s.chan c).retries = []) (hhost : hostOf a = some p)
    (hport : (s.port p).usable = true) : s.proofReturn c (some t) .good bytes ecc = s.proofGood c t a bytes := by
  have htag := hostOf_tag hhost
  unfold State.proofReturn
  simp only [hon, hfind, Chan.retryWaits, hretry, List.any_nil, Bool.false_eq_true, if_false]
  rw [if_neg (by rw [isInternal, decide_eq_true_eq]; omega), hhost]
  simp [hport]

/-- Without VERIFY a good read-back leaves the target proven. -/
theorem State.proofGood_plain {t : ProofTarget} {a : Addr} {bytes : List Byte} (hv : (s.chan c).verified = none) (hretry : (s.chan c).retries = []) :
    s.proofGood c t a bytes = s.updChan c fun n => { n with proving := n.proving.filter fun p => p.1 != t } := by
  unfold State.proofGood
  simp only [hv, if_true]
  rw [State.retryDone, State.proven, updChan_updChan]
  refine State.updChan_congr ?_
  simp only [hretry, List.filter_nil]

theorem exec_resetProof_writes {t0 : Tick} {k : Nat} (ha : (s.chan c).after = some (.resetWrites t0 k)) (hd : due (t0 + 57600000) s.coreEdge = true) :
    exec (.resetProofTimeout c) s = .next (({ s with cplWrites := s.cplWrites.filter fun w => w.chan != some c } : State).go [c]) := by
  show execResetProofTimeout c s = _
  unfold execResetProofTimeout
  dsimp only
  rw [ha]
  exact if_pos hd

/-- The targets whose bits a list of targets sets. -/
def proofMask (l : List ProofTarget) (m : BitVec 6) : BitVec 6 := l.foldl (fun m t => m ||| ((1 <<< proofBit t : Nat) : BitVec 6)) m

theorem proofBit_lt (t : ProofTarget) : proofBit t < 6 := by
  cases t <;> exact of_decide_eq_true rfl

theorem proofMask_keeps (l : List ProofTarget) {m : BitVec 6} {i : Nat} (h : m.getLsbD i = true) : (proofMask l m).getLsbD i = true := by
  induction l generalizing m with
  | nil => exact h
  | cons t l ih => exact ih (by rw [BitVec.getLsbD_or, h, Bool.true_or])

theorem proofMask_sets (l : List ProofTarget) (m : BitVec 6) {t : ProofTarget} (h : t ∈ l) : (proofMask l m).getLsbD (proofBit t) = true := by
  induction l generalizing m with
  | nil => exact absurd h List.not_mem_nil
  | cons k l ih =>
    rcases List.mem_cons.mp h with rfl | hmem
    · have hbit : ∀ i < 6, ((1 <<< i : Nat) : BitVec 6).getLsbD i = true := by decide
      exact proofMask_keeps l (by rw [BitVec.getLsbD_or, hbit _ (proofBit_lt t), Bool.or_true])
    · exact ih _ hmem

/-- The targets of a channel that a reset has not proven. -/
def State.unprovenTargets (s : State) (c : ChanId) : List ProofTarget :=
  ((s.chan c).proving.map fun p => p.1) ++ ((s.chan c).unproven.map fun p => p.1) ++ (s.chan c).writes.filterMap fun w => s.proofTarget w.addr

theorem exec_resetProof (t0 : Tick) (ha : (s.chan c).after = some (.reset t0)) : exec (.resetProofTimeout c) s =
    if due (t0 + 57600000) s.coreEdge = true then
      .next ((s.updChan c fun n => { n with proving := [], unproven := [], writes := [], unprovenMask := proofMask (s.unprovenTargets c) (s.chan c).unprovenMask }).go [c])
    else .next s := by
  show execResetProofTimeout c s = _
  unfold execResetProofTimeout
  dsimp only
  rw [ha]
  rfl

end

/-- Settles O43: write completions, retries, read-backs and the end of a reset's proof. -/
theorem writesRetriesProofs : Obligations.WritesRetriesProofs := by
  unfold Obligations.WritesRetriesProofs
  refine ⟨fun s c land w p ecc hnext hout hretry hhost hport => ?_, fun s land w p ecc hnext hhost hport => ?_, fun s c r w => ?_,
    fun s c => ⟨exec_retry_none, State.retryCpls_none⟩, fun s c t a p bytes ecc hon hfind hretry hhost hport hv => ?_,
    fun s c t0 k ha hd => exec_resetProof_writes ha hd, fun s c t0 ha => ⟨fun hd => ?_, fun hd => ?_⟩⟩
  · intro t
    have ht : t = targetOf p := by cases p <;> rfl
    show Host.Outcome.next ((s.writeDone c land .good ecc).go [c]) = _
    rw [State.writeDone_host hnext hout hretry hhost hport, State.writeLanded_host hretry hhost, ht]
  · show Host.Outcome.next ((s.completionDone land .good ecc).go allChans) = _
    rw [State.completionDone_host hnext hhost hport]
  · intro u hdue hwhat hd hcur hunit hw hcheck v
    have hw' : ((u.retryIssued c r).chan c).writes.find? (fun w => w.addr == r.addr) = some w := by rw [State.retryIssued_writes, hw]
    rw [exec_retry_due hdue hd hcur hunit, State.reissue_write hwhat hw' hcheck]
    rfl
  · show Host.Outcome.next ((s.proofReturn c (some t) .good bytes ecc).go [c]) = _
    rw [State.proofReturn_host hon hfind hretry hhost hport, State.proofGood_plain hv hretry]
  · have hfields := State.chan_updChan_same s c fun n => { n with proving := [], unproven := [], writes := [], unprovenMask := proofMask (s.unprovenTargets c) (s.chan c).unprovenMask }
    refine ⟨_, (exec_resetProof t0 ha).trans (if_pos hd), ?_⟩
    rw [hfields]
    refine ⟨rfl, rfl, rfl, fun x hx => proofMask_sets _ _ ?_, fun d hd => State.chan_updChan_other _ _ hd.symm, .refl _⟩
    rw [List.mem_append] at hx
    unfold State.unprovenTargets
    rw [List.mem_append, List.mem_append, List.mem_map, List.mem_map]
    exact Or.inl (hx.imp (fun h => ⟨x, h, rfl⟩) (fun h => ⟨x, h, rfl⟩))
  · exact (exec_resetProof t0 ha).trans (if_neg (by rw [hd]; exact Bool.false_ne_true))

end Sys2Proof.Machine
end

section
/-! PROOF. The supervisors of the part (O44). -/

namespace Sys2Proof.Machine

/-! ### WATCHMAN_SCAN (R492 to R495) -/

section
variable {s : State} {c : ChanId}

theorem State.go_nil (s : State) : s.go [] = s := rfl

theorem exec_watchmanScan_single {v : ChanId} {k : Nat} (hd : s.dataOn = true) (hv : s.deadVictims = [(v, k)]) :
    exec .watchmanScan s = .next ((s.breakWait v k).go [v]) := by
  show execWatchmanScan s = _
  unfold execWatchmanScan
  rw [if_neg (by rw [hd]; exact Bool.false_ne_true), hv]
  rfl

theorem exec_watchmanScan_none (h : s.dataOn = false ∨ s.deadVictims = []) : exec .watchmanScan s = .next s := by
  show execWatchmanScan s = _
  unfold execWatchmanScan
  rcases h with h | h
  · rw [if_pos (by rw [h]; rfl)]
  · split
    · rfl
    · rw [h]
      rfl

/-- The state in which the wait of a victim is broken, before it fails. -/
def State.scanned (s : State) (c : ChanId) (k : Nat) : State := (s.noteChan 5 0x50 c (BitVec.ofNat 32 (k + 0))).updScript c fun p => { p with spin := 0 }

theorem State.scanned_cues (s : State) (c : ChanId) (k : Nat) : (s.scanned c k).cues = s.cues := (State.noteChan_kept s 5 0x50 c _).cues

theorem State.scanned_other (s : State) (k : Nat) {d : ChanId} (h : d ≠ c) : (s.scanned c k).chan d = s.chan d := by
  rw [State.scanned, State.updScript, State.chan_updChan_other _ _ h.symm, State.noteChan_chan]

theorem State.scanned_script (s : State) (c : ChanId) (k : Nat) : ((s.scanned c k).chan c).script = { (s.chan c).script with spin := 0 } := by
  rw [State.scanned, State.updScript_script, State.noteChan_chan]

theorem State.breakWait_target {w : Wait} {q : CueId} {n : BitVec 16} {keep : Bool} {target : BitVec 12} (k : Nat)
    (hw : (s.chan c).wait = some w) (hk : w.kind = .cue q n keep (some target)) : s.breakWait c k = (s.scanned c k).failTarget c 2 target := by
  unfold State.breakWait
  rw [hw]
  simp only [hk]
  rfl

theorem State.breakWait_fails {w : Wait} {q : CueId} {n : BitVec 16} {keep : Bool} (k : Nat)
    (hw : (s.chan c).wait = some w) (hk : w.kind = .cue q n keep none) : s.breakWait c k = (s.scanned c k).failPlain c 0x16 k := by
  unfold State.breakWait
  rw [hw]
  simp only [hk]
  rfl

theorem Script.goto_pc (p : Script) (t : BitVec 12) : (p.goto t.toNat).pc = t := by
  show BitVec.ofNat 12 t.toNat = t
  rw [BitVec.ofNat_toNat, BitVec.setWidth_eq]

theorem State.failTarget_script (s : State) (c : ChanId) (cause : Nat) (target : BitVec 12) :
    let r := ((s.failTarget c cause target).chan c).script
    r.failTaken = true ∧ r.failCause = BitVec.ofNat 3 cause ∧ r.pc = target ∧ r.detail = (s.chan c).script.pc.zeroExtend 32 := by
  intro r
  have hr : r = _ := congrArg Chan.script (State.chan_updChan_same ..)
  rw [hr]
  exact ⟨rfl, rfl, Script.goto_pc (s.chan c).script target, rfl⟩

end

/-! ### CFG_CRC_PASS (R166 to R171) -/

section
variable {s : State} {page : Page}

theorem exec_cfgCrcPass (h : s.clocksOff = false) :
    exec .cfgCrcPass s = .next (s.forAll (.device :: allTenants.map .tenant) fun page s => s.passScope page) :=
  if_neg (by rw [h]; exact Bool.false_ne_true)

theorem Kept.ctl {s t : State} (h : Kept s t) (page : Page) : t.ctl page = s.ctl page := by
  cases page with
  | device => exact congrArg DevPage.ctl h.dev
  | tenant u => exact (h.tenants u).ctl

theorem State.note_ctl (s : State) (cls event : Nat) (t : Option TenantId) (c : Option ChanId) (d : Dword) (page : Page) :
    (s.note cls event t c d).ctl page = s.ctl page := by
  exact (State.note_kept _ _ _ _ _ _).ctl page

theorem State.raiseMismatch_ctl (s : State) (q page : Page) : (s.raiseMismatch q).ctl page = s.ctl page := by
  cases q with
  | tenant t => exact (s.raiseTenant_kept t 3).ctl page
  | device =>
    have hhouse (t : State) : (t.raiseHouse 7).ctl page = t.ctl page := by cases page <;> rfl
    exact (hhouse _).trans ((s.raiseSm_kept 23).ctl page)

theorem State.passScope_disturbed (h : (s.ctl page).disturbed = true) : (s.passScope page).ctl page = { s.ctl page with disturbed := false } := by
  rw [State.passScope, if_pos h, State.updCtl_ctl_same]

/-- A compared pass that differs marks the page, and freezes it where the reference asks for it. -/
theorem State.mismatched_ctl (s : State) (page : Page) (crc : Dword) :
    let d := (s.mismatched page crc).ctl page
    d.crc = (s.ctl page).crc ∧ d.crcValid = (s.ctl page).crcValid ∧ d.mismatch = true ∧ (bitAt (s.cfgRef page) 33 = true → d.frozen = true) := by
  have hmark (v : State) : ((v.raiseMismatch page).note 10 0xA0 (pageTenant page) none crc).ctl page = v.ctl page := by
    rw [State.note_ctl, State.raiseMismatch_ctl]
  unfold State.mismatched
  dsimp only
  split
  · rw [State.note_ctl, State.updCtl_ctl_same, hmark, State.updCtl_ctl_same]
    exact ⟨rfl, rfl, rfl, fun _ => rfl⟩
  · next hfreeze =>
    rw [hmark, State.updCtl_ctl_same]
    refine ⟨rfl, rfl, rfl, fun hask => ?_⟩
    simpa [hask] using hfreeze

theorem State.cfgRef_updCtl (s : State) (q : Page) (f : PageCtl → PageCtl) (page : Page) : (s.updCtl q f).cfgRef page = s.cfgRef page := by
  cases page with
  | device => exact congrArg Staged.act (s.updCtl_staged q f (.dev 0x60))
  | tenant t => exact congrArg Staged.act (s.updCtl_staged q f (.ten t 0x60))

theorem State.passScope_recorded (h : (s.ctl page).disturbed = false) :
    let d := (s.passScope page).ctl page
    d.crc = s.scopeCrc page ∧ d.crcValid = true ∧
      (bitAt (s.cfgRef page) 32 = true → d.mismatch = decide (lo32 (s.cfgRef page) ≠ s.scopeCrc page)) ∧
      (bitAt (s.cfgRef page) 32 = true → bitAt (s.cfgRef page) 33 = true → lo32 (s.cfgRef page) ≠ s.scopeCrc page → d.frozen = true) := by
  have hset := s.updCtl_ctl_same page fun k => { k with crc := s.scopeCrc page, crcValid := true }
  unfold State.passScope
  rw [if_neg (by rw [h]; exact Bool.false_ne_true)]
  dsimp only
  split
  · next hen =>
    rw [hset]
    have hoff : ¬ bitAt (s.cfgRef page) 32 = true := by simpa using hen
    exact ⟨rfl, rfl, fun he => absurd he hoff, fun he => absurd he hoff⟩
  · split
    · next heq =>
      rw [State.updCtl_ctl_same, hset]
      exact ⟨rfl, rfl, fun _ => (decide_eq_false fun hne => hne heq).symm, fun _ _ hne => absurd heq hne⟩
    · next heq =>
      obtain ⟨hcrc, hvalid, hmis, hfrozen⟩ := (s.updCtl page fun k => { k with crc := s.scopeCrc page, crcValid := true }).mismatched_ctl page (s.scopeCrc page)
      rw [hset] at hcrc hvalid
      rw [State.cfgRef_updCtl] at hfrozen
      exact ⟨hcrc, hvalid, fun _ => hmis.trans (decide_eq_true heq).symm, fun _ hask _ => hfrozen hask⟩

end

/-! ### PROMPTER_STALL (R220) -/

section
variable {s : State}

/-- What the end of long commands leaves: the device page, the channels and the map. -/
structure StallKept (s t : State) : Prop where
  dev : t.dev = s.dev
  chans : t.chans = s.chans
  prot : t.prot = s.prot
  boot : t.boot = s.boot
  devState : t.devState = s.devState

theorem StallKept.refl (s : State) : StallKept s s := ⟨rfl, rfl, rfl, rfl, rfl⟩

theorem StallKept.trans {s t u : State} (h : StallKept s t) (k : StallKept t u) : StallKept s u :=
  ⟨k.dev.trans h.dev, k.chans.trans h.chans, k.prot.trans h.prot, k.boot.trans h.boot, k.devState.trans h.devState⟩

theorem Kept.stall {s t : State} (h : Kept s t) : StallKept s t := ⟨h.dev, h.chans, h.prot, h.boot, h.devState⟩

/-- A long command that ends leaves the list, and nothing else joins it. -/
theorem State.finishLong_stall (s : State) (l : LongCmd) (a : Reply) (result : List Byte) :
    StallKept s (s.finishLong l a result) ∧ (s.finishLong l a result).long = s.long.filter fun x => x.order != l.order := by
  have hlong : StallKept s { s with long := s.long.filter fun x => x.order != l.order } := ⟨rfl, rfl, rfl, rfl, rfl⟩
  have hcomplete (t : State) (r : CmdRef) (op : Byte) (b : Reply) (x : List Byte) : StallKept t (t.complete r op b x) ∧ (t.complete r op b x).long = t.long :=
    ⟨(t.complete_kept r op b x).stall, (t.complete_kept r op b x).long⟩
  have hall (t : State) : StallKept t (t.forAll l.aborts fun x s => s.complete x.1 0x7E { dw2 := x.2 } []) ∧
      (t.forAll l.aborts fun x s => s.complete x.1 0x7E { dw2 := x.2 } []).long = t.long := by
    refine State.forAll_induction (P := fun u => StallKept t u ∧ u.long = t.long) _ ⟨.refl t, rfl⟩ fun x u hu => ?_
    obtain ⟨hk, hl⟩ := hcomplete u x.1 0x7E { dw2 := x.2 } []
    exact ⟨hu.1.trans hk, hl.trans hu.2⟩
  unfold State.finishLong
  dsimp only
  obtain ⟨hk, hl⟩ := hcomplete { s with long := s.long.filter fun x => x.order != l.order } l.ref ((nth l.dw.toList 0 0).truncate 8) a result
  obtain ⟨hk', hl'⟩ := hall (State.complete { s with long := s.long.filter fun x => x.order != l.order } l.ref ((nth l.dw.toList 0 0).truncate 8) a result)
  exact ⟨(hlong.trans hk).trans hk', hl'.trans hl⟩

/-- Every long command of a list ends, and with the whole list none is left. -/
theorem State.finishAll_stall (s : State) (a : Reply) (l : List LongCmd) :
    StallKept s (s.forAll l fun x s => s.finishLong x a []) ∧
      (s.forAll l fun x s => s.finishLong x a []).long = s.long.filter fun x => l.all fun y => x.order != y.order := by
  induction l generalizing s with
  | nil => exact ⟨.refl s, (List.filter_eq_self.mpr fun _ _ => rfl).symm⟩
  | cons y l ih =>
    obtain ⟨hk, hl⟩ := s.finishLong_stall y a []
    obtain ⟨hk', hl'⟩ := ih (s.finishLong y a [])
    refine ⟨hk.trans hk', hl'.trans ?_⟩
    rw [hl, List.filter_filter]
    refine List.filter_congr fun x _ => ?_
    simp [List.all_cons, Bool.and_comm]

theorem State.finishAll_none (s : State) (a : Reply) : (s.forAll s.long fun x s => s.finishLong x a []).long = [] := by
  rw [(s.finishAll_stall a s.long).2, List.filter_eq_nil_iff]
  intro x hx hall
  have hself := List.all_eq_true.mp hall x hx
  simp at hself

theorem State.enterDev_fields (v : State) (d : DevState) :
    (v.enterDev d).devState = d ∧ (v.enterDev d).dev = v.dev ∧ (v.enterDev d).long = v.long ∧ (v.enterDev d).chans = v.chans ∧ (v.enterDev d).prot = v.prot := by
  unfold State.enterDev
  dsimp only
  generalize BitVec.ofNat 32 _ = data
  have hk := State.note_kept { v with devState := d } 0 0x04 none none data
  exact ⟨hk.devState, hk.dev, hk.long, hk.chans, hk.prot⟩

theorem State.persistTrace_eq (v : State) (k : Byte) : ∃ tr, v.persistTrace k = { v with trace := tr } := ⟨_, rfl⟩

/-- What the part leaves as it enters FAULTED. -/
theorem State.enterFaulted_fields (s : State) (cause : Byte) :
    (s.enterFaulted cause).devState = .faulted ∧ (s.enterFaulted cause).dev = s.dev ∧ (s.enterFaulted cause).long = [] ∧
      (s.enterFaulted cause).chans = s.chans ∧ (s.enterFaulted cause).prot = s.prot := by
  obtain ⟨⟨hdev, hchans, hprot, -, -⟩, -⟩ := s.finishAll_stall { status := 0x15, dw3 := 1 } s.long
  have hlong := s.finishAll_none { status := 0x15, dw3 := 1 }
  unfold State.enterFaulted
  dsimp only
  generalize (s.forAll s.long fun l s => s.finishLong l { status := 0x15, dw3 := 1 } []) = u at hdev hchans hprot hlong ⊢
  rw [← hdev, ← hchans, ← hprot, ← hlong]
  have henter := State.enterDev_fields
    { u with boot := { u.boot with faultLog := u.boot.faultLog ++ [{ cause := cause, stamp := s.now }] }, tb := { u.tb with atPps := none } } .faulted
  generalize State.enterDev _ DevState.faulted = w at henter ⊢
  obtain ⟨tr, htr⟩ := w.persistTrace_eq 2
  rw [htr]
  split
  · exact henter
  · exact henter

/-- What the alarm of a stall leaves. -/
theorem State.stalled_fields (s : State) :
    let u := (s.raiseAlert 2).countFailedBoot
    bitAt (u.devReg 0x18) 2 = true ∧ u.boot.faultLog = s.boot.faultLog ∧ u.devState = s.devState ∧ u.chans = s.chans ∧ u.prot = s.prot ∧ u.tb = s.tb := by
  have halert : bitAt ((s.raiseAlert 2).devReg 0x18) 2 = true ∧ (s.raiseAlert 2).boot = s.boot ∧ (s.raiseAlert 2).devState = s.devState ∧
      (s.raiseAlert 2).chans = s.chans ∧ (s.raiseAlert 2).prot = s.prot ∧ (s.raiseAlert 2).tb = s.tb := by
    unfold State.raiseAlert
    split
    · exact ⟨‹_›, rfl, rfl, rfl, rfl, rfl⟩
    · refine ⟨?_, rfl, rfl, rfl, rfl, rfl⟩
      rw [State.raiseHouse, State.devReg_setDevReg _ _ _ _ (by decide), State.devReg_setDevReg_same]
      exact bitAt_or_one_shiftLeft _ (by decide)
  obtain ⟨h1, h2, h3, h4, h5, h6⟩ := halert
  intro u
  have hcount : u.dev = (s.raiseAlert 2).dev ∧ u.boot.faultLog = (s.raiseAlert 2).boot.faultLog ∧ u.devState = (s.raiseAlert 2).devState ∧
      u.chans = (s.raiseAlert 2).chans ∧ u.prot = (s.raiseAlert 2).prot ∧ u.tb = (s.raiseAlert 2).tb := by
    show ((s.raiseAlert 2).countFailedBoot).dev = _ ∧ ((s.raiseAlert 2).countFailedBoot).boot.faultLog = _ ∧ ((s.raiseAlert 2).countFailedBoot).devState = _ ∧
      ((s.raiseAlert 2).countFailedBoot).chans = _ ∧ ((s.raiseAlert 2).countFailedBoot).prot = _ ∧ ((s.raiseAlert 2).countFailedBoot).tb = _
    unfold State.countFailedBoot
    split <;> exact ⟨rfl, rfl, rfl, rfl, rfl, rfl⟩
  obtain ⟨k1, k2, k3, k4, k5, k6⟩ := hcount
  refine ⟨?_, k2.trans (by rw [h2]), k3.trans h3, k4.trans h4, k5.trans h5, k6.trans h6⟩
  rw [State.devReg, k1]
  exact h1

theorem exec_prompterStall : exec .prompterStall s =
    if s.devState = .faulted then
      .next { (s.raiseAlert 2).countFailedBoot with boot := { ((s.raiseAlert 2).countFailedBoot).boot with
        faultLog := ((s.raiseAlert 2).countFailedBoot).boot.faultLog ++ [{ cause := 2, stamp := ((s.raiseAlert 2).countFailedBoot).now }] } }
    else .next (((s.raiseAlert 2).countFailedBoot).enterFaulted 2) := rfl

theorem exec_proposalExpiry {h : Proposal} (hh : s.prot.held = some h) :
    exec .proposalExpiry s = if (future s.now h.expiry && !(s.waitsBefore h.expiry)) = true then .next (s.endProposal true) else .next s := by
  show execProposalExpiry s = _
  rw [execProposalExpiry, hh]

theorem State.endProposal_chans (s : State) (expired : Bool) : (s.endProposal expired).chans = s.chans := by
  unfold State.endProposal
  split
  · rfl
  · rw [(State.note_kept _ _ _ _ _ _).chans]
    exact (State.raiseSm_kept _ 17).chans

end

/-! ### LONG_COMMAND_FINISH (R223) -/

section
variable {s : State} {src : Source} {e : Ended} {l : LongCmd}

/-- The commands of bulk and storage, of which the oldest of a source ends. -/
def bulkOps : List Nat := [0x50, 0x61, 0x70, 0x78, 0x79]

/-- The opcode of a command in service. -/
def LongCmd.op (l : LongCmd) : Nat := field (packetDw l.dw 0) 7 0

theorem exec_longCommandFinish (h : (s.longOf src).find? (fun l => bulkOps.contains l.op) = some l) :
    (l.op = 0x70 → exec (.longCommandFinish src e) s = .next (s.finishStage l)) ∧
    (l.op = 0x78 → exec (.longCommandFinish src e) s = .next (s.finishSnapshot l)) ∧
    (l.op = 0x79 → exec (.longCommandFinish src e) s = .next (s.finishRestore l (e == .good))) ∧
    (l.op = 0x50 ∨ l.op = 0x61 → exec (.longCommandFinish src e) s = .next (s.finishBulk l e)) := by
  have hrun : exec (.longCommandFinish src e) s = execLongCommandFinish src e s := rfl
  have hfind : (s.longOf src).find? (fun l => [0x50, 0x61, 0x70, 0x78, 0x79].contains (field (packetDw l.dw 0) 7 0)) = some l := h
  rw [hrun, execLongCommandFinish]
  simp only [hfind, LongCmd.op]
  refine ⟨fun ho => ?_, fun ho => ?_, fun ho => ?_, ?_⟩
  · simp only [ho]
  · simp only [ho]
  · simp only [ho]
  · rintro (ho | ho) <;> simp only [ho]

end

/-- Settles O44: what each of the part's supervisors does. -/
theorem supervisionEvents : Obligations.SupervisionEvents := by
  unfold Obligations.SupervisionEvents
  refine ⟨fun s v k hd hv => exec_watchmanScan_single hd hv, fun s h => exec_watchmanScan_none h, fun s c k w q n keep hw => ⟨fun target hk => ?_, fun hk => ?_⟩,
    fun s h => exec_cfgCrcPass h, fun s page => ⟨State.passScope_disturbed, State.passScope_recorded⟩, fun s hs => ?_, fun s hs => ?_,
    fun s h hh => ⟨fun hf hw => ?_, fun hn => ?_⟩, fun s src e l => ?_⟩
  · rw [State.breakWait_target k hw hk]
    obtain ⟨htaken, hcause, hpc, hdetail⟩ := (s.scanned c k).failTarget_script c 2 target
    rw [State.scanned_script] at hdetail
    exact ⟨htaken, hcause, hpc, hdetail, s.scanned_cues c k⟩
  · exact ⟨s.scanned c k, State.breakWait_fails k hw hk, s.scanned_cues c k, fun d hd => s.scanned_other k hd⟩
  · obtain ⟨hbit, -, -, hchans, hprot, -⟩ := s.stalled_fields
    obtain ⟨hstate, hdev, hlong, hchans', hprot'⟩ := ((s.raiseAlert 2).countFailedBoot).enterFaulted_fields 2
    refine ⟨_, exec_prompterStall.trans (if_neg hs), hstate, ?_, hlong, hchans'.trans hchans, hprot'.trans hprot⟩
    rw [State.devReg, hdev]
    exact hbit
  · obtain ⟨hbit, hlog, hstate, hchans, hprot, -⟩ := s.stalled_fields
    refine ⟨_, exec_prompterStall.trans (if_pos hs), ?_, hbit, hstate.trans hs, hchans, hprot⟩
    dsimp only
    rw [hlog]
    rfl
  · refine ⟨_, (exec_proposalExpiry hh).trans (if_pos (by rw [hf, hw]; rfl)), ?_⟩
    rw [s.endProposal_prot true hh]
    exact ⟨rfl, rfl, rfl, s.endProposal_chans true⟩
  · refine (exec_proposalExpiry hh).trans (if_neg ?_)
    rcases hn with hn | hn <;> simp [hn]
  · intro op hfind
    obtain ⟨hstage, hsnap, hrestore, hbulk⟩ := exec_longCommandFinish (e := e) hfind
    refine ⟨hstage, hsnap, hrestore, fun ho hsrc => ?_⟩
    rw [hbulk ho, State.finishBulk, hsrc]

end Sys2Proof.Machine
end

section
/-! PROOF. NOP, SETA, ADDA, SETK and ADDK (O25). -/

namespace Sys2Proof.Machine

/-! ### Instructions that change registers only (R360, R368) -/

theorem join64_eq_append (lo hi : Dword) : join64 lo hi = hi ++ lo := by
  apply BitVec.eq_of_toNat_eq
  have hhi : hi.toNat < 2 ^ 32 := hi.isLt
  have hlo : lo.toNat < 2 ^ 32 := lo.isLt
  have hshift : hi.toNat <<< 32 < 2 ^ 64 := by rw [Nat.shiftLeft_eq]; omega
  refine Eq.trans ?_ (BitVec.toNat_append hi lo).symm
  simp only [join64, BitVec.truncate_eq_setWidth, BitVec.toNat_or, BitVec.toNat_shiftLeft, BitVec.toNat_setWidth]
  rw [Nat.mod_eq_of_lt (by omega : hi.toNat < 2 ^ 64), Nat.mod_eq_of_lt (by omega : lo.toNat < 2 ^ 64), Nat.mod_eq_of_lt hshift]

/-- A change of registers that leaves PC and the spin count to the step of the instruction. -/
theorem State.regInsn_eq (s : State) (c : ChanId) (f : Script → Script) (hpc : ∀ p, (f p).pc = p.pc) (hspin : ∀ p, (f p).spin = p.spin) :
    s.regInsn c f = if (s.chan c).script.pc = 4095 then (s.updScript c fun p => { f p with spin := p.spin + 1 }).failPlain c 0x09 0
      else s.updScript c fun p => { ((f p).goto (p.pc.toNat + 1)) with spin := p.spin + 1 } := by
  have hcount : (s.updScript c f).countSpin c = s.updScript c fun p => { f p with spin := p.spin + 1 } := by
    rw [State.countSpin, State.updScript_updScript]
    simp only [hspin]
  have hat : (((s.updScript c f).countSpin c).chan c).script.pc = (s.chan c).script.pc := by
    rw [hcount, State.updScript_script]
    exact hpc _
  by_cases h : (s.chan c).script.pc = 4095
  · rw [if_pos h, State.regInsn, State.nextPc_beyond (hat.trans h), hcount]
  · rw [if_neg h, State.regInsn, State.nextPc_inside (hat ▸ h), hcount, State.updScript_updScript]
    simp only [hpc]
    rfl

/-- Settles O25: each row is a change of registers and then the next instruction. -/
theorem scriptRegisters : Obligations.ScriptRegisters := by
  intro c s i next a
  have hnext : ∀ f : Script → Script, (∀ p, (f p).pc = p.pc) → (∀ p, (f p).spin = p.spin) → (s.regInsn c f).go [c] = next f := by
    intro f hpc hspin
    rw [s.regInsn_eq c f hpc hspin]
    exact apply_ite (fun t : State => t.go [c]) _ _ _
  refine ⟨fun h => ?_, fun h => ?_, fun h => ?_, fun h => ?_, fun h => ?_⟩
  · show execNop c s = _
    rw [execNop, scriptRow_runs h]
    exact congrArg _ (hnext id (fun _ => rfl) (fun _ => rfl))
  · show execSeta c s = _
    rw [execSeta, scriptRow_runs h, join64_eq_append, regAt_eq_extractLsb']
    exact congrArg _ (hnext _ (fun _ => rfl) (fun _ => rfl))
  · show execAdda c s = _
    have h' : Executes s c .adda i { offsets := offIf (bitAt i.d0 10 && i.d1 != 0) 4 } := by simpa [offIf, bitAt] using h
    rw [execAdda, scriptRow_runs (check := fun _ i => { offsets := offIf (bitAt i.d0 10 && i.d1 != 0) 4 }) h', regAt_eq_extractLsb', regAt_eq_extractLsb']
    exact congrArg _ (hnext _ (fun _ => rfl) (fun _ => rfl))
  · show execSetk c s = _
    rw [execSetk, scriptRow_runs h, regAt_eq_extractLsb']
    exact congrArg _ (hnext _ (fun _ => rfl) (fun _ => rfl))
  · show execAddk c s = _
    rw [execAddk, scriptRow_runs h, regAt_eq_extractLsb']
    exact congrArg _ (hnext _ (fun _ => rfl) (fun _ => rfl))

end Sys2Proof.Machine
end

section
/-! PROOF. Waits of a script (O27). -/

namespace Sys2Proof.Machine

/-! ### A script that may go on (R359) -/

theorem truncate_eq_extractLsb' {w : Nat} (n : Nat) (x : BitVec w) : x.truncate n = x.extractLsb' 0 n := by
  apply BitVec.eq_of_toNat_eq
  simp

section
variable {s : State} {c : ChanId}

/-- What a script that may begin an instruction has and has not in hand. -/
theorem State.scriptReady_fields (h : s.scriptReady c = true) :
    s.dataOn = true ∧ (s.chan c).script.running = true ∧ (s.chan c).state = .running ∧ (s.chan c).after = none ∧ (s.chan c).wait = none ∧
      (s.chan c).xfer = none ∧ (s.chan c).fetch = none := by
  simp only [State.scriptReady, Bool.and_eq_true, beq_iff_eq, Option.isNone_iff_eq_none] at h
  obtain ⟨⟨⟨⟨⟨⟨⟨⟨⟨hdata, hrun⟩, hstate⟩, hafter⟩, hwait⟩, hxfer⟩, hfetch⟩, -⟩, -⟩, -⟩ := h
  exact ⟨hdata, hrun, hstate, hafter, hwait, hxfer, hfetch⟩

/-- The judgement of an instruction depends on the offsets, the cue and the endpoint that its check finds. -/
theorem Executes.of_offsets {op : ScriptOp} {i : Insn} {k : InsnCheck} (h : Executes s c op i k) : Executes s c op i {} := by
  have hnil := h.offsets_eq_nil
  have hpass := h.passes
  refine ⟨h.ready, h.held, h.kind, h.curtain, h.spin, ?_⟩
  cases hleast : least (i.reserved op ++ k.offsets) with
  | some off => simp [State.judgeInsn, hleast] at hpass
  | none =>
    rw [hnil] at hleast
    simp [State.judgeInsn, show least (i.reserved op) = none from (List.append_nil (i.reserved op)) ▸ hleast]

/-! ### WAIT and WAITT begin (R374, R379, R388) -/

/-- What the judgement of a WAITT looks at. -/
def waittCheck (n : Chan) (i : Insn) : InsnCheck :=
  let base := field i.d0 9 8
  { offsets :=
      offIf (decide (base = 3) || (decide (base ≠ 0) && !n.actEn) || (decide (base = 2) && (decide (n.mode ≠ .script) || bitAt i.d0 10))) 1 ++
        offIf (decide (base = 2) && (i.d1 != 0 || decide (field i.d2 30 0 ≠ 0))) 4 }

/-- A WAITT that executes, by its base. -/
theorem exec_waitt {i : Insn} {k : InsnCheck} (h : Executes s c .waitt i k) (hcheck : waittCheck (s.chan c) i = {}) :
    exec (.waitt c) s = .next ((if field i.d0 9 8 = 2 then s.waitNext c
      else
        let t := (if field i.d0 9 8 = 0 then (s.chan c).script.tt else (s.chan c).sceneStart) + (i.d2 ++ i.d1)
        if future t s.coreEdge then s.beginWait c (.instant t (bitAt i.d0 10)) 0 else s.passWaitt c t (bitAt i.d0 10) true).go [c]) := by
  have hw : Executes s c .waitt i (waittCheck (s.chan c) i) := hcheck ▸ h.of_offsets
  show execWaitt c s = _
  rw [← join64_eq_append]
  exact congrArg Host.Outcome.next (scriptRow_runs (check := waittCheck) hw)

/-- A WAITT on TT or SCENE passes its check where its channel has a scene (R379). -/
theorem waittCheck_instant {n : Chan} {i : Insn} (hbase : field i.d0 9 8 < 2) (hact : n.actEn = true ∨ field i.d0 9 8 = 0) :
    waittCheck n i = {} := by
  have h2 : field i.d0 9 8 ≠ 2 := by omega
  have h3 : field i.d0 9 8 ≠ 3 := by omega
  rcases hact with ha | h0
  · simp [waittCheck, offIf, h2, h3, ha]
  · simp [waittCheck, offIf, h0]

/-- A WAITT NEXT passes its check in SCRIPT mode, bound to an act, with nothing else in its words (R388). -/
theorem waittCheck_next {n : Chan} {i : Insn} (hbase : field i.d0 9 8 = 2) (hact : n.actEn = true) (hmode : n.mode = .script)
    (htt : bitAt i.d0 10 = false) (h1 : i.d1 = 0) (h2 : field i.d2 30 0 = 0) : waittCheck n i = {} := by
  simp [waittCheck, offIf, hbase, hact, hmode, htt, h1, h2]

/-- A WAITT whose instant has come goes on (R379). -/
theorem State.passWaitt_eq (t : Tick) (setTt past : Bool) (hpc : (s.chan c).script.pc ≠ 4095) :
    s.passWaitt c t setTt past = s.updChan c fun n =>
      { n with wait := none, state := .running, script :=
          { n.script.goto (n.script.pc.toNat + 1) with
            spin := 0, tt := if setTt then t else n.script.tt, waittPast := n.script.waittPast || past } } := by
  rw [State.passWaitt, State.nextPc_inside ?_]
  · exact updChan_updChan ..
  · rw [State.chan_updChan_same]
    exact hpc

/-- A WAITT passed at once, by a script that may begin it (R379). -/
theorem State.passWaitt_ready (hready : s.scriptReady c = true) (t : Tick) (setTt : Bool) (hpc : (s.chan c).script.pc ≠ 4095) :
    s.passWaitt c t setTt true = s.updScript c fun p => { p.goto (p.pc.toNat + 1) with spin := 0, tt := if setTt then t else p.tt, waittPast := true } := by
  obtain ⟨-, -, hstate, -, hwait, -, -⟩ := State.scriptReady_fields hready
  rw [State.passWaitt_eq t setTt true hpc]
  refine State.updChan_congr ?_
  simp only [← hwait, ← hstate, Bool.or_true]

/-- A WAITT NEXT without a pending period start leaves the channel ARMED (R388). -/
theorem State.waitNext_alone (h : (s.chan c).periodPending = none) : s.waitNext c = s.updChan c fun n =>
    { n with state := .armed, atBoundary := true, curtain := none, lateEps := [], script := { n.script with atNext := true, spin := 0 } } := by
  rw [State.waitNext, State.releasePending]
  have hnone : (s.updChan c fun n => { n.endScene with state := .armed, script := { n.script with atNext := true, spin := 0 } }).startWaiting c = none := by
    rw [State.startWaiting, State.chan_updChan_same]
    exact (ite_congr rfl (fun _ => h) fun _ => rfl).trans (ite_self _)
  rw [hnone]
  rfl

/-! ### Waits end (R375, R379, R384) -/

variable {w : Wait} (hw : (s.chan c).wait = some w) (hcur : s.curtainDue c = false)
include hw hcur

theorem State.expired_instant {t : Tick} {setTt : Bool} (hk : w.kind = .instant t setTt) (hd : due t s.coreEdge = true) :
    s.expired c = some (.instant t setTt) := by
  simp [State.expired, hw, hk, hd, hcur]

theorem State.expired_timeout {e : Tick} (hk : ∀ t setTt, w.kind ≠ .instant t setTt) (he : w.expiry = some e) (hd : due e s.coreEdge = true) :
    s.expired c = some w.kind := by
  cases hkind : w.kind with
  | instant t setTt => exact absurd hkind (hk t setTt)
  | cue | prop | pace => simp [State.expired, hw, hkind, he, hd, hcur]

omit hcur in
theorem State.expired_none (he : ∀ e, w.expiry = some e → due e s.coreEdge = false)
    (ht : ∀ t setTt, w.kind = .instant t setTt → due t s.coreEdge = false) : s.expired c = none := by
  cases hkind : w.kind with
  | instant t setTt => simp [State.expired, hw, hkind, ht t setTt hkind]
  | cue | prop | pace =>
    cases hexp : w.expiry with
    | none => simp [State.expired, hw, hkind, hexp]
    | some e => simp [State.expired, hw, hkind, hexp, he e hexp]

end

/-- Settles O27: WAIT and WAITT by their rows, and the ends of waits by what `expired` finds. -/
theorem scriptWaits : Obligations.ScriptWaits := by
  refine ⟨fun c s i => ?_, fun c s w hw hcur => ?_⟩
  · intro waits
    refine ⟨fun h => ?_, fun k h hk => ?_⟩
    · have h' : Executes s c .waitCue i { offsets := offIf (decide (field i.d3 15 0 = 0)) 12, cue := some (i.d0.extractLsb' 8 10) } := by
        have hzero : field i.d3 15 0 = 0 ↔ i.d3.extractLsb' 0 16 = 0 := by
          rw [field_eq_toNat_extractLsb', BitVec.toNat_eq]
          rfl
        rw [offIf_decide]
        simpa only [hzero] using h
      show execWaitCue c s = _
      rw [execWaitCue, scriptRow_runs (check := fun _ i => { offsets := offIf (decide (field i.d3 15 0 = 0)) 12, cue := some (i.d0.extractLsb' 8 10) }) h',
        truncate_eq_extractLsb', truncate_eq_extractLsb']
      rfl
    · intro base t setTt
      have hfield : field i.d0 9 8 = base := field_eq_toNat_extractLsb' i.d0 9 8
      have hat : ∀ hb : base < 2, (s.chan c).actEn = true ∨ base = 0 → exec (.waitt c) s = .next
          ((if future t s.coreEdge then s.beginWait c (.instant t setTt) 0 else s.passWaitt c t setTt true).go [c]) := by
        intro hb ha
        rw [exec_waitt h (waittCheck_instant (hfield ▸ hb) (hfield ▸ ha)), if_neg (by omega), hfield]
        rfl
      refine ⟨fun hb ha hf => ?_, fun hb ha hf hpc => ?_, fun hb ha hm htt h1 h2 hp => ?_⟩
      · rw [hat hb ha, if_pos hf]
        rfl
      · rw [hat hb ha, if_neg (by simp [hf]), State.passWaitt_ready h.ready t setTt hpc]
      · have hd2 : field i.d2 30 0 = 0 := by rw [field_eq_toNat_extractLsb', h2]; rfl
        rw [exec_waitt h (waittCheck_next (hfield.trans hb) ha hm htt h1 hd2), if_pos (hfield.trans hb), State.waitNext_alone hp]
  · intro fails
    refine ⟨fun e he hd => ⟨fun q k keep target hk => ?_, fun q k keep hk => ?_, fun r target hk => ?_⟩, fun t setTt hk hd hpc => ?_, fun he ht => ?_⟩
    · have hx := State.expired_timeout hw hcur (by simp [hk]) he hd
      rw [hk] at hx
      show execWaitTimeout c s = _
      rw [execWaitTimeout, hx]
      exact congrArg (fun t : State => Host.Outcome.next (t.go [c])) (updChan_updChan ..)
    · have hx := State.expired_timeout hw hcur (by simp [hk]) he hd
      rw [hk] at hx
      show execWaitTimeout c s = _
      rw [execWaitTimeout, hx]
      rfl
    · have hx := State.expired_timeout hw hcur (by simp [hk]) he hd
      rw [hk] at hx
      show execTakeTimeout c s = _
      rw [execTakeTimeout, hx]
      rfl
    · show execWaittInstant c s = _
      rw [execWaittInstant, State.expired_instant hw hcur hk hd]
      dsimp only
      rw [State.passWaitt_eq t setTt false hpc]
      simp only [Bool.or_false]
      rfl
    · have hx := State.expired_none hw he ht
      refine ⟨?_, ?_, ?_⟩
      · show execWaitTimeout c s = _
        rw [execWaitTimeout, hx]
      · show execTakeTimeout c s = _
        rw [execTakeTimeout, hx]
      · show execWaittInstant c s = _
        rw [execWaittInstant, hx]

end Sys2Proof.Machine
end

section
/-! PROOF. What a script leaves to follow its proof (O28). -/

namespace Sys2Proof.Machine

/-! ### What reports of a script leave of channels and cues -/

section
variable (s : State) (c : ChanId)

theorem State.donePulse_chans_cues (p : PinId) : (s.donePulse p).chans = s.chans ∧ (s.donePulse p).cues = s.cues := by
  unfold State.donePulse
  dsimp only
  split
  · exact ⟨rfl, rfl⟩
  · split <;> exact ⟨rfl, rfl⟩

/-- Done events reach pins only (R784). -/
theorem State.doneEvent_chans_cues : (s.doneEvent c).chans = s.chans ∧ (s.doneEvent c).cues = s.cues :=
  State.forAll_induction (P := fun t => t.chans = s.chans ∧ t.cues = s.cues) _ ⟨rfl, rfl⟩ fun p t h =>
    ⟨(t.donePulse_chans_cues p).1.trans h.1, (t.donePulse_chans_cues p).2.trans h.2⟩

theorem State.chanVector_chans_cues : (s.chanVector c).chans = s.chans ∧ (s.chanVector c).cues = s.cues :=
  ⟨(s.sendVector_kept _ _).chans, (s.sendVector_kept _ _).cues⟩

/-- The done event of a script in SCRIPT mode (R784). -/
def State.doneIf (p : Prop) [Decidable p] : State := if p then s.doneEvent c else s

theorem State.doneIf_chans_cues (p : Prop) [Decidable p] : (s.doneIf c p).chans = s.chans ∧ (s.doneIf c p).cues = s.cues := by
  unfold State.doneIf
  split
  · exact s.doneEvent_chans_cues c
  · exact ⟨rfl, rfl⟩

theorem State.nextPc_script (h : (s.chan c).script.pc ≠ 4095) :
    (s.nextPc c).cues = s.cues ∧ ((s.nextPc c).chan c).script = (s.chan c).script.goto ((s.chan c).script.pc.toNat + 1) ∧
      ((s.nextPc c).chan c).after = (s.chan c).after ∧ ∀ d, d ≠ c → (s.nextPc c).chan d = s.chan d := by
  rw [State.nextPc_inside h]
  refine ⟨rfl, s.updScript_script c _, ?_, fun d hd => State.chan_updChan_other _ _ (Ne.symm hd)⟩
  rw [State.updScript, State.chan_updChan_same]

end

theorem Script.goto_next_pc (p : Script) : (p.goto (p.pc.toNat + 1)).pc = p.pc + 1 := by
  apply BitVec.eq_of_toNat_eq
  simp [Script.goto, BitVec.toNat_add]

/-! ### SIGNAL, FENCE, IRQ, END and HALT are taken (R371 to R374, R381, R382, R387) -/

section
variable {s : State} {c : ChanId} {i : Insn}

theorem exec_signal (h : Executes s c .signal i { offsets := if i.d1.extractLsb' 0 16 = 0 then [4] else [], cue := some (i.d0.extractLsb' 8 10) }) :
    exec (.signal c) s = .next (((s.countSpin c).updChan c fun n =>
      { n with after := some (.signal (i.d0.extractLsb' 8 10) (i.d1.extractLsb' 0 16)) }).go [c]) := by
  have hzero : field i.d1 15 0 = 0 ↔ i.d1.extractLsb' 0 16 = 0 := by
    rw [field_eq_toNat_extractLsb', BitVec.toNat_eq]
    rfl
  have h' : Executes s c .signal i { offsets := offIf (decide (field i.d1 15 0 = 0)) 4, cue := some (i.d0.extractLsb' 8 10) } := by
    rw [offIf_decide]
    simpa only [hzero] using h
  show execSignal c s = _
  rw [execSignal, scriptRow_runs (check := fun _ i => { offsets := offIf (decide (field i.d1 15 0 = 0)) 4, cue := some (i.d0.extractLsb' 8 10) }) h',
    truncate_eq_extractLsb']

theorem exec_fence (h : Executes s c .fence i {}) :
    exec (.fence c) s = .next (((s.countSpin c).updChan c fun n => { n with after := some .fence }).go [c]) :=
  congrArg Host.Outcome.next (scriptRow_runs h)

theorem exec_irq (h : Executes s c .irq i {}) :
    exec (.irq c) s = .next (((s.countSpin c).updChan c fun n => { n with after := some (.irq (i.d1.extractLsb' 0 16)) }).go [c]) := by
  rw [← truncate_eq_extractLsb']
  exact congrArg Host.Outcome.next (scriptRow_runs h)

/-- What the judgement of an END looks at. -/
def endCheck (n : Chan) (i : Insn) : InsnCheck :=
  { offsets := offIf ((bitAt i.d0 9 && !n.actEn) || (decide (n.mode ≠ .script) && (bitAt i.d0 8 || bitAt i.d0 9))) 1 }

theorem endCheck_empty {n : Chan} (hact : bitAt i.d0 9 = true → n.actEn = true)
    (hmode : n.mode ≠ .script → bitAt i.d0 8 = false ∧ bitAt i.d0 9 = false) : endCheck n i = {} := by
  have h1 : (bitAt i.d0 9 && !n.actEn) = false := by
    cases h9 : bitAt i.d0 9 with
    | false => rfl
    | true => rw [hact h9]; rfl
  have h2 : (decide (n.mode ≠ .script) && (bitAt i.d0 8 || bitAt i.d0 9)) = false := by
    by_cases hm : n.mode = .script
    · simp [hm]
    · obtain ⟨h8, h9⟩ := hmode hm
      simp [h8, h9]
  rw [endCheck, h1, h2]
  rfl

theorem exec_endScript (h : Executes s c .endScript i {}) (hcheck : endCheck (s.chan c) i = {}) :
    exec (.endScript c) s = .next ((s.updChan c fun n =>
      { n with after := some (if n.mode = .script then .endScript (bitAt i.d0 8) (bitAt i.d0 9) else .finish) }).go [c]) := by
  have h' : Executes s c .endScript i (endCheck (s.chan c) i) := hcheck ▸ h
  exact congrArg Host.Outcome.next (scriptRow_runs (check := endCheck) h')

/-- The state in which a HALT has left its code and its record. -/
def State.halted (s : State) (c : ChanId) (i : Insn) : State :=
  (s.updScript c fun p => { p with haltCode := i.d1.extractLsb' 0 16 }).noteChan 2 0x25 c (BitVec.ofNat 32 (field i.d1 15 0))

theorem State.halted_fields : ((s.halted c i).chan c).script = { (s.chan c).script with haltCode := i.d1.extractLsb' 0 16 } ∧
    (∀ d, d ≠ c → (s.halted c i).chan d = s.chan d) ∧ Kept { s with chans := (s.halted c i).chans } (s.halted c i) := by
  have hkept := State.noteChan_kept (s.updScript c fun p => { p with haltCode := i.d1.extractLsb' 0 16 }) 2 0x25 c (BitVec.ofNat 32 (field i.d1 15 0))
  refine ⟨?_, fun d hd => ?_, ?_⟩
  · exact (congrArg Chan.script (State.noteChan_chan ..)).trans (s.updScript_script c _)
  · exact (State.noteChan_chan ..).trans (State.chan_updChan_other _ _ (Ne.symm hd))
  · have hchans : (s.halted c i).chans = (s.updScript c fun p => { p with haltCode := i.d1.extractLsb' 0 16 }).chans := hkept.chans
    rw [hchans]
    exact hkept

theorem exec_halt (h : Executes s c .halt i {}) :
    exec (.halt c) s = .next (((s.halted c i).failPlain c 0x15 (2 ^ 31 + (i.d1.extractLsb' 0 16).toNat)).go [c]) := by
  show execHalt c s = _
  rw [execHalt, scriptRow_runs h, State.halted, truncate_eq_extractLsb', ← field_eq_toNat_extractLsb' i.d1 15 0]

end

/-! ### What follows a proof (R381, R382, R387, R371) -/

section
variable {s : State} {c : ChanId}

/-- The channel has begun what follows its proof. -/
def State.proofPassed (s : State) (c : ChanId) : State := s.updChan c fun n => { n with after := none, proofOn := false }

theorem State.proofPassed_chan : (s.proofPassed c).chan c = { s.chan c with after := none, proofOn := false } := State.chan_updChan_same ..

/-- Nothing of the write bursts comes first where none is out, and what the channel left to follow waits for nothing. -/
theorem State.actOnce_after {a : After} (ha : (s.chan c).after = some a) (hproof : (s.chan c).proofOn = false) (hwr : (s.chan c).writes = [])
    (hun : (s.chan c).unproven = []) (hstart : s.startWaiting c = none) (hcut : ((s.chan c).curtainCuts a && s.curtainDue c) = false)
    (hlate : a ≠ .late) (hreset : ∀ t d, a = .resetWrites t d → s.cplOut c = false) : s.actOnce c = some (s.runAfter c a) := by
  have hburst : s.burstOnce c = none := by simp [State.burstOnce, hwr]
  have hwait : s.afterWaits c a = false := by
    cases a with
    | resetWrites t d => exact hreset t d rfl
    | endSet => cases h : (s.chan c).shadow.ending <;> simp [State.afterWaits, h, Chan.writesOf, hwr]
    | _ => simp [State.afterWaits, hwr]
  have honce : s.afterOnce c a = some (s.runAfter c a) := by
    simp [State.afterOnce, hcut, hproof, hwait, hlate, hun]
  simp [State.actOnce, hburst, hstart, ha, honce]

theorem State.runAfter_signal (q : CueId) (k : BitVec 16) (hpc : (s.chan c).script.pc ≠ 4095) : let r := (s.runAfter c (.signal q k)).1
    (r.cues.look q).count.toNat = min ((s.cues.look q).count.toNat + k.toNat) 0xFFFF ∧
      (∀ p, p ≠ q → r.cues.look p = s.cues.look p) ∧
      (r.chan c).script.signalSat = ((s.chan c).script.signalSat || decide (0xFFFF < (s.cues.look q).count.toNat + k.toNat)) ∧
      (r.chan c).script.pc = (s.chan c).script.pc + 1 := by
  intro r
  let u := s.proofPassed c
  let v := (u.addCue q k.toNat).1.updScript c fun p => { p with signalSat := p.signalSat || u.cueSaturates q k.toNat }
  let w := v.doneIf c ((u.chan c).mode = .script)
  have hr : r = w.nextPc c := rfl
  obtain ⟨hchans, hcues⟩ := v.doneIf_chans_cues c ((u.chan c).mode = .script)
  have hscript : (w.chan c).script = { (s.chan c).script with signalSat := (s.chan c).script.signalSat || u.cueSaturates q k.toNat } := by
    have hw : w.chan c = v.chan c := congrArg (fun t => t.look c) hchans
    have hu : ((u.addCue q k.toNat).1.chan c).script = (s.chan c).script := by
      show ((s.proofPassed c).chan c).script = _
      rw [State.proofPassed_chan]
    rw [hw, State.updScript_script, hu]
  have hcue : w.cues = s.cues.upd q fun x => { x with count := satAdd x.count k.toNat } := hcues
  obtain ⟨hnext, hgo, -, -⟩ := w.nextPc_script c (by rw [hscript]; exact hpc)
  rw [hr, hnext, hgo, hcue, hscript, Tbl.look_upd_same]
  refine ⟨satAdd_toNat .., fun p hp => Tbl.look_upd_other _ _ (Ne.symm hp), rfl, ?_⟩
  exact Script.goto_next_pc { (s.chan c).script with signalSat := _ }

theorem State.runAfter_fence (hpc : (s.chan c).script.pc ≠ 4095) : let r := (s.runAfter c .fence).1
    (r.chan c).script.pc = (s.chan c).script.pc + 1 ∧ (r.chan c).after = none ∧ r.cues = s.cues ∧ ∀ d, d ≠ c → r.chan d = s.chan d := by
  intro r
  have hchan := State.proofPassed_chan (s := s) (c := c)
  obtain ⟨hcues, hgo, hafter, hother⟩ := (s.proofPassed c).nextPc_script c (by rw [hchan]; exact hpc)
  refine ⟨?_, ?_, hcues, fun d hd => (hother d hd).trans (State.chan_updChan_other _ _ (Ne.symm hd))⟩
  · rw [show r = (s.proofPassed c).nextPc c from rfl, hgo, hchan]
    exact Script.goto_next_pc _
  · rw [show r = (s.proofPassed c).nextPc c from rfl, hafter, hchan]

theorem State.runAfter_irq (code : BitVec 16) (hpc : (s.chan c).script.pc ≠ 4095) : let r := (s.runAfter c (.irq code)).1
    (r.chan c).script.irqCode = code ∧ (r.chan c).script.pc = (s.chan c).script.pc + 1 ∧ r.cues = s.cues := by
  intro r
  let u := s.proofPassed c
  let v := u.updScript c fun p => { p with irqCode := code }
  let w := ((v.chanVector c).doneIf c ((u.chan c).mode = .script)).noteChan 2 0x24 c (code.zeroExtend 32)
  have hr : r = w.nextPc c := rfl
  obtain ⟨hchans, hcues⟩ := v.chanVector_chans_cues c
  obtain ⟨hchans', hcues'⟩ := (v.chanVector c).doneIf_chans_cues c ((u.chan c).mode = .script)
  have hscript : (w.chan c).script = { (s.chan c).script with irqCode := code } := by
    have hw : w.chan c = v.chan c := (State.noteChan_chan ..).trans (congrArg (fun t => t.look c) (hchans'.trans hchans))
    rw [hw, State.updScript_script]
    exact congrArg (fun p : Script => { p with irqCode := code }) (congrArg Chan.script (State.proofPassed_chan (s := s) (c := c)))
  have hcue : w.cues = s.cues := (State.noteChan_kept ..).cues.trans (hcues'.trans hcues)
  obtain ⟨hnext, hgo, -, -⟩ := w.nextPc_script c (by rw [hscript]; exact hpc)
  rw [hr, hnext, hgo, hcue, hscript]
  exact ⟨rfl, Script.goto_next_pc { (s.chan c).script with irqCode := code }, rfl⟩

theorem State.runAfter_end (irq : Bool) (hstop : (s.chan c).stopPending = false) (hdrain : (s.chan c).drainPending = false) :
    let r := (s.runAfter c (.endScript irq false)).1
    (r.chan c).state = .idle ∧ (r.chan c).script.running = false ∧ (r.chan c).script.lastStatus = 0 ∧ (r.chan c).curtain = none ∧ r.cues = s.cues := by
  intro r
  let u := s.proofPassed c
  let v := (u.doneEvent c).updScript c fun p => { p with lastStatus := 0 }
  let w := if irq then v.chanVector c else v
  have hstopping : (u.chan c).stopping = false := by
    rw [State.proofPassed_chan]
    exact Bool.or_eq_false_iff.mpr ⟨hstop, hdrain⟩
  have hr : r = w.updChan c fun n => { n with state := .idle, periodPending := none, curtain := none, script := { n.script with running := false } } := by
    exact congrArg Prod.fst (if_neg (Bool.eq_false_iff.mp hstopping))
  have hw : w.chans = v.chans ∧ w.cues = v.cues := by
    show (if irq = true then v.chanVector c else v).chans = _ ∧ (if irq = true then v.chanVector c else v).cues = _
    split
    · exact v.chanVector_chans_cues c
    · exact ⟨rfl, rfl⟩
  have hcues : r.cues = s.cues := hr ▸ hw.2.trans (u.doneEvent_chans_cues c).2
  have hlast : (w.chan c).script.lastStatus = 0 := by
    have : w.chan c = v.chan c := congrArg (fun t => t.look c) hw.1
    rw [this, State.updScript_script]
  have hchan : r.chan c = { w.chan c with state := .idle, periodPending := none, curtain := none, script := { (w.chan c).script with running := false } } := by
    rw [hr]
    exact State.chan_updChan_same ..
  rw [hchan]
  exact ⟨rfl, rfl, hlast, rfl, hcues⟩

end

/-! ### Acting on a list of channels -/

theorem State.run_idle (k : Nat) (l : List ChanId) (s : State) (h : ∀ c ∈ l, s.actOnce c = none) : State.run k l s = s := by
  induction k generalizing l with
  | zero => rfl
  | succ k ih =>
    cases l with
    | nil => rfl
    | cons c l =>
      rw [State.run, h c List.mem_cons_self]
      exact ih l fun d hd => h d (List.mem_cons_of_mem _ hd)

theorem State.run_acts {k : Nat} {c : ChanId} {l more : List ChanId} {s t : State} (h : s.actOnce c = some (t, more)) :
    State.run (k + 1) (c :: l) s = State.run k (more ++ l) t := by
  rw [State.run, h]

/-- Settles O28. -/
theorem scriptSignals : Obligations.ScriptSignals := by
  refine ⟨fun c s i => ?_, fun c s a ha hproof hwr hun hstart hcut => ⟨State.actOnce_after ha hproof hwr hun hstart hcut, ?_, ?_, ?_, ?_⟩,
    fun l s h => State.run_idle 4096 l s h, fun k c l more s t h => State.run_acts h⟩
  · intro then_
    exact ⟨exec_signal, exec_fence, exec_irq, fun h hact hmode => exec_endScript h (endCheck_empty hact hmode),
      fun h => ⟨s.halted c i, exec_halt h, State.halted_fields⟩⟩
  · rintro q k rfl hpc
    exact State.runAfter_signal q k hpc
  · rintro rfl hpc
    exact State.runAfter_fence hpc
  · rintro code rfl hpc
    exact State.runAfter_irq code hpc
  · rintro irq rfl hstop hdrain
    exact State.runAfter_end irq hstop hdrain

end Sys2Proof.Machine
end

section
/-! PROOF. Units and props of a script (O29, O30). -/

namespace Sys2Proof.Machine

/-! ### Units of a script begin (R363, R364, R386) -/

section
variable {s : State} {c : ChanId} {i : Insn}

/-- A unit of a channel that neither a rate nor a time paces begins at once. -/
theorem State.startUnit_unpaced {x : Xfer} (h3 : (s.chan c).paceSrc ≠ 3) (h5 : (s.chan c).paceSrc ≠ 5) :
    s.startUnit c x = s.updChan c fun n => { n with xfer := some x } := by
  have h3' : (s.chan c).paceSrc.toNat ≠ 3 := fun h => h3 (BitVec.eq_of_toNat_eq h)
  have h5' : (s.chan c).paceSrc.toNat ≠ 5 := fun h => h5 (BitVec.eq_of_toNat_eq h)
  have hsrc : ((s.updChan c fun n => { n with xfer := some x }).chan c).paceSrc = (s.chan c).paceSrc := by
    rw [State.chan_updChan_same]
  rw [State.startUnit, State.paceUnit, hsrc]
  dsimp only
  split
  · next h => exact absurd h h3'
  · next h => exact absurd h h5'
  · rfl

theorem State.insnProfile_eq : s.insnProfile c i = s.profile (s.tenantOf c) (i.d0.extractLsb' 16 6).toNat := by
  rw [State.insnProfile, field_eq_toNat_extractLsb']

theorem Script.ptr_eq (p : Script) (d : Dword) (lo : Nat) : p.ptr d lo = p.a.look (d.extractLsb' lo 2) := by
  rw [← regAt_eq_extractLsb']
  rfl

/-- What the judgement of a STAMP looks at. -/
def stampCheck (n : Chan) (i : Insn) : InsnCheck :=
  { offsets := offIf (decide (field i.d0 11 10 = 3) || (decide (field i.d0 11 10 = 2) && !n.actEn)) 1 }

theorem stampCheck_eq (n : Chan) (i : Insn) : let source := (i.d0.extractLsb' 10 2).toNat
    stampCheck n i = { offsets := if source = 3 ∨ (source = 2 ∧ n.actEn = false) then [1] else [] } := by
  intro source
  have hfield : field i.d0 11 10 = source := field_eq_toNat_extractLsb' i.d0 11 10
  simp [stampCheck, offIf, hfield]

end

/-- Settles O30: each row begins the unit that its words give. -/
theorem scriptUnits : Obligations.ScriptUnits := by
  intro c s i n h3 h5 prof starts
  have hprof : s.insnProfile c i = prof := State.insnProfile_eq
  refine ⟨?_, ?_, ?_⟩
  · intro x h
    have h' : Executes s c .move i { offsets := (scriptMoveXfer n.script i (s.insnProfile c i)).scriptOffsets i .move } := hprof ▸ h
    show execScriptMove c s = _
    rw [execScriptMove, scriptRow_runs (check := fun n i => { offsets := (scriptMoveXfer n.script i (s.insnProfile c i)).scriptOffsets i .move }) h',
      State.startUnit_unpaced h3 h5, hprof]
  · intro x h
    have h' : Executes s c .move3 i { offsets := (move3Xfer n.script i (n.template i) (s.insnProfile c i)).scriptOffsets i .move3 } := hprof ▸ h
    show execMove3 c s = _
    rw [execMove3, scriptRow_runs (check := fun n i => { offsets := (move3Xfer n.script i (n.template i) (s.insnProfile c i)).scriptOffsets i .move3 }) h',
      State.startUnit_unpaced h3 h5, hprof]
  · intro source h
    have hfield : field i.d0 11 10 = source := field_eq_toNat_extractLsb' i.d0 11 10
    have h' : Executes s c .stamp i (stampCheck n i) := by
      rw [stampCheck_eq]
      exact h
    have hsrc : ((s.countSpin c).chan c).paceSrc = n.paceSrc := by rw [State.countSpin, State.updScript, State.chan_updChan_same]
    refine ⟨stampXfer n i, ?_, Script.ptr_eq .., rfl, ?_, rfl, rfl, fun h1 => ?_, fun h2 => ?_⟩
    · have hexec : exec (.stamp c) s = _ := congrArg Host.Outcome.next (scriptRow_runs (check := stampCheck) h')
      rw [hexec, State.startUnit_unpaced (hsrc ▸ h3) (hsrc ▸ h5)]
      rfl
    · show decide (field i.d0 11 10 = 0) = _
      rw [hfield]
    · show some (if field i.d0 11 10 = 1 then _ else _) = _
      rw [if_pos (hfield.trans h1)]
    · show some (if field i.d0 11 10 = 1 then _ else _) = _
      rw [if_neg (by omega)]

/-! ### The prop arbiter (R450) -/

section
variable (s : State)

/-- A grant looks at the pool and the map alone. -/
theorem State.grantProp_congr {v : State} (hp : v.props = s.props) (hm : v.prot = s.prot) (t : TenantId) (taker : Nat) :
    (v.grantProp t taker).2 = (s.grantProp t taker).2 ∧ (v.grantProp t taker).1.props = (s.grantProp t taker).1.props ∧
      (v.grantProp t taker).1.prot = (s.grantProp t taker).1.prot := by
  have hrec : v.record t = s.record t := by rw [State.record, State.record, hm]
  have hleft : v.propsLeft t = s.propsLeft t := by rw [State.propsLeft, State.propsLeft, hp, hrec]
  have hfree : v.freeProp = s.freeProp := by simp only [State.freeProp, hp]
  unfold State.grantProp
  rw [hleft, hfree]
  cases s.propsLeft t <;> cases s.freeProp <;> simp [hp, hm]

theorem State.propFor_congr {v : State} (hp : v.props = s.props) (hm : v.prot = s.prot) (t : TenantId) (taker : Nat) (l : List (TenantId × Nat)) :
    v.propFor t taker l = s.propFor t taker l := by
  have hfold : ∀ (l : List (TenantId × Nat)) (v s : State), v.props = s.props → v.prot = s.prot →
      (l.foldl (fun (st : State) r => (st.grantProp r.1 r.2).1) v).props = (l.foldl (fun (st : State) r => (st.grantProp r.1 r.2).1) s).props ∧
      (l.foldl (fun (st : State) r => (st.grantProp r.1 r.2).1) v).prot = (l.foldl (fun (st : State) r => (st.grantProp r.1 r.2).1) s).prot := by
    intro l
    induction l with
    | nil => exact fun v s hp hm => ⟨hp, hm⟩
    | cons r l ih =>
      intro v s hp hm
      obtain ⟨-, hp', hm'⟩ := s.grantProp_congr hp hm r.1 r.2
      exact ih _ _ hp' hm'
  simp only [State.propFor, hp]
  obtain ⟨hp', hm'⟩ := hfold _ v s hp hm
  exact (State.grantProp_congr _ hp' hm' t taker).1

/-- Grants keep the props that are held, and the size of the pool. -/
theorem State.grants_held (l : List (TenantId × Nat)) :
    let v := l.foldl (fun (st : State) r => (st.grantProp r.1 r.2).1) s
    v.props.count = s.props.count ∧ ∀ h ∈ s.props.held, h ∈ v.props.held := by
  induction l generalizing s with
  | nil => exact ⟨rfl, fun _ h => h⟩
  | cons r l ih =>
    have hone : (s.grantProp r.1 r.2).1.props.count = s.props.count ∧ ∀ h ∈ s.props.held, h ∈ (s.grantProp r.1 r.2).1.props.held := by
      unfold State.grantProp
      split
      · exact ⟨rfl, fun h hh => List.mem_cons_of_mem _ hh⟩
      · exact ⟨rfl, fun h hh => hh⟩
    obtain ⟨hcount, hheld⟩ := ih (s.grantProp r.1 r.2).1
    exact ⟨hcount.trans hone.1, fun h hh => hheld h (hone.2 h hh)⟩

/-- A prop that is granted is one of the pool that nobody holds. -/
theorem State.propFor_free {t : TenantId} {taker k : Nat} {l : List (TenantId × Nat)} (h : s.propFor t taker l = some k) :
    k < s.props.count.toNat ∧ ∀ x ∈ s.props.held, x.index.toNat ≠ k := by
  simp only [State.propFor, State.grantProp_index] at h
  obtain ⟨hcount, hheld⟩ := s.grants_held ((l.foldl (fun l r => insertTaker s.props.first r l) [(t, taker)]).takeWhile fun r => r.2 != taker)
  generalize hv : ((l.foldl (fun l r => insertTaker s.props.first r l) [(t, taker)]).takeWhile fun r => r.2 != taker).foldl
    (fun (st : State) r => (st.grantProp r.1 r.2).1) s = v at h hcount hheld
  have hfree : v.freeProp = some k := by
    split at h
    · exact h
    · cases h
  have hmem := List.mem_of_find?_eq_some hfree
  have hnot := List.find?_some hfree
  rw [List.mem_range, hcount] at hmem
  refine ⟨hmem, fun x hx he => ?_⟩
  have hany : (v.props.held.any fun h => h.index.toNat == k) = true := List.any_eq_true.mpr ⟨x, hheld x hx, by simp [he]⟩
  simp [hany] at hnot

end

/-! ### TAKE and GIVE (R383 to R385) -/

section
variable {s : State} {c : ChanId} {i : Insn}

/-- The state with the round of the arbiter at the present edge. -/
def State.propRound (s : State) : State := { s with props := s.props.atEdge s.coreEdge }

/-- What the arbiter gives a TAKE of the channel, against its rivals of the same edge. -/
def State.takeGrant (s : State) (c : ChanId) : Option Nat :=
  s.propRound.propFor (s.tenantOf c) c.toNat (s.propRivals.filter fun x => x.2 != c.toNat)

/-- The state in which a TAKE of the channel holds a prop. -/
def State.takeHeld (s : State) (c : ChanId) (k : Nat) : State :=
  { s with props := (s.props.atEdge s.coreEdge).granted ⟨BitVec.ofNat 16 k, s.tenantOf c, c.toNat⟩ c.toNat }

/-- A counted instruction passes control on (R360, R397). -/
theorem State.countSpin_nextPc {u : State} (h : (u.chan c).script.pc ≠ 4095) :
    (u.countSpin c).nextPc c = u.updScript c fun p => { p.goto (p.pc.toNat + 1) with spin := p.spin + 1 } := by
  have hpc : ((u.countSpin c).chan c).script.pc = (u.chan c).script.pc := by rw [State.countSpin, State.updScript_script]
  rw [State.nextPc_inside (hpc ▸ h), State.countSpin, State.updScript_updScript]
  rfl

theorem State.takeGrant_alone (h : (s.propRivals.filter fun x => x.2 != c.toNat) = []) :
    s.takeGrant c = if s.propsLeft (s.tenantOf c) then s.freeProp else none := by
  obtain ⟨hheld, hcount⟩ := s.props.atEdge_same s.coreEdge
  rw [State.takeGrant, h, State.propFor_alone]
  simp only [State.propsLeft, State.freeProp, State.propRound, hheld, hcount]
  rfl

theorem State.takeGrant_free {k : Nat} (h : s.takeGrant c = some k) : k < s.props.count.toNat ∧ ∀ x ∈ s.props.held, x.index.toNat ≠ k := by
  obtain ⟨hheld, hcount⟩ := s.props.atEdge_same s.coreEdge
  have hfree := State.propFor_free _ h
  simpa only [State.propRound, hheld, hcount] using hfree

theorem State.countSpin_askProp (hg : s.takeGrant c = none) :
    (s.countSpin c).askProp (s.tenantOf c) c.toNat (s.propRivals.filter fun r => r.2 != c.toNat) = (s.propRound.countSpin c, none) := by
  have hfor : (s.propRound.countSpin c).propFor (s.tenantOf c) c.toNat (s.propRivals.filter fun r => r.2 != c.toNat) = none :=
    (State.propFor_congr s.propRound (v := s.propRound.countSpin c) rfl rfl ..).trans hg
  show (match (s.propRound.countSpin c).propFor (s.tenantOf c) c.toNat (s.propRivals.filter fun r => r.2 != c.toNat) with | none => _ | some i => _) = _
  rw [hfor]
  rfl

theorem State.countSpin_askProp_some {k : Nat} (hg : s.takeGrant c = some k) :
    (s.countSpin c).askProp (s.tenantOf c) c.toNat (s.propRivals.filter fun r => r.2 != c.toNat) =
      ((s.takeHeld c k).countSpin c, some k) := by
  have hfor : (s.propRound.countSpin c).propFor (s.tenantOf c) c.toNat (s.propRivals.filter fun r => r.2 != c.toNat) = some k :=
    (State.propFor_congr s.propRound (v := s.propRound.countSpin c) rfl rfl ..).trans hg
  show (match (s.propRound.countSpin c).propFor (s.tenantOf c) c.toNat (s.propRivals.filter fun r => r.2 != c.toNat) with | none => _ | some i => _) = _
  rw [hfor]
  let p := s.props.atEdge s.coreEdge
  by_cases h : (p.reach.map fun d => decide (takerAfter p.first c.toNat < d)) = some true
  · rw [State.takeHeld, PropRoom.granted, if_pos h]
    exact if_pos h
  · rw [State.takeHeld, PropRoom.granted, if_neg h]
    exact if_neg h

end

/-- Settles O29: TAKE asks the arbiter of its edge, GIVE frees the prop that begins at its address. -/
theorem scriptProps : Obligations.ScriptProps := by
  intro c s i t r short pr rivals g far granted
  have hg : g = s.takeGrant c := rfl
  refine ⟨State.takeGrant_alone, fun k => State.takeGrant_free, fun h => ?_, fun h k hk hbusy hpc => ?_⟩
  · have h' : Executes s c .take i (takeCheck i) := by
      have hcheck : takeCheck i = { offsets := if i.d0.getLsbD 10 = false ∧ i.d1 ≠ 0 then [4] else [] } := by
        simp [takeCheck, offIf, bitAt]
      exact hcheck ▸ h
    have hexec : exec (.take c) s = _ := congrArg Host.Outcome.next (scriptRow_runs (check := fun _ i => takeCheck i) h')
    refine ⟨fun k hk hpc => ?_, fun hk hb => ?_, fun hk hb => ?_⟩
    · have hgr : s.takeHeld c k = { s with props := granted k } := by
        have hheld := (s.props.atEdge_same s.coreEdge).1
        unfold State.takeHeld PropRoom.granted
        rw [hheld]
      have hpc' : (((s.takeHeld c k).countSpin c).updScript c fun p =>
          { p with a := p.a.put r (BitVec.ofNat 64 (s.propOffset k)) }).nextPc c = _ :=
        State.nextPc_inside (by rw [State.updScript_script, State.countSpin, State.updScript_script]; exact hpc)
      rw [hexec, State.countSpin_askProp_some hk]
      dsimp only
      rw [regAt_eq_extractLsb', hpc', State.countSpin, State.updScript_updScript, State.updScript_updScript, hgr]
      rfl
    · rw [hexec, State.countSpin_askProp hk]
      dsimp only
      rw [if_neg (by rw [bitAt, hb]; exact Bool.false_ne_true), truncate_eq_extractLsb', State.failTarget, updChan_updChan, State.countSpin, State.updScript, updChan_updChan]
      rfl
    · have hzero : i.d1.toNat = 0 ↔ i.d1 = 0 := ⟨fun h => BitVec.eq_of_toNat_eq h, fun h => by rw [h]; rfl⟩
      rw [hexec, State.countSpin_askProp hk]
      dsimp only
      rw [if_pos (show bitAt i.d0 10 = true from hb), truncate_eq_extractLsb', State.beginWait, updChan_updChan, State.countSpin, State.updScript, updChan_updChan, regAt_eq_extractLsb']
      simp only [hzero]
      rfl
  · intro u
    have hptr : (s.chan c).script.ptr i.d0 8 = (s.chan c).script.a.look r := Script.ptr_eq ..
    have h' : Executes s c .give i { offsets := offIf (s.propAt (s.tenantOf c) ((s.chan c).script.ptr i.d0 8)).isNone 0 } := by
      rw [hptr, hk]
      exact h
    show execGive c s = _
    rw [execGive, scriptRow_runs (check := fun n i => { offsets := offIf (s.propAt (s.tenantOf c) (n.script.ptr i.d0 8)).isNone 0 }) h']
    dsimp only
    rw [hptr, hk]
    dsimp only
    rw [if_neg (by rw [hbusy]; exact Bool.false_ne_true), show ((s.freePropAt (s.tenantOf c) k).1.countSpin c).nextPc c = _ from State.countSpin_nextPc (u := u) hpc]
    rfl

end Sys2Proof.Machine
end

section
/-! PROOF. What a channel takes (O24). -/

namespace Sys2Proof.Machine

section
variable {s : State} {c : ChanId} {w : Taken}

/-! ### What taking an entry leaves (R259, R266, R331) -/

theorem State.passEntry_queue (h : w.inChain = false) : s.passEntry c w = s.updSq (s.tenantOf c) (s.chan c).sq fun q =>
    { q with
      head := w.head, phase := q.phase ^^ decide (q.head.toNat + 1 = ringSize q.log2)
      retries := q.retries.filter fun r => r.index != q.head
      entries := q.entries.filter fun e => e.index != q.head } :=
  if_neg (Bool.eq_false_iff.mp h)

theorem State.passEntry_chain (h : w.inChain = true) : s.passEntry c w = s.updChan c fun n => { n with chain := n.chain.map fun h =>
    { h with running := h.next, next := h.next + 64, ahead := h.ahead.filter fun e => e.1 != h.next } } :=
  if_pos h

/-- Where the head passes, the profiles of tenants stay. -/
theorem State.updSq_profile (t : TenantId) (q : QueueId) (f : SubQueue → SubQueue) (u : TenantId) (k : Nat) : (s.updSq t q f).profile u k = s.profile u k := by
  have hreg : ∀ off, (s.updSq t q f).tenReg u off = s.tenReg u off := by
    intro off
    by_cases hu : u = t
    · subst hu
      exact State.tenReg_updTenant s u (fun n => { n with sqs := n.sqs.upd q f }) (fun _ => rfl) off
    · rw [State.tenReg, State.updSq, State.updTenant, Tbl.look_upd_other _ _ (Ne.symm hu), State.tenReg]
  simp only [State.profile, hreg]

/-- What of the channel and of the tables its check reads stays as the entry passes. -/
theorem State.passEntry_reads : (s.passEntry c w).prot = s.prot ∧ (s.passEntry c w).tb = s.tb ∧ (∀ t k, (s.passEntry c w).profile t k = s.profile t k) ∧
    (s.passEntry c w).chan c = { s.chan c with chain := ((s.passEntry c w).chan c).chain } ∧ (s.passEntry c w).coreEdge = s.coreEdge := by
  cases h : w.inChain with
  | false =>
    rw [State.passEntry_queue h]
    exact ⟨rfl, rfl, fun t k => State.updSq_profile .., rfl, rfl⟩
  | true =>
    rw [State.passEntry_chain h]
    refine ⟨rfl, rfl, fun t k => rfl, ?_, rfl⟩
    rw [State.chan_updChan_same]

/-! ### The check of a descriptor that keeps its rules (R340) -/

/-- The state in which the channel has the entry in hand. -/
def State.inHand (s : State) (c : ChanId) (w : Taken) : State :=
  (s.passEntry c w).updChan c fun n => { n with spin := if w.inChain then n.spin + 1 else n.spin, work := some w }

theorem State.inHand_chan : (s.inHand c w).chan c = { s.chan c with
    chain := ((s.passEntry c w).chan c).chain, spin := if w.inChain then (s.chan c).spin + 1 else (s.chan c).spin, work := some w } := by
  obtain ⟨-, -, -, hchan, -⟩ := State.passEntry_reads (s := s) (c := c) (w := w)
  rw [State.inHand, State.chan_updChan_same, hchan]

/-- An entry that is not consumed by a late scene and has not spun comes to its check. -/
theorem State.takeEntry_eq (hspin : w.inChain = true → (s.chan c).spin < 256) (hscene : (s.chan c).discard = none) :
    s.takeEntry c w = (s.inHand c w).checkStage c w := by
  obtain ⟨-, -, -, hchan, -⟩ := State.passEntry_reads (s := s) (c := c) (w := w)
  have hdiscard : ((s.passEntry c w).chan c).discard = none := by rw [hchan]; exact hscene
  unfold State.takeEntry
  cases h : w.inChain with
  | false => simp [hdiscard, State.inHand, h]
  | true =>
    have hlt := hspin h
    have hno : ¬ 256 ≤ (s.chan c).spin := by omega
    simp [hno, hdiscard, State.inHand, h, updChan_updChan]

variable {ty : DescType}

/-- A descriptor that keeps every rule of its check comes to its effect. -/
theorem State.checkStage_passes (h : Takes s c ty w) : (s.inHand c w).checkStage c w =
    if ty = .callChain ∨ ty = .link then (s.inHand c w).jumpEntry c w ty else (s.inHand c w).checkTables c w false := by
  obtain ⟨hprot, -, hprofile, -, -⟩ := State.passEntry_reads (s := s) (c := c) (w := w)
  have htenant : (s.inHand c w).tenantOf c = s.tenantOf c := by
    show (State.chanTenant _ c).getD 0 = (State.chanTenant _ c).getD 0
    simp only [State.chanTenant, State.record, show (s.inHand c w).prot = s.prot from hprot]
  have hrecord : ∀ t, (s.inHand c w).record t = s.record t := fun t => congrArg (fun p : Protection => p.map.records.look t) hprot
  have hprof : ∀ t k, (s.inHand c w).profile t k = s.profile t k := hprofile
  have hfields : least (descOffsets ty w.dw ((s.inHand c w).chan c).actEn ((s.inHand c w).profile (s.tenantOf c) (field (packetDw w.dw 0) 23 16 % 64))) = none := by
    rw [hprof, State.inHand_chan, h.fields]
    rfl
  have hplace : ¬ ((ty = .link ∧ w.inChain = false) ∨ (ty = .callChain ∧ w.inChain = true)) := by
    rintro (⟨hl, hi⟩ | ⟨hl, hi⟩)
    · simp [h.place.1 hl] at hi
    · simp [h.place.2 hl] at hi
  have hcue : ¬ (usesCue ty w.dw && !((s.record (s.tenantOf c)).holdsCue (descCue w.dw).toNat)) = true := by
    cases hu : usesCue ty w.dw with
    | false => simp
    | true => simp [h.cue hu]
  unfold State.checkStage
  rw [h.kind]
  dsimp only
  rw [htenant, hfields]
  dsimp only
  rw [if_neg hplace, hrecord, if_neg hcue]

theorem State.takeRow_takes (h : Takes s c ty w) : s.takeRow c ty = (if ty = .callChain ∨ ty = .link then (s.inHand c w).jumpEntry c w ty
    else (s.inHand c w).checkTables c w false).go [c] := by
  rw [State.takeRow, if_pos h.ready, h.next]
  dsimp only
  rw [if_pos (.inl h.kind), State.takeEntry_eq h.spin h.scene, State.checkStage_passes h]

/-! ### MOVE, RUN_SCRIPT, FILL and CUE (R102, R325) -/

/-- The tables of a unit are walked, source first. -/
theorem State.checkTables_walk {u : State} (hkind : descType w.dw = some .move ∨ descType w.dw = some .fill)
    (hind : (descXfer w.dw (0, 0)).srcInd.isSome = true ∨ (descXfer w.dw (0, 0)).dstInd.isSome = true) :
    let x := descXfer w.dw (0, 0)
    u.checkTables c w false = u.updChan c fun n => { n with walk := some (if x.srcInd.isSome then walkFrom x.src false else walkFrom x.dst true) } := by
  intro x
  unfold State.checkTables
  dsimp only
  by_cases hsrc : x.srcInd.isSome = true
  · rw [if_pos ⟨hkind, hsrc, rfl⟩, if_pos hsrc]
  · rw [if_neg fun h => hsrc h.2.1, if_pos ⟨hkind, hind.resolve_left hsrc⟩, if_neg hsrc]

theorem State.checkTables_none {u : State} (h : ¬ ((descType w.dw = some .move ∨ descType w.dw = some .fill) ∧
    ((descXfer w.dw (0, 0)).srcInd.isSome = true ∨ (descXfer w.dw (0, 0)).dstInd.isSome = true))) : u.checkTables c w false = u.passGate c w := by
  unfold State.checkTables
  dsimp only
  rw [if_neg fun hs => h ⟨hs.1, .inl hs.2.1⟩, if_neg fun hs => h ⟨hs.1, .inr hs.2⟩]

/-- At a scene boundary without a pending period start the descriptor is held. -/
theorem State.passGate_holds {u : State} (ha : (u.chan c).actEn = true) (hb : (u.chan c).atBoundary = true) (hp : (u.chan c).periodPending = none) :
    u.passGate c w = u.updChan c fun n => { n with work := none, armedWork := some w, state := .armed } := by
  have hnone : (u.updChan c fun n => { n with work := none, armedWork := some w, state := .armed }).startWaiting c = none := by
    rw [State.startWaiting, State.chan_updChan_same]
    exact (ite_congr rfl (fun _ => hp) fun _ => rfl).trans (ite_self _)
  rw [State.passGate, if_pos (by rw [ha, hb]; rfl), State.releasePending, hnone]

/-- The curtain that a descriptor has once it begins (R106). -/
def Taken.curtain (w : Taken) (n : Chan) : Option Tick :=
  if descFlag w.dw fCurtain then some (n.sceneStart + BitVec.ofNat 64 (256 * (packetDw w.dw 14).toNat)) else n.curtain

theorem State.curtainDue_of {u : State} (h : ∀ t, (u.chan c).curtain = some t → (u.chan c).atBoundary = true ∨ due t u.coreEdge = false) : u.curtainDue c = false := by
  unfold State.curtainDue
  split
  · next t ht => rcases h t ht with hb | hd <;> simp [*]
  · rfl

/-- Where no curtain has fallen a descriptor begins after the proof of the one before. -/
theorem State.beginWork_before {u : State} (hdue : u.curtainDue c = false)
    (hown : ∀ t, w.curtain (u.chan c) = some t → (u.chan c).atBoundary = true ∨ due t u.coreEdge = false) :
    u.beginWork c w = u.updChan c fun n => { n with work := some w, armedWork := none, state := .running, curtain := w.curtain n, after := some .startUnit } := by
  have hone : (u.updChan c fun n => { n with work := some w, armedWork := none, state := .running }).curtainDue c = false := by
    rw [State.curtainDue, State.chan_updChan_same]
    exact hdue
  have htwo : ((u.updChan c fun n => { n with work := some w, armedWork := none, state := .running }).updChan c fun n => { n with curtain := w.curtain n }).curtainDue c = false := by
    refine State.curtainDue_of ?_
    rw [State.chan_updChan_same, State.chan_updChan_same]
    exact hown
  unfold State.beginWork
  dsimp only
  rw [hone, if_neg Bool.false_ne_true]
  refine (if_neg (Bool.eq_false_iff.mp htwo)).trans ?_
  rw [updChan_updChan, updChan_updChan]
  rfl

end

/-! ### The statement -/

/-- The four rows of the first clause differ in their type alone. -/
theorem takenRow {ty : DescType} {c : ChanId} {s : State} {w : Taken} (h : Takes s c ty w) (hty : ty ≠ .callChain ∧ ty ≠ .link) :
    let n := s.chan c
    let p := s.passEntry c w
    let v := p.updChan c fun n => { n with spin := if w.inChain then n.spin + 1 else n.spin, work := some w }
    let x := descXfer w.dw (0, 0)
    let tables := (ty = .move ∨ ty = .fill) ∧ (x.srcInd.isSome = true ∨ x.dstInd.isSome = true)
    let cu : Option Tick := if descFlag w.dw fCurtain then some (n.sceneStart + BitVec.ofNat 64 (256 * (packetDw w.dw 14).toNat)) else n.curtain
    (tables → s.takeRow c ty =
      ((v.updChan c fun n => { n with walk := some (if x.srcInd.isSome then walkFrom x.src false else walkFrom x.dst true) }).go [c])) ∧
    (¬ tables → n.actEn = true → n.atBoundary = true → n.periodPending = none →
      s.takeRow c ty = ((v.updChan c fun n => { n with work := none, armedWork := some w, state := .armed }).go [c])) ∧
    (¬ tables → (n.actEn && n.atBoundary) = false → s.curtainDue c = false → (∀ t, cu = some t → n.atBoundary = true ∨ due t s.coreEdge = false) →
      s.takeRow c ty = ((v.updChan c fun n => { n with armedWork := none, state := .running, curtain := cu, after := some .startUnit }).go [c])) := by
  intro n p v x tables cu
  have hrow : s.takeRow c ty = (v.checkTables c w false).go [c] := by
    rw [State.takeRow_takes h, if_neg (by simp [hty])]
    rfl
  have hkind : (descType w.dw = some .move ∨ descType w.dw = some .fill) ↔ (ty = .move ∨ ty = .fill) := by simp [h.kind]
  have hchan : v.chan c = _ := State.inHand_chan (s := s) (c := c) (w := w)
  obtain ⟨-, -, -, hpchan, hedge⟩ := State.passEntry_reads (s := s) (c := c) (w := w)
  refine ⟨fun ht => ?_, fun ht ha hb hp => ?_, fun ht ha hdue hcu => ?_⟩
  · rw [hrow, State.checkTables_walk (hkind.mpr ht.1) ht.2]
  · rw [hrow, State.checkTables_none (by rw [hkind]; exact ht), State.passGate_holds (by rw [hchan]; exact ha) (by rw [hchan]; exact hb) (by rw [hchan]; exact hp)]
  · have hcut : v.curtainDue c = false := by
      have hs : v.curtainDue c = s.curtainDue c := by
        rw [State.curtainDue, State.curtainDue, hchan, show v.coreEdge = s.coreEdge from hedge]
      exact hs.trans hdue
    have hcurtain : w.curtain (v.chan c) = cu := by
      rw [hchan]
      rfl
    have hown : ∀ t, w.curtain (v.chan c) = some t → (v.chan c).atBoundary = true ∨ due t v.coreEdge = false := by
      rw [hcurtain, hchan, show v.coreEdge = s.coreEdge from hedge]
      exact hcu
    have hgate : v.passGate c w = v.beginWork c w := by
      rw [State.passGate]
      exact if_neg (by rw [hchan]; exact Bool.eq_false_iff.mp ha)
    rw [hrow, State.checkTables_none (by rw [hkind]; exact ht), hgate, State.beginWork_before hcut hown]
    refine congrArg (fun t : State => t.go [c]) (State.updChan_congr ?_)
    rw [hcurtain]
    have hwork : (v.chan c).work = some w := by rw [hchan]
    rw [← hwork]

/-- Settles O24. -/
theorem takenDescriptors : Obligations.TakenDescriptors := by
  refine ⟨⟨?_, fun c s w => ?_⟩, fun c s w => ?_⟩
  · intro row
    have hrow : ∀ (ty : DescType) (cmd : ChanId → Instr), ty ≠ .callChain ∧ ty ≠ .link → (∀ c s, exec (cmd c) s = .next (s.takeRow c ty)) → row ty cmd := by
      intro ty cmd hty hexec c s w h n p v x tables cu
      obtain ⟨hwalk, hhold, hbegin⟩ := takenRow h hty
      rw [hexec]
      exact ⟨fun ht => congrArg _ (hwalk ht), fun ht ha hb hp => congrArg _ (hhold ht ha hb hp), fun ht ha hd hc => congrArg _ (hbegin ht ha hd hc)⟩
    exact ⟨hrow .move _ (by decide) fun _ _ => rfl, hrow .runScript _ (by decide) fun _ _ => rfl, hrow .fill _ (by decide) fun _ _ => rfl,
      hrow .cue _ (by decide) fun _ _ => rfl⟩
  · intro p
    refine ⟨fun h => ?_, fun h => ?_⟩
    · show Host.Outcome.next (s.takeRow c .callChain) = _
      rw [State.takeRow_takes h, if_pos (.inl rfl), State.jumpEntry, if_pos rfl, State.inHand, updChan_updChan]
      rfl
    · intro v
      have hin : w.inChain = true := h.place.1 rfl
      have hv : s.inHand c w = v := by
        rw [State.inHand, hin]
        rfl
      have hchan : (v.chan c).chain = (s.chan c).chain.map fun h => { h with running := h.next, next := h.next + 64, ahead := h.ahead.filter fun e => e.1 != h.next } := by
        show ((p.updChan c _).chan c).chain = _
        rw [State.chan_updChan_same, show p = _ from State.passEntry_chain hin, State.chan_updChan_same]
      have hrun : ((v.chan c).chain.map fun h => h.running) = (s.chan c).chain.map fun h => h.next := by
        rw [hchan, Option.map_map]
        rfl
      have hexec : exec (.link c) s = .next ((v.jumpEntry c w .link).go [c]) := by
        show Host.Outcome.next (s.takeRow c .link) = _
        rw [State.takeRow_takes h, if_pos (.inr rfl), hv]
      have hjump : v.jumpEntry c w .link = if ((s.chan c).chain.map fun h => h.next) = some (descSrc w.dw) then v.failPlain c 0x17 2
          else v.updChan c fun n => n.jump (descSrc w.dw) := by
        rw [← hrun]
        rfl
      refine ⟨fun hne => ?_, fun he => ?_⟩
      · rw [hexec, hjump, if_neg hne]
        rfl
      · rw [hexec, hjump, if_pos he]
  · intro t q p
    refine ⟨fun h => ?_, fun h => ?_⟩
    · have hp : p = _ := State.passEntry_queue h
      have hsq : p.sq t q = { s.sq t q with
          head := w.head, phase := (s.sq t q).phase ^^ decide ((s.sq t q).head.toNat + 1 = ringSize (s.sq t q).log2)
          retries := (s.sq t q).retries.filter fun r => r.index != (s.sq t q).head
          entries := (s.sq t q).entries.filter fun e => e.index != (s.sq t q).head } := by
        rw [hp, State.sq_updSq, if_pos ⟨rfl, rfl⟩]
      rw [hsq]
      refine ⟨rfl, rfl, rfl, fun r => by simp, fun e => by simp, fun u r hne => ?_, fun d => by rw [hp]; rfl, ?_⟩
      · rw [hp, State.sq_updSq, if_neg fun he => hne.elim (fun hu => hu he.1.symm) fun hr => hr he.2.symm]
      · rw [hp]
        exact Kept.refl _
    · have hp : p = _ := State.passEntry_chain h
      refine ⟨fun u r => by rw [hp]; rfl, fun d hd => by rw [hp]; exact State.chan_updChan_other _ _ (Ne.symm hd), by rw [hp]; rfl, fun k hk => ?_, ?_⟩
      · rw [hp, State.chan_updChan_same, hk]
        exact ⟨_, rfl, rfl, rfl, rfl⟩
      · rw [hp]
        exact Kept.refl _

end Sys2Proof.Machine
end

section
/-! PROOF. What a served packet satisfies; the general commands, power and tests (O10, O20). -/

namespace Sys2Proof.Machine

/-! ### What a packet that passes its checks satisfies (R243) -/

section
variable {c : Cmd} {spec : CmdSpec} {k : Checks} {s : State}

/-- A judgement without a failure: the issuer, the ranges, the state and the resources are in order. -/
theorem Cmd.judge_none (h : c.judge spec k s = none) :
    c.mayIssue s k.who = true ∧ (∀ r ∈ k.ranges, r.2 = false) ∧ k.denied = false ∧ k.state = none ∧ k.resource = none := by
  have hwho : c.mayIssue s k.who = true := by
    cases hm : c.mayIssue s k.who with
    | true => rfl
    | false => simp [Cmd.judge, hm] at h
  unfold Cmd.judge at h
  split at h
  · cases h
  split at h
  · cases h
  next hleast =>
  split at h
  · cases h
  next hdenied =>
  split at h
  · cases h
  split at h
  · cases h
  next hstate =>
  split at h
  · cases h
  refine ⟨hwho, fun r hr => ?_, Bool.eq_false_iff.mpr hdenied, hstate, h⟩
  have hnil := (List.append_eq_nil_iff.mp ((least_eq_none_iff _).mp hleast)).2
  have hfilter : k.ranges.filter (fun r => r.2) = [] := List.map_eq_nil_iff.mp hnil
  exact Bool.eq_false_iff.mpr (List.filter_eq_nil_iff.mp hfilter r hr)

theorem refuseIf_none {b : Bool} {r : Reply} (h : refuseIf b r = none) : b = false := by
  cases b with
  | false => rfl
  | true => cases h

end

/-! ### The words of a reply -/

theorem bitAt_eq_decide_field {n : Nat} (x : BitVec n) (i : Nat) : bitAt x i = decide (field x i i = 1) := by
  simp [bitAt, field, BitVec.getLsbD, Nat.testBit_eq_decide_div_mod_eq]

theorem flag_le_one (b : Bool) : flag b ≤ 1 := by
  cases b <;> decide

theorem DevState.code_lt (d : DevState) : d.code < 16 := by
  cases d <;> decide

theorem PowerState.code_lt (p : PowerState) : p.code < 8 := by
  cases p <;> decide

/-- A field of a word that is spelled by a number. -/
theorem field_ofNat (n x hi lo : Nat) : field (BitVec.ofNat n x) hi lo = x % 2 ^ n / 2 ^ lo % 2 ^ (hi + 1 - lo) := by
  rw [field, BitVec.toNat_ofNat]

/-- The fields of DW2 of GET_STATE (R822). -/
theorem State.stateWord_fields (s : State) : field s.stateWord 3 0 = s.devState.code ∧ field s.stateWord 7 5 = s.power.state.code ∧
    bitAt s.stateWord 8 = s.tb.timeValid ∧ bitAt s.stateWord 9 = s.tb.fineValid ∧ bitAt s.stateWord 10 = s.prot.held.isSome := by
  have hdev := s.devState.code_lt
  have hpower := s.power.state.code_lt
  have hflag : ∀ b : Bool, decide (flag b = 1) = b := fun b => by cases b <;> rfl
  have h1 := flag_le_one s.degraded
  have h2 := flag_le_one s.tb.timeValid
  have h3 := flag_le_one s.tb.fineValid
  have h4 := flag_le_one s.prot.held.isSome
  simp only [State.stateWord, bitAt_eq_decide_field, field_ofNat]
  refine ⟨by omega, by omega, ?_, ?_, ?_⟩
  · exact (congrArg (fun n => decide (n = 1)) (by omega)).trans (hflag _)
  · exact (congrArg (fun n => decide (n = 1)) (by omega)).trans (hflag _)
  · exact (congrArg (fun n => decide (n = 1)) (by omega)).trans (hflag _)

theorem leBytes_length (n x : Nat) : (leBytes n x).length = n := by
  induction n generalizing x with
  | zero => rfl
  | succ n ih => simp [leBytes, ih]

theorem dwordBytes_length (l : List Dword) : (dwordBytes l).length = 4 * l.length := by
  induction l with
  | nil => rfl
  | cons d l ih =>
    rw [show dwordBytes (d :: l) = leBytes 4 d.toNat ++ dwordBytes l from rfl, List.length_append, ih, leBytes_length, List.length_cons]
    omega

/-! ### SET_FEATURE and GET_FEATURE (R823) -/

/-- A feature code that passes the ranges is one of the table. -/
theorem known_of_featureRanges {c : Cmd} {known : Bool} {l : List (Nat × Bool)} (h : ∀ r ∈ featureRanges c known ++ l, r.2 = false) : known = true := by
  have := h (8, !known) (by simp [featureRanges])
  simpa using this

/-- Settles O10. -/
theorem generalCommands : Obligations.GeneralCommands := by
  intro p s c u
  refine ⟨fun h => serve_runs h, fun h => ⟨u.stateWord, serve_runs h, u.stateWord_fields⟩, fun h => ?_, fun h => ?_, fun h => ?_⟩
  · obtain ⟨-, hranges, -⟩ := Cmd.judge_none h.passes
    have hknown : (u.feature c.target (c.f 2 7 0)).isSome = true := known_of_featureRanges (l := []) (by rw [List.append_nil]; exact hranges)
    obtain ⟨v, hv⟩ := Option.isSome_iff_exists.mp hknown
    refine ⟨v, hv, ?_⟩
    have hrun : exec (.getFeature p) s = .next (runGetFeature c u) := serve_runs h
    rw [hrun, runGetFeature, hv]
    rfl
  · obtain ⟨-, hranges, -⟩ := Cmd.judge_none h.passes
    have hknown : (c.f 2 7 0 == 1 || c.f 2 7 0 == 2) = true := known_of_featureRanges hranges
    have hcode : c.f 2 7 0 = 1 ∨ c.f 2 7 0 = 2 := by simpa using hknown
    have hrun : exec (.setFeature p) s = .next (runSetFeature c u) := serve_runs h
    rw [hrun]
    rcases hcode with h1 | h2
    · refine ⟨((u.tenants.look c.target).label, 0), u.updTenant c.target fun n => { n with label := c.dw 3 }, ?_, ?_, fun _ => rfl, fun h2 => by omega, .inl h1⟩
      · simp [State.feature, h1]
      · simp [runSetFeature, State.feature, h1]
    · refine ⟨(BitVec.ofNat 32 (flag (u.tenants.look c.target).failTrace), 0), u.updTenant c.target fun n => { n with failTrace := bitAt (c.dw 3) 0 }, ?_, ?_,
        fun h1 => by omega, fun _ => rfl, .inr h2⟩
      · simp [State.feature, h2]
      · simp [runSetFeature, State.feature, h2]
  · refine ⟨u.identity c, ?_, serve_runs h⟩
    rw [State.identity, dwordBytes_length]
    simp

/-! ### POWER_STATE, RUN_BIST and BIST_RESULT (R569 to R572, R602) -/

/-- The deepest state permitted up to a target (R602). -/
theorem runPowerState_target {c : Cmd} {s : State} (h : c.f 2 2 0 ≠ 0) : let rung := s.permitted (c.f 2 2 0)
    let r := s.answer c { dw2 := BitVec.ofNat 32 rung.code }
    runPowerState c s = if rung = s.power.state then r else { r with power := { r.power with target := some rung } } := by
  intro rung r
  exact if_neg h

/-- The flags of a result (R570). -/
theorem resultFlags (pass aborted : Bool) : let d : Dword := BitVec.ofNat 32 (1 + 2 * flag pass + 4 * flag aborted)
    bitAt d 0 = true ∧ bitAt d 1 = pass ∧ bitAt d 2 = aborted := by
  cases pass <;> cases aborted <;> decide

/-- Settles O20. -/
theorem powerAndTestCommands : Obligations.PowerAndTestCommands := by
  intro p s c u
  refine ⟨fun h => ?_, fun h => ?_, fun h => ?_⟩
  · refine ⟨runPowerState c u, serve_runs h, fun h0 => if_pos h0, fun h0 => ⟨u.permitted (c.f 2 2 0), rfl, ?_⟩⟩
    have hpower : (u.answer c { dw2 := BitVec.ofNat 32 (u.permitted (c.f 2 2 0)).code }).power.state = s.power.state ∧
        (u.answer c { dw2 := BitVec.ofNat 32 (u.permitted (c.f 2 2 0)).code }).power.target = s.power.target := by
      rw [(u.answer_kept c _).power, (s.takeOff_kept p).power]
      exact ⟨rfl, rfl⟩
    have hstate : u.power.state = s.power.state := by rw [(s.takeOff_kept p).power]
    rw [runPowerState_target h0, hstate]
    by_cases hr : u.permitted (c.f 2 2 0) = s.power.state
    · rw [if_pos hr, if_pos hr]
      exact ⟨hpower.2, hpower.1, rfl⟩
    · rw [if_neg hr, if_neg hr]
      exact ⟨rfl, hpower.1, rfl⟩
  · have hlt : c.f 2 7 0 < 2 ^ 8 := Nat.mod_lt _ (by decide)
    exact ⟨{ target := BitVec.ofNat 8 c.bistTarget, unit := c.bistUnit, cmd := some c.ref, retest := bitAt (c.dw 2) 16 }, Nat.mod_eq_of_lt hlt, rfl, rfl, rfl,
      serve_runs h⟩
  · have hresults : u.health.results = s.health.results := by rw [(s.takeOff_kept p).health]
    have hrun : exec (.bistResult p) s = .next (runBistResult c u) := serve_runs h
    rw [hrun, runBistResult, hresults]
    show ∃ r : Reply, Host.Outcome.next (match s.health.results.find? (fun x => decide (x.target.toNat = c.f 2 7 0) && x.unit == c.bistUnit) with
      | some r => u.answer c { dw2 := r.observed, dw3 := BitVec.ofNat 32 (1 + 2 * flag r.pass + 4 * flag r.aborted) }
      | none => u.answer c {}) = _ ∧ _
    cases hfind : s.health.results.find? (fun x => decide (x.target.toNat = c.f 2 7 0) && x.unit == c.bistUnit) with
    | none => exact ⟨{}, rfl, rfl, rfl, rfl⟩
    | some x =>
      exact ⟨_, rfl, rfl, rfl, resultFlags x.pass x.aborted⟩

end Sys2Proof.Machine
end

section
/-! PROOF. Fields of words; the memory commands (O21). -/

namespace Sys2Proof.Machine

/-! ### A field of a word, bit by bit -/

theorem field_testBit {n : Nat} (x : BitVec n) (hi lo i : Nat) : (field x hi lo).testBit i = (decide (i < hi + 1 - lo) && bitAt x (lo + i)) := by
  rw [field, Nat.testBit_mod_two_pow, Nat.testBit_div_two_pow, bitAt, BitVec.getLsbD, Nat.add_comm lo i]

/-- A field is the number that its bits spell. -/
theorem field_eq_of_bits {n : Nat} {x : BitVec n} {hi lo v : Nat} (hv : v < 2 ^ (hi + 1 - lo)) (h : ∀ i, i < hi + 1 - lo → bitAt x (lo + i) = v.testBit i) :
    field x hi lo = v := by
  refine Nat.eq_of_testBit_eq fun i => ?_
  rw [field_testBit]
  by_cases hi' : i < hi + 1 - lo
  · rw [decide_eq_true hi', Bool.true_and, h i hi']
  · rw [decide_eq_false hi', Bool.false_and, Nat.testBit_lt_two_pow (Nat.lt_of_lt_of_le hv (Nat.pow_le_pow_right (by decide) (Nat.le_of_not_lt hi')))]

theorem field_congr {n : Nat} {x y : BitVec n} {hi lo : Nat} (h : ∀ i, lo ≤ i → i ≤ hi → bitAt x i = bitAt y i) : field x hi lo = field y hi lo := by
  refine Nat.eq_of_testBit_eq fun i => ?_
  rw [field_testBit, field_testBit]
  by_cases hi' : i < hi + 1 - lo
  · rw [h (lo + i) (by omega) (by omega)]
  · rw [decide_eq_false hi', Bool.false_and, Bool.false_and]

theorem field_lt {n : Nat} (x : BitVec n) (hi lo : Nat) : field x hi lo < 2 ^ (hi + 1 - lo) := Nat.mod_lt _ (Nat.two_pow_pos _)

/-- The word with the bits [hi:lo] replaced. -/
def putField (w : Word) (hi lo v : Nat) : Word := (w &&& ~~~(bits hi lo)) ||| BitVec.ofNat 64 (2 ^ lo * v)

theorem putField_bit (w : Word) {hi lo v i : Nat} (hv : v < 2 ^ (hi + 1 - lo)) (hlo : lo ≤ hi) (h64 : hi < 64) :
    bitAt (putField w hi lo v) i = if lo ≤ i ∧ i ≤ hi then v.testBit (i - lo) else bitAt w i := by
  have hmask : bitAt (bits hi lo) i = decide (lo ≤ i ∧ i ≤ hi) := by
    by_cases h1 : lo ≤ i <;> by_cases h2 : i ≤ hi <;>
      simp [bits, maskBits, bitAt, BitVec.getLsbD_ofNat, Nat.mul_comm _ (2 ^ lo), Nat.testBit_two_pow_mul, h1, h2] <;> omega
  have hput : bitAt (BitVec.ofNat 64 (2 ^ lo * v)) i = (decide (lo ≤ i ∧ i ≤ hi) && v.testBit (i - lo)) := by
    simp only [bitAt, BitVec.getLsbD_ofNat, Nat.testBit_two_pow_mul]
    by_cases h1 : lo ≤ i
    · by_cases h2 : i ≤ hi
      · simp [h1, h2, show i < 64 by omega]
      · have : v.testBit (i - lo) = false := Nat.testBit_lt_two_pow (Nat.lt_of_lt_of_le hv (Nat.pow_le_pow_right (by decide) (by omega)))
        simp [this]
    · simp [h1]
  have hbit : bitAt (putField w hi lo v) i = ((bitAt w i && (decide (i < 64) && !(bitAt (bits hi lo) i))) || bitAt (BitVec.ofNat 64 (2 ^ lo * v)) i) := by
    simp [putField, bitAt]
  rw [hbit, hmask, hput]
  by_cases h : lo ≤ i ∧ i ≤ hi
  · simp [h]
  · rw [if_neg h, decide_eq_false h]
    by_cases h64 : i < 64
    · simp [h64]
    · simp [bitAt, h64, BitVec.getLsbD_of_ge w i (Nat.le_of_not_lt h64)]

/-! ### A long command enters service (R223) -/

section
variable {s u : State}

/-- The queue of long commands and the order may change while the rest stays. -/
theorem Kept.withLong (h : Kept s u) (l : List LongCmd) (n : Nat) : Kept { s with long := l, order := n } { u with long := l, order := n } :=
  { h with long := rfl, order := rfl }

theorem Kept.withGuard (h : Kept s u) (l : List LongCmd) (n : Nat) (g : MemGuard) :
    Kept { s with long := l, order := n, guard := g } { u with long := l, order := n, guard := g } :=
  { h with long := rfl, order := rfl, guard := rfl }

theorem State.takeOff_long (s : State) (p : Packet) : (s.takeOff p).long = s.long := (s.takeOff_kept p).long

theorem State.takeOff_mem (s : State) (p : Packet) : (s.takeOff p).mem = s.mem := by
  unfold State.takeOff
  split <;> rfl

theorem State.startLong_long (c : Cmd) : ∃ l : LongCmd, (u.startLong c).long = u.long ++ [l] ∧ l.ref = c.ref ∧ l.started = u.now ∧ l.dw = c.p.dw :=
  ⟨_, rfl, rfl, rfl, rfl⟩

/-- The bulk command that enters service is the last of the list. -/
theorem State.startBulk_last (c : Cmd) (first count : Nat) (bytes : List Byte) : ∃ l : LongCmd, (u.startBulk c first count bytes).long.getLast? = some l ∧ l.ref = c.ref := by
  rw [State.startBulk]
  dsimp only
  rw [List.getLast?_map]
  have hlast : (u.startLong c).long.getLast? = some { ref := c.ref, dw := c.p.dw, body := c.p.body.bytes, order := u.order, started := u.now } := List.getLast?_concat
  rw [hlast, Option.map_some]
  refine ⟨_, rfl, ?_⟩
  split <;> rfl

end

/-! ### MARK_CHIP and SCRUB_CONFIG (R536, R866, R867) -/

section
variable {s : State}

/-- A record of the error log changes the log and the trace. -/
theorem State.logMem_fields (kind memory : Nat) (addr : Addr) (source : Nat) (res : CodeResult) :
    let v := s.logMem kind memory addr source res
    v.guard.marks = s.guard.marks ∧ v.chans = s.chans ∧ v.prot = s.prot ∧ v.mem = s.mem := by
  intro v
  have hnote : ∀ (u : State) (cls e : Nat) (t : Option TenantId) (c : Option ChanId) (d : Dword), u.guard.marks = s.guard.marks → u.chans = s.chans → u.prot = s.prot → u.mem = s.mem →
      (u.note cls e t c d).guard.marks = s.guard.marks ∧ (u.note cls e t c d).chans = s.chans ∧ (u.note cls e t c d).prot = s.prot ∧ (u.note cls e t c d).mem = s.mem := by
    intro u cls e t c d h1 h2 h3 h4
    obtain ⟨pw, tr, hn⟩ := u.note_eq cls e t c d
    rw [hn]
    exact ⟨h1, h2, h3, h4⟩
  show (State.logMem s kind memory addr source res).guard.marks = _ ∧ _
  unfold v State.logMem
  dsimp only
  split
  · exact hnote _ _ _ _ _ _ rfl rfl rfl rfl
  · exact ⟨rfl, rfl, rfl, rfl⟩

/-- The word of the scrub register with a period and a limit. -/
def scrubWord (w : Word) (period limit : Nat) : Word :=
  let w1 := if period = 0 then w else putField w 13 0 period
  if limit = 0 then w1 else putField w1 31 16 limit

theorem scrubWord_fields (w : Word) {period limit : Nat} (hp : period < 2 ^ 14) (hl : limit < 2 ^ 16) : let x := scrubWord w period limit
    field x 13 0 = (if period = 0 then field w 13 0 else period) ∧ field x 31 16 = (if limit = 0 then field w 31 16 else limit) ∧
      field x 15 14 = field w 15 14 ∧ hi32 x = hi32 w := by
  intro x
  have hw1 : ∀ i, bitAt (if period = 0 then w else putField w 13 0 period) i = if i ≤ 13 ∧ period ≠ 0 then period.testBit i else bitAt w i := by
    intro i
    by_cases h : period = 0
    · simp [h]
    · rw [if_neg h, putField_bit w hp (by decide) (by decide)]
      simp [h]
  have hx : ∀ i, bitAt x i = if 16 ≤ i ∧ i ≤ 31 ∧ limit ≠ 0 then limit.testBit (i - 16) else if i ≤ 13 ∧ period ≠ 0 then period.testBit i else bitAt w i := by
    intro i
    show bitAt (if limit = 0 then _ else putField _ 31 16 limit) i = _
    by_cases h : limit = 0
    · simp only [h, if_true, hw1]
      simp
    · rw [if_neg h, putField_bit _ hl (by decide) (by decide), hw1]
      simp [h]
  refine ⟨?_, ?_, field_congr fun i h1 h2 => ?_, BitVec.eq_of_getLsbD_eq fun i hi => ?_⟩
  · by_cases h : period = 0
    · rw [if_pos h]
      refine field_congr fun i h1 h2 => ?_
      rw [hx, if_neg (by omega), if_neg (by omega)]
    · rw [if_neg h]
      refine field_eq_of_bits hp fun i h1 => ?_
      rw [Nat.zero_add, hx, if_neg (by omega), if_pos ⟨by omega, h⟩]
  · by_cases h : limit = 0
    · rw [if_pos h]
      refine field_congr fun i h1 h2 => ?_
      rw [hx, if_neg (by simp [h]), if_neg (by omega)]
    · rw [if_neg h]
      refine field_eq_of_bits hl fun i h1 => ?_
      rw [hx, if_pos ⟨by omega, by omega, h⟩, Nat.add_sub_cancel_left]
  · rw [hx, if_neg (by omega), if_neg (by omega)]
  · have := hx (32 + i)
    rw [if_neg (by omega), if_neg (by omega)] at this
    simpa [hi32, hi, bitAt] using this

/-- What SCRUB_CONFIG leaves of the device page (R867). -/
theorem State.scrubConfig_fields {u : State} (f : Word → Word) :
    let w := ((u.updStaged (.dev 0xB20) fun x => { act := f x.act, pend := f x.pend }).settleGroup 4).disturb .device
    w.devReg 0xB20 = f (u.devReg 0xB20) ∧ w = { u with dev := w.dev } := by
  intro w
  have hreg : (u.updStaged (.dev 0xB20) fun x => { act := f x.act, pend := f x.pend }).devReg 0xB20 = f (u.devReg 0xB20) := by
    simp [State.updStaged, State.devReg]
  unfold w State.settleGroup
  split
  · exact ⟨hreg, rfl⟩
  · exact ⟨hreg, rfl⟩

end

/-- What MARK_CHIP leaves of the marks (R866). -/
theorem runMarkChip_marked (c : Cmd) (u : State) : let i : BitVec 2 := BitVec.ofNat 2 (2 * c.f 2 0 0 + c.f 2 1 1)
    ∃ w : State, (w.guard.marks.look i = (if bitAt (c.dw 2) 16 then none else some (BitVec.ofNat 5 (c.f 2 8 4))) ∧
      (∀ j, j ≠ i → w.guard.marks.look j = u.guard.marks.look j) ∧ w.chans = u.chans ∧ w.prot = u.prot ∧ w.mem = u.mem) ∧
      runMarkChip c u = w.answer c { dw2 := BitVec.ofNat 32 w.guard.marked } := by
  intro i
  refine ⟨_, ?_, rfl⟩
  by_cases hclear : bitAt (c.dw 2) 16 = true
  · rw [if_pos hclear, if_pos hclear]
    exact ⟨Tbl.look_put_same _ _ _, fun j hj => Tbl.look_put_other _ _ (Ne.symm hj), rfl, rfl, rfl⟩
  · rw [if_neg hclear, if_neg hclear]
    by_cases hsame : u.guard.marks.look i = some (BitVec.ofNat 5 (c.f 2 8 4))
    · rw [if_pos hsame]
      exact ⟨hsame, fun j hj => rfl, rfl, rfl, rfl⟩
    · rw [if_neg hsame]
      obtain ⟨hmarks, hchans, hprot, hmem⟩ := State.logMem_fields (s := { u with guard := { u.guard with marks := u.guard.marks.put i (some (BitVec.ofNat 5 (c.f 2 8 4))) } })
        kChipMarked (u.dramCode (u.rankBase (bitAt (c.dw 2) 0) (bitAt (c.dw 2) 1))) (dramAddr (u.rankBase (bitAt (c.dw 2) 0) (bitAt (c.dw 2) 1))) srcPrompter
        (.corrected (BitVec.ofNat 5 (c.f 2 8 4)) 0)
      refine ⟨?_, fun j hj => ?_, hchans, hprot, hmem⟩
      · rw [hmarks]
        exact Tbl.look_put_same _ _ _
      · rw [hmarks]
        exact Tbl.look_put_other _ _ (Ne.symm hj)

theorem runScrubConfig_eq (c : Cmd) (u : State) : runScrubConfig c u =
    (((u.updStaged (.dev 0xB20) fun x => { act := scrubWord x.act (c.f 2 13 0) (c.f 3 15 0), pend := scrubWord x.pend (c.f 2 13 0) (c.f 3 15 0) }).settleGroup 4).disturb
      .device).answer c { dw2 := BitVec.ofNat 32 (field (u.devReg 0xB20) 13 0), dw3 := BitVec.ofNat 32 (field (u.devReg 0xB20) 31 16) } := by
  simp only [runScrubConfig, scrubWord, putField, Nat.pow_zero, Nat.one_mul] <;> rfl

/-- Settles O21. -/
theorem memoryCommands : Obligations.MemoryCommands := by
  intro p s c
  have hk := s.takeOff_kept p
  have hlong := s.takeOff_long p
  refine ⟨fun h => ?_, fun h => ?_, fun h => ?_, fun h => ?_, fun h => ?_⟩
  · exact ⟨_, serve_runs h, State.startBulk_last .., hk.withLong _ _⟩
  · refine ⟨_, serve_runs h, ?_, ⟨_, rfl, rfl, rfl⟩, hk.withGuard _ _ _⟩
    exact ⟨_, by rw [← hlong]; rfl, rfl⟩
  · refine ⟨_, serve_runs h, ?_, rfl, hk.withGuard _ _ _⟩
    exact ⟨_, by rw [← hlong]; rfl, rfl⟩
  · obtain ⟨w, hw, hrun⟩ := runMarkChip_marked c (s.takeOff p)
    obtain ⟨hi, hother, hchans, hprot, hmem⟩ := hw
    have hmarks : (s.takeOff p).guard.marks = s.guard.marks := by rw [hk.guard]
    refine ⟨w, (serve_runs h).trans (congrArg _ hrun), hi, fun j hj => ?_, hchans.trans hk.chans, hprot.trans hk.prot, hmem.trans (s.takeOff_mem p)⟩
    rw [← hmarks]
    exact hother j hj
  · have hreg : (s.takeOff p).devReg 0xB20 = s.devReg 0xB20 := by rw [State.devReg, hk.dev, State.devReg]
    obtain ⟨hnew, hframe⟩ := State.scrubConfig_fields (u := s.takeOff p) fun x => scrubWord x (c.f 2 13 0) (c.f 3 15 0)
    obtain ⟨hperiod, hlimit, hrest, hhi⟩ := scrubWord_fields (s.devReg 0xB20) (field_lt (c.dw 2) 13 0) (field_lt (c.dw 3) 15 0)
    have hrun := runScrubConfig_eq c (s.takeOff p)
    rw [hreg] at hrun hnew
    generalize ((State.updStaged (s.takeOff p) (.dev 0xB20) fun x =>
      { act := scrubWord x.act (c.f 2 13 0) (c.f 3 15 0), pend := scrubWord x.pend (c.f 2 13 0) (c.f 3 15 0) }).settleGroup 4).disturb .device = w at hrun hnew hframe
    refine ⟨w, (serve_runs h).trans (congrArg _ hrun), ?_, ?_, ?_, ?_, ?_⟩
    · rw [hnew]; exact hperiod
    · rw [hnew]; exact hlimit
    · rw [hnew]; exact hrest
    · rw [hnew]; exact hhi
    · rw [hframe]
      exact { hk with dev := rfl }

end Sys2Proof.Machine
end

section
/-! PROOF. What strobes and steps of the time base leave; the time and trace commands (O22). -/

namespace Sys2Proof.Machine

/-! ### What an update strobe leaves (R157, R158) -/

/-- Strobes change pages, slots, endpoints, pins and the thermal budget's arm, and whether a local-bus strobe waits. -/
structure StrobeKept (s t : State) : Prop where
  frame : t = { s with dev := t.dev, tenants := t.tenants, chans := t.chans, eps := t.eps, health := t.health, pins := t.pins, lbDue := t.lbDue }

section
variable {s t u : State}

theorem StrobeKept.refl (s : State) : StrobeKept s s := ⟨rfl⟩

theorem StrobeKept.trans (h : StrobeKept s t) (k : StrobeKept t u) : StrobeKept s u :=
  ⟨k.frame.trans (congrArg (fun x : State => { x with dev := u.dev, tenants := u.tenants, chans := u.chans, eps := u.eps, health := u.health, pins := u.pins, lbDue := u.lbDue }) h.frame)⟩

theorem StrobeKept.forAll {α : Type} {f : α → State → State} (l : List α) (hf : ∀ x s, StrobeKept s (f x s)) (s : State) : StrobeKept s (s.forAll l f) :=
  State.forAll_induction (P := StrobeKept s) l (.refl s) fun x t ht => ht.trans (hf x t)

theorem State.updStaged_strobeKept (s : State) (h : Home) (f : Staged → Staged) : StrobeKept s (s.updStaged h f) := by
  cases h <;> exact ⟨rfl⟩

theorem State.applyAt_strobeKept (s : State) (h : Home) : StrobeKept s (s.applyAt h) := by
  unfold State.applyAt
  split
  · exact s.updStaged_strobeKept h _
  · exact .refl s

theorem State.updCtl_strobeKept (s : State) (page : Page) (f : PageCtl → PageCtl) : StrobeKept s (s.updCtl page f) := by
  cases page <;> exact ⟨rfl⟩

theorem State.switchPin_strobeKept (s : State) (p : PinId) (w : Word) : StrobeKept s (s.switchPin p w) := by
  have hoff : StrobeKept s (if s.pinFunc p = 3 then s.lineOff (s.pinIndex p % 32) else s) := by
    split
    · exact .forAll _ (fun c s => ⟨rfl⟩) s
    · exact .refl s
  unfold State.switchPin
  split
  · exact .refl s
  · exact hoff.trans ⟨rfl⟩

theorem State.strobePins_strobeKept (s : State) : StrobeKept s s.strobePins := by
  refine .forAll _ (fun x s => ?_) s
  split
  · exact s.switchPin_strobeKept _ _
  · exact (s.switchPin_strobeKept _ _).trans ⟨rfl⟩

theorem State.judgeFill_strobeKept (s : State) (e : EpId) : StrobeKept s (s.judgeFill e) := .forAll _ (fun c s => ⟨rfl⟩) s

theorem State.setEpCfg_strobeKept (s : State) (e : EpId) (w : Word) : StrobeKept s (s.setEpCfg e w) := by
  unfold State.setEpCfg
  dsimp only
  split
  · exact StrobeKept.trans (t := (s.setDevReg (0x1000 + 8 * e.toNat) w).updEp e fun _ => {}) ⟨rfl⟩ (State.judgeFill_strobeKept _ e)
  split
  · exact ⟨rfl⟩
  · exact StrobeKept.trans (t := s.setDevReg (0x1000 + 8 * e.toNat) w) ⟨rfl⟩ (State.judgeFill_strobeKept _ e)

theorem State.applyEpSilence_strobeKept (s : State) (l : List EpId) : StrobeKept s (s.forAll l fun e s => s.applyAt (.dev (0x1200 + 8 * e.toNat))) :=
  .forAll l (fun e s => s.applyAt_strobeKept (.dev (0x1200 + 8 * e.toNat))) s

theorem State.setEps_strobeKept (s : State) (l : List (EpId × Word)) : StrobeKept s (s.forAll l fun x s => s.setEpCfg x.1 x.2) :=
  .forAll l (fun x s => s.setEpCfg_strobeKept x.1 x.2) s

theorem State.strobeEps_strobeKept (s : State) : StrobeKept s s.strobeEps := by
  unfold State.strobeEps
  exact (s.setEps_strobeKept _).trans (State.applyEpSilence_strobeKept _ allEps)

theorem State.updChan_strobeKept (s : State) (c : ChanId) (f : Chan → Chan) : StrobeKept s (s.updChan c f) := ⟨rfl⟩

theorem State.applyLb_strobeKept (s : State) : StrobeKept s s.applyLb := by
  unfold State.applyLb
  split
  · have hall : StrobeKept s ([0x2000, 0x2010, 0x2018].foldl (fun s p => s.applyAt (.dev p)) s) := .forAll _ (fun p s => s.applyAt_strobeKept (.dev p)) s
    exact hall.trans ⟨rfl⟩
  · exact ⟨rfl⟩

theorem State.strobeLinks_strobeKept (s : State) : StrobeKept s s.strobeLinks := by
  have hlist (s : State) (l : List Nat) (f : Nat → Nat) : StrobeKept s (s.forAll l fun i s => s.applyAt (.dev (f i))) := .forAll _ (fun _ s => s.applyAt_strobeKept _) s
  unfold State.strobeLinks
  dsimp only
  refine StrobeKept.trans (t := if _ then _ else _) ?_ (.forAll _ (fun n s => hlist s _ fun p => p) _)
  split
  · exact (hlist s _ fun i => 0x1800 + 8 * i).trans (State.applyAt_strobeKept _ _)
  · exact hlist s _ fun i => 0x1800 + 8 * i

theorem State.strobeDev_strobeKept (s : State) (g : Nat) : StrobeKept s (s.strobeDev g) := by
  have hplaces (l : List Nat) (s : State) : StrobeKept s (s.forAll l fun p s => s.applyAt (.dev p)) := .forAll _ (fun p s => s.applyAt_strobeKept _) s
  have hend (t : State) (b : Bool) (p : Prop) [Decidable p] (f k : PageCtl → PageCtl) : StrobeKept t
      (if b then (if p then t.updCtl .device k else t) else (if p then t.updCtl .device k else t).updCtl .device f) := by
    (repeat' split) <;> exact ⟨rfl⟩
  unfold State.strobeDev
  dsimp only
  refine StrobeKept.trans ?_ (hend _ _ _ _ _)
  split
  · refine .forAll _ (fun p t => ?_) s
    split
    · exact .refl t
    · exact t.applyAt_strobeKept _
  · exact s.strobePins_strobeKept
  · exact (s.strobeLinks_strobeKept.trans (State.strobeEps_strobeKept _)).trans (State.applyLb_strobeKept _)
  · split
    · exact hplaces _ s
    · exact (hplaces _ s).trans ⟨rfl⟩
  · exact hplaces _ s

theorem State.strobeSlot_strobeKept (s : State) (t : TenantId) (c : ChanId) : StrobeKept s (s.strobeSlot t c) := by
  unfold State.strobeSlot
  dsimp only
  refine StrobeKept.trans ?_ (State.updChan_strobeKept _ c _)
  exact .forAll _ (fun p s => s.applyAt_strobeKept (.chan t c p)) s

theorem State.strobe_strobeKept (s : State) (page : Page) (groups : BitVec 16) : StrobeKept s (s.strobe page groups) := by
  unfold State.strobe
  split
  · exact .refl s
  have href : StrobeKept s (s.applyRef page) := by
    cases page with
    | device => exact s.applyAt_strobeKept (.dev 0x60)
    | tenant t => exact s.applyAt_strobeKept (.ten t 0x60)
  have hone := href.trans (State.updCtl_strobeKept _ page fun c => { c with disturbed := true })
  cases page with
  | device => exact hone.trans (.forAll _ (fun g t => t.strobeDev_strobeKept g) _)
  | tenant t =>
    refine StrobeKept.trans ?_ (.forAll _ (fun c s => s.strobeSlot_strobeKept t c) _)
    split
    · exact (hone.trans (.forAll _ (fun p s => s.applyAt_strobeKept _) _)).trans (State.updCtl_strobeKept _ _ _)
    · exact hone

theorem State.applyPast_strobeKept (s : State) (page : Page) (stepped : Tick) : StrobeKept s (s.applyPast page stepped) := by
  unfold State.applyPast
  split
  · split
    · exact (s.updCtl_strobeKept page _).trans (State.strobe_strobeKept _ page _)
    · exact .refl s
  · exact .refl s

end

/-! ### Long commands that end (R223) -/

section
variable {s t u : State}

/-- Of the state that `Kept` speaks of, only the list of long commands changed. -/
structure LongOnly (s t : State) : Prop where
  kept : Kept { s with long := t.long } t

theorem Kept.longOnly (h : Kept s t) : LongOnly s t := ⟨{ h with long := rfl }⟩

theorem LongOnly.trans (h : LongOnly s t) (k : LongOnly t u) : LongOnly s u := by
  have hu : Kept { s with long := u.long } { t with long := u.long } := { h.kept with long := rfl }
  exact ⟨hu.trans k.kept⟩

theorem State.finishLong_longOnly (s : State) (l : LongCmd) (a : Reply) (result : List Byte) : LongOnly s (s.finishLong l a result) := by
  have hlist : LongOnly s { s with long := s.long.filter fun x => x.order != l.order } := ⟨.refl _⟩
  have hone := hlist.trans (State.complete_kept { s with long := s.long.filter fun x => x.order != l.order } l.ref ((nth l.dw.toList 0 0).truncate 8) a result).longOnly
  exact State.forAll_induction (P := LongOnly s) l.aborts hone fun x t ht => ht.trans (t.complete_kept x.1 0x7E { dw2 := x.2 } []).longOnly

end

/-! ### The time base steps (R62, R65, R67) -/

section
variable (s : State)

theorem State.missStrobe_tb (n : BitVec 3) : (s.missStrobe n).tb = s.tb := (State.note_kept ..).tb

theorem State.missSysref_tb (stepped : Tick) : (s.missSysref stepped).tb = s.tb := by
  unfold State.missSysref
  split
  · rfl
  · split
    · exact (State.note_kept (s.setDevReg 0x1850 ((s.devReg 0x1850 &&& ~~~(1 : Word)) ||| (1 <<< 8))) ..).tb
    · rfl

theorem State.endProposal_tb (expired : Bool) : (s.endProposal expired).tb = s.tb := by
  unfold State.endProposal
  split
  · rfl
  · exact (State.note_kept ..).tb.trans (State.raiseSm_kept ..).tb

/-- No proposal is held once it has ended. -/
theorem State.endProposal_held (expired : Bool) : (s.endProposal expired).prot.held = none := by
  cases h : s.prot.held with
  | none => rw [State.endProposal, h]; exact h
  | some x => rw [s.endProposal_prot expired h]

theorem State.missStrobes_tb (l : List (BitVec 3)) : (s.forAll l fun n s => s.missStrobe n).tb = s.tb :=
  State.forAll_induction (P := fun t => t.tb = s.tb) l rfl fun n t ht => (t.missStrobe_tb n).trans ht

theorem State.applyPasts_tb (l : List Page) (stepped : Tick) : (s.forAll l fun p s => s.applyPast p stepped).tb = s.tb := by
  have h : StrobeKept s (s.forAll l fun p s => s.applyPast p stepped) := .forAll l (fun p s => s.applyPast_strobeKept p stepped) s
  rw [h.frame]

/-- The time base of a step: at the value, valid and without slew; its fraction and trim stay (log entry 17). -/
theorem State.stepTime_tb (value vernier : Tick) : (s.stepTime value vernier).tb =
    { (s.shiftSpans (value - s.now)).tb.endSlew with time := value, refTime := value, timeValid := true, uncertain := true, atPps := none, strobeDue := Tbl.fill 3 none } := by
  unfold State.stepTime
  dsimp only
  rw [State.endProposal_tb, State.applyPasts_tb, State.missSysref_tb, State.missStrobes_tb, (State.note_kept ..).tb]
  rfl

theorem State.stepTime_held (value vernier : Tick) : (s.stepTime value vernier).prot.held = none := by
  unfold State.stepTime
  simp only [State.endProposal_held]

theorem State.stepTime_fields (value vernier : Tick) :
    (s.stepTime value vernier).tb.time = value ∧ (s.stepTime value vernier).tb.timeValid = true ∧ (s.stepTime value vernier).tb.slewLeft = 0 ∧
      (s.stepTime value vernier).tb.slewRate = 0 ∧ (s.stepTime value vernier).tb.acc = s.tb.acc ∧ (s.stepTime value vernier).tb.trim = s.tb.trim := by
  rw [s.stepTime_tb value vernier]
  exact ⟨rfl, rfl, rfl, rfl, rfl, rfl⟩

/-- A later TIME_SET ends the waits of earlier ones and leaves the time, the channels and the proposal. -/
theorem State.endTimeSets_fields : s.endTimeSets.tb = { s.tb with atPps := none } ∧ s.endTimeSets.chans = s.chans := by
  have h : LongOnly s (s.forAll s.timeSets fun l s => s.finishLong l { status := 0x15, dw3 := 3 } []) :=
    State.forAll_induction (P := LongOnly s) _ (Kept.refl s).longOnly fun l t ht => ht.trans (t.finishLong_longOnly l _ _)
  refine ⟨?_, h.kept.chans⟩
  show { (s.forAll s.timeSets fun l s => s.finishLong l { status := 0x15, dw3 := 3 } []).tb with atPps := none } = _
  rw [h.kept.tb]

end

/-! ### The words of a list of bytes -/

theorem ofLeBytes_leBytes (n x : Nat) : ofLeBytes (leBytes n x) = x % 256 ^ n := by
  induction n generalizing x with
  | zero => simp [leBytes, ofLeBytes, Nat.mod_one]
  | succ n ih =>
    rw [leBytes, ofLeBytes, ih, BitVec.toNat_ofNat, show 256 ^ (n + 1) = 256 * 256 ^ n from Nat.pow_succ', Nat.mod_mul]

theorem leBytes_word (d : Dword) : BitVec.ofNat 32 (ofLeBytes (leBytes 4 d.toNat)) = d := by
  rw [ofLeBytes_leBytes, Nat.mod_eq_of_lt (by exact d.isLt), BitVec.ofNat_toNat, BitVec.setWidth_eq]

/-- The first two words of bytes that spell dwords. -/
theorem firstWords_dwordBytes (a b : Dword) (l : List Dword) : firstWords (dwordBytes (a :: b :: l)) = (a, b) := by
  have hbytes : dwordBytes (a :: b :: l) = leBytes 4 a.toNat ++ (leBytes 4 b.toNat ++ dwordBytes l) := rfl
  have htake (d : Dword) (m : List Byte) : (leBytes 4 d.toNat ++ m).take 4 = leBytes 4 d.toNat := List.take_left' (leBytes_length 4 d.toNat)
  have hdrop : (leBytes 4 a.toNat ++ (leBytes 4 b.toNat ++ dwordBytes l)).drop 4 = leBytes 4 b.toNat ++ dwordBytes l := List.drop_left' (leBytes_length 4 a.toNat)
  rw [firstWords, hbytes, dwordAt, dwordAt, Nat.mul_zero, List.drop_zero, htake, Nat.mul_one, hdrop, htake, leBytes_word, leBytes_word]

/-! ### TIME_ADJUST and TRACE_CONFIG (R871, R874) -/

section
variable (s : State) (c : Cmd)

/-- The time base as TIME_ADJUST leaves it (R874). -/
def TimeBase.adjusted (t : TimeBase) (c : Cmd) : TimeBase :=
  let t1 := if bitAt (c.dw 2) 0 then { t with trim := c.dw 3 } else t
  if bitAt (c.dw 2) 1 then { t1 with slewRate := c.dw 6, slewNeg := decide ((c.q 4).toInt < 0), slewLeft := (c.q 4).toInt.natAbs * 2 ^ 40 } else t1

theorem runTimeAdjust_eq : ∃ w : State, runTimeAdjust c s = w.answer c { dw2 := s.tb.trim } ∧ w.tb = s.tb.adjusted c ∧ Kept { s with tb := w.tb } w := by
  have hstate : (if bitAt (c.dw 2) 1 then (if bitAt (c.dw 2) 0 then s.updTb fun t => { t with trim := c.dw 3 } else s).updTb fun t =>
        { t with slewRate := c.dw 6, slewNeg := decide ((c.q 4).toInt < 0), slewLeft := (c.q 4).toInt.natAbs * 2 ^ 40 }
      else (if bitAt (c.dw 2) 0 then s.updTb fun t => { t with trim := c.dw 3 } else s)) = { s with tb := s.tb.adjusted c } := by
    unfold TimeBase.adjusted
    (repeat' split) <;> rfl
  have hkept := State.note_kept ({ s with tb := s.tb.adjusted c } : State) 9 0x91 none none (s.tb.adjusted c).trim
  refine ⟨({ s with tb := s.tb.adjusted c } : State).note 9 0x91 none none (s.tb.adjusted c).trim, ?_, hkept.tb, ?_⟩
  · unfold runTimeAdjust
    dsimp only
    rw [hstate]
  · rw [hkept.tb]
    exact hkept

theorem runTraceConfig_eq : ∃ w : State, runTraceConfig c s = w.answer c { dw2 := lo32 (s.devReg 0xBC0 ||| mandatoryClasses), dw3 := hi32 (s.devReg 0xBC0 ||| mandatoryClasses) } ∧
    w.dev.regs.look (BitVec.ofNat 11 (0xBC0 / 8)) = Staged.both (c.q 4 ||| mandatoryClasses) ∧ w = { s with dev := w.dev } := by
  have hreg : (s.setDevBoth 0xBC0 (c.q 4 ||| mandatoryClasses)).dev.regs.look (BitVec.ofNat 11 (0xBC0 / 8)) = Staged.both (c.q 4 ||| mandatoryClasses) :=
    Tbl.look_put_same _ _ _
  refine ⟨_, rfl, ?_⟩
  unfold State.settleGroup
  split
  · exact ⟨hreg, rfl⟩
  · exact ⟨hreg, rfl⟩

end

/-- Settles O22. -/
theorem timeAndTraceCommands : Obligations.TimeAndTraceCommands := by
  intro p s c u
  have hk := s.takeOff_kept p
  have htb : u.tb = s.tb := hk.tb
  have hnow : u.now = s.now := congrArg TimeBase.time htb
  refine ⟨fun h => ⟨fun himm => ?_, fun hpps => ?_⟩, fun h => ?_, fun h => ?_, fun h => ?_, fun h => ?_⟩
  · have hheld := u.endTimeSets.stepTime_held (c.q 4) 0
    obtain ⟨htime, hvalid, hleft, hrate, hacc, htrim⟩ := u.endTimeSets.stepTime_fields (c.q 4) 0
    have hrun : runTimeSet c u = (u.endTimeSets.stepTime (c.q 4) 0).answer c { dw2 := lo32 s.now, dw3 := hi32 s.now } := by
      rw [← hnow]
      exact if_neg (by rw [himm]; exact Bool.false_ne_true)
    rw [(State.endTimeSets_fields u).1, htb] at hacc htrim
    exact ⟨_, (serve_runs h).trans (congrArg _ hrun), htime, hvalid, hleft, hrate, hacc, htrim, hheld⟩
  · obtain ⟨htb', hchans⟩ := u.endTimeSets_fields
    have hrun : runTimeSet c u = (u.endTimeSets.startLong c).updTb fun t => { t with atPps := some { value := c.q 4, armedAt := u.now, deadline := u.tb.refclkCount + atPpsPeriods } } := if_pos hpps
    refine ⟨_, (serve_runs h).trans (congrArg _ hrun), ⟨_, List.getLast?_concat, rfl⟩, ⟨_, rfl, rfl, ?_⟩, ?_, hchans.trans hk.chans⟩
    · show u.tb.refclkCount + atPpsPeriods = _
      rw [htb]
      rfl
    · show u.endTimeSets.tb.time = _
      rw [htb', htb]
  · obtain ⟨w, hrun, hw, hkept⟩ := runTimeAdjust_eq u c
    refine ⟨w, (serve_runs h).trans (congrArg _ (htb ▸ hrun)), ?_⟩
    rw [hw, htb]
    have hbase : Kept { s with tb := w.tb } { u with tb := w.tb } := { hk with tb := rfl }
    have hframe : Kept { s with tb := w.tb } w := hbase.trans hkept
    refine ⟨?_, fun h1 => ?_, fun h1 => ?_, ?_, ?_⟩
    · unfold TimeBase.adjusted
      (repeat' split) <;> rfl
    · unfold TimeBase.adjusted
      rw [if_pos h1]
      exact ⟨rfl, rfl, rfl⟩
    · unfold TimeBase.adjusted
      rw [if_neg (by rw [h1]; exact Bool.false_ne_true)]
      (repeat' split) <;> exact ⟨rfl, rfl⟩
    · unfold TimeBase.adjusted
      (repeat' split) <;> rfl
    · rw [← htb, ← hw]
      exact hframe
  · refine ⟨_, rfl, (serve_runs h).trans (congrArg _ ?_)⟩
    rw [runTimeCapture, firstWords_dwordBytes]
  · obtain ⟨w, hrun, hreg, hframe⟩ := runTraceConfig_eq u c
    have hold : u.devReg 0xBC0 = s.devReg 0xBC0 := by rw [State.devReg, hk.dev, State.devReg]
    rw [hold] at hrun
    refine ⟨w, _, (serve_runs h).trans (congrArg _ hrun), rfl, hreg, ?_⟩
    rw [hframe]
    exact { hk with dev := rfl }
  · exact ⟨_, serve_runs h, State.startBulk_last .., rfl, hk.chans, hk.tb⟩

end Sys2Proof.Machine
end

section
/-! PROOF. What reads leave; proposals; the commands of an upgrade (O23). -/

namespace Sys2Proof.Machine

/-! ### What a read of Wing SRAM or DRAM leaves (R531, R542) -/

/-- Reads report what they find; they change neither channels nor the configuration. -/
structure ReadKept (s t : State) : Prop where
  chans : t.chans = s.chans
  cues : t.cues = s.cues
  acts : t.acts = s.acts
  prot : t.prot = s.prot
  tb : t.tb = s.tb
  boot : t.boot = s.boot
  long : t.long = s.long
  order : t.order = s.order
  props : t.props = s.props

section
variable {s t u : State}

theorem ReadKept.refl (s : State) : ReadKept s s := ⟨rfl, rfl, rfl, rfl, rfl, rfl, rfl, rfl, rfl⟩

theorem ReadKept.trans (h : ReadKept s t) (k : ReadKept t u) : ReadKept s u :=
  ⟨k.chans.trans h.chans, k.cues.trans h.cues, k.acts.trans h.acts, k.prot.trans h.prot, k.tb.trans h.tb, k.boot.trans h.boot, k.long.trans h.long,
    k.order.trans h.order, k.props.trans h.props⟩

theorem Kept.readKept (h : Kept s t) : ReadKept s t := ⟨h.chans, h.cues, h.acts, h.prot, h.tb, h.boot, h.long, h.order, h.props⟩

theorem State.logMem_readKept (s : State) (kind memory : Nat) (addr : Addr) (source : Nat) (res : CodeResult) : ReadKept s (s.logMem kind memory addr source res) := by
  unfold State.logMem
  dsimp only
  split
  · refine ReadKept.trans ?_ (State.note_kept ..).readKept
    exact ⟨rfl, rfl, rfl, rfl, rfl, rfl, rfl, rfl, rfl⟩
  · exact ⟨rfl, rfl, rfl, rfl, rfl, rfl, rfl, rfl, rfl⟩

theorem State.raiseHouse_readKept (s : State) (bit : Nat) : ReadKept s (s.raiseHouse bit) := ⟨rfl, rfl, rfl, rfl, rfl, rfl, rfl, rfl, rfl⟩

theorem State.memUe_readKept (s : State) : ReadKept s s.memUe := (s.raiseSm_kept 19).readKept.trans (State.raiseHouse_readKept _ 3)

theorem State.reportBad_readKept (s : State) (kind memory : Nat) (addr : Addr) (source : Nat) (res : CodeResult) :
    ReadKept s (s.logMem kind memory addr source res).memUe := (s.logMem_readKept ..).trans (State.memUe_readKept _)

theorem State.poisonLine_readKept (s : State) (line : Nat) : ReadKept s (s.poisonLine line) := by
  unfold State.poisonLine
  dsimp only
  (repeat' split) <;> exact ⟨rfl, rfl, rfl, rfl, rfl, rfl, rfl, rfl, rfl⟩

theorem State.foundBadLine_readKept (s : State) (kind line source : Nat) : ReadKept s (s.foundBadLine kind line source) :=
  (s.reportBad_readKept ..).trans (State.poisonLine_readKept _ _)

theorem State.takeStored_readKept (s : State) (word : Nat) (e : Ecc) : ReadKept s (s.takeStored word e) := by
  unfold State.takeStored
  split
  · refine State.forAll_induction (P := ReadKept s) _ (.refl s) fun i t ht => ht.trans ?_
    dsimp only
    split
    · split
      · exact .refl t
      · exact ⟨rfl, rfl, rfl, rfl, rfl, rfl, rfl, rfl, rfl⟩
    · exact .refl t
  · exact .refl s

theorem State.load_readKept (s : State) (a : Addr) (len : Nat) (ecc : Ecc) (source : Nat) (report : Bool) : ReadKept s (s.load a len ecc source report).1 := by
  have hreport {p : Prop} [Decidable p] {v w : State} (hv : ReadKept s v) (hw : ReadKept v w) : ReadKept s (if p then w else v) := by
    split
    · exact hv.trans hw
    · exact hv
  unfold State.load
  dsimp only
  split
  · have hstored : ReadKept s (if report then s.takeStored (offOf a / 8) ecc else s) := hreport (.refl s) (s.takeStored_readKept _ _)
    generalize (if report then s.takeStored (offOf a / 8) ecc else s) = v at hstored ⊢
    split
    · have hbad : ReadKept s { v with guard := { v.guard with wingBad := v.guard.wingBad ++ (eccLanes (eccAt ecc false (offOf a / 8))).map fun i => offOf a / 8 * 8 + i } } :=
        hstored.trans ⟨rfl, rfl, rfl, rfl, rfl, rfl, rfl, rfl, rfl⟩
      exact hreport hbad (State.reportBad_readKept ..)
    · split
      · exact hreport hstored (State.reportBad_readKept ..)
      · split
        · exact hstored
        · exact hreport hstored (State.logMem_readKept ..)
  · split
    · exact hreport (.refl s) (State.reportBad_readKept ..)
    · split
      · exact .refl s
      · exact hreport (.refl s) (State.foundBadLine_readKept ..)
      · exact hreport (.refl s) (State.logMem_readKept ..)

theorem State.readBody_readKept (s : State) (c : Cmd) (a : Addr) (len : Nat) : ReadKept s (s.readBody c a len).1 := by
  unfold State.readBody
  split
  · exact .refl s
  · split
    · exact .refl s
    · split
      · have hload := s.load_readKept a len .clean srcPrompter true
        split
        · next heq => rw [heq] at hload; exact hload
        · next heq => rw [heq] at hload; exact hload
      · dsimp only
        split <;> exact .refl s

end

/-! ### Proposals (R198, R199) -/

section
variable {s : State} {c : Cmd}

/-- Expiry of a proposal leaves the channels, the memories of patches and the windows of countersigning. -/
theorem State.endProposal_boot (s : State) (expired : Bool) : (s.endProposal expired).boot = s.boot := by
  unfold State.endProposal
  split
  · rfl
  · exact (State.note_boot ..).trans (State.raiseSm_boot ..)

theorem State.expireBefore_boot (s : State) (stamp : Tick) : (s.expireBefore stamp).boot = s.boot := by
  unfold State.expireBefore
  split
  · split
    · exact s.endProposal_boot true
    · rfl
  · rfl

/-- What a proposal that is held says (R198). -/
theorem State.holdProposal_held (s : State) (c : Cmd) (patch : Bool) (set : BitVec 16) (body : List Byte) : ∃ h : Proposal,
    let r := s.holdProposal c patch set body
    r.1.prot = { s.prot with held := some h } ∧ r.2 = (h.nonce, h.digest) ∧ r.1.boot = s.boot ∧ h.nonce ≠ 0 ∧ h.digest = crc32c body ∧ h.body = body ∧
      h.byHouse = c.isHouse ∧ h.patch = patch ∧ h.patchSet = set ∧ h.stamp = c.stamp ∧
      h.expiry = c.stamp + BitVec.ofNat 64 (38400 * (s.prot.windowAt c.stamp).toNat) := by
  have hnonce : s.freeNonce ≠ 0 := by
    unfold State.freeNonce
    dsimp only
    split
    · decide
    · assumption
  let h : Proposal :=
    { byHouse := c.isHouse, patch := patch, body := body, patchSet := set, nonce := s.freeNonce, digest := crc32c body, stamp := c.stamp,
      expiry := c.stamp + BitVec.ofNat 64 (38400 * (s.prot.windowAt c.stamp).toNat) }
  refine ⟨h, ?_, rfl, ?_, hnonce, rfl, rfl, rfl, rfl, rfl, rfl, rfl⟩
  · unfold State.holdProposal
    dsimp only
    rw [State.note_prot]
    split
    · rw [State.raiseSm_prot]
    · rfl
  · unfold State.holdProposal
    dsimp only
    rw [State.note_boot]
    split
    · rw [State.raiseSm_boot]
      rfl
    · rfl

end

/-! ### PATCH_STAGE (R637, R638) -/

theorem runPatchStage_failed {c : Cmd} {u v : State} {bytes : List Byte} {r : Reply} (h : u.readBody c (c.q 6) (c.f 4 16 0) = (v, bytes, some r)) :
    runPatchStage c u = v.answer c r := by
  rw [runPatchStage, h]

/-- A chunk that was read enters service with its bytes, and its slot is being written. -/
theorem runPatchStage_read {c : Cmd} {u v : State} {bytes : List Byte} (h : u.readBody c (c.q 6) (c.f 4 16 0) = (v, bytes, none)) :
    let t := runPatchStage c u
    (∃ l : LongCmd, t.long.getLast? = some l ∧ l.ref = c.ref ∧ l.body = bytes.take (c.f 4 16 0)) ∧
      (t.boot.patches.look (BitVec.ofNat 4 (c.f 2 3 0))).state = .writing ∧ t.prot = v.prot ∧ t.chans = v.chans := by
  intro t
  let s2 := v.updPatch (c.f 2 3 0) fun x => if x.state = .writing then x else { state := .writing }
  have ht : t = { s2.startLong c with long := (s2.startLong c).long.map fun l => if l.order = s2.order then { l with body := bytes.take (c.f 4 16 0) } else l } := by
    show runPatchStage c u = _
    rw [runPatchStage, h]
  rw [ht]
  refine ⟨?_, ?_, rfl, rfl⟩
  · have hlast : (s2.startLong c).long.getLast? = some { ref := c.ref, dw := c.p.dw, body := c.p.body.bytes, order := s2.order, started := s2.now } := List.getLast?_concat
    refine ⟨_, (List.getLast?_map ..).trans (congrArg _ hlast), ?_, ?_⟩
    · show (if s2.order = s2.order then _ else _ : LongCmd).ref = _
      rw [if_pos rfl]
    · show (if s2.order = s2.order then _ else _ : LongCmd).body = _
      rw [if_pos rfl]
  · show ((v.boot.patches.upd (BitVec.ofNat 4 (c.f 2 3 0)) fun x => if x.state = .writing then x else { state := .writing }).look _).state = _
    rw [Tbl.look_upd_same]
    split
    · assumption
    · rfl

/-- Settles O23. -/
theorem upgradeCommands : Obligations.UpgradeCommands := by
  intro p s c u
  have hk := s.takeOff_kept p
  have hlong : u.long = s.long := hk.long
  have hboot : u.boot = s.boot := hk.boot
  refine ⟨fun h v bytes e hread => ⟨fun r he => ?_, fun he => ?_⟩, fun h => ?_, fun h => ?_, fun h => ?_, fun h => ?_, fun h => ?_⟩
  · subst he
    exact (serve_runs h).trans (congrArg _ (runPatchStage_failed hread))
  · subst he
    obtain ⟨hlast, hslot, hprot, hchans⟩ := runPatchStage_read hread
    have hv : ReadKept u v := by
      have := u.readBody_readKept c (c.q 6) (c.f 4 16 0)
      rw [hread] at this
      exact this
    exact ⟨_, serve_runs h, hlast, hslot, hprot.trans (hv.prot.trans hk.prot), hchans.trans (hv.chans.trans hk.chans)⟩
  · have hmap : (u.expireBefore c.stamp).prot.map = s.prot.map := (u.expireBefore_map_epoch c.stamp).1.trans (congrArg Protection.map hk.prot)
    have hboot' : (u.expireBefore c.stamp).boot = s.boot := (u.expireBefore_boot c.stamp).trans hboot
    by_cases hold : ((slotsOf ((c.dw 2).truncate 16)).any fun n =>
        decide (((u.expireBefore c.stamp).boot.patches.look (BitVec.ofNat 4 n)).headerVersion.toNat < (u.expireBefore c.stamp).boot.rollback.toNat)) = true
    · exact ⟨_, _, (serve_runs h).trans (congrArg _ (if_pos hold)), .inl rfl, hmap, hboot'⟩
    · obtain ⟨g, hprot, hwords, hb, -, -, -, -, hpatch, hset, -, -⟩ := (u.expireBefore c.stamp).holdProposal_held c true ((c.dw 2).truncate 16) ((u.expireBefore c.stamp).activation ((c.dw 2).truncate 16))
      refine ⟨_, _, (serve_runs h).trans (congrArg _ (if_neg hold)), .inr ⟨rfl, g, ?_, hpatch, hset, congrArg Prod.fst hwords, congrArg Prod.snd hwords⟩, ?_, hb.trans hboot'⟩
      · rw [hprot]
      · rw [hprot]
        exact hmap
  · refine ⟨_, rfl, (serve_runs h).trans (congrArg _ ?_)⟩
    have hset : u.runningSet = s.runningSet := by rw [State.runningSet, State.runningSet, hboot]
    rw [runPatchList, hset, hboot]
    rfl
  · refine ⟨_, serve_runs h, ⟨_, by rw [← hlong]; rfl, rfl⟩, ?_, ⟨_, rfl, rfl⟩, { hk with boot := rfl, long := rfl, order := rfl }⟩
    exact Tbl.look_put_same _ _ _
  · exact ⟨_, serve_runs h, ⟨_, by rw [← hlong]; rfl, rfl⟩, hk.withLong _ _⟩
  · have hrun : exec (.abortCommand p) s = .next (runAbortCommand c u) := serve_runs h
    refine ⟨_, hrun, ?_⟩
    intro src
    unfold runAbortCommand
    dsimp only
    cases hfind : (u.longOf src).find? fun l => decide (l.ref.tag.toNat = c.f 2 15 0) with
    | none => rfl
    | some l =>
      dsimp only
      cases habort : u.abortLong l with
      | some v => exact .inl ⟨v, rfl, rfl⟩
      | none =>
        refine .inr ⟨rfl, rfl, fun x hx ho => ?_⟩
        obtain ⟨y, -, rfl⟩ := List.mem_map.mp hx
        by_cases hy : y.order = l.order
        · simp [hy]
        · simp [hy] at ho

end Sys2Proof.Machine
end

section
/-! PROOF. PROTECT_PROPOSE and PROTECT_READ (O18). -/

namespace Sys2Proof.Machine

/-! ### PROTECT_PROPOSE and PROTECT_READ (R196 to R199, R858, R862) -/

section
variable {c : Cmd} {u v : State} {body : List Byte}

theorem runProtectPropose_failed {r : Reply} (h : (u.expireBefore c.stamp).readBody c (c.q 2) (c.f 4 11 0) = (v, body, some r)) :
    runProtectPropose c u = v.answer c r := by
  rw [runProtectPropose, h]

theorem runProtectPropose_read (h : (u.expireBefore c.stamp).readBody c (c.q 2) (c.f 4 11 0) = (v, body, none)) :
    runProtectPropose c u = v.propose c body := by
  rw [runProtectPropose, h]

theorem State.propose_length (h : body.length ≠ c.f 4 11 0 ∨ body.length ≠ bodyLength body) : v.propose c body = v.answer c { status := 0x09, dw3 := 16 } := if_pos h

/-- A body of the right length is held unless it has an error. -/
theorem State.propose_body (h1 : body.length = c.f 4 11 0) (h2 : body.length = bodyLength body) : v.propose c body =
    match v.bodyError body v.props.count.toNat (!v.committed) with
    | some off => v.answer c { status := 0x09, dw3 := BitVec.ofNat 32 (off + 2 ^ 28) }
    | none => (v.holdProposal c false 0 body).1.answer c
        { status := 0x02, dw2 := (v.holdProposal c false 0 body).2.1, dw3 := (v.holdProposal c false 0 body).2.2 } := by
  rw [State.propose, if_neg (by simp [h1.symm, h2.symm])] <;> rfl

/-- Expiry leaves the windows of countersigning (R199). -/
theorem State.expireBefore_windows (s : State) (stamp t : Tick) : (s.expireBefore stamp).prot.windowAt t = s.prot.windowAt t := by
  unfold State.expireBefore
  split
  · next h hh =>
    split
    · rw [s.endProposal_prot true hh]
      rfl
    · rfl
  · rfl

theorem State.expireBefore_chans (s : State) (stamp : Tick) : (s.expireBefore stamp).chans = s.chans := by
  unfold State.expireBefore
  split
  · split
    · exact s.endProposal_chans true
    · rfl
  · rfl

end

/-- Settles O18. -/
theorem proposeAndRead : Obligations.ProposeAndRead := by
  refine ⟨fun p s => ?_, fun p s => ?_⟩
  · intro c u h v body e hread
    have hrun : exec (.protectPropose p) s = .next (runProtectPropose c (s.takeOff p)) := serve_runs h
    have hv : v.prot = u.prot := by
      have := u.readBody_readKept c (c.q 2) (c.f 4 11 0)
      rw [hread] at this
      exact this.prot
    have hmap : v.prot.map = s.prot.map := by
      rw [hv, ← s.takeOff_prot p]
      exact ((s.takeOff p).expireBefore_map_epoch c.stamp).1
    have hwindow : v.prot.windowAt c.stamp = s.prot.windowAt c.stamp := by
      rw [hv, ← s.takeOff_prot p]
      exact (s.takeOff p).expireBefore_windows c.stamp c.stamp
    refine ⟨fun r he => ?_, fun he hlen => ?_, fun he h1 h2 => ?_⟩
    · subst he
      rw [hrun, runProtectPropose_failed hread]
    · subst he
      rw [hrun, runProtectPropose_read hread, State.propose_length hlen]
    · subst he
      rw [hrun, runProtectPropose_read hread, State.propose_body h1 h2]
      cases v.bodyError body v.props.count.toNat (!v.committed) with
      | some off => rfl
      | none =>
        obtain ⟨h, hprot, hwords, -, hnonce, hdigest, hbody, hby, hpatch, -, hstamp, hexpiry⟩ := v.holdProposal_held c false 0 body
        refine ⟨(v.holdProposal c false 0 body).1, h, ?_, by rw [hprot], hnonce, hdigest, hbody, hby, hpatch, hstamp, hwindow ▸ hexpiry, by rw [hprot]; exact hmap⟩
        dsimp only
        rw [hwords]
  · intro c h
    obtain ⟨hmap, hepoch⟩ := (s.takeOff p).expireBefore_map_epoch c.stamp
    rw [s.takeOff_prot p] at hmap hepoch
    refine ⟨(s.takeOff p).expireBefore c.stamp, hmap, hepoch, ((s.takeOff p).expireBefore_chans c.stamp).trans (s.takeOff_kept p).chans, ?_⟩
    rw [← hepoch]
    exact serve_runs h

end Sys2Proof.Machine
end

section
/-! PROOF. What answers leave of queues; the queue commands (O11). -/

namespace Sys2Proof.Machine

/-! ### What reports and stores leave of the tenants -/

/-- Of the tenants only T_IRQ_STATUS may have changed, and the completion writes that are out stay. -/
structure TenantsQuiet (s t : State) : Prop where
  cplWrites : t.cplWrites = s.cplWrites
  tenants : ∀ u, t.tenants.look u = { s.tenants.look u with regs := (t.tenants.look u).regs }
  regs : ∀ (u : TenantId) (i : BitVec 9), i ≠ 3 → (t.tenants.look u).regs.look i = (s.tenants.look u).regs.look i

section
variable {s t u : State}

theorem TenantsQuiet.of_eq (hw : t.cplWrites = s.cplWrites) (ht : t.tenants = s.tenants) : TenantsQuiet s t :=
  ⟨hw, fun u => by rw [ht], fun u i _ => by rw [ht]⟩

theorem TenantsQuiet.refl (s : State) : TenantsQuiet s s := .of_eq rfl rfl

theorem TenantsQuiet.trans (h : TenantsQuiet s t) (k : TenantsQuiet t u) : TenantsQuiet s u where
  cplWrites := k.cplWrites.trans h.cplWrites
  tenants v := (k.tenants v).trans (congrArg (fun n : Tenant => { n with regs := (u.tenants.look v).regs }) (h.tenants v))
  regs v i hi := (k.regs v i hi).trans (h.regs v i hi)

theorem TenantsQuiet.forAll {α : Type} {f : α → State → State} (l : List α) (hf : ∀ x s, TenantsQuiet s (f x s)) (s : State) : TenantsQuiet s (s.forAll l f) :=
  State.forAll_induction (P := TenantsQuiet s) l (.refl s) fun x t ht => ht.trans (hf x t)

theorem State.note_quiet (s : State) (cls event : Nat) (t : Option TenantId) (c : Option ChanId) (d : Dword) : TenantsQuiet s (s.note cls event t c d) := by
  obtain ⟨pw, tr, h⟩ := s.note_eq cls event t c d
  rw [h]
  exact .of_eq rfl rfl

theorem State.sendEntry_quiet (s : State) (p : HostPort) (i : BitVec 8) : TenantsQuiet s (s.sendEntry p i) := by
  unfold State.sendEntry
  dsimp only
  split
  · exact .of_eq rfl rfl
  · cases p <;> exact .of_eq rfl rfl

theorem State.sendVector_quiet (s : State) (t : TenantId) (v : Nat) : TenantsQuiet s (s.sendVector t v) := by
  unfold State.sendVector
  dsimp only
  split
  · exact s.sendEntry_quiet _ _
  · exact .refl s

theorem State.sendVectors_quiet (s : State) (t : TenantId) (vs : List Byte) : TenantsQuiet s (s.sendVectors t vs) :=
  .forAll vs (fun v s => s.sendVector_quiet t v.toNat) s

theorem State.setIrq_quiet (s : State) (t : TenantId) (x : Word) : TenantsQuiet s (s.setTenReg t 0x18 x) where
  cplWrites := rfl
  tenants v := by
    by_cases h : t = v
    · subst h
      simp [State.setTenReg, State.updTenant]
    · simp [State.setTenReg, State.updTenant, Tbl.look_upd_other _ _ h]
  regs v i hi := by
    by_cases h : t = v
    · subst h
      simp only [State.setTenReg, State.updTenant, Tbl.look_upd_same]
      exact Tbl.look_upd_other _ _ (Ne.symm hi)
    · simp [State.setTenReg, State.updTenant, Tbl.look_upd_other _ _ h]

theorem State.raiseTenant_quiet (s : State) (t : TenantId) (bit : Nat) : TenantsQuiet s (s.raiseTenant t bit) := by
  unfold State.raiseTenant
  dsimp only
  split
  · exact (s.setIrq_quiet t _).trans (State.sendVector_quiet _ _ _)
  · exact s.setIrq_quiet t _

theorem State.raiseSm_quiet (s : State) (bit : Nat) : TenantsQuiet s (s.raiseSm bit) := by
  unfold State.raiseSm
  split
  · exact s.raiseTenant_quiet _ _
  · exact .refl s

theorem State.logMem_quiet (s : State) (kind memory : Nat) (addr : Addr) (source : Nat) (res : CodeResult) : TenantsQuiet s (s.logMem kind memory addr source res) := by
  unfold State.logMem
  dsimp only
  split
  · refine TenantsQuiet.trans ?_ (State.note_quiet ..)
    exact .of_eq rfl rfl
  · exact .of_eq rfl rfl

theorem State.raiseHouse_quiet (s : State) (bit : Nat) : TenantsQuiet s (s.raiseHouse bit) := .of_eq rfl rfl

theorem State.memUe_quiet (s : State) : TenantsQuiet s s.memUe := (s.raiseSm_quiet 19).trans (State.raiseHouse_quiet _ 3)

theorem State.poisonLine_quiet (s : State) (line : Nat) : TenantsQuiet s (s.poisonLine line) := by
  unfold State.poisonLine
  dsimp only
  (repeat' split) <;> exact .of_eq rfl rfl

theorem State.foundBadLine_quiet (s : State) (kind line source : Nat) : TenantsQuiet s (s.foundBadLine kind line source) :=
  ((s.logMem_quiet ..).trans (State.memUe_quiet _)).trans (State.poisonLine_quiet _ _)

theorem State.cleanLine_quiet (s : State) (source line : Nat) : TenantsQuiet s (s.cleanLine source line) := by
  unfold State.cleanLine
  split
  · refine TenantsQuiet.trans ?_ (State.logMem_quiet ..)
    exact .of_eq rfl rfl
  · exact .refl s

theorem State.store_quiet (s : State) (a : Addr) (bs : List Byte) (ecc : Ecc) (source : Nat) : TenantsQuiet s (s.store a bs ecc source).1 := by
  have hwing (s : State) (off : Nat) : TenantsQuiet s (s.wingWrite off bs) := .of_eq rfl rfl
  have hdram (s : State) (off : Nat) : TenantsQuiet s (s.dramWrite off bs) := .of_eq rfl rfl
  have hclean (s : State) (lines : List Nat) (off : Nat) : TenantsQuiet s (s.forAll lines fun l s => if coversLine off bs.length l then s.cleanLine source l else s) := by
    refine .forAll lines (fun l s => ?_) s
    split
    · exact s.cleanLine_quiet _ _
    · exact .refl s
  unfold State.store
  dsimp only
  split
  · exact hwing s _
  · split
    · exact (s.logMem_quiet ..).trans (State.memUe_quiet _)
    · split
      · split
        · exact s.foundBadLine_quiet ..
        · exact (hclean s _ _).trans (hdram _ _)
        · exact ((s.logMem_quiet ..).trans (hclean _ _ _)).trans (hdram _ _)
      · refine TenantsQuiet.trans ?_ (hdram _ _)
        exact .forAll _ (fun l s => s.cleanLine_quiet source l) s

end

/-! ### Completions of commands touch admin CQs alone -/

/-- The work CQs of every tenant stay. -/
structure WorkCqsKept (s t : State) : Prop where
  cqs : ∀ (u : TenantId) (k : BitVec 6), k ≠ 0 → (t.tenants.look u).cqs.look k = (s.tenants.look u).cqs.look k

section
variable {s t u : State}

theorem WorkCqsKept.of_eq (h : t.tenants = s.tenants) : WorkCqsKept s t := ⟨fun u k _ => by rw [h]⟩

theorem WorkCqsKept.refl (s : State) : WorkCqsKept s s := .of_eq rfl

theorem WorkCqsKept.trans (h : WorkCqsKept s t) (k : WorkCqsKept t u) : WorkCqsKept s u := ⟨fun v j hj => (k.cqs v j hj).trans (h.cqs v j hj)⟩

theorem TenantsQuiet.workCqs (h : TenantsQuiet s t) : WorkCqsKept s t := ⟨fun u k _ => by rw [h.tenants u]⟩

theorem WorkCqsKept.withQuiet (h : WorkCqsKept s t) (k : TenantsQuiet t u) : WorkCqsKept s u := h.trans k.workCqs

theorem State.updTenant_workCqs (s : State) (t : TenantId) (f : Tenant → Tenant)
    (h : ∀ k : BitVec 6, k ≠ 0 → (f (s.tenants.look t)).cqs.look k = (s.tenants.look t).cqs.look k) : WorkCqsKept s (s.updTenant t f) := by
  refine ⟨fun u k hk => ?_⟩
  by_cases hu : t = u
  · subst hu
    rw [State.updTenant, Tbl.look_upd_same]
    exact h k hk
  · rw [State.updTenant, Tbl.look_upd_other _ _ hu]

theorem State.updAdminCq_workCqs (s : State) (t : TenantId) (f : CompQueue → CompQueue) : WorkCqsKept s (s.updCq t 0 f) :=
  s.updTenant_workCqs t _ fun _ hk => Tbl.look_upd_other _ _ (Ne.symm hk)

theorem State.setCplWrites_workCqs (s : State) (l : List CplWrite) : WorkCqsKept s { s with cplWrites := l } := .of_eq rfl

theorem State.faultAdminCq_workCqs (s : State) (t : TenantId) (cause : Nat) : WorkCqsKept s (s.faultCq t 0 cause) := by
  unfold State.faultCq
  dsimp only
  refine .withQuiet (.withQuiet ?_ (State.raiseTenant_quiet _ t 0)) (State.note_quiet ..)
  exact (s.setCplWrites_workCqs _).trans (State.updAdminCq_workCqs _ t _)

theorem State.issueAdminCpl_workCqs (s : State) {w : CplWrite} (h : w.cq = 0) : WorkCqsKept s (s.issueCpl w).1 := by
  unfold State.issueCpl
  dsimp only
  split
  · split
    · split
      · refine WorkCqsKept.trans ?_ (State.sendVectors_quiet ..).workCqs
        exact .of_eq rfl
      · exact .of_eq rfl
    · unfold State.cplFails
      split
      · exact .refl s
      · rw [h]
        exact s.faultAdminCq_workCqs _ _
  · split
    · refine WorkCqsKept.trans ?_ (State.sendVectors_quiet ..).workCqs
      exact .of_eq rfl
    · exact .refl s

theorem State.writeAdminCompletion_workCqs (s : State) (t : TenantId) (a : Addr) (bytes vs : List Byte) (c : Option ChanId) : WorkCqsKept s (s.writeCompletion t 0 a bytes vs c) := by
  unfold State.writeCompletion
  dsimp only
  split
  · exact s.setCplWrites_workCqs _
  · have h := s.issueAdminCpl_workCqs (w := { tenant := t, cq := 0, addr := a, bytes := bytes, vectors := vs, chan := c }) rfl
    split
    · next e => rw [e] at h; exact h.trans (State.setCplWrites_workCqs _ _)
    · next e => rw [e] at h; exact h

theorem State.putAdminCompletion_workCqs (s : State) (t : TenantId) (d : DueCompletion) : WorkCqsKept s (s.putCompletion t 0 d) := by
  unfold State.putCompletion
  dsimp only
  split
  · exact s.faultAdminCq_workCqs _ _
  · exact (s.updAdminCq_workCqs _ _).trans (State.writeAdminCompletion_workCqs _ _ _ _ _ _)

theorem State.postAdminCq_workCqs (s : State) (t : TenantId) (d : DueCompletion) : WorkCqsKept s (s.postCq t 0 d) := by
  unfold State.postCq
  dsimp only
  split
  · exact .refl s
  · split
    · exact s.putAdminCompletion_workCqs _ _
    · split
      · exact s.updAdminCq_workCqs _ _
      · refine .withQuiet (.withQuiet (.withQuiet ?_ (State.sendVector_quiet ..)) (State.raiseTenant_quiet _ t 1)) (State.note_quiet ..)
        exact s.updAdminCq_workCqs _ _

theorem State.adminFault_workCqs (s : State) (t : TenantId) : WorkCqsKept s (s.adminFault t) := by
  unfold State.adminFault
  split
  · exact .refl s
  · split
    · exact .refl s
    · refine WorkCqsKept.trans ?_ (State.postAdminCq_workCqs _ _ _)
      exact s.updTenant_workCqs t _ fun _ _ => rfl

theorem State.complete_workCqs (s : State) (r : CmdRef) (op : Byte) (a : Reply) (result : List Byte) : WorkCqsKept s (s.complete r op a result) := by
  unfold State.complete
  extract_lets s1
  have h : WorkCqsKept s s1 := by
    simp only [s1]
    split
    · exact .refl s
    · split
      · exact .refl s
      · exact (State.note_quiet ..).workCqs
  split
  · exact h.trans (.of_eq rfl)
  · refine ((h.trans ?_).trans (State.postAdminCq_workCqs _ _ _)).trans (State.adminFault_workCqs _ _)
    exact s1.updTenant_workCqs _ _ fun _ _ => rfl

theorem State.takeOff_workCqs (s : State) (p : Packet) : WorkCqsKept s (s.takeOff p) := by
  unfold State.takeOff
  split
  · exact .of_eq rfl
  · next t _ =>
    refine WorkCqsKept.trans (t := s.updSq t 0 SubQueue.advance) ?_ ?_
    · exact s.updTenant_workCqs _ _ fun _ _ => rfl
    · exact State.updTenant_workCqs _ _ _ fun _ _ => rfl

theorem State.takeOff_cplWrites (s : State) (p : Packet) : (s.takeOff p).cplWrites = s.cplWrites := by
  unfold State.takeOff
  split <;> rfl

end

/-! ### What the answer of a command leaves of queues and registers -/

/-- Of the queues of tenants the work queues stay, and of the registers all but T_IRQ_STATUS. -/
structure QueuesKept (s t : State) : Prop where
  sqs : ∀ (u : TenantId) (r : QueueId), r ≠ 0 → t.sq u r = s.sq u r
  cqs : ∀ (u : TenantId) (k : BitVec 6), k ≠ 0 → (t.tenants.look u).cqs.look k = (s.tenants.look u).cqs.look k
  regs : ∀ (u : TenantId) (i : BitVec 9), i ≠ 3 → (t.tenants.look u).regs.look i = (s.tenants.look u).regs.look i

section
variable {s t u : State}

theorem QueuesKept.trans (h : QueuesKept s t) (k : QueuesKept t u) : QueuesKept s u where
  sqs v r hr := (k.sqs v r hr).trans (h.sqs v r hr)
  cqs v j hj := (k.cqs v j hj).trans (h.cqs v j hj)
  regs v i hi := (k.regs v i hi).trans (h.regs v i hi)

theorem Kept.queues (h : Kept s t) (k : WorkCqsKept s t) : QueuesKept s t where
  sqs u r hr := (h.tenants u).sqs r hr
  cqs := k.cqs
  regs u i hi := (h.tenants u).regs i hi

theorem TenantsQuiet.queues (h : TenantsQuiet s t) : QueuesKept s t where
  sqs u r _ := by rw [State.sq, h.tenants u]; rfl
  cqs := h.workCqs.cqs
  regs := h.regs

theorem State.answer_queues (s : State) (c : Cmd) (r : Reply) : QueuesKept s (s.answer c r) := (s.answer_kept c r).queues (s.complete_workCqs ..)

theorem State.takeOff_queues (s : State) (p : Packet) : QueuesKept s (s.takeOff p) := (s.takeOff_kept p).queues (s.takeOff_workCqs p)

/-- The index of a CQ in its table. -/
theorem QueueId.truncate_ne_zero {r : QueueId} (h : r ≠ 0) (h32 : r.toNat ≤ 32) : (r.truncate 6 : BitVec 6) ≠ 0 := by
  intro he
  have : (r.truncate 6 : BitVec 6).toNat = 0 := by rw [he]; rfl
  rw [BitVec.truncate_eq_setWidth, BitVec.toNat_setWidth, Nat.mod_eq_of_lt (by omega)] at this
  exact h (BitVec.eq_of_toNat_eq this)

theorem QueuesKept.cq (h : QueuesKept s t) (u : TenantId) {r : QueueId} (hr : r ≠ 0) (h32 : r.toNat ≤ 32) : t.cq u r = s.cq u r :=
  h.cqs u _ (QueueId.truncate_ne_zero hr h32)

/-- A command row goes on in the state it had, in one in which its packet is answered, or with its own effect. -/
theorem serve_cases {spec : CmdSpec} {checks : Cmd → State → Checks} {run : Cmd → State → State} {p : Packet} (h : serve spec checks run p s = .next t) :
    t = s ∨ (∃ r, t = (s.takeOff p).answer (s.cmdOf p) r) ∨ (Serves spec checks p s ∧ t = run (s.cmdOf p) (s.takeOff p)) := by
  unfold serve at h
  dsimp only at h
  split at h
  · exact .inl (Host.Outcome.next.inj h).symm
  next htake =>
  split at h
  · split at h
    · exact .inl (Host.Outcome.next.inj h).symm
    · exact .inr (.inl ⟨_, (Host.Outcome.next.inj h).symm⟩)
  next hop =>
  split at h
  · exact .inr (.inl ⟨_, (Host.Outcome.next.inj h).symm⟩)
  next hjudge =>
  exact .inr (.inr ⟨⟨by simpa using htake, Decidable.not_not.mp hop, hjudge⟩, (Host.Outcome.next.inj h).symm⟩)

end

/-! ### Work queues made and deleted (R295 to R298, R826 to R828) -/

section
variable {s u : State} {t : TenantId}

/-- A number of a packet that lies in the range of a queue names that queue. -/
theorem queueNumber {n k : Nat} (h : (decide (n = 0) || decide (k < n)) = false) (hk : k < 128) : (BitVec.ofNat 7 n).toNat = n ∧ n ≠ 0 ∧ n ≤ k := by
  simp only [Bool.or_eq_false_iff, decide_eq_false_iff_not] at h
  exact ⟨Nat.mod_eq_of_lt (by omega), h.1, by omega⟩

theorem State.updSq_queues (q : QueueId) (f : SubQueue → SubQueue) (v : TenantId) (r : QueueId) :
    (¬ (t = v ∧ q = r) → (u.updSq t q f).sq v r = u.sq v r) ∧ (u.updSq t q f).cq v r = u.cq v r ∧ ((u.updSq t q f).tenants.look v).regs = (u.tenants.look v).regs := by
  refine ⟨fun h => by rw [State.sq_updSq, if_neg h], ?_, ?_⟩
  all_goals
    by_cases hv : t = v
    · subst hv
      simp [State.cq, State.updSq, State.updTenant]
    · simp [State.cq, State.updSq, State.updTenant, Tbl.look_upd_other _ _ hv]

theorem State.updCq_queues (q : QueueId) (f : CompQueue → CompQueue) (v : TenantId) (r : QueueId) :
    (¬ (t = v ∧ q.truncate 6 = r.truncate 6) → (u.updCq t q f).cq v r = u.cq v r) ∧ (u.updCq t q f).sq v r = u.sq v r ∧
      ((u.updCq t q f).tenants.look v).regs = (u.tenants.look v).regs := by
  refine ⟨fun h => by rw [State.cq_updCq, if_neg h], ?_, ?_⟩
  all_goals
    by_cases hv : t = v
    · subst hv
      simp [State.sq, State.updCq, State.updTenant]
    · simp [State.sq, State.updCq, State.updTenant, Tbl.look_upd_other _ _ hv]

/-- The writes of a ring are settled: none of it is left, and what landed changed nothing else of the tenants. -/
theorem State.settleRing_quiet (t : TenantId) (q : QueueId) :
    TenantsQuiet { u with cplWrites := u.cplWrites.filter fun w => !(w.tenant == t && w.cq == q) } (u.settleRing t q) := by
  refine .forAll _ (fun w s => ?_) _
  refine TenantsQuiet.trans ?_ (State.sendVectors_quiet ..)
  split
  · exact s.store_quiet ..
  · exact .refl s

theorem State.settleRing_none {t : TenantId} {q : QueueId} (h : ∀ x ∈ u.cplWrites, x.tenant = t → x.cq ≠ q) : u.settleRing t q = u := by
  have hno : ∀ x ∈ u.cplWrites, (x.tenant == t && x.cq == q) = false := by
    intro x hx
    simp only [Bool.and_eq_false_iff, beq_eq_false_iff_ne]
    by_cases ht : x.tenant = t
    · exact .inr (h x hx ht)
    · exact .inl ht
  have hmine : (u.cplWrites.filter fun w => w.tenant == t && w.cq == q) = [] := List.filter_eq_nil_iff.mpr fun x hx => by simp [hno x hx]
  have hrest : (u.cplWrites.filter fun w => !(w.tenant == t && w.cq == q)) = u.cplWrites := List.filter_eq_self.mpr fun x hx => by simp [hno x hx]
  rw [State.settleRing, hmine, hrest]
  rfl

/-- The rest of the state is what a frame of the tenants leaves. -/
theorem Kept.ofTenants {w : State} (h : Kept s u) (k : Kept { u with tenants := w.tenants } w) : Kept { s with tenants := w.tenants } w := by
  have hu : Kept { s with tenants := w.tenants } { u with tenants := w.tenants } := { h with tenants := fun _ => TenantKept.refl _ }
  exact hu.trans k

theorem Kept.anyTenants (h : Kept s u) : Kept { s with tenants := u.tenants } u := { h with tenants := fun _ => TenantKept.refl _ }

end

/-- Settles O11. -/
theorem queueCommands : Obligations.QueueCommands := by
  refine ⟨fun p s => ?_, fun p s t => ?_⟩
  · intro c u q
    refine ⟨fun h => ?_, fun h => ?_, fun h => ?_, fun h => ?_⟩
    · refine ⟨u.updSq c.target q fun _ => { state := .active, base := c.q 2, log2 := BitVec.ofNat 4 (c.f 4 3 0), phase := true, cq := BitVec.ofNat 6 (c.f 4 13 8), prefetch := BitVec.ofNat 3 (c.f 4 17 16) },
        serve_runs h, ?_, ?_⟩
      · rw [State.sq_updSq, if_pos ⟨rfl, rfl⟩]
      · rw [State.sq_updSq, if_pos ⟨rfl, rfl⟩]
    · refine ⟨u.updSq c.target q fun _ => {}, serve_runs h, rfl, ?_, ?_⟩
      · rw [State.sq_updSq, if_pos ⟨rfl, rfl⟩]
      · rw [State.sq_updSq, if_pos ⟨rfl, rfl⟩]
    · refine ⟨u.updCq c.target q fun _ => { state := .active, base := c.q 2, log2 := BitVec.ofNat 4 (c.f 4 3 0), phase := true, vector := BitVec.ofNat 8 (c.f 4 15 8) },
        serve_runs h, ?_, ?_⟩
      · rw [State.cq_updCq, if_pos ⟨rfl, rfl⟩]
      · rw [State.cq_updCq, if_pos ⟨rfl, rfl⟩]
    · refine ⟨(u.settleRing c.target q).updCq c.target q fun _ => {}, serve_runs h, rfl, ?_, fun x hx ht hq => ?_, fun hno => ?_⟩
      · rw [State.cq_updCq, if_pos ⟨rfl, rfl⟩]
      · have hwrites : ((u.settleRing c.target q).updCq c.target q fun _ => {}).cplWrites = _ := (u.settleRing_quiet c.target q).cplWrites
        rw [hwrites] at hx
        simp [ht, hq] at hx
      · rw [State.settleRing_none (by rw [s.takeOff_cplWrites p]; exact hno)]
  · intro other
    have hk := s.takeOff_kept p
    have hq := s.takeOff_queues p
    have hwork {w : State} (h : QueuesKept s w) : ∀ (u : TenantId) (r : QueueId), r ≠ 0 → (r.toNat ≤ 32 → w.cq u r = s.cq u r) ∧ w.sq u r = s.sq u r ∧
        ∀ i : BitVec 9, i ≠ 3 → (w.tenants.look u).regs.look i = (s.tenants.look u).regs.look i :=
      fun u r hr => ⟨h.cq u hr, h.sqs u r hr, h.regs u⟩
    have hsq (f : SubQueue → SubQueue) (r : Reply) : let w := ((s.takeOff p).updSq (s.cmdOf p).target (BitVec.ofNat 7 (s.cmdOf p).object) f).answer (s.cmdOf p) r
        Kept { s with tenants := w.tenants } w ∧ ∀ (u : TenantId) (r : QueueId), r ≠ 0 → (r.toNat ≤ 32 → w.cq u r = s.cq u r) ∧ (other u r → w.sq u r = s.sq u r) ∧
          ∀ i : BitVec 9, i ≠ 3 → (w.tenants.look u).regs.look i = (s.tenants.look u).regs.look i := by
      intro w
      have ha := State.answer_queues ((s.takeOff p).updSq (s.cmdOf p).target (BitVec.ofNat 7 (s.cmdOf p).object) f) (s.cmdOf p) r
      have hak := State.answer_kept ((s.takeOff p).updSq (s.cmdOf p).target (BitVec.ofNat 7 (s.cmdOf p).object) f) (s.cmdOf p) r
      refine ⟨hk.ofTenants { hak with tenants := fun _ => TenantKept.refl _ }, fun u r hr => ?_⟩
      obtain ⟨hsame, hcq, hregs⟩ := State.updSq_queues (u := s.takeOff p) (t := (s.cmdOf p).target) (BitVec.ofNat 7 (s.cmdOf p).object) f u r
      refine ⟨fun h32 => (ha.cq u hr h32).trans (hcq.trans (hq.cq u hr h32)), fun ho => (ha.sqs u r hr).trans ((hsame fun he => ?_).trans (hq.sqs u r hr)),
        fun i hi => (ha.regs u i hi).trans ((congrArg (fun x => x.look i) hregs).trans (hq.regs u i hi))⟩
      exact ho.elim (fun h => h he.1.symm) fun h => h he.2.symm
    have hnothing : Kept { s with tenants := s.tenants } s ∧ ∀ (u : TenantId) (r : QueueId), r ≠ 0 → (r.toNat ≤ 32 → s.cq u r = s.cq u r) ∧ s.sq u r = s.sq u r ∧
        ∀ i : BitVec 9, i ≠ 3 → (s.tenants.look u).regs.look i = (s.tenants.look u).regs.look i :=
      ⟨.refl s, fun _ _ _ => ⟨fun _ => rfl, rfl, fun _ _ => rfl⟩⟩
    have hanswer (r : Reply) : let w := (s.takeOff p).answer (s.cmdOf p) r
        Kept { s with tenants := w.tenants } w ∧ ∀ (u : TenantId) (r : QueueId), r ≠ 0 → (r.toNat ≤ 32 → w.cq u r = s.cq u r) ∧ w.sq u r = s.sq u r ∧
          ∀ i : BitVec 9, i ≠ 3 → (w.tenants.look u).regs.look i = (s.tenants.look u).regs.look i :=
      ⟨(hk.trans (State.answer_kept ..)).anyTenants, hwork (hq.trans (State.answer_queues ..))⟩
    refine ⟨fun h => ?_, fun h => ?_⟩
    · have hcases : t = s ∨ (∃ r, t = (s.takeOff p).answer (s.cmdOf p) r) ∨ ∃ f r, t = ((s.takeOff p).updSq (s.cmdOf p).target (BitVec.ofNat 7 (s.cmdOf p).object) f).answer (s.cmdOf p) r := by
        rcases h with h | h
        · exact (serve_cases h).imp_right fun h => h.imp_right fun h => ⟨_, _, h.2⟩
        · exact (serve_cases h).imp_right fun h => h.imp_right fun h => ⟨_, _, h.2⟩
      rcases hcases with rfl | ⟨r, rfl⟩ | ⟨f, r, rfl⟩
      · exact ⟨hnothing.1, fun u r hr => ⟨(hnothing.2 u r hr).1, fun _ => rfl, (hnothing.2 u r hr).2.2⟩⟩
      · exact ⟨(hanswer r).1, fun u q hr => ⟨((hanswer r).2 u q hr).1, fun _ => ((hanswer r).2 u q hr).2.1, ((hanswer r).2 u q hr).2.2⟩⟩
      · exact hsq f r
    · have hcq {v : State} (hv : QueuesKept s v) (hobj : (BitVec.ofNat 7 (s.cmdOf p).object : QueueId).toNat ≤ 32) (f : CompQueue → CompQueue) (r : Reply) :
          let w := (v.updCq (s.cmdOf p).target (BitVec.ofNat 7 (s.cmdOf p).object) f).answer (s.cmdOf p) r
          ∀ (u : TenantId) (r : QueueId), r ≠ 0 → w.sq u r = s.sq u r ∧ (r.toNat ≤ 32 → other u r → w.cq u r = s.cq u r) ∧
            ∀ i : BitVec 9, i ≠ 3 → (w.tenants.look u).regs.look i = (s.tenants.look u).regs.look i := by
        intro w u q hr
        have ha := State.answer_queues (v.updCq (s.cmdOf p).target (BitVec.ofNat 7 (s.cmdOf p).object) f) (s.cmdOf p) r
        obtain ⟨hsame, hsq, hregs⟩ := State.updCq_queues (u := v) (t := (s.cmdOf p).target) (BitVec.ofNat 7 (s.cmdOf p).object) f u q
        refine ⟨(ha.sqs u q hr).trans (hsq.trans (hv.sqs u q hr)), fun h32 ho => (ha.cq u hr h32).trans ((hsame fun he => ?_).trans (hv.cq u hr h32)),
          fun i hi => (ha.regs u i hi).trans ((congrArg (fun x => x.look i) hregs).trans (hv.regs u i hi))⟩
        have hnum := congrArg BitVec.toNat he.2
        simp only [BitVec.truncate_eq_setWidth, BitVec.toNat_setWidth] at hnum
        rw [Nat.mod_eq_of_lt (by omega), Nat.mod_eq_of_lt (by omega)] at hnum
        exact ho.elim (fun h => h he.1.symm) fun h => h (BitVec.eq_of_toNat_eq hnum.symm)
      have hframe {v : State} (hv : Kept s v) (f : CompQueue → CompQueue) (r : Reply) :
          let w := (v.updCq (s.cmdOf p).target (BitVec.ofNat 7 (s.cmdOf p).object) f).answer (s.cmdOf p) r
          Kept { s with tenants := w.tenants } w := by
        intro w
        have hak := State.answer_kept (v.updCq (s.cmdOf p).target (BitVec.ofNat 7 (s.cmdOf p).object) f) (s.cmdOf p) r
        exact hv.ofTenants { hak with tenants := fun _ => TenantKept.refl _ }
      have hswap {w : State} (h : ∀ (u : TenantId) (r : QueueId), r ≠ 0 → (r.toNat ≤ 32 → w.cq u r = s.cq u r) ∧ w.sq u r = s.sq u r ∧
          ∀ i : BitVec 9, i ≠ 3 → (w.tenants.look u).regs.look i = (s.tenants.look u).regs.look i) : ∀ (u : TenantId) (r : QueueId), r ≠ 0 → w.sq u r = s.sq u r ∧
          (r.toNat ≤ 32 → other u r → w.cq u r = s.cq u r) ∧ ∀ i : BitVec 9, i ≠ 3 → (w.tenants.look u).regs.look i = (s.tenants.look u).regs.look i :=
        fun u r hr => ⟨(h u r hr).2.1, fun h32 _ => (h u r hr).1 h32, (h u r hr).2.2⟩
      have hcreate (h : exec (.createCq p) s = .next t) : Kept { s with tenants := t.tenants } t ∧ ∀ (u : TenantId) (r : QueueId), r ≠ 0 → t.sq u r = s.sq u r ∧
          (r.toNat ≤ 32 → other u r → t.cq u r = s.cq u r) ∧ ∀ i : BitVec 9, i ≠ 3 → (t.tenants.look u).regs.look i = (s.tenants.look u).regs.look i := by
        rcases serve_cases h with rfl | ⟨r, rfl⟩ | ⟨hs, rfl⟩
        · exact ⟨hnothing.1, hswap hnothing.2⟩
        · exact ⟨(hanswer r).1, hswap (hanswer r).2⟩
        · obtain ⟨hn, -, h32⟩ := queueNumber ((Cmd.judge_none hs.passes).2.1 (6, _) List.mem_cons_self) (by decide)
          exact ⟨hframe hk _ _, hcq hq (by rw [hn]; exact h32) _ _⟩
      have hdelete (h : exec (.deleteCq p) s = .next t) : (s.cplWrites = [] → Kept { s with tenants := t.tenants } t) ∧ ∀ (u : TenantId) (r : QueueId), r ≠ 0 →
          t.sq u r = s.sq u r ∧ (r.toNat ≤ 32 → other u r → t.cq u r = s.cq u r) ∧
          ∀ i : BitVec 9, i ≠ 3 → (t.tenants.look u).regs.look i = (s.tenants.look u).regs.look i := by
        rcases serve_cases h with rfl | ⟨r, rfl⟩ | ⟨hs, rfl⟩
        · exact ⟨fun _ => hnothing.1, hswap hnothing.2⟩
        · exact ⟨fun _ => (hanswer r).1, hswap (hanswer r).2⟩
        · obtain ⟨hn, -, h32⟩ := queueNumber ((Cmd.judge_none hs.passes).2.1 (6, _) List.mem_cons_self) (by decide)
          refine ⟨fun hnone => ?_, hcq (hq.trans ?_) (by rw [hn]; exact h32) _ _⟩
          · have hsettle : (s.takeOff p).settleRing (s.cmdOf p).target (BitVec.ofNat 7 (s.cmdOf p).object) = s.takeOff p :=
              State.settleRing_none (by rw [s.takeOff_cplWrites p, hnone]; simp)
            rw [runDeleteCq, hsettle]
            exact hframe hk _ _
          · have hs := ((s.takeOff p).settleRing_quiet (s.cmdOf p).target (BitVec.ofNat 7 (s.cmdOf p).object)).queues
            exact ⟨hs.sqs, hs.cqs, hs.regs⟩
      refine ⟨fun hor => hor.elim (fun hc => (hcreate hc).1) fun hn => h.elim (fun hc => (hcreate hc).1) fun hd => (hdelete hd).1 hn, ?_⟩
      exact h.elim (fun hc => (hcreate hc).2) fun hd => (hdelete hd).2

end Sys2Proof.Machine
end

section
/-! PROOF. BIND_CHANNEL, UNBIND_CHANNEL and CHANNEL_CONFIG (O12). -/

namespace Sys2Proof.Machine

/-! ### A stagehand is assigned (R582) -/

section
variable (s : State) (c : ChanId)

/-- The assignment of a stagehand changes the channel's stagehand and the record of survivors. -/
theorem State.assignSh_fields (h : ShId) : ∃ e : ShId, (s.assignSh c h).chan c = { s.chan c with stagehand := h, effective := e } ∧
    (∀ d, d ≠ c → (s.assignSh c h).chan d = s.chan d) ∧
    s.assignSh c h = { s with chans := (s.assignSh c h).chans, health := (s.assignSh c h).health } := by
  have hone : ∀ d, d ≠ c → (s.updChan c fun n => { n with stagehand := h, effective := h }).chan d = s.chan d := fun d hd => State.chan_updChan_other _ _ (Ne.symm hd)
  unfold State.assignSh
  dsimp only
  split
  · exact ⟨h, State.chan_updChan_same .., hone, rfl⟩
  · split
    · exact ⟨h, State.chan_updChan_same .., hone, rfl⟩
    · next x _ =>
      refine ⟨x, ?_, fun d hd => (State.chan_updChan_other _ _ (Ne.symm hd)).trans (hone d hd), rfl⟩
      rw [State.chan_updChan_same]
      exact congrArg (fun n : Chan => { n with effective := x }) (State.chan_updChan_same s c _)

/-- A judged fill changes requests alone (R442). -/
theorem State.judgeFill_fields (e : EpId) : (∃ f : Bool, (s.judgeFill e).chan c = { s.chan c with fillReq := f }) ∧ ∃ x, s.judgeFill e = { s with chans := x } := by
  refine State.forAll_induction (P := fun t => (∃ f : Bool, t.chan c = { s.chan c with fillReq := f }) ∧ ∃ x, t = { s with chans := x }) _ ⟨⟨_, rfl⟩, _, rfl⟩ fun d t ht => ?_
  obtain ⟨⟨f, hchan⟩, x, rfl⟩ := ht
  refine ⟨?_, _, rfl⟩
  by_cases hd : d = c
  · subst hd
    rw [State.chan_updChan_same, hchan]
    exact ⟨_, rfl⟩
  · rw [State.chan_updChan_other _ _ hd, hchan]
    exact ⟨_, rfl⟩

/-- What a judgement of a pacer changes: the request of every channel, and the line level of the one. -/
structure PaceOnly (s : State) (c : ChanId) (t : State) : Prop where
  own : ∃ a l : Bool, t.chan c = { s.chan c with fillReq := a, lineLevel := l }
  other : ∀ d, d ≠ c → ∃ a : Bool, t.chan d = { s.chan d with fillReq := a }
  rest : ∃ x, t = { s with chans := x }

/-- Whatever sets the two fields of a pacer's request first, the judgement of a fill changes no more. -/
theorem State.judgeFill_paceOnly (f : Chan → Chan) (hf : ∀ n, ∃ a l : Bool, f n = { n with fillReq := a, lineLevel := l }) (t : State)
    (ht : t = if ((s.updChan c f).chan c).paceSrc = 1 then (s.updChan c f).judgeFill ((s.updChan c f).chan c).paceEp else s.updChan c f) :
    PaceOnly s c t := by
  obtain ⟨a, l, hone⟩ : ∃ a l : Bool, (s.updChan c f).chan c = { s.chan c with fillReq := a, lineLevel := l } := by
    rw [State.chan_updChan_same]
    exact hf _
  have hother (d : ChanId) (hd : d ≠ c) : (s.updChan c f).chan d = s.chan d := State.chan_updChan_other _ _ (Ne.symm hd)
  subst ht
  split
  · obtain ⟨⟨b, hchan⟩, x, hx⟩ := State.judgeFill_fields (s.updChan c f) c ((s.updChan c f).chan c).paceEp
    refine ⟨⟨b, l, ?_⟩, fun d hd => ?_, x, hx⟩
    · rw [hchan, hone]
    · obtain ⟨⟨b', hchan'⟩, -⟩ := State.judgeFill_fields (s.updChan c f) d ((s.updChan c f).chan c).paceEp
      exact ⟨b', by rw [hchan', hother d hd]⟩
  · exact ⟨⟨a, l, hone⟩, fun d hd => ⟨_, hother d hd⟩, _, rfl⟩

theorem State.refreshPace_paceOnly : PaceOnly s c (s.refreshPace c) := by
  unfold State.refreshPace
  dsimp only
  refine s.judgeFill_paceOnly c _ ?_ _ rfl
  exact fun n => ⟨false, _, rfl⟩

end

/-! ### CHANNEL_CONFIG (R831, R832) -/

/-- What CHANNEL_CONFIG makes of a channel, what it refreshes aside. -/
def Chan.configured (n : Chan) (c : Cmd) (e : ShId) : Chan :=
  let n1 : Chan := { n with stagehand := if c.changes 0 then BitVec.ofNat 4 (c.f 3 3 0) else n.stagehand, effective := e }
  let n2 := n1.configure c
  if c.changes 1 then { n2 with paceSrc := BitVec.ofNat 3 (c.f 3 10 8), pace := (c.q 4).truncate 34, paceTime := c.q 6 } else n2

section
variable (n : Chan) (c : Cmd)

theorem Chan.configure_keeps : (n.configure c).state = n.state ∧ (n.configure c).stagehand = n.stagehand ∧ (n.configure c).paceSrc = n.paceSrc ∧
    (n.configure c).pace = n.pace ∧ (n.configure c).paceTime = n.paceTime := by
  refine ⟨?_, ?_, ?_, ?_, ?_⟩
  · simp only [Chan.configure, Chan.setReg, apply_ite Chan.state, ite_self]
  · simp only [Chan.configure, Chan.setReg, apply_ite Chan.stagehand, ite_self]
  · simp only [Chan.configure, Chan.setReg, apply_ite Chan.paceSrc, ite_self]
  · simp only [Chan.configure, Chan.setReg, apply_ite Chan.pace, ite_self]
  · simp only [Chan.configure, Chan.setReg, apply_ite Chan.paceTime, ite_self]

theorem Chan.configure_sched : (n.configure c).priority = (if c.changes 0 then BitVec.ofNat 3 (c.f 3 6 4) else n.priority) ∧
    (n.configure c).lead = (if c.changes 0 then bitAt (c.dw 3) 7 else n.lead) := by
  constructor
  · simp only [Chan.configure, Chan.setReg, apply_ite Chan.priority, ite_self]
  · simp only [Chan.configure, Chan.setReg, apply_ite Chan.lead, ite_self]

theorem Chan.configure_act : (n.configure c).actEn = (if c.changes 2 then bitAt (c.dw 3) 11 else n.actEn) ∧
    (n.configure c).actSel = (if c.changes 2 then BitVec.ofNat 4 (c.f 3 15 12) else n.actSel) := by
  constructor
  · simp only [Chan.configure, Chan.setReg, apply_ite Chan.actEn, ite_self]
  · simp only [Chan.configure, Chan.setReg, apply_ite Chan.actSel, ite_self]

theorem Chan.configure_rest : (n.configure c).vector = (if c.changes 4 then BitVec.ofNat 8 (c.f 3 23 16) else n.vector) ∧
    (n.configure c).retryLimit = (if c.changes 5 then BitVec.ofNat 4 (c.f 3 27 24) else n.retryLimit) ∧
    (c.changes 3 = false → (n.configure c).regs = n.regs) := by
  refine ⟨?_, ?_, fun h => ?_⟩
  · simp only [Chan.configure, Chan.setReg, apply_ite Chan.vector, ite_self]
  · simp only [Chan.configure, Chan.setReg, apply_ite Chan.retryLimit, ite_self]
  · rw [Chan.configure, if_neg (Bool.eq_false_iff.mp h)]
    simp only [apply_ite Chan.regs, ite_self]

/-- RATE writes both copies of its registers (R832). -/
theorem Chan.configure_rate (h : c.changes 3 = true) : (n.configure c).regs.look 5 = Staged.both (c.q 8) ∧ (n.configure c).regs.look 6 = Staged.both (c.q 10) ∧
    (n.configure c).regs.look 7 = Staged.both (c.q 12) := by
  unfold Chan.configure
  dsimp only
  rw [if_pos h]
  simp [Chan.setReg, Tbl.look_put]

end


/-- The fields of a configured channel that CHANNEL_CONFIG writes together with the pacing. -/
theorem Chan.configured_pace (n : Chan) (c : Cmd) (e : ShId) :
    (n.configured c e).stagehand = (if c.changes 0 then BitVec.ofNat 4 (c.f 3 3 0) else n.stagehand) ∧
    (n.configured c e).paceSrc = (if c.changes 1 then BitVec.ofNat 3 (c.f 3 10 8) else n.paceSrc) ∧
    (n.configured c e).pace = (if c.changes 1 then (c.q 4).truncate 34 else n.pace) ∧
    (n.configured c e).paceTime = (if c.changes 1 then c.q 6 else n.paceTime) := by
  obtain ⟨-, hsh, hsrc, hpace, htime⟩ :=
    Chan.configure_keeps { n with stagehand := if c.changes 0 then BitVec.ofNat 4 (c.f 3 3 0) else n.stagehand, effective := e } c
  by_cases h1 : c.changes 1
  · simp only [Chan.configured, if_pos h1, and_true]
    exact hsh
  · simp only [Chan.configured, if_neg h1]
    exact ⟨hsh, hsrc, hpace, htime⟩

/-- All the others are those of the groups without it. -/
theorem Chan.configured_groups (n : Chan) (c : Cmd) (e : ShId) : ∃ m : Chan, m = { n with stagehand := m.stagehand, effective := e } ∧
    (n.configured c e).state = (m.configure c).state ∧ (n.configured c e).priority = (m.configure c).priority ∧ (n.configured c e).lead = (m.configure c).lead ∧
    (n.configured c e).actEn = (m.configure c).actEn ∧ (n.configured c e).actSel = (m.configure c).actSel ∧
    (n.configured c e).vector = (m.configure c).vector ∧ (n.configured c e).retryLimit = (m.configure c).retryLimit ∧
    (n.configured c e).regs = (m.configure c).regs := by
  refine ⟨{ n with stagehand := if c.changes 0 then BitVec.ofNat 4 (c.f 3 3 0) else n.stagehand, effective := e }, rfl, ?_⟩
  by_cases h1 : c.changes 1
  · simp only [Chan.configured, if_pos h1, and_self]
  · simp only [Chan.configured, if_neg h1, and_self]

/-! ### What the three commands leave -/

/-- A state that differs in channels, tenants and health alone. -/
structure BindOnly (s t : State) : Prop where
  rest : ∃ x y z, t = { s with chans := x, tenants := y, health := z }

section
variable {s t u : State}

theorem BindOnly.trans (h : BindOnly s t) (k : BindOnly t u) : BindOnly s u := by
  obtain ⟨_, _, _, rfl⟩ := h
  obtain ⟨_, _, _, rfl⟩ := k
  exact ⟨_, _, _, rfl⟩

theorem BindOnly.kept (h : BindOnly s t) (k : Kept u s) : Kept { u with chans := t.chans, tenants := t.tenants, health := t.health } t := by
  obtain ⟨_, _, _, rfl⟩ := h
  exact { k with chans := rfl, tenants := fun _ => TenantKept.refl _, health := rfl }

theorem State.assignSh_bindOnly (c : ChanId) (h : ShId) : BindOnly s (s.assignSh c h) := by
  obtain ⟨-, -, -, hrest⟩ := s.assignSh_fields c h
  rw [hrest]
  exact ⟨_, _, _, rfl⟩

/-- The disturbed pass of a tenant page is all that a change of its channels leaves there. -/
theorem State.disturb_tenant (s : State) (v : TenantId) : (s.disturb (.tenant v)).chans = s.chans ∧ (∀ r q, (s.disturb (.tenant v)).sq r q = s.sq r q) ∧
    BindOnly s (s.disturb (.tenant v)) := by
  refine ⟨rfl, fun r q => ?_, ⟨_, _, _, rfl⟩⟩
  by_cases hr : v = r
  · subst hr
    simp [State.sq, State.disturb, State.updCtl, State.updTenant]
  · simp [State.sq, State.disturb, State.updCtl, State.updTenant, Tbl.look_upd_other _ _ hr]

theorem State.settleDirty_fields (s : State) (v : TenantId) (c : ChanId) : (∃ d : Bool, (s.settleDirty v c).chan c = { s.chan c with dirty := d }) ∧
    BindOnly s (s.settleDirty v c) :=
  ⟨⟨_, State.chan_updChan_same ..⟩, ⟨_, _, _, rfl⟩⟩

end

theorem PaceOnly.bindOnly {s t : State} {c : ChanId} (h : PaceOnly s c t) : BindOnly s t := by
  obtain ⟨_, rfl⟩ := h.rest
  exact ⟨_, _, _, rfl⟩

/-- What a channel is after CHANNEL_CONFIG: its fields as configured, and of those refreshed some value. -/
theorem State.configChan_chan (s : State) (c : Cmd) : (∃ (e : ShId) (a l d : Bool), (s.configChan c).chan (c.chan s) =
      { (s.chan (c.chan s)).configured c e with fillReq := a, lineLevel := l, dirty := d }) ∧ BindOnly s (s.configChan c) := by
  generalize hch : c.chan s = ch
  obtain ⟨s1, hs1⟩ : ∃ s1, s1 = if c.changes 0 && BitVec.ofNat 4 (c.f 3 3 0) != (s.chan ch).stagehand then s.assignSh ch (BitVec.ofNat 4 (c.f 3 3 0)) else s := ⟨_, rfl⟩
  obtain ⟨⟨e, hone⟩, honly⟩ : (∃ e : ShId, s1.chan ch = { s.chan ch with
      stagehand := if c.changes 0 then BitVec.ofNat 4 (c.f 3 3 0) else (s.chan ch).stagehand, effective := e }) ∧ BindOnly s s1 := by
    rw [hs1]
    split
    · next h =>
      obtain ⟨e, hchan, -⟩ := s.assignSh_fields ch (BitVec.ofNat 4 (c.f 3 3 0))
      refine ⟨⟨e, ?_⟩, s.assignSh_bindOnly ch _⟩
      rw [hchan, if_pos (by simp_all)]
    · next h =>
      refine ⟨⟨(s.chan ch).effective, ?_⟩, ⟨_, _, _, rfl⟩⟩
      have hsame : (if c.changes 0 then BitVec.ofNat 4 (c.f 3 3 0) else (s.chan ch).stagehand) = (s.chan ch).stagehand := by
        split
        · simp_all
        · rfl
      rw [hsame]
  obtain ⟨s3, hs3⟩ : ∃ s3, s3 = if c.changes 1 then ((s1.updChan ch fun n => n.configure c).updChan ch fun n => { n with
      paceSrc := BitVec.ofNat 3 (c.f 3 10 8), pace := (c.q 4).truncate 34, paceTime := c.q 6 }).refreshPace ch else s1.updChan ch fun n => n.configure c := ⟨_, rfl⟩
  obtain ⟨⟨a, l, htwo⟩, honly'⟩ : (∃ a l : Bool, s3.chan ch = { (s.chan ch).configured c e with fillReq := a, lineLevel := l }) ∧ BindOnly s1 s3 := by
    rw [hs3]
    split
    · next h =>
      have hpace := State.refreshPace_paceOnly ((s1.updChan ch fun n => n.configure c).updChan ch fun n => { n with
        paceSrc := BitVec.ofNat 3 (c.f 3 10 8), pace := (c.q 4).truncate 34, paceTime := c.q 6 }) ch
      obtain ⟨a, l, hchan⟩ := hpace.own
      refine ⟨⟨a, l, ?_⟩, .trans ⟨_, _, _, rfl⟩ hpace.bindOnly⟩
      rw [hchan, State.chan_updChan_same, State.chan_updChan_same, hone, Chan.configured, if_pos h]
    · next h =>
      refine ⟨⟨((s.chan ch).configured c e).fillReq, ((s.chan ch).configured c e).lineLevel, ?_⟩, ⟨_, _, _, rfl⟩⟩
      rw [State.chan_updChan_same, hone, Chan.configured, if_neg h]
  have hcfg : s.configChan c = (s3.settleDirty c.target ch).disturb (.tenant c.target) := by
    rw [hs3, hs1, State.configChan, hch]
  obtain ⟨⟨d, hd⟩, honly''⟩ := s3.settleDirty_fields c.target ch
  obtain ⟨hchans, -, hlast⟩ := (s3.settleDirty c.target ch).disturb_tenant c.target
  rw [hcfg]
  refine ⟨⟨e, a, l, d, ?_⟩, honly.trans (honly'.trans (honly''.trans hlast))⟩
  have : ((s3.settleDirty c.target ch).disturb (.tenant c.target)).chan ch = (s3.settleDirty c.target ch).chan ch := congrArg (fun x => x.look ch) hchans
  rw [this, hd, htwo]

/-- BIND_CHANNEL: the channel as bound, with a stagehand of number 0; the queue, in QUEUE mode, bound to it. -/
theorem channelBound {p : Packet} {s : State} (h : Serves specBindChannel checksBindChannel p s) :
    let c := s.cmdOf p; let u := s.takeOff p; let ch := c.chan u
    ∃ w : State, exec (.bindChannel p) s = .next (w.answer c { dw2 := ch.zeroExtend 32 }) ∧
      (∃ e : ShId, w.chan ch = { (s.chan ch).bound c.bindMode (BitVec.ofNat 7 (c.f 2 14 8)) with stagehand := 0, effective := e }) ∧
      (c.bindMode = .queue → (w.sq c.target (BitVec.ofNat 7 (c.f 2 14 8))).slot = some ch) ∧
      (∀ d, d ≠ ch → w.chan d = s.chan d) ∧ BindOnly u w := by
  intro c u ch
  obtain ⟨s1, hs1⟩ : ∃ s1, s1 = (u.updChan ch fun n => n.bound c.bindMode (BitVec.ofNat 7 (c.f 2 14 8))).assignSh ch 0 := ⟨_, rfl⟩
  obtain ⟨s2, hs2⟩ : ∃ s2, s2 = if c.bindMode = .queue then s1.updSq c.target (BitVec.ofNat 7 (c.f 2 14 8)) fun x => { x with slot := some ch } else s1 := ⟨_, rfl⟩
  have hu : ∀ d, u.chan d = s.chan d := fun d => congrArg (fun x => x.look d) (s.takeOff_kept p).chans
  obtain ⟨e, hchan, hother, -⟩ := (u.updChan ch fun n => n.bound c.bindMode (BitVec.ofNat 7 (c.f 2 14 8))).assignSh_fields ch 0
  obtain ⟨hdchans, hdsq, hdonly⟩ := s2.disturb_tenant c.target
  have hsame : s2.chans = s1.chans ∧ BindOnly s1 s2 := by
    rw [hs2]
    split
    · exact ⟨rfl, ⟨_, _, _, rfl⟩⟩
    · exact ⟨rfl, ⟨_, _, _, rfl⟩⟩
  have hlook : ∀ d, (s2.disturb (.tenant c.target)).chan d = s1.chan d := fun d => congrArg (fun x => x.look d) (hdchans.trans hsame.1)
  refine ⟨s2.disturb (.tenant c.target), ?_, ⟨e, ?_⟩, fun hq => ?_, fun d hd => ?_, ?_⟩
  · refine (serve_runs h).trans ?_
    rw [hs2, hs1]
    rfl
  · rw [hlook, hs1, hchan, State.chan_updChan_same, hu]
  · rw [hdsq, hs2, if_pos hq, State.sq_updSq, if_pos ⟨rfl, rfl⟩]
  · rw [hlook, hs1, hother d hd, State.chan_updChan_other _ _ (Ne.symm hd), hu]
  · refine .trans ?_ (hsame.2.trans hdonly)
    rw [hs1]
    exact .trans ⟨_, _, _, rfl⟩ (State.assignSh_bindOnly ..)

/-- UNBIND_CHANNEL: the channel as unbound; its queue, in QUEUE mode, bound to none. -/
theorem channelUnbound {p : Packet} {s : State} (h : Serves specUnbindChannel checksUnbindChannel p s) :
    let c := s.cmdOf p; let u := s.takeOff p; let ch := c.chan u
    ∃ w : State, exec (.unbindChannel p) s = .next (w.answer c {}) ∧ w.chan ch = (s.chan ch).unbind ∧
      ((u.chan ch).mode = .queue → (w.sq c.target (u.chan ch).sq).slot = none) ∧
      (∀ d, d ≠ ch → w.chan d = s.chan d) ∧ ∃ x y, w = { u with chans := x, tenants := y } := by
  intro c u ch
  obtain ⟨s1, hs1⟩ : ∃ s1, s1 = if (u.chan ch).mode = .queue then u.updSq c.target (u.chan ch).sq fun x => { x with slot := none, entries := [] } else u := ⟨_, rfl⟩
  have hu : ∀ d, u.chan d = s.chan d := fun d => congrArg (fun x => x.look d) (s.takeOff_kept p).chans
  obtain ⟨hchans, y, hy⟩ : s1.chans = u.chans ∧ ∃ y, s1 = { u with tenants := y } := by
    rw [hs1]
    split
    · exact ⟨rfl, _, rfl⟩
    · exact ⟨rfl, _, rfl⟩
  have hlook : ∀ d, s1.chan d = s.chan d := fun d => (congrArg (fun x => x.look d) hchans).trans (hu d)
  refine ⟨s1.updChan ch Chan.unbind, ?_, ?_, fun hq => ?_, fun d hd => ?_, ?_⟩
  · refine (serve_runs h).trans ?_
    rw [hs1]
    rfl
  · rw [State.chan_updChan_same, hlook]
  · have hsq : (s1.updChan ch Chan.unbind).sq c.target (u.chan ch).sq = s1.sq c.target (u.chan ch).sq := rfl
    rw [hsq, hs1, if_pos hq, State.sq_updSq, if_pos ⟨rfl, rfl⟩]
  · rw [State.chan_updChan_other _ _ (Ne.symm hd), hlook]
  · rw [hy]
    exact ⟨_, _, rfl⟩

/-- Settles O12. -/
theorem channelBinding : Obligations.ChannelBinding := by
  refine ⟨fun p s => ?_, fun p s => ?_⟩
  · intro c u ch
    refine ⟨fun h => ?_, fun h => ?_⟩
    · obtain ⟨w, hexec, ⟨e, hchan⟩, hsq, hother, honly⟩ := channelBound h
      refine ⟨w, hexec, ?_, ?_, ?_, ?_, ?_, ?_, ?_, ?_, ?_, ?_, ?_, ?_, fun hq => ⟨?_, hsq hq⟩, hother, honly.kept (s.takeOff_kept p)⟩
      all_goals rw [hchan] <;> rfl
    · obtain ⟨w, hexec, hchan, hsq, hother, x, y, rfl⟩ := channelUnbound h
      refine ⟨_, hexec, ?_, ?_, ?_, ?_, ?_, ?_, ?_, ?_, ?_, ?_, hsq, hother, { s.takeOff_kept p with chans := rfl, tenants := fun _ => TenantKept.refl _ }⟩
      all_goals rw [hchan] <;> rfl
  · intro c u ch h
    obtain ⟨⟨e, a, l, d, hchan⟩, honly⟩ := u.configChan_chan c
    have hu : u.chan ch = s.chan ch := congrArg (fun x => x.look ch) (s.takeOff_kept p).chans
    have hmem : u.mem = s.mem := s.takeOff_mem p
    have hk := honly.kept (s.takeOff_kept p)
    obtain ⟨hsh, hsrc, hpace, htime⟩ := (s.chan ch).configured_pace c e
    obtain ⟨m, hm, hstate, hprio, hlead, hen, hsel, hvec, hretry, hregs⟩ := (s.chan ch).configured_groups c e
    obtain ⟨hprio', hlead'⟩ := m.configure_sched c
    obtain ⟨hen', hsel'⟩ := m.configure_act c
    obtain ⟨hvec', hretry', hregs'⟩ := m.configure_rest c
    rw [hu] at hchan
    refine ⟨u.configChan c, serve_runs h, ?_, ?_, ?_, ?_, ?_, ?_, ?_, ?_, ?_, ?_, ?_, fun h3 => ?_, fun h3 => ?_, hk.acts, hk.cues, hk.prot, hk.tb, ?_⟩
    · rw [hchan]
      exact hstate.trans ((m.configure_keeps c).1.trans (by rw [hm]))
    · rw [hchan]
      exact hprio.trans (hprio'.trans (by rw [hm]))
    · rw [hchan]
      exact hlead.trans (hlead'.trans (by rw [hm]))
    · rw [hchan]
      exact hsh
    · rw [hchan]
      exact hsrc
    · rw [hchan]
      exact hpace
    · rw [hchan]
      exact htime
    · rw [hchan]
      exact hen.trans (hen'.trans (by rw [hm]))
    · rw [hchan]
      exact hsel.trans (hsel'.trans (by rw [hm]))
    · rw [hchan]
      exact hvec.trans (hvec'.trans (by rw [hm]))
    · rw [hchan]
      exact hretry.trans (hretry'.trans (by rw [hm]))
    · obtain ⟨h5, h6, h7⟩ := m.configure_rate c h3
      rw [hchan]
      exact ⟨(congrArg (fun x => x.look 5) hregs).trans h5, (congrArg (fun x => x.look 6) hregs).trans h6, (congrArg (fun x => x.look 7) hregs).trans h7⟩
    · rw [hchan]
      exact hregs.trans ((hregs' h3).trans (by rw [hm]))
    · obtain ⟨_, _, _, hw⟩ := honly
      exact (congrArg State.mem hw).trans hmem

end Sys2Proof.Machine
end

section
/-! PROOF. CHANNEL_START to CHANNEL_STATUS (O13). -/

namespace Sys2Proof.Machine

/-! ### CHANNEL_STATUS (R837) -/

/-- The record of a channel holds 128 bytes. -/
theorem State.chanRecord_length (s : State) (c : ChanId) : (s.chanRecord c).length = 128 := by
  have hregs : ((s.chan c).script.a.toList.flatMap fun a => [lo32 a, hi32 a]).length = 8 := by
    rw [List.length_flatMap, show (fun a : Addr => [lo32 a, hi32 a].length) = fun _ => 2 from rfl, List.map_const', List.sum_replicate_nat, Vector.length_toList] <;> rfl
  rw [State.chanRecord, dwordBytes_length]
  simp only [List.length_append, hregs, Vector.length_toList]
  rfl

/-! ### Stops and resets (R457 to R464) -/

section
variable {s u : State}

/-- A stop command on a live channel enters service and marks the channel. -/
theorem State.requestStop_live {c : Cmd} (drain : Bool) (h : (u.chan (c.chan u)).live = true) : u.requestStop c drain =
    (u.startLong c).updChan (c.chan u) fun n => if drain then { n with drainPending := true } else { n with stopPending := true } := by
  rw [State.requestStop]
  simp only [h]
  rfl

theorem State.requestStop_idle {c : Cmd} (drain : Bool) (h : (u.chan (c.chan u)).live = false) : u.requestStop c drain = u.answer c { dw2 := u.chanReport (c.chan u) } := by
  rw [State.requestStop]
  simp only [h]
  rfl

/-- What a stop request of a live channel leaves. -/
theorem requestStop_fields {c : Cmd} (drain : Bool) (hk : Kept s u) (h : (u.chan (c.chan u)).live = true) :
    let t := u.requestStop c drain
    (∃ l : LongCmd, t.long = s.long ++ [l] ∧ l.ref = c.ref ∧ l.started = s.now) ∧
    (t.chan (c.chan u)).stopPending = (!drain || (s.chan (c.chan u)).stopPending) ∧
    (t.chan (c.chan u)).drainPending = (drain || (s.chan (c.chan u)).drainPending) ∧ (t.chan (c.chan u)).state = (s.chan (c.chan u)).state ∧
    (∀ d, d ≠ c.chan u → t.chan d = s.chan d) ∧ Kept { s with chans := t.chans, long := t.long, order := t.order } t := by
  intro t
  have ht : t = _ := State.requestStop_live drain h
  have hu : ∀ d, u.chan d = s.chan d := fun d => congrArg (fun x => x.look d) hk.chans
  have hown : t.chan (c.chan u) = if drain then { s.chan (c.chan u) with drainPending := true } else { s.chan (c.chan u) with stopPending := true } := by
    rw [ht, State.chan_updChan_same]
    exact congrArg (fun n : Chan => if drain then { n with drainPending := true } else { n with stopPending := true }) (hu _)
  refine ⟨?_, ?_, ?_, ?_, fun d hd => ?_, ?_⟩
  · obtain ⟨l, hl, href, hstart, -⟩ := State.startLong_long (u := u) c
    refine ⟨l, ?_, href, hstart.trans (congrArg TimeBase.time hk.tb)⟩
    rw [ht, ← hk.long]
    exact hl
  · rw [hown]
    cases drain <;> rfl
  · rw [hown]
    cases drain <;> rfl
  · rw [hown]
    cases drain <;> rfl
  · rw [ht, State.chan_updChan_other _ _ (Ne.symm hd)]
    exact hu d
  · rw [ht]
    exact { hk with chans := rfl, long := rfl, order := rfl }

/-- A cut channel has nothing in hand and waits for its proofs since now. -/
theorem State.cutChannel_chan (s : State) (c : ChanId) : let n := (s.cutChannel c).chan c
    n.work = none ∧ n.xfer = none ∧ n.armedWork = none ∧ n.reads = [] ∧ n.fetch = none ∧ n.wait = none ∧ n.after = some (.reset s.now) := by
  simp [State.cutChannel]

end

/-- Settles O13. -/
theorem channelControl : Obligations.ChannelControl := by
  intro p s c u ch
  have hk : Kept s u := s.takeOff_kept p
  refine ⟨fun h => ⟨_, rfl, serve_runs h⟩, fun drain h => ⟨u.requestStop c drain, ?_, ?_, State.requestStop_idle drain, requestStop_fields drain hk⟩, fun h => ?_, fun h => ?_⟩
  · rintro rfl
    exact serve_runs h
  · rintro rfl
    exact serve_runs h
  · intro v x
    obtain ⟨hwork, hxfer, harmed, hreads, hfetch, hwait, hafter⟩ := v.cutChannel_chan ch
    exact ⟨serve_runs h, hwork, hxfer, harmed, hreads, hfetch, hwait, hafter.trans (congrArg (fun tb : TimeBase => some (After.reset tb.time)) hk.tb)⟩
  · intro r
    exact ⟨u.chanRecord_length ch, serve_runs h⟩

end Sys2Proof.Machine
end

section
/-! PROOF. The cue, prop and act commands (O14). -/

namespace Sys2Proof.Machine

/-! ### The lowest that qualifies -/

/-- A search of the ascending indices finds the lowest that qualifies. -/
theorem find?_indices_least {w n : Nat} (hn : n ≤ 2 ^ w) {p : BitVec w → Bool} {q : BitVec w} (h : (indices w n).find? p = some q) :
    p q = true ∧ ∀ r : BitVec w, r.toNat < q.toNat → p r = false := by
  rw [indices, List.find?_map, Option.map_eq_some_iff] at h
  obtain ⟨i, hi, rfl⟩ := h
  obtain ⟨hp, hmem, hleast⟩ := List.find?_range_eq_some.mp hi
  have hlt : i < n := List.mem_range.mp hmem
  refine ⟨hp, fun r hr => ?_⟩
  rw [BitVec.toNat_ofNat, Nat.mod_eq_of_lt (by omega)] at hr
  have hfree := hleast r.toNat hr
  rw [Function.comp_apply, BitVec.ofNat_toNat, BitVec.setWidth_eq] at hfree
  simpa using hfree

theorem mem_indices {w : Nat} (x : BitVec w) : x ∈ indices w (2 ^ w) :=
  List.mem_map.mpr ⟨x.toNat, List.mem_range.mpr x.isLt, by simp⟩

theorem mem_actMask {c : Cmd} {a : ActId} : a ∈ c.actMask ↔ bitAt (c.dw 2) a.toNat = true := by
  exact List.mem_filter.trans (and_iff_right (mem_indices a))

/-- A mask that is gathered bit by bit holds exactly the members of the list. -/
theorem bitAt_gathered (l : List ActId) (m : Dword) (a : ActId) :
    bitAt (l.foldl (fun m a => m ||| ((1 : Dword) <<< a.toNat)) m) a.toNat = (bitAt m a.toNat || decide (a ∈ l)) := by
  induction l generalizing m with
  | nil => simp
  | cons b l ih =>
    have hb := b.isLt
    have ha := a.isLt
    have hone : bitAt (m ||| ((1 : Dword) <<< b.toNat)) a.toNat = (bitAt m a.toNat || decide (a = b)) := by
      have hab : a = b ↔ a.toNat = b.toNat := BitVec.toNat_inj.symm
      simp only [bitAt, BitVec.getLsbD_or, BitVec.getLsbD_shiftLeft, BitVec.getLsbD_one, hab]
      have h32 : a.toNat < 32 := by omega
      by_cases hlt : a.toNat < b.toNat
      · have : a.toNat ≠ b.toNat := by omega
        simp [hlt, this]
      · have hz : a.toNat - b.toNat = 0 ↔ a.toNat = b.toNat := by omega
        simp [hlt, h32, hz]
    rw [List.foldl_cons, ih, hone]
    simp [Bool.or_assoc]

/-! ### Acts (R94, R95) -/

section
variable (s : State) (l : List ActId)

/-- The start of acts, one after another: each as the present time gives its first period start. -/
theorem State.startActs_fields : ∃ x, s.forAll l (fun a s => s.startAct a) = { s with acts := x } ∧ ∀ a : ActId,
    (a ∈ l → (x.look a).running = true ∧ (x.look a).periodCount = 0 ∧ (x.look a).nextIndex = s.firstPeriod a ∧ (x.look a).nextStart = s.periodAt a (s.firstPeriod a)) ∧
    (a ∉ l → x.look a = s.acts.look a) := by
  induction l generalizing s with
  | nil => exact ⟨_, rfl, fun a => ⟨fun h => absurd h List.not_mem_nil, fun _ => rfl⟩⟩
  | cons b l ih =>
    obtain ⟨x, hx, hall⟩ := ih (s.startAct b)
    refine ⟨x, hx, fun a => ⟨fun ha => ?_, fun ha => ?_⟩⟩
    · by_cases hl : a ∈ l
      · exact (hall a).1 hl
      · obtain rfl : a = b := (List.mem_cons.mp ha).resolve_right hl
        rw [(hall a).2 hl]
        simp [State.startAct]
    · have hb : b ≠ a := fun h => ha (h ▸ List.mem_cons_self)
      rw [(hall a).2 fun h => ha (List.mem_cons_of_mem _ h)]
      exact Tbl.look_upd_other _ _ hb

/-- The stop of acts, one after another. -/
theorem State.stopActs_fields : ∃ x y z, s.forAll l (fun a s => s.stopAct a) = { s with acts := x, tb := y, tdm := z } ∧ ∀ a : ActId,
    (a ∈ l → (x.look a).running = false ∧ (x.look a).stopCause = 1 ∧ (x.look a).nextStart = 0) ∧ (a ∉ l → x.look a = s.acts.look a) := by
  induction l generalizing s with
  | nil => exact ⟨_, _, _, rfl, fun a => ⟨fun h => absurd h List.not_mem_nil, fun _ => rfl⟩⟩
  | cons b l ih =>
    obtain ⟨x, y, z, hx, hall⟩ := ih (s.stopAct b)
    refine ⟨x, y, z, hx, fun a => ⟨fun ha => ?_, fun ha => ?_⟩⟩
    · by_cases hl : a ∈ l
      · exact (hall a).1 hl
      · obtain rfl : a = b := (List.mem_cons.mp ha).resolve_right hl
        rw [(hall a).2 hl]
        simp [State.stopAct]
    · have hb : b ≠ a := fun h => ha (h ▸ List.mem_cons_self)
      rw [(hall a).2 fun h => ha (List.mem_cons_of_mem _ h)]
      exact Tbl.look_upd_other _ _ hb

end

/-! ### ACT_CONFIG (R843) -/

/-- A group of the device page that settles, and a disturbed pass, leave its registers. -/
theorem State.settledGroup_fields (s : State) (g : Nat) : ((s.settleGroup g).disturb .device).dev.regs = s.dev.regs ∧
    ∃ x, (s.settleGroup g).disturb .device = { s with dev := x } := by
  unfold State.settleGroup
  split
  · exact ⟨rfl, _, rfl⟩
  · exact ⟨rfl, _, rfl⟩

theorem actRegister (a : ActId) {k : Nat} (hk : k < 4) : (BitVec.ofNat 11 ((actBase a + 8 * k) / 8)).toNat = actBase a / 8 + k := by
  have ha := a.isLt
  rw [BitVec.toNat_ofNat, actBase]
  omega

/-! ### Cues (R839, R841) -/

section
variable {c : Cmd} {u : State} {n : Nat}

theorem runCueAlloc_eq {q : CueId} (hq : c.allocated u = some q) (hn : u.signalsNow q = n) : runCueAlloc c u =
    (u.setCue q fun _ => Cue.mk (satAdd (BitVec.ofNat 16 (c.f 4 15 0)) n) true
      (if bitAt (c.dw 3) 0 then u.physical c.target (c.f 3 14 8) else none)).answer c { dw2 := q.zeroExtend 32 } := by
  subst hn
  rw [runCueAlloc, hq]
  rfl

theorem runCueSet_eq {now : BitVec 16} (hnow : (u.cues.look c.cue).count = now) (hn : u.signalsNow c.cue = n) : runCueSet c u =
    (u.setCue c.cue fun x => { x with count := cueOp (c.f 3 1 0) now (c.f 4 15 0) n }).answer c
      { dw2 := (BitVec.ofNat 16 (now.toNat - n)).zeroExtend 32, dw3 := (cueOp (c.f 3 1 0) now (c.f 4 15 0) n).zeroExtend 32 } := by
  subst hnow hn
  rfl

/-- A cue without waiters that is set changes nothing else of the cues and channels. -/
theorem State.setCue_quiet {q : CueId} {f : Cue → Cue} (hw : (u.updCue q f).waitersOf q = []) : (u.setCue q f).cues = u.cues.put q (f (u.cues.look q)) ∧
    (u.setCue q f).chans = u.chans := by
  rw [State.setCue, hw, State.go_nil]
  exact ⟨rfl, rfl⟩

/-- The three operations of CUE_SET. -/
theorem cueOp_toNat (op : Nat) (now : BitVec 16) {v : Nat} (hv : v < 2 ^ 16) (n : Nat) : (op = 0 → (cueOp op now v n).toNat = min (v + n) 0xFFFF) ∧
    (op = 1 → (cueOp op now v n).toNat = min (now.toNat + v) 0xFFFF) ∧ (op = 2 → (cueOp op now v n).toNat = now.toNat - v) := by
  have hnow := now.isLt
  refine ⟨?_, ?_, ?_⟩
  · rintro rfl
    exact (satAdd_toNat _ n).trans (by rw [BitVec.toNat_ofNat, Nat.mod_eq_of_lt hv] <;> rfl)
  · rintro rfl
    exact satAdd_toNat now v
  · rintro rfl
    show (BitVec.ofNat 16 (now.toNat - v)).toNat = _
    rw [BitVec.toNat_ofNat, Nat.mod_eq_of_lt (by omega)]

end

/-- ACT_CONFIG writes both copies of the four registers of its act and nothing else of the page. -/
theorem runActConfig_eq (c : Cmd) (u : State) : let b := actBase (BitVec.ofNat 4 (c.f 2 3 0))
    ∃ w : State, runActConfig c u = w.answer c {} ∧ w.devReg b = c.q 4 ∧ w.devReg (b + 8) = c.q 6 ∧ w.devReg (b + 16) = c.q 8 ∧
      w.devReg (b + 24) = (c.dw 10).zeroExtend 64 ∧
      (∀ i : BitVec 11, (i.toNat < b / 8 ∨ b / 8 + 4 ≤ i.toNat) → w.dev.regs.look i = u.dev.regs.look i) ∧ ∃ x, w = { u with dev := x } := by
  intro b
  obtain ⟨v, hv⟩ : ∃ v : State, v = (((u.setDevBoth b (c.q 4)).setDevBoth (b + 8) (c.q 6)).setDevBoth (b + 0x10) (c.q 8)).setDevBoth (b + 0x18) ((c.dw 10).zeroExtend 64) := ⟨_, rfl⟩
  obtain ⟨w, hw⟩ : ∃ w : State, w = ((v.updCtl .device fun k => { k with actsPending := k.actsPending &&& ~~~((1 : BitVec 16) <<< c.f 2 3 0) }).settleGroup 1).disturb .device := ⟨_, rfl⟩
  obtain ⟨hsettled, x, hx⟩ := (v.updCtl .device fun k => { k with actsPending := k.actsPending &&& ~~~((1 : BitVec 16) <<< c.f 2 3 0) }).settledGroup_fields 1
  rw [← hw, State.updCtl_devRegs] at hsettled
  have hregs : w.dev.regs = v.dev.regs := hsettled
  rw [← hw] at hx
  have hlook : ∀ i : BitVec 11, w.dev.regs.look i =
      if i.toNat = b / 8 + 3 then Staged.both ((c.dw 10).zeroExtend 64) else if i.toNat = b / 8 + 2 then Staged.both (c.q 8) else
      if i.toNat = b / 8 + 1 then Staged.both (c.q 6) else if i.toNat = b / 8 then Staged.both (c.q 4) else u.dev.regs.look i := by
    intro i
    have h0 := actRegister (BitVec.ofNat 4 (c.f 2 3 0)) (k := 0) (by omega)
    have h1 := actRegister (BitVec.ofNat 4 (c.f 2 3 0)) (k := 1) (by omega)
    have h2 := actRegister (BitVec.ofNat 4 (c.f 2 3 0)) (k := 2) (by omega)
    have h3 := actRegister (BitVec.ofNat 4 (c.f 2 3 0)) (k := 3) (by omega)
    rw [hregs, hv]
    simp only [State.setDevBoth_dev, Tbl.look_put, ← BitVec.toNat_inj]
    simp only [Nat.mul_zero, Nat.add_zero, Nat.mul_one, Nat.reduceMul] at h0 h1 h2 h3
    simp only [b, h0, h1, h2, h3, eq_comm (b := i.toNat)]
  have hreg : ∀ k < 4, (BitVec.ofNat 11 ((b + 8 * k) / 8)).toNat = b / 8 + k := fun k hk => actRegister (BitVec.ofNat 4 (c.f 2 3 0)) hk
  refine ⟨w, ?_, ?_, ?_, ?_, ?_, fun i hi => ?_, x, ?_⟩
  · rw [hw, hv]
    rfl
  · have h := hreg 0 (by omega)
    rw [Nat.mul_zero, Nat.add_zero] at h
    rw [State.devReg, hlook, h]
    simp [Staged.both]
  · have h := hreg 1 (by omega)
    rw [Nat.mul_one] at h
    rw [State.devReg, hlook, h]
    simp [Staged.both]
  · have h := hreg 2 (by omega)
    rw [show 8 * 2 = 16 from rfl] at h
    rw [State.devReg, hlook, h]
    simp [Staged.both]
  · have h := hreg 3 (by omega)
    rw [show 8 * 3 = 24 from rfl] at h
    rw [State.devReg, hlook, h]
    simp [Staged.both]
  · rw [hlook, if_neg (by omega), if_neg (by omega), if_neg (by omega), if_neg (by omega)]
  · rw [hx, hv]
    rfl

/-- Settles O14. -/
theorem cueAndActCommands : Obligations.CueAndActCommands := by
  refine ⟨fun p s => ?_, fun p s => ?_⟩
  · intro c u
    have hk : Kept s u := s.takeOff_kept p
    have hsig : ∀ q, u.signalsNow q = s.signalsNow q := fun q => by rw [State.signalsNow, hk.edgeSignals, State.signalsNow]
    refine ⟨fun h => ?_, fun h => ?_, fun h => ?_, fun h => ?_⟩
    · obtain ⟨-, -, -, -, hres⟩ := Cmd.judge_none h.passes
      have hsome : (c.allocated u).isSome = true := by
        by_cases hany : bitAt (c.dw 2) 16
        · have := refuseIf_none ((if_pos hany).symm.trans hres)
          simpa using this
        · rw [Cmd.allocated, if_neg hany]
          rfl
      obtain ⟨q, hq⟩ := Option.isSome_iff_exists.mp hsome
      refine ⟨q, _, hq, rfl, fun hany => ?_, fun hany => ?_, _, (serve_runs h).trans (congrArg Host.Outcome.next (runCueAlloc_eq hq (hsig q))), rfl, fun hw => ?_⟩
      · rw [Cmd.allocated, hany] at hq
        exact (Option.some.inj hq).symm
      · rw [Cmd.allocated, if_pos hany] at hq
        obtain ⟨hfit, hleast⟩ := find?_indices_least (by decide) hq
        have hrec : c.record u = s.record c.target := by rw [Cmd.record, State.record, hk.prot, State.record]
        rw [hrec, hk.cues] at hfit
        simp only [Bool.and_eq_true, Bool.not_eq_true'] at hfit
        refine ⟨hfit.2, hfit.1, fun r hr hheld => ?_⟩
        have := hleast r hr
        rw [hrec, hk.cues, hheld] at this
        simpa using this
      · obtain ⟨hcues, hchans⟩ := State.setCue_quiet hw
        exact ⟨hcues.trans (congrArg (fun x : Tbl 10 Cue => x.put q _) hk.cues), hchans.trans hk.chans⟩
    · obtain ⟨-, hranges, -⟩ := Cmd.judge_none h.passes
      intro q now n v
      have hop : c.f 3 1 0 ≠ 3 := of_decide_eq_false (hranges (12, _) List.mem_cons_self)
      have hop4 : c.f 3 1 0 < 2 ^ 2 := field_lt ..
      have hnow := now.isLt
      obtain ⟨h0, h1, h2⟩ := cueOp_toNat (c.f 3 1 0) now (v := v) (field_lt ..) n
      refine ⟨_, _, _, (serve_runs h).trans (congrArg Host.Outcome.next (runCueSet_eq (now := now) (n := n) (congrArg (fun x : Tbl 10 Cue => (x.look q).count) hk.cues) (hsig q))),
        ?_, h0, h1, h2, by omega, rfl, fun hw => ?_⟩
      · rw [BitVec.toNat_ofNat, Nat.mod_eq_of_lt (by omega)]
      · obtain ⟨hcues, hchans⟩ := State.setCue_quiet hw
        exact ⟨hcues.trans (congrArg (fun x : Tbl 10 Cue => x.put q { x.look q with count := cueOp (c.f 3 1 0) now v n }) hk.cues), hchans.trans hk.chans⟩
    · intro q
      have hlook : u.cues.look q = s.cues.look q := congrArg (fun x : Tbl 10 Cue => x.look q) hk.cues
      refine ⟨if (u.cues.look q).allocated then u.updCue q fun _ => {} else u, ?_, ?_, ?_⟩
      · rw [← hlook]
        exact serve_runs h
      · rw [hlook]
        split
        · exact congrArg (fun x : Tbl 10 Cue => x.put q {}) hk.cues
        · exact hk.cues
      · split
        · exact { hk with cues := rfl }
        · exact { hk with cues := rfl }
    · exact ⟨_, serve_runs h, rfl, rfl, rfl, rfl, { hk with props := rfl }⟩
  · intro c
    have hk : Kept s (s.takeOff p) := s.takeOff_kept p
    refine ⟨fun h => ?_, fun h => ?_, fun h => ?_⟩
    · intro b
      obtain ⟨w, hw, h0, h1, h2, h3, hother, x, hx⟩ := runActConfig_eq c (s.takeOff p)
      refine ⟨w, (serve_runs h).trans (congrArg Host.Outcome.next hw), h0, h1, h2, h3, fun i hi => (hother i hi).trans (congrArg (fun d : DevPage => d.regs.look i) hk.dev), ?_⟩
      rw [hx]
      exact { hk with dev := rfl }
    · obtain ⟨x, hx, hall⟩ := State.startActs_fields (s.takeOff p) c.actMask
      have hdev : ∀ off, (s.takeOff p).devReg off = s.devReg off := fun off => congrArg (fun d : DevPage => (d.regs.look (BitVec.ofNat 11 (off / 8))).act) hk.dev
      have hnow : (s.takeOff p).now = s.now := congrArg TimeBase.time hk.tb
      have hat : ∀ a k, (s.takeOff p).periodAt a k = s.periodAt a k := fun a k => by simp only [State.periodAt, hdev]
      have hfirst : ∀ a, (s.takeOff p).firstPeriod a = s.firstPeriod a := fun a => by simp only [State.firstPeriod, hdev, hnow, hat]
      refine ⟨{ s.takeOff p with acts := x }, ?_, fun a ha => ?_, fun a ha => ?_, { hk with acts := rfl }⟩
      · refine (serve_runs h).trans (congrArg Host.Outcome.next ?_)
        rw [runActStart, hx, hnow]
      · rw [← hfirst, ← hat]
        exact (hall a).1 (mem_actMask.mpr ha)
      · exact ((hall a).2 fun hm => by rw [mem_actMask.mp hm] at ha; cases ha).trans (congrArg (fun x => x.look a) hk.acts)
    · obtain ⟨ran, hran⟩ : ∃ ran, ran = c.actMask.filter fun a => ((s.takeOff p).acts.look a).running := ⟨_, rfl⟩
      obtain ⟨x, y, z, hx, hall⟩ := State.stopActs_fields (s.takeOff p) ran
      have hmask : ∀ a : ActId, bitAt (ran.foldl (fun m a => m ||| ((1 : Dword) <<< a.toNat)) 0) a.toNat = decide (a ∈ ran) := fun a => by
        rw [bitAt_gathered]
        simp [bitAt]
      refine ⟨{ s.takeOff p with acts := x, tb := y, tdm := z }, ran.foldl (fun m a => m ||| ((1 : Dword) <<< a.toNat)) 0, ?_, fun a => ?_, fun a ha => ?_, fun a ha => ?_,
        { hk with acts := rfl, tb := rfl, tdm := rfl }⟩
      · refine (serve_runs h).trans (congrArg Host.Outcome.next ?_)
        rw [runActStop, ← hran, hx]
        rfl
      · rw [hmask, hran]
        simp [List.mem_filter, mem_actMask, hk.acts]
      · rw [hmask] at ha
        exact (hall a).1 (of_decide_eq_true ha)
      · rw [hmask] at ha
        exact ((hall a).2 (of_decide_eq_false ha)).trans (congrArg (fun x => x.look a) hk.acts)

end Sys2Proof.Machine
end

section
/-! PROOF. STREAM_CONFIG, LINK_UP, LINK_DOWN and PIN_ASSIGN (O15). -/

namespace Sys2Proof.Machine

/-! ### STREAM_CONFIG (R723, R852) -/

section
variable (s : State)

theorem State.judgeFill_dev (e : EpId) : (s.judgeFill e).dev = s.dev ∧ ∃ x, s.judgeFill e = { s with chans := x } := by
  obtain ⟨-, x, hx⟩ := s.judgeFill_fields 0 e
  exact ⟨by rw [hx], x, hx⟩

/-- A new EP_CFG changes its register, its endpoint and requests of its channels. -/
theorem State.setEpCfg_fields (e : EpId) (w : Word) : ∃ x y, s.setEpCfg e w = { s.setDevReg (0x1000 + 8 * e.toNat) w with eps := x, chans := y } := by
  unfold State.setEpCfg
  dsimp only
  split
  · obtain ⟨-, x, hx⟩ := ((s.setDevReg (0x1000 + 8 * e.toNat) w).updEp e fun _ => {}).judgeFill_dev e
    exact ⟨_, _, hx⟩
  · split
    · exact ⟨_, _, rfl⟩
    · obtain ⟨-, x, hx⟩ := (s.setDevReg (0x1000 + 8 * e.toNat) w).judgeFill_dev e
      exact ⟨_, _, hx⟩

theorem State.devReg_setDevBoth (a b : Nat) (x : Word) (h : BitVec.ofNat 11 (a / 8) ≠ BitVec.ofNat 11 (b / 8)) : (s.setDevBoth a x).devReg b = s.devReg b := by
  simp [State.devReg, Tbl.look_put_other _ _ h]

/-- The two registers of an endpoint stand at different places. -/
theorem epPlaces_ne (e : EpId) : BitVec.ofNat 11 ((0x1000 + 8 * e.toNat) / 8) ≠ BitVec.ofNat 11 ((0x1200 + 8 * e.toNat) / 8) := by
  intro h
  have he := e.isLt
  have := congrArg BitVec.toNat h
  rw [BitVec.toNat_ofNat, BitVec.toNat_ofNat] at this
  omega

end

/-- STREAM_CONFIG writes both copies of the registers it names. -/
theorem runStreamConfig_eq (c : Cmd) (u : State) : let e : EpId := BitVec.ofNat 6 (c.f 2 5 0)
    ∃ w : State, runStreamConfig c u = w.answer c { dw2 := BitVec.ofNat 32 (w.eps.look e).fifo.length } ∧
      w.epSilence e = (if bitAt (c.dw 2) 17 then c.q 6 else u.epSilence e) ∧ w.epCfg e = (if bitAt (c.dw 2) 16 then c.q 4 else u.epCfg e) ∧
      ∃ x y z, w = { u with dev := x, eps := y, chans := z } := by
  intro e
  have hne := epPlaces_ne e
  obtain ⟨s1, hs1⟩ : ∃ s1, s1 = if bitAt (c.dw 2) 17 then u.setDevBoth (0x1200 + 8 * e.toNat) (c.q 6) else u := ⟨_, rfl⟩
  obtain ⟨hsil, hcfg, x1, hx1⟩ : s1.epSilence e = (if bitAt (c.dw 2) 17 then c.q 6 else u.epSilence e) ∧ s1.epCfg e = u.epCfg e ∧ ∃ x, s1 = { u with dev := x } := by
    rw [hs1]
    split
    · exact ⟨State.devReg_setDevBoth_same .., State.devReg_setDevBoth _ _ _ _ hne.symm, _, rfl⟩
    · exact ⟨rfl, rfl, _, rfl⟩
  obtain ⟨s2, hs2⟩ : ∃ s2, s2 = if bitAt (c.dw 2) 16 then (s1.setEpCfg e (c.q 4)).setDevBoth (0x1000 + 8 * e.toNat) (c.q 4) else s1 := ⟨_, rfl⟩
  obtain ⟨hsil2, hcfg2, x2, y2, z2, hx2⟩ : s2.epSilence e = s1.epSilence e ∧ s2.epCfg e = (if bitAt (c.dw 2) 16 then c.q 4 else u.epCfg e) ∧
      ∃ x y z, s2 = { s1 with dev := x, eps := y, chans := z } := by
    rw [hs2]
    split
    · obtain ⟨y, z, hset⟩ := s1.setEpCfg_fields e (c.q 4)
      rw [hset]
      refine ⟨?_, State.devReg_setDevBoth_same .., _, _, _, rfl⟩
      exact (State.devReg_setDevBoth _ _ _ _ hne).trans (State.devReg_setDevReg _ _ _ _ hne)
    · exact ⟨rfl, hcfg, _, _, _, rfl⟩
  obtain ⟨hregs, x3, hx3⟩ := s2.settledGroup_fields 3
  have hreg : ∀ off, ((s2.settleGroup 3).disturb .device).devReg off = s2.devReg off := fun off => by rw [State.devReg, hregs, State.devReg]
  refine ⟨(s2.settleGroup 3).disturb .device, ?_, (hreg _).trans (hsil2.trans hsil), (hreg _).trans hcfg2, ?_⟩
  · rw [hs2, hs1]
    rfl
  · rw [hx3, hx2, hx1]
    exact ⟨_, _, _, rfl⟩

/-! ### Links (R706, R713) -/

section
variable (s : State) {i j : Nat}

theorem link_ne_of_ne (hi : i < 12) (hj : j < 12) (h : j ≠ i) (hside : i < 8 ↔ j < 8) :
    (j < 8 → (BitVec.ofNat 3 i : BitVec 3) ≠ BitVec.ofNat 3 j) ∧ (¬ j < 8 → (BitVec.ofNat 2 (i - 8) : BitVec 2) ≠ BitVec.ofNat 2 (j - 8)) := by
  refine ⟨fun hj8 he => ?_, fun hj8 he => ?_⟩
  · have := congrArg BitVec.toNat he
    rw [BitVec.toNat_ofNat, BitVec.toNat_ofNat] at this
    omega
  · have := congrArg BitVec.toNat he
    rw [BitVec.toNat_ofNat, BitVec.toNat_ofNat] at this
    omega

/-- The state of a link after it is set. -/
theorem State.linkState_setLink (x : LinkState) : (s.setLink i x).linkState i = x := by
  by_cases h : i < 8
  · simp [State.setLink, State.linkState, h]
  · simp [State.setLink, State.linkState, h]

/-- The other links keep theirs. -/
theorem State.linkState_setLink_other (x : LinkState) (hi : i < 12) (hj : j < 12) (h : j ≠ i) : (s.setLink i x).linkState j = s.linkState j := by
  by_cases hi8 : i < 8
  · by_cases hj8 : j < 8
    · have hne := (link_ne_of_ne hi hj h (by omega)).1 hj8
      simp [State.setLink, State.linkState, hi8, hj8, Tbl.look_upd_other _ _ hne]
    · simp [State.setLink, State.linkState, hi8, hj8]
  · by_cases hj8 : j < 8
    · simp [State.setLink, State.linkState, hi8, hj8]
    · have hne := (link_ne_of_ne hi hj h (by omega)).2 hj8
      simp [State.setLink, State.linkState, hi8, hj8, Tbl.look_upd_other _ _ hne]

theorem State.setLink_rest (i : Nat) (x : LinkState) : ∃ y z, s.setLink i x = { s with conv := y, tdm := z } := by
  unfold State.setLink
  split
  · exact ⟨_, _, rfl⟩
  · exact ⟨_, _, rfl⟩

/-- Shut endpoints lose their bytes; their channels are judged. -/
theorem State.shutEps_rest (l : List EpId) : ∃ x y, s.forAll l (fun e s => s.shutEp e) = { s with eps := x, chans := y } := by
  refine State.forAll_induction (P := fun t => ∃ x y, t = { s with eps := x, chans := y }) l ⟨_, _, rfl⟩ fun e t ht => ?_
  obtain ⟨x, y, rfl⟩ := ht
  obtain ⟨-, z, hz⟩ := State.judgeFill_dev (State.updEp { s with eps := x, chans := y } e fun p => { p with index := p.index + p.fifo.length, fifo := [], noSpace := true }) e
  exact ⟨_, z, hz⟩

/-- A link that a command takes out of its state. -/
theorem State.leaveLink_commanded (i : Nat) (x : LinkState) : ∃ y z, Kept (State.setLink { s with eps := y, chans := z } i x) (s.leaveLink i x true) := by
  obtain ⟨y, z, hshut⟩ : ∃ y z, (if s.linkState i = .up then s.forAll (s.txEps i) fun e s => s.shutEp e else s) = { s with eps := y, chans := z } := by
    split
    · exact s.shutEps_rest _
    · exact ⟨_, _, rfl⟩
  refine ⟨y, z, ?_⟩
  unfold State.leaveLink
  dsimp only
  rw [if_neg (fun h => Bool.noConfusion h.2 : ¬ (s.linkState i = .up ∧ true = false)), hshut]
  split
  · exact State.note_kept ..
  · exact .refl _

/-- The state of the link that begins, and of the others. -/
theorem State.beginLink_fields (src : Source) (hi : i < 12) : (s.beginLink i src).linkState i = .training ∧ (∀ j < 12, j ≠ i → (s.beginLink i src).linkState j = s.linkState j) ∧
    (s.beginLink i src).broughtBy i = some src ∧ ∃ x y, s.beginLink i src = { s with conv := x, tdm := y } := by
  by_cases hi8 : i < 8
  · rw [State.beginLink, if_pos hi8]
    refine ⟨by simp [State.linkState, hi8, ConvLinkState.begin], fun j hj hji => ?_, by simp [State.broughtBy, hi8, ConvLinkState.begin], _, _, rfl⟩
    by_cases hj8 : j < 8
    · have hne := (link_ne_of_ne hi hj hji (by omega)).1 hj8
      simp [State.linkState, hj8, Tbl.look_upd_other _ _ hne]
    · simp [State.linkState, hj8]
  · rw [State.beginLink, if_neg hi8]
    refine ⟨by simp [State.linkState, hi8, TdmPort.begin], fun j hj hji => ?_, by simp [State.broughtBy, hi8, TdmPort.begin], _, _, rfl⟩
    by_cases hj8 : j < 8
    · simp [State.linkState, hj8]
    · have hne := (link_ne_of_ne hi hj hji (by omega)).2 hj8
      simp [State.linkState, hj8, Tbl.look_upd_other _ _ hne]

theorem State.linkState_congr {s t : State} (hc : t.conv = s.conv) (ht : t.tdm = s.tdm) (i : Nat) : t.linkState i = s.linkState i := by
  rw [State.linkState, hc, ht, State.linkState]

end

/-! ### PIN_ASSIGN (R775, R857) -/

theorem runPinAssign_eq (c : Cmd) (u : State) : let x : Word := c.q 4 ||| (c.target.zeroExtend 64 <<< 32)
    ∃ w : State, runPinAssign c u = (if (w.pins.look c.pin).settleEnd.isSome then { w with pinJob := some { pin := c.pin, entry := x, ref := c.ref } }
        else w.finishPin { pin := c.pin, entry := x, ref := c.ref }) ∧
      w.dev.regs.look (BitVec.ofNat 11 (0x100 + c.pin.toNat)) = Staged.both x ∧ StrobeKept u w := by
  intro x
  obtain ⟨v, hv⟩ : ∃ v, v = (u.switchPin c.pin x).setDevBoth (0x0800 + 8 * c.pin.toNat) x := ⟨_, rfl⟩
  obtain ⟨hregs, y, hy⟩ := v.settledGroup_fields 2
  refine ⟨(v.settleGroup 2).disturb .device, ?_, ?_, ?_⟩
  · rw [hv]
    rfl
  · rw [hregs, hv, State.setDevBoth_dev, show (0x0800 + 8 * c.pin.toNat) / 8 = 0x100 + c.pin.toNat by omega]
    exact Tbl.look_put_same ..
  · rw [hy, hv]
    exact (u.switchPin_strobeKept c.pin x).trans ⟨rfl⟩

/-- Settles O15. -/
theorem linkAndPinCommands : Obligations.LinkAndPinCommands := by
  intro p s c
  have hk : Kept s (s.takeOff p) := s.takeOff_kept p
  have hstate : ∀ i, (s.takeOff p).linkState i = s.linkState i := State.linkState_congr hk.conv hk.tdm
  refine ⟨fun h => ?_, fun h hi => ?_, fun h hi => ?_, fun h => ?_⟩
  · intro e
    obtain ⟨w, hw, hsil, hcfg, x, y, z, hrest⟩ := runStreamConfig_eq c (s.takeOff p)
    have hreg : ∀ off, (s.takeOff p).devReg off = s.devReg off := fun off => by rw [State.devReg, hk.dev, State.devReg]
    rw [show (s.takeOff p).epSilence (BitVec.ofNat 6 (c.f 2 5 0)) = s.epSilence e from hreg _] at hsil
    rw [show (s.takeOff p).epCfg (BitVec.ofNat 6 (c.f 2 5 0)) = s.epCfg e from hreg _] at hcfg
    refine ⟨w, (serve_runs h).trans (congrArg Host.Outcome.next hw), hsil, hcfg, ?_, ?_, ?_, ?_⟩
    · exact (congrArg State.cues hrest).trans hk.cues
    · exact (congrArg State.acts hrest).trans hk.acts
    · exact (congrArg State.prot hrest).trans hk.prot
    · exact (congrArg State.mem hrest).trans (s.takeOff_mem p)
  · obtain ⟨htrain, hother, hby, x, y, hrest⟩ := ((s.takeOff p).startLong c).beginLink_fields c.p.src hi
    obtain ⟨l, hl, href, -⟩ := State.startLong_long (u := s.takeOff p) c
    refine ⟨_, serve_runs h, ⟨l, ?_, href⟩, htrain, fun i hi hne => (hother i hi hne).trans (hstate i), hby, ?_⟩
    · rw [← hk.long, ← hl]
      show (((s.takeOff p).startLong c).beginLink (c.f 2 7 0) c.p.src).long = _
      rw [hrest]
    · have hb : runLinkUp c (s.takeOff p) = _ := hrest
      rw [hb]
      exact { hk with conv := rfl, tdm := rfl, long := rfl, order := rfl }
  · obtain ⟨y, z, hleave⟩ := (s.takeOff p).leaveLink_commanded (c.f 2 7 0) .down
    obtain ⟨v, hv⟩ : ∃ v, v = (s.takeOff p).leaveLink (c.f 2 7 0) .down true := ⟨_, rfl⟩
    rw [← hv] at hleave
    obtain ⟨w, hw⟩ : ∃ w, w = v.forAll (v.linkUps (c.f 2 7 0)) fun l s => s.finishLong l { status := 0x15, dw3 := 2 } [] := ⟨_, rfl⟩
    have hlong : Kept { v with long := w.long } w := by
      rw [hw]
      exact (State.forAll_induction (P := LongOnly v) _ (Kept.refl v).longOnly fun l t ht => ht.trans (t.finishLong_longOnly l _ _)).kept
    obtain ⟨a, b, hset⟩ := State.setLink_rest { s.takeOff p with eps := y, chans := z } (c.f 2 7 0) .down
    have hlink : ∀ i, w.linkState i = (State.setLink { s.takeOff p with eps := y, chans := z } (c.f 2 7 0) .down).linkState i :=
      State.linkState_congr (hlong.conv.trans hleave.conv) (hlong.tdm.trans hleave.tdm)
    refine ⟨w, ?_, (hlink _).trans (State.linkState_setLink ..), fun i hi' hne => ?_, ?_, ?_, ?_⟩
    · rw [hw, hv]
      exact serve_runs h
    · exact (hlink i).trans ((State.linkState_setLink_other _ _ hi hi' hne).trans (hstate i))
    · exact hlong.cues.trans (hleave.cues.trans ((congrArg State.cues hset).trans hk.cues))
    · exact hlong.acts.trans (hleave.acts.trans ((congrArg State.acts hset).trans hk.acts))
    · exact hlong.prot.trans (hleave.prot.trans ((congrArg State.prot hset).trans hk.prot))
  · intro m x
    obtain ⟨w, hw, hreg, hstrobe⟩ := runPinAssign_eq c (s.takeOff p)
    refine ⟨w, hreg, (congrArg State.cues hstrobe.frame).trans hk.cues, (congrArg State.acts hstrobe.frame).trans hk.acts, (congrArg State.prot hstrobe.frame).trans hk.prot,
      fun hsettle => ?_, fun hnone => ?_⟩
    · exact (serve_runs h).trans (congrArg Host.Outcome.next (hw.trans (if_pos hsettle)))
    · exact (serve_runs h).trans (congrArg Host.Outcome.next (hw.trans (if_neg (by rw [show c.pin = m from rfl, hnone]; simp))))

end Sys2Proof.Machine
end

section
/-! PROOF. Completions to the House and to an admin CQ in Wing SRAM (O9). -/

namespace Sys2Proof.Machine

/-! ### A record for the House (R236) -/

/-- A record that fits an outbound mailbox in which none waits is the last one. -/
theorem House.deliver_places {h : House} {r : Completion × List Byte} (hw : h.waiting = []) (hfit : h.used + 16 + (pad16 r.2).length ≤ 4096) :
    (h.deliver r).inbound = h.inbound ∧ (h.deliver r).waiting = [] ∧
      ∃ head : BitVec 16, (h.deliver r).outbound = h.outbound ++ [({ r.1 with head := head }, r.2)] := by
  have hplace : h.deliver r = h.place r := if_pos (by simp [hw, hfit])
  rw [hplace]
  exact ⟨rfl, hw, _, rfl⟩

/-- The trace record of a failed command changes the trace alone. -/
theorem State.complete_noted (s : State) (r : CmdRef) (op : Byte) (a : Reply) (result : List Byte) : ∃ (pw : Power) (tr : Trace),
    (r.src = .house → s.complete r op a result = { s with power := pw, trace := tr, house := s.house.deliver (⟨a.status, 0xFF, 1, r.tag, 0, a.dw2, a.dw3⟩, result) }) ∧
    ∀ t, r.src = .tenant t → s.complete r op a result =
      ((State.updTenant { s with power := pw, trace := tr } t fun n => { n with taken := n.taken - 1 }).postCq t 0
        ⟨⟨a.status, 0, 1, r.tag, r.head, a.dw2, a.dw3⟩, 0, none, if r.irq then some (BitVec.ofNat 8 (s.adminVector t)) else none, [], 0⟩).adminFault t := by
  unfold State.complete
  extract_lets s1
  obtain ⟨pw, tr, hs1⟩ : ∃ (pw : Power) (tr : Trace), s1 = { s with power := pw, trace := tr } := by
    unfold s1
    split
    · exact ⟨_, _, rfl⟩
    · split
      · exact ⟨_, _, rfl⟩
      · exact State.note_eq ..
  refine ⟨pw, tr, fun hr => ?_, fun t hr => ?_⟩
  · rw [hr, hs1]
  · rw [hr, hs1]

/-! ### A completion in Wing SRAM (R276, R281) -/

section
variable (s : State) (t : TenantId)

theorem State.sendEntry_mem (p : HostPort) (i : BitVec 8) : (s.sendEntry p i).mem = s.mem := by
  unfold State.sendEntry
  dsimp only
  split
  · rfl
  · exact State.updPort_mem ..

/-- Messages leave queues and memories. -/
theorem State.sendVectors_fields (vs : List Byte) : (s.sendVectors t vs).tenants = s.tenants ∧ (s.sendVectors t vs).mem = s.mem := by
  refine State.forAll_induction (P := fun u => u.tenants = s.tenants ∧ u.mem = s.mem) vs ⟨rfl, rfl⟩ fun v u hu => ⟨(u.sendVector_tenants t v.toNat).trans hu.1, ?_⟩
  refine Eq.trans ?_ hu.2
  unfold State.sendVector
  dsimp only
  split
  · exact u.sendEntry_mem ..
  · rfl

end

section
variable {s : State} {t : TenantId} {q : QueueId}

/-- A completion write to Wing SRAM behind no unissued one stores its bytes and changes no queue. -/
theorem State.writeCompletion_wing {addr : Addr} {bytes : List Byte} {vs : List Byte} {c : Option ChanId} (htag : tagOf addr = 0)
    (hnone : ∀ x ∈ s.cplWrites, x.tenant = t → x.cq = q → x.sent = true) :
    (s.writeCompletion t q addr bytes vs c).tenants = s.tenants ∧
      (s.writeCompletion t q addr bytes vs c).mem = { s.mem with wing := cellsWriteN s.mem.wing (offOf addr) bytes } := by
  have hany : (s.cplWrites.any fun x => x.tenant == t && x.cq == q && !x.sent) = false := by
    rw [List.any_eq_false]
    intro x hx h
    simp only [Bool.and_eq_true, beq_iff_eq, Bool.not_eq_true'] at h
    rw [hnone x hx h.1.1 h.1.2] at h
    exact Bool.noConfusion h.2
  have hhost : hostOf addr = none := by simp [hostOf, htag]
  unfold State.writeCompletion State.issueCpl
  simp only [hany, hhost, htag]
  exact State.sendVectors_fields ..

/-- A completion put at the tail of a queue in Wing SRAM: the tail and the phase of the ring go on, and its bytes stand at the place of the tail. -/
theorem State.putCompletion_wing {d : DueCompletion} {addr : Addr} (haddr : (s.cq t q).base + BitVec.ofNat 64 (16 * (s.cq t q).tail.toNat) = addr)
    (hcheck : s.checkAccess t addr 16 true = none) (htag : tagOf addr = 0) (hnone : ∀ x ∈ s.cplWrites, x.tenant = t → x.cq = q → x.sent = true) :
    (s.putCompletion t q d).tenants = (s.updCq t q fun c => { c with
      tail := ringNext c.log2 c.tail, phase := c.phase ^^ decide ((s.cq t q).tail.toNat + 1 = ringSize (s.cq t q).log2) }).tenants ∧
    (s.putCompletion t q d).mem = { s.mem with wing := cellsWriteN s.mem.wing (offOf addr) (dwordBytes (d.c.dwords (s.cq t q).phase)) } := by
  unfold State.putCompletion
  dsimp only
  rw [haddr, hcheck]
  exact State.writeCompletion_wing htag hnone

theorem State.postCq_puts {d : DueCompletion} (hactive : (s.cq t q).state = .active) (hheld : (s.cq t q).held = []) (hfull : (s.cq t q).full = false) :
    s.postCq t q d = s.putCompletion t q d := by
  unfold State.postCq
  dsimp only
  rw [if_neg (by simp [hactive]), if_pos (by simp [hheld, hfull])]

theorem State.adminFault_none (h : (s.sq t 0).faultDue = none) : s.adminFault t = s := by
  rw [State.adminFault, h]

end

/-- The bytes of a completion are 16. -/
theorem Completion.bytes_length (c : Completion) (phase : Bool) : (dwordBytes (c.dwords phase)).length = 16 := by
  rw [dwordBytes_length]
  rfl

/-- Bytes written in Wing SRAM are read there, and no others change. -/
theorem cellsRead_written {m : List Host.Cell} (h : cellsWf 0 m = true) (a : Nat) (bs : List Byte) :
    (∀ i, i < bs.length → cellsRead (cellsWriteN m a bs) (a + i) = nth bs i 0) ∧
    ∀ off, (off < a ∨ a + bs.length ≤ off) → cellsRead (cellsWriteN m a bs) off = cellsRead m off := by
  refine ⟨fun i hi => ?_, fun off ho => cellsRead_writeN_other bs m a off ho⟩
  rw [cellsRead_writeN_same bs m a i hi h, nth, List.getElem?_eq_getElem hi, Option.getD_some]

/-- Settles O9. -/
theorem completionsReachTheSender : Obligations.CompletionsReachTheSender := by
  refine ⟨fun s r op a result hsrc hwait hfit => ?_, fun s r op a u hsrc hwf hactive hheld hfull hfault hnone => ?_⟩
  · intro t
    obtain ⟨pw, tr, hhouse, -⟩ := s.complete_noted r op a result
    obtain ⟨hin, hw, head, hout⟩ := House.deliver_places (r := (⟨a.status, 0xFF, 1, r.tag, 0, a.dw2, a.dw3⟩, result)) hwait hfit
    have ht : t = _ := hhouse hsrc
    rw [ht]
    exact ⟨rfl, rfl, hin, hw, head, hout⟩
  · intro at_ htail htag hcheck entry t
    have hk : Kept s t := s.complete_kept r op a []
    obtain ⟨pw, tr, -, htenant⟩ := s.complete_noted r op a []
    obtain ⟨v, hv⟩ : ∃ v, v = State.updTenant { s with power := pw, trace := tr } u fun n => { n with taken := n.taken - 1 } := ⟨_, rfl⟩
    obtain ⟨d, hd⟩ : ∃ d, d = (⟨⟨a.status, 0, 1, r.tag, r.head, a.dw2, a.dw3⟩, 0, none, if r.irq then some (BitVec.ofNat 8 (s.adminVector u)) else none, [], 0⟩ : DueCompletion) := ⟨_, rfl⟩
    have hentry : d.c = entry := by rw [hd]
    have hcq : v.cq u 0 = s.cq u 0 := by
      rw [hv]
      simp [State.cq, State.updTenant]
    have hat : (v.cq u 0).base + BitVec.ofNat 64 (16 * (v.cq u 0).tail.toNat) = at_ := by
      rw [hcq, show at_ = (s.cq u 0).place 0 from rfl, CompQueue.place, Nat.add_zero, Nat.mod_eq_of_lt htail]
    have hmem : v.mem = s.mem := by rw [hv]; rfl
    obtain ⟨hten, hbytes⟩ := State.putCompletion_wing (s := v) (d := d) hat (by rw [hv]; exact hcheck) htag (by rw [hv]; exact hnone)
    have hput : v.postCq u 0 d = v.putCompletion u 0 d := State.postCq_puts (by rw [hcq]; exact hactive) (by rw [hcq]; exact hheld) (by rw [hcq]; exact hfull)
    have hsq : ((v.putCompletion u 0 d).sq u 0).faultDue = none := by
      rw [State.sq, hten, hv]
      simpa [State.updCq, State.updTenant, State.sq] using hfault
    have ht : t = v.putCompletion u 0 d := by
      rw [← State.adminFault_none hsq, ← hput, hv, hd]
      exact htenant u hsrc
    rw [hcq, hmem, hentry] at hbytes
    rw [hcq] at hten
    have hlen := entry.bytes_length (s.cq u 0).phase
    rw [Memory.wf, Bool.and_eq_true] at hwf
    obtain ⟨hread, hother⟩ := cellsRead_written hwf.1 (offOf at_) (dwordBytes (entry.dwords (s.cq u 0).phase))
    have hring : t.cq u 0 = { s.cq u 0 with
        tail := ringNext (s.cq u 0).log2 (s.cq u 0).tail, phase := (s.cq u 0).phase ^^ decide ((s.cq u 0).tail.toNat + 1 = ringSize (s.cq u 0).log2) } := by
      rw [ht, State.cq, hten]
      refine (State.cq_updCq v u u 0 0 _).trans ?_
      rw [if_pos ⟨rfl, rfl⟩, hcq]
    refine ⟨fun i hi => ?_, fun off ho => ?_, ?_, ?_, ?_, ?_, hk⟩
    · rw [ht, hbytes]
      exact hread i (by omega)
    · rw [ht, hbytes]
      refine hother off ?_
      rw [hlen]
      refine Classical.byContradiction fun hin => ?_
      exact ho ⟨htag, by omega, by omega⟩
    · rw [ht, hbytes]
    · rw [hring]
    · rw [hring]
    · rw [ht, hten, hv]
      simp [State.updCq, State.updTenant]

end Sys2Proof.Machine
end

section
/-! PROOF. The frames of the House port (O45). -/

namespace Sys2Proof.Machine

/-! ### Frames of the House port (R670 to R684) -/

section
variable {s : State} {run : State → State}

/-- The state on which a frame acts: the chip select has woken the part, and the mode is taken. -/
def State.framed (s : State) : State := (s.wakeBy 1).updHouse fun h => { h with quad := bitAt (s.devReg 0x78) 32 }

theorem State.houseFrame_early (h : s.boot.step.toNat < 3) : s.houseFrame run = .next s := if_pos h

theorem State.houseFrame_open (h : 3 ≤ s.boot.step.toNat) : s.houseFrame run = .next (run s.framed) := if_neg (by omega)

theorem State.pageAddr_valid {a : Dword} {f : Nat → State → State} (h : a.toNat < 0x40000) (h4 : a.toNat % 4 = 0) : s.pageAddr (some a) f = f a.toNat s :=
  if_neg (by omega)

theorem State.performAll_none (h : s.house.writes = []) : s.performAll = s := by
  rw [State.performAll, h]
  rfl

/-- A push of a whole packet with the body that it implies, and the two that fail (R235, R679). -/
theorem State.push_cases (h : 3 ≤ s.boot.step.toNat) (bytes : List Byte) : let u := s.framed; let dw : Vector Dword 16 := Vector.ofFn fun i => dwordAt bytes i.val
    (bytes.length < 64 → exec (.mboxPush (some 0) bytes) s = .next (u.updHouse fun h => { h with frameErr := true })) ∧
    (64 ≤ bytes.length → bytes.length = 64 + impliedBody dw → 4096 < u.house.used + bytes.length →
      exec (.mboxPush (some 0) bytes) s = .next (u.updHouse fun h => { h with mboxFull := true })) ∧
    (64 ≤ bytes.length → bytes.length = 64 + impliedBody dw → u.house.used + bytes.length ≤ 4096 →
      exec (.mboxPush (some 0) bytes) s = .next (u.updHouse fun h => { h with inbound := h.inbound ++ [⟨dw, bytes.drop 64, u.now⟩] })) := by
  intro u dw
  have hexec := State.houseFrame_open (run := fun s => s.zeroAddr (some 0) fun s =>
    if bytes.length < 64 ∨ bytes.length ≠ 64 + impliedBody dw then s.frameErr
    else if 4096 < s.house.used + bytes.length then s.updHouse fun h => { h with mboxFull := true }
    else s.updHouse fun h => { h with inbound := h.inbound ++ [{ dw := dw, body := bytes.drop 64, stamp := s.now }] }) h
  refine ⟨fun hshort => ?_, fun h64 hlen hfull => ?_, fun h64 hlen hfit => ?_⟩
  · exact hexec.trans (congrArg Host.Outcome.next (if_pos (.inl hshort)))
  · exact hexec.trans (congrArg Host.Outcome.next ((if_neg (by omega)).trans (if_pos hfull)))
  · exact hexec.trans (congrArg Host.Outcome.next ((if_neg (by omega)).trans (if_neg (Nat.not_lt.mpr hfit))))

/-- A pop of the oldest record: it goes once its last byte is clocked (R236, R680). -/
theorem State.pop_record (h : 3 ≤ s.boot.step.toNat) (n : Nat) {r : Completion × List Byte} {rest : List (Completion × List Byte)} (hout : s.framed.house.outbound = r :: rest) :
    let u := s.framed
    let sent := leBytes 2 (recordBytes r).length ++ recordBytes r
    let v := u.emit (.spi u.house.quad (0x5A :: sent.take n))
    exec (.mboxPop (some 0) n) s =
      .next (if n < sent.length then v else v.updHouse fun h => House.settle (h.waiting.length + 1) { h with outbound := rest }) := by
  intro u sent v
  refine Eq.trans (b := execMboxPop (some 0) n s) rfl ((State.houseFrame_open h).trans (congrArg Host.Outcome.next ?_))
  show State.zeroAddr _ _ _ = _
  rw [State.zeroAddr, if_pos rfl, hout]
  rfl

theorem State.pop_empty (h : 3 ≤ s.boot.step.toNat) (n : Nat) (hout : s.framed.house.outbound = []) :
    exec (.mboxPop (some 0) n) s = .next ((s.framed.emit (.spi s.framed.house.quad (0x5A :: (leBytes 2 0).take n))).updHouse fun h => { h with mboxEmpty := true }) := by
  refine Eq.trans (b := execMboxPop (some 0) n s) rfl ((State.houseFrame_open h).trans (congrArg Host.Outcome.next ?_))
  show State.zeroAddr _ _ _ = _
  rw [State.zeroAddr, if_pos rfl, hout]
  rfl

/-- A WRITE of one word that the buffer has room for holds it (R677, R678). -/
theorem State.write_word (h : 3 ≤ s.boot.step.toNat) {a : Dword} {bytes : List Byte} (ha : a.toNat < 0x40000) (h4 : a.toNat % 4 = 0) (hlen : bytes.length = 4)
    (hroom : s.framed.house.heldBytes + 4 ≤ 256) : exec (.write (some a) bytes) s = .next (s.framed.updHouse fun h =>
      { h with writes := h.writes ++ [⟨BitVec.ofNat 18 a.toNat, (dwordAt bytes 0).zeroExtend 64, false⟩] }) := by
  refine Eq.trans (b := execWrite (some a) bytes s) rfl ((State.houseFrame_open h).trans (congrArg Host.Outcome.next ?_))
  refine (State.pageAddr_valid ha h4).trans ?_
  have hpage : min (bytes.length / 4) ((0x40000 - a.toNat) / 4) = 1 := by omega
  have hheld : min (min 1 64) ((256 - s.framed.house.heldBytes) / 4) = 1 := by omega
  dsimp only
  rw [hpage, hheld, hlen]
  simp [State.pairWords, State.updHouse]

/-- A READ of one 4-byte register (R675). -/
theorem State.read_word (h : 3 ≤ s.boot.step.toNat) {a : Dword} (ha : a.toNat < 0x40000) (h4 : a.toNat % 4 = 0) (hnone : s.framed.house.writes = [])
    (hwidth : s.framed.readWidth a.toNat = 4) : let g := s.framed.regRead .house .device (BitVec.ofNat 18 a.toNat) false
    g.err = false → exec (.read (some a) 1 4 false) s = .next (g.s.emit (.spi g.s.house.quad (0x5A :: leBytes 4 g.data.toNat))) := by
  intro g hg
  refine Eq.trans (b := execRead (some a) 1 4 false s) rfl ((State.houseFrame_open h).trans (congrArg Host.Outcome.next ?_))
  refine (State.pageAddr_valid ha h4).trans ?_
  have haccess : s.framed.readAccess a.toNat = (g.s, leBytes 4 g.data.toNat) := by
    rw [State.readAccess, hwidth]
    exact if_neg (by rw [Bool.not_eq_true]; exact hg)
  rw [State.performAll_none hnone]
  have hone : s.framed.readAccesses 4 false 1 a.toNat = (g.s, 0x5A :: leBytes 4 g.data.toNat) := by
    rw [State.readAccesses, if_neg (by omega), haccess]
    simp [State.readAccesses, List.take_of_length_le, leBytes_length]
  rw [hone]
  rfl

end

/-- Settles O45. -/
theorem houseFrames : Obligations.HouseFrames := by
  intro s u
  refine ⟨fun h => ?_, fun h => ?_, fun w rest h => ?_, fun h => ⟨⟨?_, ?_⟩, fun bytes => State.push_cases h bytes, fun n hout => State.pop_empty h n hout,
    fun n r rest hout => ?_, fun a bytes ha h4 hlen hroom => State.write_word h ha h4 hlen hroom, fun a ha h4 hnone hwidth => State.read_word h ha h4 hnone hwidth⟩⟩
  · exact ⟨fun a b => Eq.trans (b := execStatus a b s) rfl (State.houseFrame_early h),
      fun a b => Eq.trans (b := execWrite a b s) rfl (State.houseFrame_early h),
      fun a n l m => Eq.trans (b := execRead a n l m s) rfl (State.houseFrame_early h),
      fun a b => Eq.trans (b := execMboxPush a b s) rfl (State.houseFrame_early h),
      fun a n => Eq.trans (b := execMboxPop a n s) rfl (State.houseFrame_early h)⟩
  · refine congrArg Host.Outcome.next ?_
    rw [State.performWord, h]
  · refine congrArg Host.Outcome.next ?_
    rw [State.performWord, h]
  · exact Eq.trans (b := execStatus (some 0) false s) rfl (State.houseFrame_open h)
  · exact Eq.trans (b := execStatus (some 0) true s) rfl (State.houseFrame_open h)
  · intro sent v
    exact ⟨fun hn => (State.pop_record h n hout).trans (congrArg Host.Outcome.next (if_pos hn)),
      fun hn => (State.pop_record h n hout).trans (congrArg Host.Outcome.next (if_neg (Nat.not_lt.mpr hn)))⟩

end Sys2Proof.Machine
end

section
/-! PROOF. The memory accesses of a host (O46). -/

namespace Sys2Proof.Machine

/-! ### What a wake event leaves -/

/-- A wake event changes the power state alone. -/
theorem State.wakeBy_power (s : State) (bit : Nat) : ∃ pw : Power, s.wakeBy bit = { s with power := pw } := by
  unfold State.wakeBy
  split
  · exact ⟨_, rfl⟩
  · split
    · exact ⟨_, rfl⟩
    · split
      · exact ⟨_, rfl⟩
      · exact ⟨_, rfl⟩

/-! ### A write with every byte enabled -/

theorem enabledBytes_all (off : Nat) (b : Byte) (bs : List Byte) :
    enabledBytes off (b :: bs) (List.replicate (b :: bs).length true) = (off, b) :: enabledBytes (off + 1) bs (List.replicate bs.length true) := rfl

/-- The bytes of a write, one after another, are the write of all. -/
theorem State.wingWrite_bytes (bs : List Byte) (s : State) (off : Nat) :
    let t := s.forAll (enabledBytes off bs (List.replicate bs.length true)) fun c s => s.wingWrite c.1 [c.2]
    t.mem = { s.mem with wing := cellsWriteN s.mem.wing off bs } ∧ ∃ m g, t = { s with mem := m, guard := g } := by
  induction bs generalizing s off with
  | nil => exact ⟨rfl, _, _, rfl⟩
  | cons b bs ih =>
    obtain ⟨hmem, m, g, hrest⟩ := ih (s.wingWrite off [b]) (off + 1)
    exact ⟨hmem, m, g, hrest⟩

theorem enabledBytes_places (bs : List Byte) (off : Nat) : (enabledBytes off bs (List.replicate bs.length true)).map (fun c => c.1) = (List.range bs.length).map fun i => off + i := by
  induction bs generalizing off with
  | nil => rfl
  | cons b bs ih =>
    rw [enabledBytes_all, List.map_cons, ih, List.length_cons, List.range_succ_eq_map, List.map_cons, List.map_map]
    simp only [Nat.add_zero, Function.comp_def, Nat.add_assoc, Nat.add_comm 1]

/-- A write with all bytes enabled touches its first byte to its last. -/
theorem barSpan_whole {a : BarAccess} (hw : a.write = true) (he : a.enables = List.replicate a.bytes.length true) (hn : 0 < a.bytes.length) :
    barSpan a = some (0, a.bytes.length - 1) := by
  have hplaces := enabledBytes_places a.bytes 0
  simp only [Nat.zero_add, List.map_id'] at hplaces
  rw [barSpan, if_pos hw, he]
  dsimp only
  rw [hplaces]
  have hlast : (List.range a.bytes.length).getLast? = some (a.bytes.length - 1) := by
    rw [List.getLast?_range, if_neg (by omega)]
  have hhead : (List.range a.bytes.length).head? = some 0 := by
    rw [List.head?_range, if_neg (by omega)]
  rw [hhead, hlast]

section
variable {s : State} {a : BarAccess}

/-- What passes the gate of BAR2 and BAR4 is performed. -/
theorem State.barGate_open {bar : Nat} {f : State → Result} (hlink : (s.port a.port).linkUp = true) (hshut : (s.wakeBy 0).barsShut = false) (hdev : s.devState ≠ .faulted)
    (hpoison : a.poisoned = false) (he : a.enables.length = a.bytes.length) : s.barGate a bar f = f (s.wakeBy 0) := by
  obtain ⟨pw, hpw⟩ := s.wakeBy_power 0
  have hdev' : ((s.wakeBy 0).devState == .faulted) = false := by
    rw [hpw]
    exact beq_eq_false_iff_ne.mpr hdev
  unfold State.barGate
  rw [if_neg (by simp [he]), if_neg (by simp [hlink])]
  dsimp only
  rw [if_neg (by simp [hpoison]), if_neg (by simp [hshut, hdev'])]

/-- BAR2: a write of whole bytes lands, or is refused, by its pages (R655). -/
theorem exec_bar2Write (hlink : (s.port a.port).linkUp = true) (hshut : (s.wakeBy 0).barsShut = false) (hdev : s.devState ≠ .faulted) (hwrite : a.write = true)
    (hpoison : a.poisoned = false) (he : a.enables = List.replicate a.bytes.length true) (hn : 0 < a.bytes.length) : let off := a.off.toNat
    exec (.bar2Access a) s =
      if 2 ^ 23 ≤ off + (a.bytes.length - 1) ∨ (s.hostWin a.port).sramOk off (off + (a.bytes.length - 1)) true = false then
        .next ((s.wakeBy 0).barRefused a.port 2 a.off true a.len ((s.wakeBy 0).strict (viaOf a.port)))
      else .next ((s.wakeBy 0).forAll (enabledBytes off a.bytes (List.replicate a.bytes.length true)) fun c s => s.wingWrite c.1 [c.2]) := by
  intro off
  obtain ⟨pw, hpw⟩ := s.wakeBy_power 0
  have hwin : (s.wakeBy 0).hostWin a.port = s.hostWin a.port := by
    rw [hpw]
    cases a.port <;> rfl
  refine Eq.trans (b := execBar2Access a s) rfl ((State.barGate_open hlink hshut hdev hpoison (by rw [he, List.length_replicate])).trans ?_)
  dsimp only
  rw [barSpan_whole hwrite he hn]
  simp only [hwrite, hwin, he, if_true, Nat.add_zero, off]

/-- BAR4 through the lower half: a write that its buffer has room for waits there (R656 to R658). -/
theorem exec_bar4Posted (hlink : (s.port a.port).linkUp = true) (hshut : (s.wakeBy 0).barsShut = false) (hdev : s.devState ≠ .faulted) (hwrite : a.write = true)
    (hpoison : a.poisoned = false) (he : a.enables = List.replicate a.bytes.length true) (hn : 0 < a.bytes.length)
    (hlow : a.off.toNat < 2 ^ 30) {d : Nat} (hd : s.aperture a.port + a.off.toNat % 2 ^ 30 = d) (hfit : d + a.bytes.length ≤ 2 ^ 36)
    (hrange : ((s.wakeBy 0).checkRange (BitVec.ofNat 64 (2 ^ 60 + d)) a.bytes.length).isNone = true)
    (hpages : (s.hostWin a.port).dramOk d (d + a.bytes.length - 1) true = true) (hroom : (s.port a.port).postedRoom a.bytes.length = true) :
    exec (.bar4Access a) s = .next ((s.wakeBy 0).updPort a.port fun q => { q with posted := q.posted ++ [⟨d, a.bytes, a.enables⟩] }) := by
  obtain ⟨pw, hpw⟩ := s.wakeBy_power 0
  have hwin : (s.wakeBy 0).hostWin a.port = s.hostWin a.port := by
    rw [hpw]
    cases a.port <;> rfl
  have hap : (s.wakeBy 0).aperture a.port = s.aperture a.port := by
    rw [hpw]
    rfl
  have hport : (s.wakeBy 0).port a.port = s.port a.port := by
    rw [hpw]
    cases a.port <;> rfl
  have hlast : d + (a.bytes.length - 1) = d + a.bytes.length - 1 := by omega
  have hcount : a.bytes.length - 1 + 1 - 0 = a.bytes.length := by omega
  refine Eq.trans (b := execBar4Access a s) rfl ((State.barGate_open hlink hshut hdev hpoison (by rw [he, List.length_replicate])).trans ?_)
  dsimp only
  rw [barSpan_whole hwrite he hn]
  simp only [hap, hd, hwin, hlast, hcount, Nat.add_zero, hwrite]
  have h31 : a.off.toNat < 2 ^ 31 := by omega
  have h36 : d + a.bytes.length - 1 < 2 ^ 36 := by omega
  rw [if_neg (by simp only [decide_eq_true h31, decide_eq_true h36, hrange, hpages, Bool.and_self]; decide), if_neg (by omega), if_pos trivial, State.makeRoom, hport, if_pos hroom]

end

/-- BAR3: a dword of the table is written or read (R659). -/
theorem exec_bar3 {s : State} {p : HostPort} {off : BitVec 16} (write : Bool) (data : Word) {x : Dword} (hlink : (s.port p).linkUp = true)
    (hshut : (s.wakeBy 0).barsShut = false) (hpage : (s.wakeBy 0).somePage = true) (h4 : off.toNat % 4 = 0) (hx : (s.port p).bar3Dword off.toNat = some x) :
    exec (.bar3Access p write off 4 data) s = if write then .next (((s.wakeBy 0).updPort p fun q => q.setBar3 off.toNat (lo32 data)).sendPending p)
      else .next ((s.wakeBy 0).emit (.barData p (dwordBytes [x]))) := by
  obtain ⟨pw, hpw⟩ := s.wakeBy_power 0
  have hport : (s.wakeBy 0).port p = s.port p := by
    rw [hpw]
    cases p <;> rfl
  refine Eq.trans (b := execBar3Access p write off 4 data s) rfl ?_
  unfold execBar3Access
  dsimp only
  rw [if_neg (by simp [hlink]), if_neg (by simp [hshut]), if_neg (by simp [hport, hx, hpage, h4]), hport, hx]
  rfl

/-- Settles O46. -/
theorem hostMemoryAccesses : Obligations.HostMemoryAccesses := by
  intro s
  refine ⟨fun a => ?_, fun p ecc => ⟨fun h => ?_, fun w rest h => ?_⟩, fun p off data => ?_⟩
  · intro u off n hlink hshut hdev hwrite hpoison hen hn
    have hexec := exec_bar2Write hlink hshut hdev hwrite hpoison hen hn
    have hlast : a.off.toNat + (a.bytes.length - 1) = a.off.toNat + a.bytes.length - 1 := by omega
    dsimp only at hexec
    rw [hlast] at hexec
    refine ⟨fun hfit hok hinv => ?_, fun hbad => ?_, ?_⟩
    · obtain ⟨pw, hpw⟩ := s.wakeBy_power 0
      obtain ⟨hmem, m, g, hrest⟩ := State.wingWrite_bytes a.bytes (s.wakeBy 0) a.off.toNat
      have hwf : cellsWf 0 s.mem.wing = true := (Bool.and_eq_true_iff.mp hinv).1
      obtain ⟨hread, hother⟩ := cellsRead_written hwf a.off.toNat a.bytes
      have hneg : ¬ (2 ^ 23 ≤ a.off.toNat + a.bytes.length - 1 ∨ (s.hostWin a.port).sramOk a.off.toNat (a.off.toNat + a.bytes.length - 1) true = false) := by
        rintro (h | h)
        · omega
        · exact Bool.noConfusion (h.symm.trans hok)
      rw [show (s.wakeBy 0).mem = s.mem by rw [hpw]] at hmem
      refine ⟨_, hexec.trans (if_neg hneg), fun i hi => ?_, fun x hx => ?_, ?_, ?_, ?_, ?_, ?_⟩
      · rw [hmem]
        refine (hread i hi).trans ?_
        rw [nth, List.getElem?_eq_getElem hi, Option.getD_some]
      · rw [hmem]
        exact hother x hx
      · rw [hmem]
      all_goals rw [hrest, hpw]
    · refine hexec.trans (if_pos (hbad.imp (fun h => ?_) id))
      omega
    · intro d hlow hfit hrange hpages hroom
      exact exec_bar4Posted hlink hshut hdev hwrite hpoison hen hn hlow rfl hfit hrange hpages hroom
  · exact congrArg Host.Outcome.next (by rw [State.drainPosted, h])
  · exact congrArg Host.Outcome.next (by rw [State.drainPosted, h])
  · intro u hlink hshut hpage hoff h4
    obtain ⟨x, hx⟩ : ∃ x, (s.port p).bar3Dword off.toNat = some x := ⟨_, if_pos hoff⟩
    refine ⟨exec_bar3 true data hlink hshut hpage h4 hx, fun y hy => exec_bar3 false data hlink hshut hpage h4 hy⟩

end Sys2Proof.Machine
end

section
/-! PROOF. Configuration, completions and the local bus (O47). -/

namespace Sys2Proof.Machine

/-! ### The configuration space (R650) -/

/-- A write changes bits that a host writes or clears, and no others. -/
theorem cfgWritten_outside (reg : Nat) (old data mask : Dword) :
    cfgWritten reg old data mask &&& ~~~(cfgWritable reg ||| cfgClearable reg) = old &&& ~~~(cfgWritable reg ||| cfgClearable reg) := by
  unfold cfgWritten
  dsimp only
  split
  · rfl
  · generalize cfgWritable reg = w
    generalize cfgClearable reg = k
    apply BitVec.eq_of_getLsbD_eq
    intro i hi
    simp only [BitVec.getLsbD_and, BitVec.getLsbD_or, BitVec.getLsbD_not, hi, decide_true, Bool.true_and]
    cases w.getLsbD i <;> cases k.getLsbD i <;> simp

theorem Port.cfgWrite_look (q : Port) (reg r : BitVec 10) (data mask : Dword) :
    (q.cfgWrite reg data mask).cfg.look r = if reg = r then cfgWritten reg.toNat (q.cfg.look reg) data mask else q.cfg.look r := Tbl.look_upd ..

section
variable {s : State}

theorem State.wakeBy_port (s : State) (bit : Nat) (p : HostPort) : (s.wakeBy bit).port p = s.port p := by
  obtain ⟨pw, hpw⟩ := s.wakeBy_power bit
  rw [hpw]
  cases p <;> rfl

/-- A read of the configuration space returns the dword (R650). -/
theorem exec_cfgRead {a : CfgRequest} (hlink : (s.port a.port).linkUp = true) (hread : a.write = false) (hnone : (s.port a.port).aerHeader = none) :
    exec (.configurationRequest a) s = .next ((s.wakeBy 0).emit (.barData a.port (leBytes 4 ((s.wakeBy 0).cfgDword a.port a.reg.toNat).toNat))) := by
  refine Eq.trans (b := execConfigurationRequest a s) rfl ?_
  unfold execConfigurationRequest
  dsimp only
  rw [if_neg (by simp [hlink]), if_neg (by simp [hread]), State.readCfg, if_neg (by simp [State.wakeBy_port, hnone])]

theorem exec_cfgWrite {a : CfgRequest} (hlink : (s.port a.port).linkUp = true) (hwrite : a.write = true) : exec (.configurationRequest a) s =
    .next (((s.wakeBy 0).updPort a.port fun q => { q with requester := a.dest }.cfgWrite a.reg a.data (enableMask a.enables)).sendPending a.port) := by
  refine Eq.trans (b := execConfigurationRequest a s) rfl ?_
  unfold execConfigurationRequest
  dsimp only
  rw [if_neg (by simp [hlink]), if_pos hwrite]

/-! ### Completions of the device's own reads (R663) -/

/-- A completion over a link that is up, of a request that is outstanding or not. -/
theorem exec_receivedCompletion {p : HostPort} {tag : BitVec 8} (st : CplStatus) (bytes : List Byte) (hlink : (s.port p).linkUp = true) :
    exec (.receivedCompletion p tag st bytes) s = match (s.port p).request tag with
      | none => .next (s.aerAdvise p aerUnexpected)
      | some r => match st with
        | .success => .next (s.cplData p r bytes)
        | .unsupported => .next (((s.cfgStatus p 29).portReadFails p r (.failed .unsupported)).go [r.chan])
        | .completerAbort => .next (((s.cfgStatus p 28).portReadFails p r (.failed .abort)).go [r.chan])
        | .poisoned => .next (((s.aerAdvise p aerPoisoned).portReadFails p r .poisoned).go [r.chan]) := by
  refine Eq.trans (b := execReceivedCompletion p tag st bytes s) rfl ?_
  unfold execReceivedCompletion
  dsimp only
  exact if_neg (by simp [hlink])

theorem State.cplData_ends {p : HostPort} {r : PortRead} {bytes : List Byte} (h : r.got.length + bytes.length = r.len) :
    s.cplData p r bytes = s.gotRead p r .good (r.got ++ bytes) := by
  unfold State.cplData
  dsimp only
  rw [if_neg (by rw [List.length_append]; omega), if_pos (by rw [List.length_append]; exact h)]

theorem State.cplData_goesOn {p : HostPort} {r : PortRead} {bytes : List Byte} (h : r.got.length + bytes.length < r.len) :
    s.cplData p r bytes = s.updPort p fun q => { q with reads := q.reads.map fun x => if x.tag == r.tag then { x with got := r.got ++ bytes } else x } := by
  unfold State.cplData
  dsimp only
  rw [if_neg (by rw [List.length_append]; omega), if_neg (by rw [List.length_append]; omega)]

/-- A request that has brought its data leaves the port. -/
theorem State.gotRead_reads (p : HostPort) (r x : PortRead) (e : Ended) (bs : List Byte) :
    x ∈ ((s.gotRead p r e bs).port p).reads ↔ x ∈ (s.port p).reads ∧ x.tag ≠ r.tag := by
  have hreads : ((s.gotRead p r e bs).port p).reads = (s.port p).reads.filter fun x => x.tag != r.tag := by
    cases p <;> rfl
  rw [hreads, List.mem_filter, bne_iff_ne]

theorem exec_completionTimeout {p : HostPort} {tag : BitVec 8} {r : PortRead} (h : (s.port p).request tag = some r) : exec (.completionTimeout p tag) s =
    if s.tb.refclkCount < r.sent + (s.port p).cplTimeout then .next s
    else .next (((s.aerAdvise p aerTimeout).portReadFails p r (.failed .timeout)).go [r.chan]) := by
  refine Eq.trans (b := execCompletionTimeout p tag s) rfl ?_
  unfold execCompletionTimeout
  dsimp only
  rw [h]

/-! ### The local bus (R744, R745) -/

section
variable {b : LbBurst} {rest : List LbBurst} (data : Dword)

theorem exec_lbBeatEnd (h : s.lb = b :: rest) : let v := s.emit (.lbBeat (csOf b.addr) b.write ((b.addr + BitVec.ofNat 64 b.done) &&& ~~~(3 : Word)) ((b.bytes.drop b.done).take b.beat))
    let n : LbBurst := { b.step data with since := s.coreEdge }
    exec (.lbBeatEnd data) s =
      if b.beatless then .next ((s.lbPop.busAbandoned b).go [b.chan])
      else if !(s.beatOver b) then .next s
      else if b.abandoned then .next ((v.lbPop.busAbandoned n).go [b.chan])
      else if b.len ≤ b.done + b.beat then .next ((v.lbPop.busDone n).go [b.chan])
      else .next { v with lb := n :: rest } := by
  refine Eq.trans (b := execLbBeatEnd data s) rfl ?_
  unfold execLbBeatEnd
  rw [h]
  rfl

theorem exec_lbReadyTimeout (h : s.lb = b :: rest) : exec .lbReadyTimeout s =
    if bitAt (s.lbCs (csOf b.addr)) 4 && due (b.since + 384000) s.coreEdge then .next ((if b.abandoned then s.lbPop.busAbandoned b else s.busTimedOut b).go [b.chan])
    else .next s := by
  refine Eq.trans (b := execLbReadyTimeout s) rfl ?_
  unfold execLbReadyTimeout
  rw [h]
  rfl

end

end

/-- Settles O47. -/
theorem hostTransactions : Obligations.HostTransactions := by
  intro s
  refine ⟨fun a hlink => ⟨fun hwrite => ?_, fun hread hnone => exec_cfgRead hlink hread hnone⟩, fun p tag bytes hlink => ⟨fun hnone st => ?_, fun r hr => ⟨fun hlen => ⟨?_, fun x => ?_⟩, fun hlen => ?_, ?_, ?_⟩⟩,
    fun p tag r hr => ⟨fun hle => ?_, fun hlt => ?_⟩, fun b rest data hlb => ?_⟩
  · intro u
    have hlook : ∀ r, (u.port a.port).cfg.look r = if a.reg = r then cfgWritten a.reg.toNat ((s.port a.port).cfg.look a.reg) a.data (enableMask a.enables) else (s.port a.port).cfg.look r := by
      intro r
      rw [← s.wakeBy_port 0 a.port]
      exact (congrArg (fun q : Port => q.cfg.look r) (State.port_updPort_same (s.wakeBy 0) a.port _)).trans (Port.cfgWrite_look ..)
    refine ⟨exec_cfgWrite hlink hwrite, fun r hr => ?_, ?_⟩
    · rw [hlook, if_neg (Ne.symm hr)]
    · rw [hlook, if_pos rfl]
      exact cfgWritten_outside ..
  · rw [exec_receivedCompletion st bytes hlink, hnone]
  · rw [exec_receivedCompletion .success bytes hlink, hr, ← State.cplData_ends hlen]
  · exact State.gotRead_reads p r x .good _
  · rw [exec_receivedCompletion .success bytes hlink, hr, ← State.cplData_goesOn hlen]
  · rw [exec_receivedCompletion .unsupported bytes hlink, hr]
  · rw [exec_receivedCompletion .completerAbort bytes hlink, hr]
  · exact (exec_completionTimeout hr).trans (if_neg (Nat.not_lt.mpr hle))
  · exact (exec_completionTimeout hr).trans (if_pos hlt)
  · intro v n
    have hbeat := exec_lbBeatEnd data hlb
    have hready := exec_lbReadyTimeout hlb
    refine ⟨fun hless => hbeat.trans (if_pos hless), fun hless hover => ?_, fun hless hover => ⟨rfl, fun hab => ?_, fun hab hlt => ?_, fun hab hle hread => ?_⟩,
      fun h4 hdue hread hab => ?_, fun hno => ?_⟩
    · exact hbeat.trans ((if_neg (by simp [hless])).trans (if_pos (by simp [hover])))
    · exact hbeat.trans ((if_neg (by simp [hless])).trans ((if_neg (by simp [hover])).trans (if_pos hab)))
    · exact hbeat.trans ((if_neg (by simp [hless])).trans ((if_neg (by simp [hover])).trans ((if_neg (by simp [hab])).trans (if_neg (Nat.not_le.mpr hlt)))))
    · refine hbeat.trans ((if_neg (by simp [hless])).trans ((if_neg (by simp [hover])).trans ((if_neg (by simp [hab])).trans ((if_pos hle).trans ?_))))
      have hdone : v.lbPop.busDone n = v.lbPop.busRead b.chan .good n.got := if_neg (by rw [show n.write = b.write from rfl, hread]; decide)
      rw [← hdone]
    · refine hready.trans ((if_pos (by rw [h4, hdue]; rfl)).trans ?_)
      have hout : s.busTimedOut b = (s.lbPop.busRead b.chan (.failed .lbReady) []).failOldest b.chan := if_neg (by rw [hread]; decide)
      rw [if_neg (by simp [hab]), hout]
    · refine hready.trans (if_neg ?_)
      rcases hno with h | h
      · simp [h]
      · rw [h, Bool.and_false]
        exact Bool.false_ne_true

end Sys2Proof.Machine
end

section
/-! PROOF. Resets and start-up (O48). -/

namespace Sys2Proof.Machine

section
variable {s : State}

/-! ### The start-up sequence (R622) -/

/-- A step of a part that has not failed. -/
theorem exec_startupStep (i : StartupInput) (h : s.devState ≠ .faulted) : exec (.startupStep i) s = .next (match s.boot.step.toNat with
    | 1 => s.startRefclk i
    | 2 => s.startPll i
    | 3 => s.startBook i
    | 4 => s.startPatches i
    | 5 => s.startDram i
    | 6 => s.toStep 7
    | 7 => s.startFill
    | 8 => s.startCheck i
    | 9 => s.startPrompter i
    | 10 => s.autoRestore i
    | _ => s) := by
  refine Eq.trans (b := execStartupStep i s) rfl ?_
  unfold execStartupStep
  exact if_neg h

theorem State.enterDev_eq (s : State) (d : DevState) : ∃ pw tr, s.enterDev d = { s with devState := d, power := pw, trace := tr } := by
  obtain ⟨pw, tr, h⟩ := State.note_eq { s with devState := d } 0 0x04 none none
    (BitVec.ofNat 32 ((match d with | .fill => 0 | .check => 1 | .houseOnly => 2 | .staged => 3 | .faulted => 4 : Nat) + 8 * flag (s.health.present != 0)))
  exact ⟨pw, tr, h⟩

/-- Step 7 empties Wing SRAM, and the DRAM after POR_N, and enters CHECK (R562). -/
theorem State.startFill_fields : s.startFill.boot.step = 8 ∧ s.startFill.devState = .check ∧ s.startFill.mem.wing = [] ∧
    s.startFill.mem.dram = (if s.boot.resetCause = 0 then [] else s.mem.dram) ∧ s.startFill.chans = s.chans := by
  obtain ⟨pw, tr, h⟩ := State.enterDev_eq { s with mem := { wing := [], dram := if s.boot.resetCause = 0 then [] else s.mem.dram }, guard := { s.guard with wingBad := [] } } .check
  have hfill : s.startFill = State.toStep _ 8 := congrArg (fun t : State => t.toStep 8) h
  rw [hfill]
  exact ⟨rfl, rfl, rfl, rfl, rfl⟩

/-- Step 8 with every checker good. -/
theorem State.startCheck_passes {i : StartupInput} (h : i.selfCheck = 0) : (s.startCheck i).boot.step = 9 ∧ (s.startCheck i).health.lifeBoots = s.health.lifeBoots + 1 ∧
    bitAt (s.startCheck i).guard.selfCheck 1 = true ∧ (s.startCheck i).mem = s.mem := by
  unfold State.startCheck
  rw [h]
  exact ⟨rfl, rfl, (by decide : bitAt (3 : Dword) 1 = true), rfl⟩

theorem State.startCheck_fails {i : StartupInput} (h : i.selfCheck ≠ 0) : (s.startCheck i).devState = .faulted := by
  unfold State.startCheck
  dsimp only
  rw [if_neg fun hp => h (of_decide_eq_true hp)]
  exact (State.enterFaulted_fields _ _).1

/-! ### The confirmation of a boot (R642) -/

theorem le_foldl_max (l : List Nat) (f : Nat → Nat) (m : Nat) : m ≤ l.foldl (fun m n => max m (f n)) m := by
  induction l generalizing m with
  | nil => exact Nat.le_refl m
  | cons n l ih => exact Nat.le_trans (Nat.le_max_left ..) (ih _)

theorem foldl_max_lt (l : List Nat) {f : Nat → Nat} {m k : Nat} (hm : m < k) (hf : ∀ n, f n < k) : l.foldl (fun m n => max m (f n)) m < k := by
  induction l generalizing m with
  | nil => exact hm
  | cons n l ih => exact ih (Nat.max_lt.mpr ⟨hm, hf n⟩)

/-- A boot that has served long enough is confirmed; the rollback counter never falls. -/
theorem exec_bootConfirmation {t0 : Tick} (hsince : s.boot.servingSince = some t0) (hset : s.runningSet ≠ 0) (hconf : s.boot.confirmed = false)
    (hdev : s.devState = .houseOnly ∨ s.devState = .staged) : ∃ top : Nat, s.boot.rollback.toNat ≤ top ∧ top < 2 ^ 32 ∧ exec .bootConfirmation s =
      if due (t0 + 384000000000) s.now then .next (s.updBoot fun b => { b with confirmed := true, failedBoots := 0, rollback := BitVec.ofNat 32 top }) else .next s := by
  refine ⟨(slotsOf s.runningSet).foldl (fun m n => max m (s.patchVersion n).toNat) s.boot.rollback.toNat, le_foldl_max .., foldl_max_lt _ (BitVec.isLt _) fun n => BitVec.isLt _, ?_⟩
  refine Eq.trans (b := execBootConfirmation s) rfl ?_
  have hserving : (s.devState == .houseOnly || s.devState == .staged) = true := by
    rcases hdev with h | h <;> rw [h] <;> rfl
  have hset' : (s.runningSet != 0) = true := bne_iff_ne.mpr hset
  unfold execBootConfirmation
  simp only [hsince, hset', hconf, hserving, Bool.not_false, Bool.and_self, Bool.true_and]
  rfl

/-! ### Resets of a port (R619, R667) -/

/-- A port without outstanding reads, fetches and read-backs is reset without more. -/
theorem State.resetPort_quiet {p : HostPort} (perst : Bool) (hreads : (s.port p).reads = []) (hfetch : ∀ c a k, (s.chan c).fetch = some (a, k) → hostOf a ≠ some p)
    (hproof : ∀ c, ∀ q ∈ (s.chan c).proving, hostOf q.2 ≠ some p) : s.resetPort p perst =
      (s.updPort p fun q => { perst := perst, sris := q.sris, posted := q.posted }).go allChans := by
  have hlose : ∀ c, (s.updPort p fun q => q.afterReset perst).loseFetches p c = s.updPort p fun q => q.afterReset perst := by
    intro c
    have hchan : (s.updPort p fun q => q.afterReset perst).chan c = s.chan c := by
      cases p <;> rfl
    unfold State.loseFetches
    dsimp only
    rw [hchan, List.filter_eq_nil_iff.mpr fun q hq => by simp [hproof c q hq]]
    cases hf : (s.chan c).fetch with
    | none => rfl
    | some x => exact if_neg fun h : hostOf x.1 = some p ∧ _ => hfetch c x.1 x.2 hf h.1
  unfold State.resetPort
  rw [hreads]
  refine congrArg (fun t : State => t.go allChans) ?_
  exact State.forAll_induction (P := fun t => t = s.updPort p fun q => q.afterReset perst) allChans rfl fun c t ht => ht ▸ hlose c

end

/-- Settles O48. -/
theorem resetsAndStartup : Obligations.ResetsAndStartup := by
  refine ⟨fun s => ⟨?_, ?_, fun i => ⟨fun h => ?_, fun h hgood => ⟨fun h1 => ?_, fun h2 => ?_⟩, fun h h6 => ?_, fun h h7 => ?_, fun h h8 hsc => ?_, fun h h8 hsc => ?_⟩, fun t0 hsince hset hconf hdev => ?_⟩,
    fun p s => ⟨fun hreads hfetch hproof => ?_, fun speed width hspeed hwidth hperst => ?_⟩⟩
  · exact ⟨_, rfl, rfl, rfl, rfl, rfl, rfl, rfl, rfl, rfl, rfl, rfl, rfl, rfl, rfl⟩
  · exact ⟨_, rfl, rfl, rfl, rfl, rfl, rfl, rfl, rfl, rfl, rfl, rfl, rfl, rfl, rfl, rfl, rfl, rfl⟩
  · exact Eq.trans (b := execStartupStep i s) rfl (if_pos h)
  · rw [exec_startupStep i h, h1]
    exact congrArg Host.Outcome.next (if_pos hgood)
  · rw [exec_startupStep i h, h2]
    exact congrArg Host.Outcome.next (if_pos hgood)
  · rw [exec_startupStep i h, h6]
    rfl
  · rw [exec_startupStep i h, h7]
    exact ⟨_, rfl, State.startFill_fields⟩
  · rw [exec_startupStep i h, h8]
    exact ⟨_, rfl, State.startCheck_passes hsc⟩
  · rw [exec_startupStep i h, h8]
    exact ⟨_, rfl, State.startCheck_fails hsc⟩
  · obtain ⟨top, hle, hlt, hexec⟩ := exec_bootConfirmation hsince hset hconf hdev
    refine ⟨fun hdue => ⟨_, hexec.trans (if_pos hdue), rfl, rfl, ?_, rfl⟩, fun hdue => hexec.trans (if_neg (Bool.eq_false_iff.mp hdue))⟩
    show s.boot.rollback.toNat ≤ (BitVec.ofNat 32 top).toNat
    rw [BitVec.toNat_ofNat, Nat.mod_eq_of_lt hlt]
    exact hle
  · intro down
    have hreset (perst : Bool) : s.resetPort p perst = (down perst).go allChans := State.resetPort_quiet perst hreads hfetch hproof
    refine ⟨congrArg Host.Outcome.next (hreset true), rfl, fun hlink => ⟨?_, ?_⟩, fun hlink => ⟨?_, ?_⟩⟩
    · exact Eq.trans (b := execHotReset p s) rfl ((if_pos hlink).trans (congrArg Host.Outcome.next (hreset _)))
    · exact Eq.trans (b := execPcieLinkDown p s) rfl ((if_pos hlink).trans (congrArg Host.Outcome.next (hreset _)))
    · exact Eq.trans (b := execHotReset p s) rfl (if_neg (Bool.eq_false_iff.mp hlink))
    · exact Eq.trans (b := execPcieLinkDown p s) rfl (if_neg (Bool.eq_false_iff.mp hlink))
  · intro sris
    refine Eq.trans (b := execHostLinkUp p speed width s) rfl ?_
    refine (if_neg ?_).trans (if_neg (Bool.eq_false_iff.mp hperst))
    rintro (h | ⟨h1, h2, h4⟩)
    · exact hspeed h
    · rcases hwidth with h | h | h
      · exact h1 h
      · exact h2 h
      · exact h4 h

end Sys2Proof.Machine
end

section
/-! PROOF. PPS, strobe outputs and captures (O49). -/

namespace Sys2Proof.Machine

section
variable {s : State}

/-! ### PPS_IN (R64, R69) -/

/-- An edge that comes too soon is counted; another is captured, and performs a step of a TIME_SET that waits. -/
theorem exec_ppsIn_soon (v : BitVec 4) {k : Nat} (hk : (s.wakeBy 4).tb.lastPps = some k) (hsoon : (s.wakeBy 4).tb.refclkCount < k + 100000) :
    exec (.ppsIn v) s = .next ((s.wakeBy 4).updTb fun t => { t with ppsInIgnored := satAdd t.ppsInIgnored 1 }) := by
  refine Eq.trans (b := execPpsIn v s) rfl ?_
  unfold execPpsIn
  simp only [hk]
  exact if_pos (decide_eq_true hsoon)

theorem exec_ppsIn_captured (v : BitVec 4) (hlate : ∀ k, (s.wakeBy 4).tb.lastPps = some k → k + 100000 ≤ (s.wakeBy 4).tb.refclkCount)
    (hstep : ∀ w, (s.wakeBy 4).tb.atPps = some w → w.deadline ≤ (s.wakeBy 4).tb.refclkCount) (hfine : (s.wakeBy 4).tb.fineValid = true) : exec (.ppsIn v) s =
      .next ((s.wakeBy 4).updTb fun t => { t with ppsInStamp := (s.wakeBy 4).now + v.zeroExtend 64, ppsInSeq := t.ppsInSeq + 1, ppsInSeen := true, lastPps := some t.refclkCount }) := by
  have hsoon : (match (s.wakeBy 4).tb.lastPps with | some k => decide ((s.wakeBy 4).tb.refclkCount < k + 100000) | none => false) = false := by
    cases hl : (s.wakeBy 4).tb.lastPps with
    | none => rfl
    | some k => exact decide_eq_false (Nat.not_lt.mpr (hlate k hl))
  have hstamp : (s.wakeBy 4).edgeStamp v = (s.wakeBy 4).now + v.zeroExtend 64 := if_pos hfine
  refine Eq.trans (b := execPpsIn v s) rfl ?_
  unfold execPpsIn
  dsimp only
  refine (if_neg (Bool.eq_false_iff.mp hsoon)).trans ?_
  rw [hstamp]
  cases hw : (s.wakeBy 4).tb.atPps with
  | none => rfl
  | some w => exact if_pos (by rw [decide_eq_true (hstep w hw), Bool.or_true])

/-! ### TIME_SETs that wait, and slews (R62, R64) -/

theorem exec_atPpsTimeout {w : AtPps} (h : s.tb.atPps = some w) : exec .atPpsTimeout s =
    if s.tb.refclkCount < w.deadline then .next s
    else .next ((s.updTb fun t => { t with atPps := none }).forAll s.timeSets fun l s => s.finishLong l { status := 0x0E } []) := by
  refine Eq.trans (b := execAtPpsTimeout s) rfl ?_
  unfold execAtPpsTimeout
  rw [h]

/-! ### Strobe outputs (R72 to R74) -/

theorem exec_strobeEvent {n : BitVec 3} {t : Tick} (h : s.strobeTime n = some t) : let off := 0x140 + 8 * n.toNat
    let u := s.updTb fun b => { b with strobeDue := b.strobeDue.put n none }
    exec (.strobeEvent n) s =
      if future t s.now then .next s
      else if !s.tb.fineValid then .next (u.missStrobe n)
      else .next (State.produceStrobe (if bitAt (s.devReg off) 3 then u else u.setDevReg off (s.devReg off &&& ~~~(1 : Word))) n t) := by
  refine Eq.trans (b := execStrobeEvent n s) rfl ?_
  unfold execStrobeEvent
  rw [h]

/-- A missed strobe output has its bit set. -/
theorem State.missStrobe_bit (u : State) (n : BitVec 3) : bitAt ((u.missStrobe n).devReg (0x140 + 8 * n.toNat)) 8 = true := by
  unfold State.missStrobe
  dsimp only
  rw [State.note_devReg, State.devReg_setDevReg_same]
  simp [bitAt]

/-- A disarmed strobe output keeps its mode. -/
theorem disarmed_fields (w : Word) : bitAt (w &&& ~~~(1 : Word)) 0 = false ∧ field (w &&& ~~~(1 : Word)) 2 1 = field w 2 1 := by
  refine ⟨by simp [bitAt], field_congr fun i h1 h2 => ?_⟩
  have hi : i = 1 ∨ i = 2 := by omega
  rcases hi with rfl | rfl
  · simp [bitAt]
  · simp [bitAt]

/-! ### Captures (R75, R787) -/

theorem State.seeEdge_pins (p : PinId) (func : Nat) (level : Bool) : ∃ x, (s.seeEdge p func level).1 = { s with pins := x } := by
  unfold State.seeEdge
  dsimp only
  split
  · exact ⟨_, rfl⟩
  · exact ⟨_, rfl⟩

end

/-- Settles O49. -/
theorem timeEvents : Obligations.TimeEvents := by
  intro s
  refine ⟨fun v => ?_, fun w hw => ⟨fun hlt => ?_, fun hle => ?_⟩, fun hrate hleft => ?_, fun hleft => ?_, ?_, fun n t ht => ?_, fun n rise v => ?_⟩
  · intro u
    refine ⟨fun k hk hsoon => exec_ppsIn_soon v hk hsoon, fun hlate hnone hfine => exec_ppsIn_captured v hlate (fun w hw => ?_) hfine,
      fun w hlate hw hdl hfine => exec_ppsIn_captured v hlate (fun x hx => ?_) hfine⟩
    · exact nomatch hnone.symm.trans hw
    · obtain rfl := Option.some.inj (hw.symm.trans hx)
      exact hdl
  · exact (exec_atPpsTimeout hw).trans (if_pos hlt)
  · exact (exec_atPpsTimeout hw).trans (if_neg (Nat.not_lt.mpr hle))
  · refine Eq.trans (b := execSlewEnd s) rfl ((if_pos ⟨hrate, hleft⟩).trans ?_)
    refine congrArg (fun n : Nat => Host.Outcome.next { s with tb := { s.tb with slewRate := 0, slewNeg := false, slewLeft := n } }) hleft.symm
  · exact Eq.trans (b := execSlewEnd s) rfl (if_neg fun h => hleft h.2)
  · intro t hnear hen hfine hlow
    refine Eq.trans (b := execPpsOut s) rfl (if_neg ?_)
    rintro (h | h | h | h)
    · exact absurd hnear (Nat.not_lt.mpr h)
    · exact Bool.noConfusion (h.symm.trans hen)
    · exact Bool.noConfusion (h.symm.trans hfine)
    · exact Bool.noConfusion (h.symm.trans hlow)
  · intro off u
    have hexec := exec_strobeEvent ht
    refine ⟨fun hf => hexec.trans (if_pos hf), fun hf hfine => ⟨?_, u.missStrobe_bit n⟩, fun hf hfine habs => ⟨u.setDevReg off (s.devReg off &&& ~~~(1 : Word)), ?_, ?_, ?_, ?_, ?_⟩,
      fun hf hfine hrel => ?_⟩
    · exact hexec.trans ((if_neg (Bool.eq_false_iff.mp hf)).trans (if_pos (by rw [hfine]; rfl)))
    · exact hexec.trans ((if_neg (Bool.eq_false_iff.mp hf)).trans ((if_neg (by rw [hfine]; decide)).trans (by rw [if_neg (Bool.eq_false_iff.mp habs)])))
    · rw [State.devReg_setDevReg_same]
      exact (disarmed_fields _).1
    · exact Tbl.look_put_same ..
    · rw [State.devReg_setDevReg_same]
      exact (disarmed_fields _).2
    · exact { Kept.refl s with tb := rfl, dev := rfl }
    · exact hexec.trans ((if_neg (Bool.eq_false_iff.mp hf)).trans ((if_neg (by rw [hfine]; decide)).trans (by rw [if_pos hrel])))
  · intro r c
    obtain ⟨x, hx⟩ := State.seeEdge_pins (s := s) (n.zeroExtend 6) 8 rise
    have hr : r.1 = { s with pins := x } := hx
    refine ⟨fun hq => ⟨_, Eq.trans (b := execCaptureEdge n rise v s) rfl (if_pos hq), ?_⟩, fun hq => Eq.trans (b := execCaptureEdge n rise v s) rfl (if_neg (Bool.eq_false_iff.mp hq))⟩
    intro y
    have hy : y = { stamp := s.edgeStamp v, seq := (s.tb.captures.look n).seq + 1, coarse := !s.tb.fineValid } := by
      refine (Tbl.look_upd_same ..).trans ?_
      rw [hr]
    rw [hy]
    refine ⟨rfl, rfl, rfl, fun k hk => ?_, ?_⟩
    · refine (Tbl.look_upd_other _ _ (Ne.symm hk)).trans ?_
      rw [hr]
    · rw [hr]
      exact { Kept.refl s with tb := rfl, pins := rfl }

end Sys2Proof.Machine
end

section
/-! PROOF. Clocks that fail and pulses that end (O50). -/

namespace Sys2Proof.Machine

/-! ### What a report leaves: the device page, bits and messages -/

/-- A state that differs in the device page and in what a report to tenants, the House and the trace leaves. -/
structure Reported (s t : State) : Prop where
  kept : Kept { s with dev := t.dev } t

section
variable {s t u : State}

theorem Kept.reported (h : Kept s t) : Reported s t := ⟨{ h with dev := rfl }⟩

theorem Reported.trans (h : Reported s t) (k : Reported t u) : Reported s u := by
  have hu : Kept { s with dev := u.dev } { t with dev := u.dev } := { h.kept with dev := rfl }
  exact ⟨hu.trans k.kept⟩

theorem State.raiseHouse_reported (s : State) (bit : Nat) : Reported s (s.raiseHouse bit) := ⟨.refl _⟩

theorem State.raiseSm_reported (s : State) (bit : Nat) : Reported s (s.raiseSm bit) := (s.raiseSm_kept bit).reported

theorem State.raiseTenant_reported (s : State) (v : TenantId) (bit : Nat) : Reported s (s.raiseTenant v bit) := (s.raiseTenant_kept v bit).reported

theorem State.note_reported (s : State) (cls event : Nat) (v : Option TenantId) (c : Option ChanId) (d : Dword) : Reported s (s.note cls event v c d) :=
  (s.note_kept cls event v c d).reported

theorem State.raiseAlert_reported (s : State) (bit : Nat) : Reported s (s.raiseAlert bit) := by
  unfold State.raiseAlert
  split
  · exact (Kept.refl s).reported
  · exact .trans (t := s.setDevReg 0x18 (s.devReg 0x18 ||| (1 <<< bit))) ⟨.refl _⟩ (State.raiseHouse_reported _ 11)

/-- A raised alert stands in DEV_ALERT (R908). -/
theorem State.raiseAlert_bit (s : State) {bit : Nat} (h : bit < 64) : bitAt ((s.raiseAlert bit).devReg 0x18) bit = true := by
  unfold State.raiseAlert
  split
  · next hset => exact hset
  · rw [State.raiseHouse, State.devReg_setDevReg _ _ _ _ (by decide), State.devReg_setDevReg_same]
    exact bitAt_or_one_shiftLeft _ h

/-! ### FAULTED (R220, R242) -/

/-- What a part that is FAULTED keeps, but a TIME_SET that waited. -/
theorem State.faultOnce_fields (s : State) (cause : Byte) : (s.faultOnce cause).devState = .faulted ∧ (s.faultOnce cause).dev = s.dev ∧
    (s.faultOnce cause).chans = s.chans ∧ (s.faultOnce cause).prot = s.prot ∧ (s.faultOnce cause).acts = s.acts ∧
    ∃ x, (s.faultOnce cause).tb = { s.tb with atPps := x } := by
  unfold State.faultOnce
  split
  · next h => exact ⟨h, rfl, rfl, rfl, rfl, _, rfl⟩
  · obtain ⟨hdev, hregs, -, hchans, hprot⟩ := s.enterFaulted_fields cause
    refine ⟨hdev, hregs, hchans, hprot, ?_⟩
    obtain ⟨hk⟩ : LongOnly s (s.forAll s.long fun l s => s.finishLong l { status := 0x15, dw3 := 1 } []) :=
      State.forAll_induction (P := LongOnly s) _ (Kept.refl s).longOnly fun l t ht => ht.trans (t.finishLong_longOnly l _ _)
    unfold State.enterFaulted
    dsimp only
    generalize (s.forAll s.long fun l s => s.finishLong l { status := 0x15, dw3 := 1 } []) = v at hk ⊢
    obtain ⟨pw, tr, henter⟩ := State.enterDev_eq
      { v with boot := { v.boot with faultLog := v.boot.faultLog ++ [{ cause := cause, stamp := s.now }] }, tb := { v.tb with atPps := none } } .faulted
    rw [henter]
    have htb : v.tb = s.tb := hk.tb
    have hacts : v.acts = s.acts := hk.acts
    split
    · exact ⟨hacts, none, congrArg (fun b : TimeBase => { b with atPps := none }) htb⟩
    · exact ⟨hacts, none, congrArg (fun b : TimeBase => { b with atPps := none }) htb⟩

/-! ### Clocks that fail (R84, R85, R97) -/

/-- Fine time ends. -/
theorem State.loseFine_eq (s : State) : ∃ o x y, s.loseFine = { s with out := o, tb := { s.tb with ppsOut := x, ppsOutFall := y, pllLock := false, fineValid := false } } := by
  unfold State.loseFine State.dropPps
  split
  · exact ⟨_, _, _, rfl⟩
  · exact ⟨_, _, _, rfl⟩

/-- An act that ran as time is lost. -/
def Act.timeLost (a : Act) : Act := if a.running then { a with running := false, stopCause := 2, nextStart := 0 } else a

/-- Time is lost: every running act stops. -/
theorem State.loseTime_fields (s : State) : ∃ x y, Reported { s with tb := { s.tb with strobeDue := x, timeValid := false }, tdm := y, acts := s.acts.map Act.timeLost } s.loseTime := by
  unfold State.loseTime
  dsimp only
  split
  · exact ⟨_, _, (State.raiseSm_reported _ 24).trans (State.raiseHouse_reported _ 8)⟩
  · exact ⟨_, _, (Kept.refl _).reported⟩

theorem look_timeLost (x : Tbl 4 Act) (a : ActId) : Tbl.look (w := 4) (x.map Act.timeLost) a = (x.look a).timeLost := by
  simp [Tbl.look]

/-- What the loss of REFCLK leaves outside SHUTTERED. -/
theorem exec_refclkLoss (hclk : s.tb.refclkPresent = true) (hpw : s.power.state ≠ .shuttered) : ∃ t : State, exec .refclkLoss s = .next t ∧ t.devState = .faulted ∧
    bitAt (t.devReg 0x18) 0 = true ∧ t.acts = s.acts.map Act.timeLost ∧ t.prot = s.prot ∧ t.chans = s.chans ∧
    ∃ o, t.tb = { s.tb with ppsOut := t.tb.ppsOut, ppsOutFall := t.tb.ppsOutFall, strobeDue := o, atPps := t.tb.atPps, pllLock := false, fineValid := false, timeValid := false, slewRate := 0, slewNeg := false, slewLeft := 0, time := s.tb.refTime, acc := s.tb.refAcc, tbPhase := 0, refclkPresent := false, refclkLost := true } := by
  obtain ⟨o, x, y, hfine⟩ := s.loseFine_eq
  obtain ⟨z, w, hlost⟩ := s.loseFine.loseTime_fields
  obtain ⟨u, hu⟩ : ∃ u, u = s.loseFine.loseTime.updTb fun t =>
      { t.endSlew with time := t.refTime, acc := t.refAcc, tbPhase := 0, refclkPresent := false, refclkLost := true } := ⟨_, rfl⟩
  obtain ⟨v, hv⟩ : ∃ v, v = (u.note 9 0x92 none none 1).raiseAlert 0 := ⟨_, rfl⟩
  obtain ⟨hrep⟩ : Reported u v := hv ▸ (u.note_reported 9 0x92 none none 1).trans (State.raiseAlert_reported _ 0)
  obtain ⟨hdev, hregs, hchans, hprot, hacts, p, htb⟩ := v.faultOnce_fields 0
  have hexec : exec .refclkLoss s = .next (v.faultOnce 0) := by
    refine Eq.trans (b := execRefclkLoss s) rfl ((if_neg (by simp [hclk])).trans ?_)
    have hsh : (s.power.state == .shuttered) = false := beq_eq_false_iff_ne.mpr hpw
    dsimp only
    rw [hsh, hv, hu]
    rfl
  have hutb : u.tb = { s.loseFine.loseTime.tb.endSlew with time := s.loseFine.loseTime.tb.refTime, acc := s.loseFine.loseTime.tb.refAcc, tbPhase := 0, refclkPresent := false, refclkLost := true } := by
    rw [hu]
    rfl
  refine ⟨v.faultOnce 0, hexec, hdev, ?_, ?_, ?_, ?_, z, ?_⟩
  · rw [State.devReg, hregs, hv]
    exact State.raiseAlert_bit _ (by decide)
  · refine hacts.trans (hrep.acts.trans ?_)
    rw [hu]
    refine hlost.kept.acts.trans ?_
    rw [hfine]
  · refine hprot.trans (hrep.prot.trans ?_)
    rw [hu]
    refine hlost.kept.prot.trans ?_
    rw [hfine]
  · refine hchans.trans (hrep.chans.trans ?_)
    rw [hu]
    refine hlost.kept.chans.trans ?_
    rw [hfine]
  · have hv' : v.tb = u.tb := hrep.tb
    rw [htb, hv', hutb, hlost.kept.tb, hfine]
    rfl

/-- What an unlocked root PLL leaves. -/
theorem exec_pllUnlock (hlock : s.tb.pllLock = true) : ∃ t : State, exec .pllUnlock s = .next t ∧ t.devState = .faulted ∧ t.acts = s.acts ∧ t.prot = s.prot ∧
    t.tb = { s.tb with ppsOut := t.tb.ppsOut, ppsOutFall := t.tb.ppsOutFall, atPps := t.tb.atPps, pllLock := false, fineValid := false, pllUnlocked := true } := by
  obtain ⟨o, x, y, hfine⟩ := s.loseFine_eq
  obtain ⟨u, hu⟩ : ∃ u, u = s.loseFine.updTb fun t => { t with pllUnlocked := true } := ⟨_, rfl⟩
  obtain ⟨hrep⟩ := u.raiseAlert_reported 1
  obtain ⟨hdev, -, -, hprot, hacts, p, htb⟩ := (u.raiseAlert 1).faultOnce_fields 1
  refine ⟨(u.raiseAlert 1).faultOnce 1, ?_, hdev, ?_, ?_, ?_⟩
  · refine Eq.trans (b := execPllUnlock s) rfl ((if_neg (by simp [hlock])).trans ?_)
    rw [hu]
  · refine hacts.trans (hrep.acts.trans ?_)
    rw [hu, hfine]
    rfl
  · refine hprot.trans (hrep.prot.trans ?_)
    rw [hu, hfine]
    rfl
  · have hv : (u.raiseAlert 1).tb = u.tb := hrep.tb
    rw [htb, hv, hu, hfine]
    rfl

/-! ### Pulses that end (R70, R72, R784) -/

theorem filter_due {o : Option Tick} {t now : Tick} (h : o = some t) : (o.filter fun t => due t now) = if due t now then some t else none := by
  rw [h]
  rfl

/-- A strobe output that is driven has the level. -/
theorem State.strobeTo_level (n : BitVec 3) (level : Bool) (fall : Option Tick) (t : Tick) : (s.strobeTo n level fall t).tb.strobeLevel.look n = level := by
  unfold State.strobeTo
  dsimp only
  split
  · exact Tbl.look_put_same ..
  · exact Tbl.look_put_same ..

theorem exec_pulseEnd (o : PulseOutput) : exec (.pulseEnd o) s = match o with
    | .pps => match s.tb.ppsOutFall.filter fun t => due t s.now with
      | some t => .next ((s.updTb fun b => { b with ppsOut := false, ppsOutFall := none }).emit (.pulse .pps false t))
      | none => .next s
    | .strobe n => match (s.tb.strobeFall.look n).filter fun t => due t s.now with
      | some t => .next (s.strobeTo n false none t)
      | none => .next s
    | .sysref => match s.conv.sysrefFall.filter fun t => due t s.now with
      | some t => .next (({ s with conv := { s.conv with sysrefLevel := false, sysrefFall := none } } : State).emit (.pulse .sysref false t))
      | none => .next s
    | .done p => match (s.pins.look p).pulseEnd.filter fun t => due t s.now with
      | some t => .next (s.endDone p t)
      | none => .next s := by
  cases o <;> rfl

/-- The end of a DONE pulse: no more, or the next of those queued. -/
theorem State.endDone_pulse (p : PinId) (t : Tick) : ((s.pins.look p).queued = 0 → ((s.endDone p t).pins.look p).pulseEnd = none) ∧
    ((s.pins.look p).queued ≠ 0 → ((s.endDone p t).pins.look p).queued = (s.pins.look p).queued - 1) := by
  refine ⟨fun h => ?_, fun h => ?_⟩
  · rw [State.endDone, if_pos h]
    simp [State.updPin, State.emit]
  · rw [State.endDone, if_neg h]
    simp [State.updPin, State.emit]

end

/-- Settles O50. -/
theorem clockLossAndPulses : Obligations.ClockLossAndPulses := by
  intro s
  refine ⟨fun hclk hpw => ?_, fun hclk => ?_, rfl, fun hlock => ?_, fun t ht => ⟨fun hd => ?_, fun hd => ?_⟩, fun n t ht hd => ⟨?_, ?_⟩, fun t ht hd => ?_, fun p t ht hd => ⟨?_, State.endDone_pulse p t⟩⟩
  · obtain ⟨t, hexec, hdev, hbit, hacts, hprot, hchans, o, htb⟩ := exec_refclkLoss hclk hpw
    refine ⟨t, hexec, hdev, by rw [htb], by rw [htb], by rw [htb], by rw [htb], by rw [htb], by rw [htb], by rw [htb], by rw [htb], hbit, fun a ha => ?_, fun a ha => ?_, hprot, hchans⟩
    · rw [hacts, look_timeLost, Act.timeLost, ha]
      exact ⟨rfl, rfl⟩
    · rw [hacts, look_timeLost, Act.timeLost, ha]
      rfl
  · exact Eq.trans (b := execRefclkLoss s) rfl (if_pos (by rw [hclk]; rfl))
  · obtain ⟨t, hexec, hdev, hacts, hprot, htb⟩ := exec_pllUnlock hlock
    exact ⟨t, hexec, hdev, by rw [htb], by rw [htb], by rw [htb], by rw [htb], by rw [htb], hacts, hprot⟩
  · rw [exec_pulseEnd]
    dsimp only
    rw [filter_due ht, if_pos hd]
  · rw [exec_pulseEnd, filter_due ht, if_neg (Bool.eq_false_iff.mp hd)]
  · rw [exec_pulseEnd]
    dsimp only
    rw [filter_due ht, if_pos hd]
  · exact State.strobeTo_level ..
  · rw [exec_pulseEnd]
    dsimp only
    rw [filter_due ht, if_pos hd]
  · rw [exec_pulseEnd]
    dsimp only
    rw [filter_due ht, if_pos hd]

end Sys2Proof.Machine
end

section
/-! PROOF. Pin events (O51). -/

namespace Sys2Proof.Machine

section
variable {s : State} {p : PinId}

/-! ### Edges at inputs (R780, R785, R789) -/

theorem State.pin_updPin_same (s : State) (p : PinId) (f : Pin → Pin) : (s.updPin p f).pins.look p = f (s.pins.look p) := Tbl.look_upd_same ..

theorem State.holdEdge_free {level : Bool} (h : (s.pins.look p).heldEdge = none) : s.holdEdge p level = s.updPin p fun q => { q with heldEdge := some level } :=
  if_neg (by rw [h]; decide)

/-- An edge behind one that is held sets the pin's bit of PIN_EVENT_LOST (R789). -/
theorem State.holdEdge_lost {level : Bool} (h : (s.pins.look p).heldEdge ≠ none) : bitAt ((s.holdEdge p level).devReg 0x9A0) p.toNat = true ∧
    (s.holdEdge p level).pins = s.pins ∧ (s.holdEdge p level).chans = s.chans := by
  rw [State.holdEdge, if_pos (Option.isSome_iff_ne_none.mpr h)]
  refine ⟨?_, rfl, rfl⟩
  rw [State.devReg_setDevReg_same]
  exact bitAt_or_one_shiftLeft _ p.isLt

theorem State.seeEdge_ball (p : PinId) (func : Nat) (level : Bool) : ((s.seeEdge p func level).1.pins.look p).ball = level := by
  unfold State.seeEdge State.ballMoves
  dsimp only
  split
  · rw [State.pin_updPin_same]
  · rw [State.pin_updPin_same, State.pin_updPin_same]

theorem State.belowHush_iff : s.belowHush = false ↔ s.power.state = .lit ∨ s.power.state = .hush := by
  cases h : s.power.state <;> simp [State.belowHush, h]

/-- A live request pin that sees an edge. -/
theorem exec_dreq_edge (hp : p.toNat < 48) (level : Bool) (hfunc : s.pinFunc p = 3) (hlive : (s.pins.look p).live = true) (hseen : (s.pins.look p).seen ≠ level) :
    let v := (s.updPin p fun q => { q with ball := level }).updPin p fun q => { q with seen := level }
    exec (.dreq p level) s = if s.power.state = .lit ∨ s.power.state = .hush then .next (v.lineEvent (s.pinIndex p % 32) level) else .next (v.holdEdge p level) := by
  refine Eq.trans (b := execDreq p level s) rfl ((if_neg (by omega)).trans (if_neg ?_))
  rintro (h | h | h)
  · exact h hfunc
  · exact Bool.noConfusion (h.symm.trans hlive)
  · exact hseen h

theorem exec_cueIn (hp : p.toNat < 48) (rise : Bool) : let r := s.seeEdge p 5 rise
    exec (.cueIn p rise) s = if !(r.2 && edgeQualifies (field (s.pinMux p) 7 6) rise) then .next r.1
      else if s.belowHush then .next (r.1.holdEdge p rise) else .next (r.1.signal (BitVec.ofNat 10 (s.pinIndex p)) 1) :=
  Eq.trans (b := execCueIn p rise s) rfl (if_neg (by omega))

theorem exec_wake (hp : p.toNat < 48) (rise : Bool) : let r := s.seeEdge p 11 rise; let s1 := r.1.wakeBy 2
    exec (.wake p rise) s = if r.2 && edgeQualifies (field (s.pinMux p) 7 6) rise && s.power.state != .lit then
        (if bitAt s1.power.wakeCause 2 && !(s.power.waking && bitAt s.power.wakeCause 2) then .next { s1 with power := { s1.power with wakePin := p } } else .next s1)
      else .next r.1 :=
  Eq.trans (b := execWake p rise s) rfl (if_neg (by omega))

/-- A wake event of a part below LIT that wakes already changes the causes alone. -/
theorem State.wakeBy_again (hlit : s.power.state ≠ .lit) (hwaking : s.power.waking = true) (bit : Nat) : ∃ k, s.wakeBy bit = { s with power := { s.power with wakeCause := k } } := by
  rw [State.wakeBy, if_neg hlit, if_neg (by simp [hwaking])]
  split
  · exact ⟨_, rfl⟩
  · exact ⟨_, rfl⟩

/-! ### Pins that park and settle (R775, R779) -/

theorem exec_pinParkEnd : exec (.pinParkEnd p) s = match (s.pins.look p).parkEnd with
    | none => .next s
    | some t => if future t s.now then .next s
      else
        let v := s.updPin p fun q => { q with parkEnd := none }
        .next (v.updPin p fun q => { q with ball := (v.driven p).getD q.ball }) := rfl

theorem exec_pinSettleEnd : exec (.pinSettleEnd p) s = match (s.pins.look p).settleEnd with
    | none => .next s
    | some t => if future t s.now then .next s
      else
        let w := s.updPin p fun q => { q with parkEnd := none, settleEnd := none }
        let u := w.updPin p fun q => { q with ball := (w.driven p).getD q.ball, seen := q.ball }
        let v := if s.pinFunc p = 3 then u.lineStart (s.pinIndex p % 32) (u.pins.look p).ball else u
        match v.pinJob with
        | some j => if j.pin = p then .next (v.finishPin j) else .next v
        | none => .next v := rfl

end

/-- Settles O51. -/
theorem pinEvents : Obligations.PinEvents := by
  intro p s hp
  refine ⟨fun level => ?_, fun rise => ?_, fun rise => ?_, fun h => ?_, fun t ht => ⟨fun hf => ?_, fun hf => ?_⟩, fun h => ?_, fun t ht => ⟨fun hf => ?_, fun hf => ?_⟩⟩
  · intro q u
    refine ⟨fun h => ?_, fun hfunc hlive hseen => ?_⟩
    · exact Eq.trans (b := execDreq p level s) rfl ((if_neg (by omega)).trans (if_pos h))
    · intro v
      have hexec := exec_dreq_edge hp level hfunc hlive hseen
      have hheld : (v.pins.look p).heldEdge = q.heldEdge := by
        rw [State.pin_updPin_same, State.pin_updPin_same]
      have hhush (h : s.belowHush = true) : ¬ (s.power.state = .lit ∨ s.power.state = .hush) := fun hor => Bool.noConfusion ((State.belowHush_iff.mpr hor).symm.trans h)
      refine ⟨fun hb => hexec.trans (if_pos (State.belowHush_iff.mp hb)), fun hb hn => ?_, fun hb hn => ?_⟩
      · exact hexec.trans ((if_neg (hhush hb)).trans (congrArg Host.Outcome.next (State.holdEdge_free (hheld.trans hn))))
      · obtain ⟨hbit, hpins, hchans⟩ := State.holdEdge_lost (s := v) (level := level) (fun h => hn (hheld.symm.trans h))
        exact ⟨_, hexec.trans (if_neg (hhush hb)), hbit, hpins, hchans⟩
  · intro r on
    obtain ⟨x, hx⟩ := State.seeEdge_pins (s := s) p 5 rise
    have hr : r.1 = { s with pins := x } := hx
    have hexec := exec_cueIn (s := s) hp rise
    refine ⟨State.seeEdge_ball p 5 rise, by rw [hr], fun hon => ?_, fun hon hb => ?_, fun hon hb => ?_⟩
    · exact hexec.trans (if_pos (by rw [show ((s.seeEdge p 5 rise).2 && edgeQualifies (field (s.pinMux p) 7 6) rise) = false from hon]; rfl))
    · exact hexec.trans ((if_neg (by rw [show ((s.seeEdge p 5 rise).2 && edgeQualifies (field (s.pinMux p) 7 6) rise) = true from hon]; decide)).trans (if_neg (Bool.eq_false_iff.mp hb)))
    · exact hexec.trans ((if_neg (by rw [show ((s.seeEdge p 5 rise).2 && edgeQualifies (field (s.pinMux p) 7 6) rise) = true from hon]; decide)).trans (if_pos hb))
  · intro r on
    obtain ⟨x, hx⟩ := State.seeEdge_pins (s := s) p 11 rise
    have hr : r.1 = { s with pins := x } := hx
    have hexec := exec_wake (s := s) hp rise
    have hgo (hon : on = true) (hlit : s.power.state ≠ .lit) : ((s.seeEdge p 11 rise).2 && edgeQualifies (field (s.pinMux p) 7 6) rise && s.power.state != .lit) = true := by
      rw [show ((s.seeEdge p 11 rise).2 && edgeQualifies (field (s.pinMux p) 7 6) rise) = true from hon, Bool.true_and]
      exact bne_iff_ne.mpr hlit
    refine ⟨fun h => ?_, fun hon hlit hwaking => ?_, fun hon hlit hwaking => ?_⟩
    · refine hexec.trans (if_neg fun hall => ?_)
      obtain ⟨hboth, hne⟩ := Bool.and_eq_true_iff.mp hall
      exact h.elim (fun hoff => Bool.noConfusion (hoff.symm.trans hboth)) fun hlit => bne_iff_ne.mp hne hlit
    · have hwake : r.1.wakeBy 2 = { r.1 with power := { s.power with waking := true, wakeAt := s.tb.refclkCount, wakeCause := 1 <<< 2 } } := by
        rw [hr]
        exact (if_neg hlit).trans (if_pos (by simp [hwaking]))
      refine hexec.trans ((if_pos (hgo hon hlit)).trans ?_)
      rw [show (s.seeEdge p 11 rise).1.wakeBy 2 = _ from hwake]
      exact if_pos (Bool.and_eq_true_iff.mpr ⟨(by decide : bitAt ((1 : BitVec 6) <<< 2) 2 = true), by rw [hwaking]; rfl⟩)
    · obtain ⟨k, hk⟩ := State.wakeBy_again (s := r.1) (by rw [hr]; exact hlit) (by rw [hr]; exact hwaking) 2
      have hpower : r.1.power = s.power := by rw [hr]
      rw [hpower] at hk
      refine (Decidable.em (bitAt (r.1.wakeBy 2).power.wakeCause 2 && !(s.power.waking && bitAt s.power.wakeCause 2))).elim (fun hpin => ?_) fun hpin => ?_
      · refine ⟨_, hexec.trans ((if_pos (hgo hon hlit)).trans (if_pos hpin)), ?_⟩
        rw [show (s.seeEdge p 11 rise).1.wakeBy 2 = _ from hk]
        exact ⟨rfl, hwaking, rfl, rfl⟩
      · refine ⟨_, hexec.trans ((if_pos (hgo hon hlit)).trans (if_neg hpin)), ?_⟩
        rw [show (s.seeEdge p 11 rise).1.wakeBy 2 = _ from hk]
        exact ⟨rfl, hwaking, rfl, rfl⟩
  · rw [exec_pinParkEnd, h]
  · rw [exec_pinParkEnd, ht]
    exact if_pos hf
  · rw [exec_pinParkEnd, ht]
    exact if_neg (Bool.eq_false_iff.mp hf)
  · rw [exec_pinSettleEnd, h]
  · rw [exec_pinSettleEnd, ht]
    exact if_pos hf
  · intro w u v
    have hexec : exec (.pinSettleEnd p) s = match v.pinJob with
        | some j => if j.pin = p then .next (v.finishPin j) else .next v
        | none => .next v := by
      rw [exec_pinSettleEnd, ht]
      exact if_neg (Bool.eq_false_iff.mp hf)
    refine ⟨fun hnone => ?_, fun j hj => ⟨fun hpin => ?_, fun hpin => ?_⟩⟩
    · rw [hexec, hnone]
    · rw [hexec, hj]
      exact if_pos hpin
    · rw [hexec, hj]
      exact if_neg hpin

end Sys2Proof.Machine
end

section
/-! PROOF. The clocks of the converter links: SYSREF, DEVCLK, boundaries, synchronisation and the ILAS (O52). -/

namespace Sys2Proof.Machine

section
variable {s : State}

/-! ### Converter links as tables -/

theorem State.conv1_updConv_same (s : State) (i : Nat) (f : ConvLinkState → ConvLinkState) : (s.updConv i f).conv1 i = f (s.conv1 i) := Tbl.look_upd_same ..

theorem convLink_ne {i j : Nat} (hi : i < 8) (hj : j < 8) (h : i ≠ j) : (BitVec.ofNat 3 i : BitVec 3) ≠ BitVec.ofNat 3 j := by
  intro he
  have := congrArg BitVec.toNat he
  rw [BitVec.toNat_ofNat, BitVec.toNat_ofNat] at this
  omega

theorem State.conv1_updConv_other (s : State) {i j : Nat} (f : ConvLinkState → ConvLinkState) (hi : i < 8) (hj : j < 8) (h : i ≠ j) :
    (s.updConv i f).conv1 j = s.conv1 j := Tbl.look_upd_other _ _ (convLink_ne hi hj h)

/-- The links of a list, each changed alike. -/
theorem State.updConvs_fields (f : ConvLinkState → ConvLinkState) (l : List Nat) (hl : l.Nodup) (h8 : ∀ i ∈ l, i < 8) (s : State) :
    let t := s.forAll l fun i s => s.updConv i f
    (∀ i ∈ l, t.conv1 i = f (s.conv1 i)) ∧ (∀ i, i < 8 → i ∉ l → t.conv1 i = s.conv1 i) ∧ { s with conv := t.conv } = t := by
  induction l generalizing s with
  | nil => exact ⟨fun i hi => absurd hi List.not_mem_nil, fun _ _ _ => rfl, rfl⟩
  | cons j l ih =>
    obtain ⟨hj, hnodup⟩ := List.nodup_cons.mp hl
    obtain ⟨hin, hout, hrest⟩ := ih hnodup (fun i hi => h8 i (List.mem_cons_of_mem _ hi)) (s.updConv j f)
    have hj8 := h8 j List.mem_cons_self
    refine ⟨fun i hi => ?_, fun i hi hni => ?_, hrest⟩
    · rcases List.mem_cons.mp hi with rfl | hi
      · exact (hout i hj8 hj).trans (s.conv1_updConv_same i f)
      · have hne : j ≠ i := fun he => hj (he ▸ hi)
        exact (hin i hi).trans (congrArg f (s.conv1_updConv_other f hj8 (h8 i (List.mem_cons_of_mem _ hi)) hne))
    · have hne : j ≠ i := fun he => hni (he ▸ List.mem_cons_self)
      exact (hout i hi fun h => hni (List.mem_cons_of_mem _ h)).trans (s.conv1_updConv_other f hj8 hi hne)

theorem nodup_links (f : Nat → Bool) : ((List.range 8).filter f).Nodup := List.nodup_range.filter f

theorem links_lt {f : Nat → Bool} {i : Nat} (h : i ∈ (List.range 8).filter f) : i < 8 := List.mem_range.mp ((List.mem_filter.mp h).1)

/-! ### SYSREF (R694 to R698) -/

/-- A subclass-1 link without a phase takes that of the edge. -/
theorem State.judgeSysref_aligns {i : Nat} {edge : Tick} {miss : Bool} (hmode : field (s.devReg 0x1840) 41 40 < 2) (hun : (s.conv1 i).aligned = false) :
    s.judgeSysref i edge miss = s.alignLink i edge := by
  have hno : ¬ ((s.conv1 i).aligned && miss) = true := by
    rw [hun]
    exact Bool.false_ne_true
  have htake : field (s.devReg 0x1840) 41 40 = 1 ∨ (field (s.devReg 0x1840) 41 40 = 0 ∧ (s.conv1 i).aligned = false) := by
    rcases (by omega : field (s.devReg 0x1840) 41 40 = 0 ∨ field (s.devReg 0x1840) 41 40 = 1) with h | h
    · exact .inr ⟨h, hun⟩
    · exact .inl h
  unfold State.judgeSysref
  dsimp only
  rw [if_neg hno, if_pos htake]

/-- An edge that misses no phase leaves a link that has one. -/
theorem State.judgeSysref_keeps {i : Nat} {edge : Tick} (hmode : field (s.devReg 0x1840) 41 40 = 0) (hal : (s.conv1 i).aligned = true) : s.judgeSysref i edge false = s := by
  have hno : ¬ ((s.conv1 i).aligned && false) = true := by
    rw [Bool.and_false]
    exact Bool.false_ne_true
  have hleave : ¬ (field (s.devReg 0x1840) 41 40 = 1 ∨ (field (s.devReg 0x1840) 41 40 = 0 ∧ (s.conv1 i).aligned = false)) := by
    rw [hmode, hal]
    decide
  unfold State.judgeSysref
  dsimp only
  rw [if_neg hno, if_neg hleave]

/-- An edge gives each link of a list without a phase its own. -/
theorem State.judgeSysrefs_fields (edge : Tick) (miss : Byte) (l : List Nat) (hl : l.Nodup) (h8 : ∀ i ∈ l, i < 8) (s : State) (hmode : field (s.devReg 0x1840) 41 40 < 2)
    (hun : ∀ i ∈ l, (s.conv1 i).aligned = false) : let t := s.forAll l fun i s => s.judgeSysref i edge (bitAt miss i)
    (∀ i ∈ l, t.conv1 i = { s.conv1 i with aligned := true, lmfcStamp := edge }) ∧ (∀ i, i < 8 → i ∉ l → t.conv1 i = s.conv1 i) ∧
      t.conv.sysrefSeq = s.conv.sysrefSeq ∧ { s with conv := t.conv } = t := by
  induction l generalizing s with
  | nil => exact ⟨fun i hi => absurd hi List.not_mem_nil, fun _ _ _ => rfl, rfl, rfl⟩
  | cons j l ih =>
    obtain ⟨hj, hnodup⟩ := List.nodup_cons.mp hl
    have hj8 := h8 j List.mem_cons_self
    have hsame : (s.alignLink j edge).conv1 j = { s.conv1 j with aligned := true, lmfcStamp := edge } := Tbl.look_upd_same ..
    have hother : ∀ i, i < 8 → j ≠ i → (s.alignLink j edge).conv1 i = s.conv1 i := fun i hi hne => s.conv1_updConv_other _ hj8 hi hne
    have hne : ∀ i ∈ l, j ≠ i := fun i hi he => hj (he ▸ hi)
    obtain ⟨hin, hout, hseq, hrest⟩ := ih hnodup (fun i hi => h8 i (List.mem_cons_of_mem _ hi)) (s.alignLink j edge) hmode fun i hi => by
      rw [hother i (h8 i (List.mem_cons_of_mem _ hi)) (hne i hi)]
      exact hun i (List.mem_cons_of_mem _ hi)
    intro t
    have ht : t = (s.alignLink j edge).forAll l fun i s => s.judgeSysref i edge (bitAt miss i) :=
      congrArg (fun u : State => u.forAll l fun i s => s.judgeSysref i edge (bitAt miss i)) (State.judgeSysref_aligns hmode (hun j List.mem_cons_self))
    rw [ht]
    refine ⟨fun i hi => ?_, fun i hi hni => ?_, hseq, hrest⟩
    · rcases List.mem_cons.mp hi with rfl | hi
      · exact (hout i hj8 hj).trans hsame
      · rw [hin i hi, hother i (h8 i (List.mem_cons_of_mem _ hi)) (hne i hi)]
    · have hne' : j ≠ i := fun he => hni (he ▸ List.mem_cons_self)
      exact (hout i hi fun h => hni (List.mem_cons_of_mem _ h)).trans (hother i hi hne')

theorem exec_sysrefEvent {v : BitVec 4} {edge : Tick} {miss : Byte} (h : s.tb.devclkPresent = true) :
    let u : State := { s with conv := { s.conv with sysrefStamp := s.now + v.zeroExtend 64, sysrefSeq := s.conv.sysrefSeq + 1 } }
    let links := (List.range 8).filter fun i => s.linkState i != .down && (convParams (s.convCfg i)).subclass1
    exec (.sysrefEvent v edge miss) s = if 2 ≤ field (s.devReg 0x1840) 41 40 then .next u else .next (u.forAll links fun i s => s.judgeSysref i edge (bitAt miss i)) :=
  Eq.trans (b := execSysrefEvent v edge miss s) rfl (if_pos h)

theorem exec_sysrefPulse {t : Tick} (h : s.conv.sysrefNext = some t) : exec .sysrefPulse s =
    if bitAt (s.devReg 0x1850) 0 && bitAt (s.devReg 0x1840) 24 && due t s.now then .next ((s.sysrefOut t).sysrefAdvance t) else .next s := by
  refine Eq.trans (b := execSysrefPulse s) rfl ?_
  unfold execSysrefPulse
  rw [h]

/-- A pulse that is produced, or missed without fine time, leaves how many are still to come. -/
theorem State.sysrefOut_left (s : State) (t : Tick) : (s.sysrefOut t).conv.sysrefLeft = s.conv.sysrefLeft := by
  unfold State.sysrefOut
  dsimp only
  split
  · rfl
  · exact congrArg Converter.sysrefLeft (State.note_kept ..).conv

theorem State.sysrefOut_fine (t : Tick) (h : s.tb.fineValid = true) : s.sysrefOut t =
    ({ s with conv := { s.conv with sysrefLevel := true, sysrefFall := some (t + BitVec.ofNat 64 (16 * field (s.devReg 0x1850) 47 32)) } } : State).emit (.pulse .sysref true t) := if_pos h

/-- A continuous pattern goes on. -/
theorem State.sysrefAdvance_forever {u : State} (t : Tick) (h : u.conv.sysrefLeft = none) : u.sysrefAdvance t = { u with conv := { u.conv with sysrefNext := some (t + u.devReg 0x1860) } } := by
  rw [State.sysrefAdvance, h]

/-- After the last pulse of a pattern ARM is 0 (R695). -/
theorem State.sysrefAdvance_last {u : State} (t : Tick) (h : u.conv.sysrefLeft = some 1) : bitAt ((u.sysrefAdvance t).devReg 0x1850) 0 = false ∧ (u.sysrefAdvance t).conv.sysrefNext = none := by
  rw [State.sysrefAdvance, h]
  refine ⟨?_, rfl⟩
  refine Eq.trans (congrArg (fun w : Word => bitAt w 0) (State.devReg_setDevReg_same u 0x1850 _)) ?_
  exact (disarmed_fields _).1

/-! ### Boundaries, synchronisation and the ILAS (R706 to R710) -/

theorem look_putZeros (l : List (BitVec 3)) (x : Tbl 3 Nat) (k : BitVec 3) :
    Tbl.look (l.foldl (fun t k => t.put k 0) x) k = if k ∈ l then 0 else x.look k := by
  induction l generalizing x with
  | nil => rfl
  | cons j l ih =>
    rw [List.foldl_cons, ih, Tbl.look_put]
    by_cases hl : k ∈ l
    · simp [hl]
    · by_cases hj : j = k
      · simp [hj]
      · simp [hl, hj, Ne.symm hj]

theorem bitAt_laneMask (l : List (BitVec 3)) (m : Byte) (k : BitVec 3) (h : k ∈ l ∨ bitAt m k.toNat = true) :
    bitAt (l.foldl (fun m k => m ||| ((1 : Byte) <<< k.toNat)) m) k.toNat = true := by
  induction l generalizing m with
  | nil => exact h.resolve_left List.not_mem_nil
  | cons j l ih =>
    refine ih _ ?_
    by_cases hl : k ∈ l
    · exact .inl hl
    · refine .inr ?_
      rcases h with h | h
      · obtain rfl := (List.mem_cons.mp h).resolve_right hl
        have hk := k.isLt
        simp [bitAt, hk]
      · have hm : m.getLsbD k.toNat = true := h
        rw [bitAt, BitVec.getLsbD_or, hm, Bool.true_or]

/-- A boundary of an RX link: its lanes are counted anew, and one that waits for the boundary releases SYNCOUT_N. -/
theorem State.rxBoundary_fields (s : State) (i : Nat) : { s with conv := (s.rxBoundary i).conv } = s.rxBoundary i ∧
    (∀ k, (s.rxBoundary i).conv.laneErrors.look k = if k ∈ s.lanesOfLink i then 0 else s.conv.laneErrors.look k) ∧
    (s.rxBoundary i).conv1 i = if s.linkState i = .training ∧ (s.conv1 i).step = 3 ∧ (s.conv1 i).aligned = true then { s.conv1 i with step := 4, syncHigh := true } else s.conv1 i := by
  unfold State.rxBoundary
  dsimp only
  split
  · exact ⟨rfl, look_putZeros _ _, State.conv1_updConv_same ..⟩
  · exact ⟨rfl, look_putZeros _ _, rfl⟩

/-- A boundary of a training TX link (R700, R707), by its step. -/
theorem State.txBoundary_training {j : Nat} (h : s.linkState j = .training) : s.txBoundary j =
    if (s.conv1 j).step = 1 then
      if (s.conv1 j).syncHigh && !(convParams (s.convCfg j)).subclass1 then s.startIlas j else s.updConv j fun l => { l with step := 2 }
    else if (s.conv1 j).step = 2 then
      if (s.conv1 j).syncHigh && ((s.conv1 j).aligned || !(convParams (s.convCfg j)).subclass1) then s.startIlas j else s
    else if (s.conv1 j).ilasLeft ≤ 1 then s.enterUp j
    else s.updConv j fun l => { l with ilasLeft := l.ilasLeft - 1 } := if_neg fun hno => hno h

/-- The lanes of a link as a mask. -/
def State.laneMask (s : State) (i : Nat) : Byte := (s.lanesOfLink i).foldl (fun m k => m ||| (1 <<< k.toNat)) 0

theorem State.bitAt_or_laneMask (i : Nat) (w : Byte) {k : BitVec 3} (h : k ∈ s.lanesOfLink i) : bitAt (w ||| s.laneMask i) k.toNat = true := by
  have hm : (s.laneMask i).getLsbD k.toNat = true := bitAt_laneMask _ _ k (.inl h)
  rw [bitAt, BitVec.getLsbD_or, hm, Bool.or_true]

/-- Code-group synchronisation of a link whose lanes are locked (R706 steps 2 and 3). -/
theorem exec_codeGroupSync (n : BitVec 2) : exec (.codeGroupSync n) s =
    if s.linkState n.toNat = .training ∧ (s.conv1 n.toNat).step = 2 ∧ s.lanesLocked n.toNat = true then
      if (convParams (s.convCfg n.toNat)).subclass1 then
        .next (({ s with conv := { s.conv with laneSync := s.conv.laneSync ||| s.laneMask n.toNat } } : State).updConv n.toNat fun l => { l with step := 3 })
      else .next (({ s with conv := { s.conv with laneSync := s.conv.laneSync ||| s.laneMask n.toNat } } : State).updConv n.toNat fun l => { l with step := 4, syncHigh := true })
    else .next s := rfl

/-- A mismatch in an ILAS is kept, and ends it where the link is strict (R708). -/
theorem State.ilasMismatch_fields (s : State) (i : Nat) (o : Byte) :
    let u := s.updConv i fun l => { l with ilasMismatch := true, firstMismatch := if l.mismatched then l.firstMismatch else o, mismatched := true }
    let t := if (convParams (s.convCfg i)).strictIlas then u.backToSync i else u.updConv i fun l => { l with step := 5 }
    { s with conv := t.conv } = t ∧ (t.conv1 i).ilasMismatch = true ∧
      (t.conv1 i).firstMismatch = (if (s.conv1 i).mismatched then (s.conv1 i).firstMismatch else o) ∧
      (t.conv1 i).step = (if (convParams (s.convCfg i)).strictIlas then 2 else 5) := by
  intro u t
  have hu : u.conv1 i = { s.conv1 i with
      ilasMismatch := true, firstMismatch := if (s.conv1 i).mismatched then (s.conv1 i).firstMismatch else o, mismatched := true } := State.conv1_updConv_same ..
  by_cases h : (convParams (s.convCfg i)).strictIlas
  · have ht : t = u.backToSync i := if_pos h
    have hconv : t.conv1 i = { u.conv1 i with step := 2, syncHigh := false } := by
      rw [ht]
      exact State.conv1_updConv_same ..
    rw [hconv, hu, if_pos h, ht]
    exact ⟨rfl, rfl, rfl, rfl⟩
  · have ht : t = u.updConv i fun l => { l with step := 5 } := if_neg h
    have hconv : t.conv1 i = { u.conv1 i with step := 5 } := by
      rw [ht]
      exact State.conv1_updConv_same ..
    rw [hconv, hu, if_neg h, ht]
    exact ⟨rfl, rfl, rfl, rfl⟩

end

/-- Settles O52: each event by the equation of its command; lists of links go link by link. -/
theorem converterClocks : Obligations.ConverterClocks := by
  intro s
  refine ⟨fun v edge miss l hclk => ?_, fun v hclk => if_pos hclk, fun v edge miss hclk => ?_, fun hn => ?_, fun t ht => ?_, ?_, ?_, fun n hclk => ?_, fun n => ?_, fun n => ?_⟩
  · have hno : ¬ s.tb.devclkPresent = true := Bool.eq_false_iff.mp hclk
    exact ⟨Eq.trans (b := execSysrefEvent v edge miss s) rfl (if_neg hno), Eq.trans (b := execDevclkStamp v s) rfl (if_neg hno), Eq.trans (b := execLmfcBoundary l s) rfl (if_neg hno)⟩
  · intro u links
    have hexec := exec_sysrefEvent (v := v) (edge := edge) (miss := miss) hclk
    refine ⟨fun hmode => hexec.trans (if_pos hmode), fun hmode hun => ?_, fun hmode hmiss hal => ?_⟩
    · obtain ⟨hin, hout, hseq, hrest⟩ := State.judgeSysrefs_fields edge miss links (nodup_links _) (fun i hi => links_lt hi) u hmode hun
      exact ⟨_, hexec.trans (if_neg (by omega)), hin, hout, hseq, hrest⟩
    · refine hexec.trans ((if_neg (by omega)).trans (congrArg Host.Outcome.next ?_))
      refine State.forAll_induction_mem (P := fun t => t = u) links rfl fun i hi t ht => ?_
      rw [ht, hmiss, show bitAt (0 : Byte) i = false by simp [bitAt]]
      exact State.judgeSysref_keeps hmode (hal i hi)
  · refine Eq.trans (b := execSysrefPulse s) rfl ?_
    rw [execSysrefPulse, hn]
  · intro on
    have hexec := exec_sysrefPulse ht
    refine ⟨fun hon => hexec.trans (if_neg (Bool.eq_false_iff.mp hon)), fun hon => hexec.trans (if_pos hon), fun hon hfine hleft => ?_, fun hon hleft => ?_⟩
    · intro w c
      refine hexec.trans ((if_pos hon).trans (congrArg Host.Outcome.next ?_))
      rw [State.sysrefAdvance_forever t ((s.sysrefOut_left t).trans hleft), State.sysrefOut_fine t hfine]
      rfl
    · obtain ⟨hbit, hnext⟩ := State.sysrefAdvance_last (u := s.sysrefOut t) t ((s.sysrefOut_left t).trans hleft)
      exact ⟨_, hexec.trans (if_pos hon), hbit, hnext⟩
  · intro u
    refine ⟨rfl, fun hdown => ?_⟩
    have hnil : ((List.range 8).filter fun i => s.linkState i != .down) = [] :=
      List.filter_eq_nil_iff.mpr fun i hi => by rw [hdown i (List.mem_range.mp hi)]; decide
    refine Eq.trans (b := execDevclkLoss s) rfl ?_
    rw [execDevclkLoss, hnil]
    rfl
  · intro u
    refine ⟨fun hmode => Eq.trans (b := execDevclkReturn s) rfl (if_neg hmode), fun hmode => ?_⟩
    obtain ⟨hin, hout, hrest⟩ := State.updConvs_fields (fun l => { l with aligned := true }) ((List.range 8).filter fun i => s.linkState i == .training) (nodup_links _) (fun i hi => links_lt hi) u
    refine ⟨_, Eq.trans (b := execDevclkReturn s) rfl (if_pos hmode), hrest, fun i hi => ?_⟩
    by_cases htr : s.linkState i = .training
    · rw [if_pos htr]
      exact hin i (List.mem_filter.mpr ⟨List.mem_range.mpr hi, beq_iff_eq.mpr htr⟩)
    · rw [if_neg htr]
      exact hout i hi fun h => htr (beq_iff_eq.mp (List.mem_filter.mp h).2)
  · intro i j
    have hrx : exec (.lmfcBoundary (.rx n)) s = .next (s.rxBoundary i) := Eq.trans (b := execLmfcBoundary (.rx n) s) rfl (if_pos hclk)
    have htx : exec (.lmfcBoundary (.tx n)) s = .next (s.txBoundary j) := Eq.trans (b := execLmfcBoundary (.tx n) s) rfl (if_pos hclk)
    obtain ⟨hrest, herr, hconv⟩ := s.rxBoundary_fields i
    refine ⟨⟨_, hrx, hrest, fun k hk => ?_, fun k hk => ?_, hconv⟩, fun hno => htx.trans (congrArg Host.Outcome.next (if_pos hno)), fun htr => ?_⟩
    · rw [herr, if_pos hk]
    · rw [herr, if_neg hk]
    · intro l sub1
      have hgo := htx.trans (congrArg Host.Outcome.next (s.txBoundary_training htr))
      refine ⟨fun h1 hk => ?_, fun h1 hsync hsub => ?_, fun h2 hsync hready => ?_, fun h3 hleft => ?_, fun h3 hleft => ?_⟩
      · have hno : ¬ (l.syncHigh && !sub1) = true := by
          rcases hk with h | h <;> simp [h]
        exact hgo.trans (congrArg Host.Outcome.next ((if_pos h1).trans (if_neg hno)))
      · have hyes : (l.syncHigh && !sub1) = true := by simp [hsync, hsub]
        exact hgo.trans (congrArg Host.Outcome.next ((if_pos h1).trans (if_pos hyes)))
      · have hyes : (l.syncHigh && (l.aligned || !sub1)) = true := by
          rcases hready with h | h <;> simp [hsync, h]
        exact hgo.trans (congrArg Host.Outcome.next ((if_neg fun h => absurd (h2.symm.trans h) (by decide)).trans ((if_pos h2).trans (if_pos hyes))))
      · exact hgo.trans (congrArg Host.Outcome.next ((if_neg fun h => absurd (h3.symm.trans h) (by decide)).trans ((if_neg fun h => absurd (h3.symm.trans h) (by decide)).trans (if_neg (Nat.not_le.mpr hleft)))))
      · exact hgo.trans (congrArg Host.Outcome.next ((if_neg fun h => absurd (h3.symm.trans h) (by decide)).trans ((if_neg fun h => absurd (h3.symm.trans h) (by decide)).trans (if_pos hleft))))
  · intro i ready
    have hexec := exec_codeGroupSync (s := s) n
    refine ⟨fun hno => hexec.trans (if_neg hno), fun hyes => ?_⟩
    by_cases hsub : (convParams (s.convCfg i)).subclass1 = true
    · refine ⟨_, hexec.trans ((if_pos hyes).trans (if_pos hsub)), rfl, fun k hk => State.bitAt_or_laneMask i _ hk, ?_⟩
      rw [if_pos hsub]
      exact State.conv1_updConv_same ..
    · refine ⟨_, hexec.trans ((if_pos hyes).trans (if_neg hsub)), rfl, fun k hk => State.bitAt_or_laneMask i _ hk, ?_⟩
      rw [if_neg hsub]
      exact State.conv1_updConv_same ..
  · intro i ready
    refine ⟨fun m hno => Eq.trans (b := execIlas n m s) rfl (if_neg hno), fun hyes => Eq.trans (b := execIlas n none s) rfl (if_pos hyes), fun o hyes => ?_⟩
    exact ⟨_, Eq.trans (b := execIlas n (some o) s) rfl (if_pos hyes), s.ilasMismatch_fields i o⟩

end Sys2Proof.Machine
end

section
/-! PROOF. Converter links that come and go (O53). -/

namespace Sys2Proof.Machine

section
variable {s : State}

/-! ### A converter link that is lost (R710, R711, R715) -/

theorem State.conv_raiseLink (s : State) (i : Nat) : (s.raiseLink i).conv = s.conv := by
  have hgo : ∀ u : State, ((u.raiseSm 25).raiseHouse 9).conv = u.conv := fun u =>
    ((u.raiseSm_reported 25).trans (State.raiseHouse_reported _ 9)).kept.conv
  unfold State.raiseLink
  split
  · exact (hgo _).trans (State.raiseTenant_reported ..).kept.conv
  · exact hgo _

theorem State.conv_noteLink (s : State) (event i : Nat) : (s.noteLink event i).conv = s.conv := (State.note_kept ..).conv

theorem State.conv_shutEps (s : State) (l : List EpId) : (s.forAll l fun e s => s.shutEp e).conv = s.conv := by
  obtain ⟨x, y, h⟩ := State.shutEps_rest (s := s) l
  rw [h]

/-- What a converter link that leaves UP without LINK_DOWN is. -/
def ConvLinkState.lost (l : ConvLinkState) (i : Nat) (x : LinkState) : ConvLinkState :=
  { l with linkLost := true, state := x, syncHigh := l.syncHigh && !(decide (i < 4) && x == .down) }

theorem State.leaveLink_lost {i : Nat} (hi : i < 8) (hup : s.linkState i = .up) (x : LinkState) :
    (s.leaveLink i x false).conv.links = s.conv.links.upd (BitVec.ofNat 3 i) fun l => l.lost i x := by
  have hset : ∀ u : State, u.conv.links = s.conv.links → ((((u.markLost i).raiseLink i).noteLink 0x82 i).setLink i x).conv.links =
      s.conv.links.upd (BitVec.ofNat 3 i) fun l => l.lost i x := fun u hu => by
    rw [State.setLink, if_pos hi]
    dsimp only
    rw [State.conv_noteLink, State.conv_raiseLink, State.markLost, if_pos hi]
    dsimp only
    rw [hu, Tbl.upd_upd]
    rfl
  unfold State.leaveLink
  dsimp only
  rw [if_pos hup, if_pos (⟨hup, rfl⟩ : s.linkState i = .up ∧ false = false)]
  split
  · rw [State.conv_noteLink]
    exact hset _ (congrArg Converter.links (s.conv_shutEps _))
  · exact hset _ (congrArg Converter.links (s.conv_shutEps _))

/-- The link that is lost is in its new state with LINK_LOST, and the others are as they were. -/
theorem State.leaveLink_lost_fields {i : Nat} (hi : i < 8) (hup : s.linkState i = .up) (x : LinkState) :
    (s.leaveLink i x false).linkState i = x ∧ (s.leaveLink i x false).conv1 i = (s.conv1 i).lost i x ∧
      ∀ j, j < 8 → j ≠ i → (s.leaveLink i x false).conv1 j = s.conv1 j := by
  have hlinks := State.leaveLink_lost hi hup x
  have hsame : (s.leaveLink i x false).conv1 i = (s.conv1 i).lost i x := by
    rw [State.conv1, hlinks]
    exact Tbl.look_upd_same ..
  refine ⟨?_, hsame, fun j hj hne => ?_⟩
  · rw [State.linkState, if_pos hi]
    exact congrArg ConvLinkState.state hsame
  · rw [State.conv1, hlinks]
    exact Tbl.look_upd_other _ _ (convLink_ne hi hj hne.symm)

theorem State.linkState_updConv {i : Nat} (hi : i < 8) (f : ConvLinkState → ConvLinkState) : (s.updConv i f).linkState i = (f (s.conv1 i)).state := by
  rw [State.linkState, if_pos hi]
  exact congrArg ConvLinkState.state (s.conv1_updConv_same i f)

theorem State.linkState_conv1 {i : Nat} (hi : i < 8) : s.linkState i = (s.conv1 i).state := if_pos hi

theorem State.backToSync_conv1 (s : State) (i : Nat) : (s.backToSync i).conv1 i = { s.conv1 i with step := 2, syncHigh := false } := Tbl.look_upd_same ..

/-- An RX link that is UP and leaves the data phase (R710). -/
theorem State.loseRx_fields {i : Nat} (hi : i < 8) (hup : s.linkState i = .up) :
    (s.loseRx i).linkState i = (if (convParams (s.convCfg i)).auto then .training else .down) ∧ ((s.loseRx i).conv1 i).linkLost = true := by
  by_cases h : (convParams (s.convCfg i)).auto
  · have hgo : s.loseRx i = ((s.backToSync i).updConv i fun l => { l with resyncCount := satAdd l.resyncCount 1 }).leaveLink i .training false := if_pos h
    have hup' : ((s.backToSync i).updConv i fun l => { l with resyncCount := satAdd l.resyncCount 1 }).linkState i = .up := by
      rw [State.linkState_updConv hi, s.backToSync_conv1 i]
      exact (State.linkState_conv1 hi).symm.trans hup
    obtain ⟨hstate, hlost, -⟩ := State.leaveLink_lost_fields hi hup' .training
    rw [hgo, if_pos h, hlost]
    exact ⟨hstate, rfl⟩
  · have hgo : s.loseRx i = s.leaveLink i .down false := if_neg h
    obtain ⟨hstate, hlost, -⟩ := State.leaveLink_lost_fields hi hup .down
    rw [hgo, if_neg h, hlost]
    exact ⟨hstate, rfl⟩

theorem State.updConv_updConv (s : State) (i : Nat) (f g : ConvLinkState → ConvLinkState) : (s.updConv i f).updConv i g = s.updConv i fun l => g (f l) :=
  congrArg (fun x : Tbl 3 ConvLinkState => { s with conv := { s.conv with links := x } }) (Tbl.upd_upd ..)

theorem exec_syncinLow {n : BitVec 2} {octets : Nat} {x : LinkState} (h : s.linkState (4 + n.toNat) = x) : exec (.syncinLow n octets) s =
    let i := 4 + n.toNat
    let k := s.updConv i fun l => { l with step := 1, syncHigh := false, ilasLeft := 4 }
    let quiet := s.updConv i fun l => { l with syncHigh := false }
    let long := 5 * (convParams (s.convCfg i)).f + 9 ≤ octets
    match x with
    | .down => .next quiet
    | .training => .next (if long then k else quiet)
    | .up =>
      if long then .next ((k.updConv i fun l => { l with resyncCount := satAdd l.resyncCount 1 }).leaveLink i .training false)
      else .next (s.updConv i fun l => { l with errCount := satAdd l.errCount 1 }) := by
  refine Eq.trans (b := execSyncinLow n octets s) rfl ?_
  cases x
  case down => simp only [execSyncinLow, h]
  case training => simp only [execSyncinLow, h, decide_eq_true_eq, State.backToK]
  case up => simp only [execSyncinLow, h, decide_eq_true_eq, State.backToK]

/-- A lane of no link changes nothing. -/
theorem exec_lane_none {lane : BitVec 3} (h : s.linkOfLane lane = none) : exec (.codeGroupError lane) s = .next s ∧ exec (.laneLock lane) s = .next s ∧
    exec (.laneLockLoss lane) s = .next s ∧ exec (.misplacedAlignmentCharacter lane) s = .next s := by
  refine ⟨Eq.trans (b := execCodeGroupError lane s) rfl ?_, Eq.trans (b := execLaneLock lane s) rfl ?_, Eq.trans (b := execLaneLockLoss lane s) rfl ?_,
    Eq.trans (b := execMisplacedAlignmentCharacter lane s) rfl ?_⟩
  · rw [execCodeGroupError, h]
  · rw [execLaneLock, h]
  · rw [execLaneLockLoss, h]
  · rw [execMisplacedAlignmentCharacter, h]

section
variable {lane : BitVec 3} {i : Nat} (h : s.linkOfLane lane = some i)
include h

theorem exec_laneLock : exec (.laneLock lane) s =
    let locked : State := { s with conv := { s.conv with laneLocked := s.conv.laneLocked ||| (1 <<< lane.toNat) } }
    if s.linkState i = .training ∧ s.tb.devclkPresent = true then
      .next (if (s.conv1 i).step = 1 ∧ locked.lanesLocked i = true then locked.updConv i fun l => { l with step := 2 } else locked)
    else .next s := by
  refine Eq.trans (b := execLaneLock lane s) rfl ?_
  rw [execLaneLock, h]
  rfl

theorem exec_laneLockLoss : exec (.laneLockLoss lane) s =
    let lost : State := { s with conv := { s.conv with laneLocked := s.conv.laneLocked &&& ~~~((1 : Byte) <<< lane.toNat) } }
    .next (if s.linkState i = .up then lost.loseRx i else lost) := by
  refine Eq.trans (b := execLaneLockLoss lane s) rfl ?_
  rw [execLaneLockLoss, h]

theorem exec_misplaced : exec (.misplacedAlignmentCharacter lane) s = .next (if s.linkState i = .up then s.loseRx i else s) := by
  refine Eq.trans (b := execMisplacedAlignmentCharacter lane s) rfl ?_
  rw [execMisplacedAlignmentCharacter, h]

theorem exec_codeGroupError : exec (.codeGroupError lane) s =
    let k := s.conv.laneErrors.look lane + 1
    let counted := s.updConv i fun l => { l with errCount := satAdd l.errCount 1 }
    let noted : State := { counted with conv := { counted.conv with laneErrors := s.conv.laneErrors.put lane k } }
    let u := if (convParams (s.convCfg i)).subclass1 then noted.emit (.syncReport (BitVec.ofNat 2 i)) else noted
    if s.linkState i = .up then .next (if 4 ≤ k then u.loseRx i else u) else .next s := by
  refine Eq.trans (b := execCodeGroupError lane s) rfl ?_
  rw [execCodeGroupError, h]
  rfl

end

theorem State.linkOfLane_lt {lane : BitVec 3} {i : Nat} (h : s.linkOfLane lane = some i) : i < 4 := List.mem_range.mp (List.mem_of_find?_eq_some h)

end

/-- Settles O53: each event by the equation of its command; a link that is lost keeps all but its state and LINK_LOST. -/
theorem converterLinksComeAndGo : Obligations.ConverterLinksComeAndGo := by
  intro s
  refine ⟨fun n => ?_, fun n => ?_, fun n octets => ?_, fun lane hnone => ?_, fun lane i hsome => ?_, fun l bit => ?_⟩
  · intro i ready
    refine ⟨fun fits hno => Eq.trans (b := execFrameRelease n fits s) rfl (if_neg hno), fun hyes => Eq.trans (b := execFrameRelease n true s) rfl (if_pos hyes), fun hyes => ?_⟩
    intro u
    have hgo : exec (.frameRelease n false) s = .next (if (s.linkUps i).isEmpty then u.leaveLink i .down false else u) := Eq.trans (b := execFrameRelease n false s) rfl (if_pos hyes)
    exact ⟨fun hsome => hgo.trans (congrArg Host.Outcome.next (if_neg fun h => hsome (List.isEmpty_iff.mp h))),
      fun hnone => hgo.trans (congrArg Host.Outcome.next (if_pos (List.isEmpty_iff.mpr hnone)))⟩
  · intro i u
    have hgo : exec (.syncinHigh n) s = if s.linkState i = .training ∧ (s.conv1 i).step = 2 ∧ (convParams (s.convCfg i)).subclass1 = false then .next (u.startIlas i) else .next u := rfl
    refine ⟨fun hno => hgo.trans (if_neg fun h => ?_), fun htr => ?_⟩
    · rw [h.1] at hno
      exact absurd hno (by decide)
    · intro now
      exact ⟨fun hnow => (hgo.trans (if_pos ⟨htr, hnow⟩)).trans (congrArg Host.Outcome.next (s.updConv_updConv i _ _)), fun hno => hgo.trans (if_neg fun h => hno h.2)⟩
  · intro i long k
    have hi : i < 8 := by have := n.isLt; omega
    refine ⟨fun hdown => (exec_syncinLow hdown).trans rfl, fun htr => ⟨fun hlong => ?_, fun hshort => ?_⟩, fun hup => ⟨fun hshort => ?_, fun hlong => ?_⟩⟩
    · exact (exec_syncinLow htr).trans (congrArg Host.Outcome.next (if_pos hlong))
    · exact (exec_syncinLow htr).trans (congrArg Host.Outcome.next (if_neg hshort))
    · exact (exec_syncinLow hup).trans (if_neg hshort)
    · let u := k.updConv i fun l => { l with resyncCount := satAdd l.resyncCount 1 }
      have hsame : u.conv1 i = { s.conv1 i with step := 1, syncHigh := false, ilasLeft := 4, resyncCount := satAdd (s.conv1 i).resyncCount 1 } := by
        rw [show u = _ from s.updConv_updConv i _ _]
        exact State.conv1_updConv_same ..
      have hup' : u.linkState i = .up := by
        rw [State.linkState_conv1 hi, hsame, ← hup, State.linkState_conv1 hi]
      obtain ⟨hstate, hlost, hother⟩ := State.leaveLink_lost_fields hi hup' .training
      refine ⟨_, (exec_syncinLow hup).trans (if_pos hlong), hstate, ?_, ?_, ?_, fun j hj hne => (hother j hj hne).trans ?_⟩
      · rw [hlost, hsame]
        rfl
      · rw [hlost]
        rfl
      · rw [hlost, hsame]
        rfl
      · exact (k.conv1_updConv_other _ hi hj hne.symm).trans (s.conv1_updConv_other _ hi hj hne.symm)
  · exact exec_lane_none hnone
  · intro locked lost
    have hi : i < 8 := Nat.lt_trans (State.linkOfLane_lt hsome) (by decide)
    have hlock := exec_laneLock hsome
    have hloss := exec_laneLockLoss hsome
    have hmis := exec_misplaced hsome
    have herr := exec_codeGroupError hsome
    refine ⟨fun hyes => ⟨fun h => (hlock.trans (if_pos hyes)).trans (congrArg Host.Outcome.next (if_pos h)), fun h => (hlock.trans (if_pos hyes)).trans (congrArg Host.Outcome.next (if_neg h))⟩,
      fun hno => hlock.trans (if_neg hno),
      fun hno => ⟨hloss.trans (congrArg Host.Outcome.next (if_neg hno)), hmis.trans (congrArg Host.Outcome.next (if_neg hno)), herr.trans (if_neg hno)⟩,
      fun hup => ⟨hloss.trans (congrArg Host.Outcome.next (if_pos hup)), hmis.trans (congrArg Host.Outcome.next (if_pos hup)), ?_⟩⟩
    intro k counted noted u
    exact ⟨fun hk => (herr.trans (if_pos hup)).trans (congrArg Host.Outcome.next (if_neg (Nat.not_le.mpr hk))), fun hk => (herr.trans (if_pos hup)).trans (congrArg Host.Outcome.next (if_pos hk)),
      State.loseRx_fields hi hup⟩
  · intro ready
    have hgo : exec (.linkUpTimeout l bit) s = if 12 ≤ l.toNat ∨ ready.isEmpty = true then .next s else
      .next ((s.leaveLink l.toNat .down true).forAll ready fun x s' => s'.finishLong x { status := 0x0E, dw3 := s.timeoutDetail l.toNat bit } []) := rfl
    refine ⟨fun hno => hgo.trans (if_pos (hno.imp_right List.isEmpty_iff.mpr)), fun x hl hone => hgo.trans ((if_neg ?_).trans ?_)⟩
    · rw [hone]
      rintro (h | h)
      · omega
      · exact Bool.false_ne_true h
    · rw [hone]
      rfl

end Sys2Proof.Machine
end

section
/-! PROOF. Stream units and TDM ports (O54). -/

namespace Sys2Proof.Machine

section
variable {s : State} {e : EpId}

/-! ### Units of stream endpoints (R726 to R728, R741) -/

/-- A unit that reaches an RX endpoint (R115, R726). -/
theorem State.receiveUnit_eq (s : State) (e : EpId) (bs : List Byte) (t : Tick) : s.receiveUnit e bs t =
    if (s.eps.look e).cut.any fun c => future c t then s
    else if s.epSize e < (s.eps.look e).fifo.length + bs.length then s.updEp e fun p => { p with overflow := satAdd p.overflow 1 }
    else ((s.updEp e fun p => { p with cut := none }).epAppend e (bs.map fun b => { byte := b, stamp := t })).go (s.watchers e) := by
  unfold State.receiveUnit
  dsimp only
  cases h : (s.eps.look e).cut <;> rfl

theorem State.ep_updEp_same (s : State) (e : EpId) (f : Endpoint → Endpoint) : (s.updEp e f).eps.look e = f (s.eps.look e) := Tbl.look_upd_same ..

theorem State.judgeFill_eps (s : State) (e : EpId) : (s.judgeFill e).eps = s.eps := by
  obtain ⟨-, x, hx⟩ := s.judgeFill_dev e
  rw [hx]

/-- What is appended follows what the FIFO holds. -/
theorem State.epAppend_fifo (s : State) (e : EpId) (bs : List StreamByte) : ((s.epAppend e bs).eps.look e).fifo = (s.eps.look e).fifo ++ bs := by
  rw [State.epAppend, State.judgeFill_eps]
  exact congrArg Endpoint.fifo (Tbl.look_upd_same ..)

/-- What is taken leaves the head of the FIFO, into which no deficit waits to come. -/
theorem State.epTake_fifo (len : Nat) (h : (s.eps.look e).deficit = 0) : ((s.epTake e len).eps.look e).fifo = (s.eps.look e).fifo.drop len := by
  let u := s.updEp e fun p => { p with fifo := p.fifo.drop len, index := p.index + len }
  have hu : u.eps.look e = { s.eps.look e with fifo := (s.eps.look e).fifo.drop len, index := (s.eps.look e).index + len } := Tbl.look_upd_same ..
  have hk : min (u.eps.look e).deficit (u.epSize e - (u.eps.look e).fifo.length) = 0 := by
    rw [hu]
    dsimp only
    rw [h, Nat.zero_min]
  have hplace : u.placeDeficit e = u := if_pos hk
  have htake : s.epTake e len = (u.placeDeficit e).judgeFill e := rfl
  rw [htake, hplace, State.judgeFill_eps, hu]

theorem State.sendUnit_rest (s : State) (e : EpId) (bs : List Byte) : ∃ x, s.sendUnit e bs = { s with out := x } := by
  unfold State.sendUnit
  split
  · exact ⟨_, rfl⟩
  · exact ⟨_, rfl⟩

theorem State.markTaken_rest (s : State) (e : EpId) : ∃ x, s.markTaken e = { s with tdm := x } := by
  unfold State.markTaken
  split
  · exact ⟨_, rfl⟩
  · exact ⟨_, rfl⟩

/-- A unit without a bad byte is taken from the head of the FIFO (R727). -/
theorem State.takeUnit_fifo (len : Nat) (hgood : ∀ b ∈ (s.eps.look e).fifo, b.bad = false) (hdef : (s.eps.look e).deficit = 0) (hquiet : s.watchers e = []) :
    ((s.takeUnit e len .clean).eps.look e).fifo = (s.eps.look e).fifo.drop len := by
  have hold : ((List.range len).filter fun i => ((s.eps.look e).fifo[i]?.map fun b => b.bad) = some true) = [] :=
    List.filter_eq_nil_iff.mpr fun i _ => by
      cases h : (s.eps.look e).fifo[i]? with
      | none => simp
      | some b => simp [hgood b (List.mem_of_getElem? h)]
  obtain ⟨x, hsend⟩ := s.sendUnit_rest e (s.sentBytes e len [])
  have hgo : s.takeUnit e len .clean = ((s.sendUnit e (s.sentBytes e len [])).epTake e len).go ((s.sendUnit e (s.sentBytes e len [])).watchers e) := by
    unfold State.takeUnit
    dsimp only
    rw [hold]
    rfl
  rw [hgo, hsend, show State.watchers { s with out := x } e = [] from hquiet]
  exact State.epTake_fifo (s := { s with out := x }) len hdef

/-! ### TDM ports (R732 to R738) -/

theorem port_ofNat (n : BitVec 2) : BitVec.ofNat 2 (8 + n.toNat - 8) = n := by
  rw [Nat.add_sub_cancel_left, BitVec.ofNat_toNat, BitVec.setWidth_eq]

theorem State.linkState_port (s : State) (n : BitVec 2) : s.linkState (8 + n.toNat) = (s.tdm.look n).state := by
  rw [State.linkState, if_neg (by omega), port_ofNat]

theorem State.driveUnused_rest (s : State) (n : BitVec 2) : ∃ x, s.driveUnused n = { s with out := x } := by
  unfold State.driveUnused
  dsimp only
  split
  · exact ⟨_, rfl⟩
  · exact ⟨_, rfl⟩

theorem State.tdm_raiseLink (s : State) (i : Nat) : (s.raiseLink i).tdm = s.tdm := by
  have hgo : ∀ u : State, ((u.raiseSm 25).raiseHouse 9).tdm = u.tdm := fun u =>
    ((u.raiseSm_reported 25).trans (State.raiseHouse_reported _ 9)).kept.tdm
  unfold State.raiseLink
  split
  · exact (hgo _).trans (State.raiseTenant_reported ..).kept.tdm
  · exact hgo _

theorem State.tdm_noteLink (s : State) (event i : Nat) : (s.noteLink event i).tdm = s.tdm := (State.note_kept ..).tdm

/-- A port that leaves UP to train anew has LINK_LOST. -/
theorem State.leaveLink_port {n : BitVec 2} (hup : (s.tdm.look n).state = .up) :
    (s.leaveLink (8 + n.toNat) .training false).tdm.look n = { s.tdm.look n with linkLost := true, state := .training } := by
  have hstate : s.linkState (8 + n.toNat) = .up := (s.linkState_port n).trans hup
  have hno : ¬ 8 + n.toNat < 8 := by omega
  obtain ⟨x, y, hshut⟩ := State.shutEps_rest (s := s) (s.txEps (8 + n.toNat))
  unfold State.leaveLink
  dsimp only
  rw [if_pos hstate, if_pos (⟨hstate, rfl⟩ : s.linkState (8 + n.toNat) = .up ∧ false = false), if_neg (fun h => LinkState.noConfusion h.1), State.setLink, if_neg hno]
  dsimp only
  rw [port_ofNat, Tbl.look_upd_same, State.tdm_noteLink, State.tdm_raiseLink, State.markLost, if_neg hno]
  dsimp only
  rw [port_ofNat, Tbl.look_upd_same, hshut]

theorem State.updTdm_updTdm (s : State) (n : BitVec 2) (f g : TdmPort → TdmPort) : (s.updTdm n f).updTdm n g = s.updTdm n fun p => g (f p) :=
  congrArg (fun x : Tbl 2 TdmPort => { s with tdm := x }) (Tbl.upd_upd ..)


/-- A slip, and the frame that starts then (R737). -/
theorem State.slip_fields (s : State) (n : BitVec 2) : let t := ((s.slip n).frameStart n false).driveUnused n
    t.tdm.look n = { s.tdm.look n with slipCount := satAdd (s.tdm.look n).slipCount 1, lastStart := some s.now, prevStart := none, taken := 0, given := 0 } ∧ Kept { s with tdm := t.tdm } t := by
  intro t
  let v : State := { s with tdm := s.tdm.upd n fun p => { p with slipCount := satAdd p.slipCount 1 } }
  have hk : Kept v (s.slip n) := State.note_kept ..
  obtain ⟨w, hw⟩ : ∃ w, w = s.slip n := ⟨_, rfl⟩
  rw [← hw] at hk
  obtain ⟨x, hx⟩ := (w.frameStart n false).driveUnused_rest n
  have ht : t = { w.frameStart n false with out := x } := by rw [← hx, hw]
  have hlook : w.tdm.look n = { s.tdm.look n with slipCount := satAdd (s.tdm.look n).slipCount 1 } := by
    rw [hk.tdm]
    exact Tbl.look_upd_same ..
  have hnow : w.now = s.now := congrArg (fun b : TimeBase => b.time) hk.tb
  rw [ht]
  refine ⟨?_, { hk with tdm := rfl }⟩
  refine (Tbl.look_upd_same ..).trans ?_
  rw [hlook, hnow]
  rfl

theorem exec_tdmLockLoss (n : BitVec 2) : exec (.tdmLockLoss n) s =
    let f : State := { s with tdm := s.tdm.upd n fun p => { p with lastStart := none } }
    if bitAt (s.tdmFrame n) 48 then .next s
    else match (s.tdm.look n).state with
      | .down => .next s
      | .training => .next f
      | .up => if bitAt (s.tdmFrame n) 49 then .next ((f.updTdm n fun p => { p with resyncCount := satAdd p.resyncCount 1 }).leaveLink (8 + n.toNat) .training false)
        else .next (f.leaveLink (8 + n.toNat) .down false) := rfl

theorem exec_tdmFrameSync (n : BitVec 2) (bit : Nat) : exec (.tdmFrameSync n bit) s =
    let u := s.updTdm n fun p => p.startFrame s.now true
    let apart := bit = frameBits (s.tdmFrame n)
    if bitAt (s.tdmFrame n) 48 then .next s
    else match (s.tdm.look n).state with
      | .down => .next s
      | .training => .next (if (s.tdm.look n).lastStart.isSome && apart then (u.enterUp (8 + n.toNat)).driveUnused n else u)
      | .up => .next ((if apart then u else (s.slip n).frameStart n false).driveUnused n) := by
  refine Eq.trans (b := execTdmFrameSync n bit s) rfl ?_
  unfold execTdmFrameSync
  simp only [decide_eq_true_eq] <;> rfl

theorem exec_tdmMasterFrame (n : BitVec 2) : exec (.tdmMasterFrame n) s =
    if (s.tdm.look n).state ≠ .down ∧ bitAt (s.tdmFrame n) 48 = true ∧ due (s.frameAt n (s.tdm.look n).frame) s.now = true then .next (s.masterFrame n) else .next s := rfl

/-- A master frame that is due, with fine time and without (R732, R735, R742). -/
theorem State.masterFrame_eq (s : State) (n : BitVec 2) : s.masterFrame n =
    let p := s.tdm.look n
    let u := (s.updTdm n fun p => ({ p with frame := p.frame + 1 } : TdmPort).startFrame (s.frameAt n (s.tdm.look n).frame) true).emit
      (.frameSync n (s.frameAt n p.frame) (s.syncEnd n p.frame) (bitAt (s.tdmFrame n) 14))
    let v : State := { s with tdm := s.tdm.upd n fun p => { p with frame := p.frame + 1 } }
    if s.tb.fineValid then (if p.state = .training then u.enterUp (8 + n.toNat) else u).driveUnused n
    else if p.state = .up then v.leaveLink (8 + n.toNat) .down false else v := by
  have hu : (State.updTdm { s with tdm := s.tdm.upd n fun p => { p with frame := p.frame + 1 } } n fun p => p.startFrame (s.frameAt n (s.tdm.look n).frame) true) = s.updTdm n fun p => ({ p with frame := p.frame + 1 } : TdmPort).startFrame (s.frameAt n (s.tdm.look n).frame) true :=
    s.updTdm_updTdm n _ _
  unfold State.masterFrame
  dsimp only
  rw [hu]

/-- An RX unit of a slot group, with the frame that it began in (R741). -/
theorem State.tdmReceive_eq (s : State) (e : EpId) (n : BitVec 2) (g : Nat) (rise fall : List Bool) : s.tdmReceive e n g rise fall =
    let p := s.tdm.look n
    let frame := s.tdmFrame n
    let grp := s.tdmGrp n g
    let wire := if bitAt frame 24 then fall else rise
    let here := bitAt p.given g = false ∧ s.framePassed n (givePhase frame grp (s.tdmBitp n).toNat) = true ∧ lastBit frame grp < wire.length
    match (if frameBits frame ≤ lastBit frame grp then p.prevStart else p.lastStart) with
    | none => s
    | some t => if here then (s.updTdm n fun p => { p with given := p.given ||| (1 <<< g) }).receiveUnit e (unitOfWire frame grp wire) t else s := by
  unfold State.tdmReceive
  dsimp only
  cases (if frameBits (s.tdmFrame n) ≤ lastBit (s.tdmFrame n) (s.tdmGrp n g) then (s.tdm.look n).prevStart else (s.tdm.look n).lastStart) with
  | none => rfl
  | some t =>
    dsimp only
    by_cases hhere : bitAt (s.tdm.look n).given g = false ∧ s.framePassed n (givePhase (s.tdmFrame n) (s.tdmGrp n g) (s.tdmBitp n).toNat) = true ∧
        lastBit (s.tdmFrame n) (s.tdmGrp n g) < (if bitAt (s.tdmFrame n) 24 then fall else rise).length
    · rw [if_pos hhere, if_neg]
      obtain ⟨hgiven, hpassed, hlen⟩ := hhere
      rw [hgiven, hpassed, decide_eq_false (Nat.not_le.mpr hlen)]
      decide
    · rw [if_neg hhere, if_pos]
      refine Classical.byContradiction fun hno => ?_
      simp only [Bool.or_eq_true, Bool.not_eq_true', decide_eq_true_eq, not_or, Bool.not_eq_true, Bool.not_eq_false, Nat.not_le] at hno
      exact hhere ⟨hno.1.1, hno.1.2, hno.2⟩

/-- A unit of bytes is that of an endpoint of no slot group, and one of the wire that of a slot group. -/
theorem exec_rxUnitAppend (u : RxUnit) (stamp : Tick) : exec (.rxUnitAppend e u stamp) s = .next
    (match u, s.tdmUnit e false with
      | .bytes bs, none => if s.upUnit e false = some bs.length ∧ bs.length ≠ 0 then s.receiveUnit e bs stamp else s
      | .wire rise fall, some (n, g) => s.tdmReceive e n g rise fall
      | _, _ => s) := by
  refine Eq.trans (b := execRxUnitAppend e u stamp s) rfl ?_
  unfold execRxUnitAppend
  rcases u with bs | ⟨rise, fall⟩ <;> rcases s.tdmUnit e false with _ | ⟨n, g⟩ <;> dsimp only
  exact (apply_ite Host.Outcome.next ..).symm

end

/-- Settles O54: each event by the equation of its command. -/
theorem streamsAndTdm : Obligations.StreamsAndTdm := by
  intro s
  refine ⟨fun e stamp => ?_, fun e len ecc => ?_, fun n => ?_, fun n bit => ?_⟩
  · intro into
    have hinto : ∀ (v : State) (bs : List Byte) (t : Tick), v.receiveUnit e bs t = into v bs t := fun v bs t => v.receiveUnit_eq e bs t
    refine ⟨fun bytes => ?_, fun rise fall => ⟨fun h => ?_, fun n g h => ?_⟩⟩
    · intro named
      refine ⟨fun hno => ?_, fun ⟨hnone, hup, hbytes⟩ => ?_, ?_⟩
      · rw [exec_rxUnitAppend]
        cases h : s.tdmUnit e false with
        | none => exact congrArg Host.Outcome.next (if_neg fun hc => hno ⟨h, hc.1, fun hnil => hc.2 (congrArg List.length hnil)⟩)
        | some x => rfl
      · rw [exec_rxUnitAppend, hnone]
        exact congrArg Host.Outcome.next ((if_pos ⟨hup, fun h0 => hbytes (List.length_eq_zero_iff.mp h0)⟩).trans (hinto _ _ _))
      · rw [State.epAppend_fifo, State.ep_updEp_same]
    · rw [exec_rxUnitAppend, h]
    · intro p frame grp wire origin here
      have hgo : exec (.rxUnitAppend e (.wire rise fall) stamp) s = .next (s.tdmReceive e n g rise fall) := by
        rw [exec_rxUnitAppend, h]
      have hgive : s.tdmReceive e n g rise fall = (match origin with
          | none => s
          | some t => if here then (s.updTdm n fun p => { p with given := p.given ||| (1 <<< g) }).receiveUnit e (unitOfWire frame grp wire) t else s) := s.tdmReceive_eq e n g rise fall
      refine ⟨fun hno => hgo.trans (congrArg Host.Outcome.next (hgive.trans ?_)), fun t ht hhere => hgo.trans (congrArg Host.Outcome.next (hgive.trans ?_))⟩
      · rcases hno with hnone | hno
        · rw [hnone]
        · cases origin with
          | none => rfl
          | some t => exact if_neg hno
      · rw [ht]
        exact (if_pos hhere).trans (hinto _ _ _)
  · intro named v
    have hexec : exec (.txTake e len ecc) s = if named then (if len ≤ (s.eps.look e).landed then .next (v.takeUnit e len ecc) else .next (v.sendSilence e len)) else .next s := rfl
    refine ⟨fun hno => hexec.trans (if_neg hno), fun hyes hshort => hexec.trans ((if_pos hyes).trans (if_neg (Nat.not_le.mpr hshort))),
      fun hyes hlen => hexec.trans ((if_pos hyes).trans (if_pos hlen)), fun hyes hlen hecc hgood hdef hquiet => ⟨_, hexec.trans ((if_pos hyes).trans (if_pos hlen)), ?_⟩⟩
    obtain ⟨x, hx⟩ := s.markTaken_rest e
    rw [hecc, show v = _ from hx]
    exact State.takeUnit_fifo (s := { s with tdm := x }) len hgood hdef hquiet
  · intro p t go u v
    have hexec := exec_tdmMasterFrame (s := s) n
    have hgo : ∀ h : go, exec (.tdmMasterFrame n) s = .next (if s.tb.fineValid then (if p.state = .training then u.enterUp (8 + n.toNat) else u).driveUnused n
        else if p.state = .up then v.leaveLink (8 + n.toNat) .down false else v) := fun h =>
      (hexec.trans (if_pos h)).trans (congrArg Host.Outcome.next (s.masterFrame_eq n))
    refine ⟨fun hno => hexec.trans (if_neg hno), fun h hf hp => ?_, fun h hf hp => ?_, fun h hf hp => ?_, fun h hf hp => ?_⟩
    · rw [hgo h, if_pos hf, if_neg (by rw [hp]; decide)]
    · rw [hgo h, if_pos hf, if_pos hp]
    · rw [hgo h, if_neg (by rw [hf]; decide), if_pos hp]
    · rw [hgo h, if_neg (by rw [hf]; decide), if_neg (by rw [hp]; decide)]
  · intro p slave apart u f
    have hloss := exec_tdmLockLoss (s := s) n
    have hsync := exec_tdmFrameSync (s := s) n bit
    have hport : ∀ x, slave → p.state = x → exec (.tdmFrameSync n bit) s = (match x with
          | .down => .next s
          | .training => .next (if (p.lastStart.isSome && apart) then (u.enterUp (8 + n.toNat)).driveUnused n else u)
          | .up => .next ((if apart then u else (s.slip n).frameStart n false).driveUnused n)) ∧
        exec (.tdmLockLoss n) s = (match x with
          | .down => .next s
          | .training => .next f
          | .up => if bitAt (s.tdmFrame n) 49 then .next ((f.updTdm n fun p => { p with resyncCount := satAdd p.resyncCount 1 }).leaveLink (8 + n.toNat) .training false)
            else .next (f.leaveLink (8 + n.toNat) .down false)) := fun x hslave hx => by
      have hno : ¬ bitAt (s.tdmFrame n) 48 = true := Bool.eq_false_iff.mp hslave
      subst hx
      exact ⟨hsync.trans (if_neg hno), hloss.trans (if_neg hno)⟩
    refine ⟨fun h => ?_, fun hs htr => ?_, fun hs hup => ?_⟩
    · by_cases hs : slave
      · exact hport _ hs (h.resolve_left fun hn => hn hs)
      · have hyes : bitAt (s.tdmFrame n) 48 = true := Bool.not_eq_false _ |>.mp hs
        exact ⟨hsync.trans (if_pos hyes), hloss.trans (if_pos hyes)⟩
    · obtain ⟨hgo, hlost⟩ := hport _ hs htr
      refine ⟨fun hlast hap => hgo.trans (congrArg Host.Outcome.next (if_pos ?_)), fun hno => hgo.trans (congrArg Host.Outcome.next (if_neg ?_)), hlost⟩
      · rw [Option.isSome_iff_ne_none.mpr hlast, decide_eq_true hap, Bool.and_true]
      · intro hand
        obtain ⟨hlast, hap⟩ := Bool.and_eq_true_iff.mp hand
        exact hno.elim (Option.isSome_iff_ne_none.mp hlast) fun h => h (of_decide_eq_true hap)
    · obtain ⟨hgo, hlost⟩ := hport _ hs hup
      refine ⟨fun hap => hgo.trans (congrArg (fun v : State => Host.Outcome.next (v.driveUnused n)) (if_pos hap)), fun hap => ?_, fun h49 => hlost.trans (if_neg (Bool.eq_false_iff.mp h49)), fun h49 => ?_⟩
      · obtain ⟨hlook, hk⟩ := s.slip_fields n
        exact ⟨_, hgo.trans (congrArg (fun v : State => Host.Outcome.next (v.driveUnused n)) (if_neg hap)), hlook, hk⟩
      · have hlook : (f.updTdm n fun p => { p with resyncCount := satAdd p.resyncCount 1 }).tdm.look n = { p with lastStart := none, resyncCount := satAdd p.resyncCount 1 } := by
          rw [show f.updTdm n _ = _ from s.updTdm_updTdm n (fun p => { p with lastStart := none }) _]
          exact Tbl.look_upd_same ..
        have hleave := State.leaveLink_port (s := f.updTdm n fun p => { p with resyncCount := satAdd p.resyncCount 1 }) (n := n) (by rw [hlook]; exact hup)
        rw [hlook] at hleave
        refine ⟨_, hlost.trans (if_pos h49), ?_, ?_, ?_, ?_⟩ <;> rw [hleave]

end Sys2Proof.Machine
end

section
/-! PROOF. Descent, exit and health (O55). -/

namespace Sys2Proof.Machine

section
variable {s : State}

/-! ### Descent (R603, R604, R610, R612) -/

theorem State.exportOne_eq (s : State) : ∃ tr o, s.exportOne = { s with trace := tr, out := o } := by
  unfold State.exportOne
  dsimp only
  split
  · exact ⟨_, _, rfl⟩
  · exact ⟨_, _, rfl⟩

theorem State.exportRest_eq (s : State) : ∃ tr o, s.exportRest = { s with trace := tr, out := o } := by
  have hall : ∀ (l : List Nat) (t : State), (∃ tr o, t = { s with trace := tr, out := o }) → ∃ tr o, l.foldl (fun s _ => s.exportOne) t = { s with trace := tr, out := o } := by
    intro l
    induction l with
    | nil => exact fun t ht => ht
    | cons k l ih =>
      rintro t ⟨tr, o, rfl⟩
      obtain ⟨tr', o', h⟩ := State.exportOne_eq { s with trace := tr, out := o }
      exact ih _ ⟨tr', o', h⟩
  unfold State.exportRest
  split
  · exact hall _ _ ⟨_, _, rfl⟩
  · exact ⟨_, _, rfl⟩

theorem State.sleepRecord_eq (s : State) (p : PowerState) : ∃ pw tr o, s.sleepRecord p = { s with tb := { s.tb with uncertain := false }, power := pw, trace := tr, out := o } := by
  let u : State := { s with power := { s.power with state := .hush } }
  obtain ⟨pw, tr, hnote⟩ := State.note_eq (u.updTb fun t => { t with uncertain := false }) 0 0x02 none none (BitVec.ofNat 32 p.code)
  obtain ⟨tr', o, hrest⟩ := State.exportRest_eq ((u.updTb fun t => { t with uncertain := false }).note 0 0x02 none none (BitVec.ofNat 32 p.code)).flushTrace
  refine ⟨pw, tr', o, ?_⟩
  unfold State.sleepRecord
  dsimp only
  rw [hrest, hnote]
  rfl

theorem State.intermit_eq (s : State) : ∃ x tr, s.intermit = { s with intermission := x, trace := tr } := by
  obtain ⟨tr, htr⟩ : ∃ tr, (if bitAt (s.devReg 0xBC0) 3 then s.persistTrace 1 else s) = { s with trace := tr } := by
    split
    · exact s.persistTrace_eq 1
    · exact ⟨s.trace, rfl⟩
  unfold State.intermit
  dsimp only
  rw [htr]
  exact ⟨_, _, rfl⟩

/-- What entry into a state below HUSH changes (R604). -/
theorem State.sinkDeep_eq (s : State) (p : PowerState) : ∃ x tr o d, s.sinkDeep p = { s.dropEntries with
      tb := if 3 ≤ p.code then { s.tb with uncertain := false, pllLock := false, fineValid := false } else { s.tb with uncertain := false }
      power := d, trace := tr, out := o, intermission := x, dram := { s.dram with selfRefresh := true } } ∧
    d.state = p ∧ d.target = none ∧ d.entered = s.now := by
  obtain ⟨pw, tr, o, hsleep⟩ := s.dropEntries.sleepRecord_eq p
  obtain ⟨x, tr', hmit⟩ : ∃ x tr', (if p = .shuttered then (s.dropEntries.sleepRecord p).intermit else s.dropEntries.sleepRecord p) = { s.dropEntries.sleepRecord p with intermission := x, trace := tr' } := by
    split
    · exact State.intermit_eq _
    · exact ⟨_, _, rfl⟩
  unfold State.sinkDeep
  dsimp only
  rw [hmit, hsleep]
  by_cases h : 3 ≤ p.code
  · rw [if_pos h, if_pos h]
    exact ⟨_, _, _, _, rfl, rfl, rfl, rfl⟩
  · rw [if_neg h, if_neg h]
    exact ⟨_, _, _, _, rfl, rfl, rfl, rfl⟩

theorem Tbl.look_map {w : Nat} {α : Type} (x : Tbl w α) (f : α → α) (i : BitVec w) : Tbl.look (w := w) (x.map f) i = f (x.look i) := Vector.getElem_map ..

theorem State.dropEntries_entries (s : State) (k : TenantId) (q : QueueId) : ((s.dropEntries.tenants.look k).sqs.look q).entries = [] := by
  rw [State.dropEntries]
  dsimp only
  rw [Tbl.look_map]
  dsimp only
  rw [Tbl.look_map]

theorem exec_descent {want : PowerState} (h : s.power.target = some want) : exec .descent s =
    let p := s.permitted want.code
    if p = s.power.state ∨ s.power.waking = true then .next { s with power := { s.power with target := none } }
    else if s.mayRest p = false then .next s
    else if p = .hush then .next (s.sink p)
    else if s.exports ∧ 8 < s.trace.backlog then .next s
    else .next (s.sinkDeep p) := by
  refine Eq.trans (b := execDescent s) rfl ?_
  unfold execDescent
  rw [h]

/-! ### Exit (R613, R615) -/

theorem exec_exitToLit (good : Bool) (h : s.power.waking = true) : exec (.exitToLit good) s =
    if s.power.state = .lit then .next s
    else if s.power.state = .hush then .next s.rise
    else if 3 ≤ s.power.state.code ∧ s.tb.refclkPresent = false then .next s
    else if s.power.state = .shuttered ∧ good = false then .next s.failRestore
    else .next s.climb := by
  refine Eq.trans (b := execExitToLit good s) rfl ?_
  simp only [execExitToLit, h, Bool.true_eq_false, false_or]

theorem State.failRestore_fields (s : State) : s.failRestore.power.restoreFailed = true ∧ s.failRestore.chans = State.reset.chans ∧ bitAt (s.failRestore.devReg 0x18) 7 = true := by
  let u : State := { s.restart 4 with power := { (s.restart 4).power with restoreFailed := true } }
  obtain ⟨hk⟩ : Reported u s.failRestore := State.raiseAlert_reported _ 7
  refine ⟨?_, hk.chans, State.raiseAlert_bit _ (by decide)⟩
  rw [hk.power]

/-! ### Health (R586, R587, R591, R910) -/

/-- A counter of units of 2^-80 whose high part has room carries into it. -/
theorem carried_sum (a b : Nat) (h : a * 2 ^ 80 + b < 2 ^ 111) : min (a + b / 2 ^ 80) (2 ^ 32 - 1) * 2 ^ 80 + b % 2 ^ 80 = a * 2 ^ 80 + b := by
  omega

theorem State.sampleTj_fields (s : State) (tj : BitVec 16) : let t := s.sampleTj tj
    t.health = { s.health with
      tj := tj, tjValid := true
      thermalArmed := if s.health.thermalArmed && decide (((s.devReg 0xA20).extractLsb' 16 16).toInt ≤ tj.toInt) then false
        else s.health.thermalArmed || decide (tj.toInt ≤ ((s.devReg 0xA20).extractLsb' 16 16).toInt - 4)
      highSeen := s.health.highSeen || (s.health.thermalArmed && decide (((s.devReg 0xA20).extractLsb' 16 16).toInt ≤ tj.toInt))
      lifeTjMax := if s.health.lifeTjMax.toInt < tj.toInt then tj else s.health.lifeTjMax } := by
  intro t
  unfold t State.sampleTj
  dsimp only
  split
  · exact (State.raiseHouse_reported _ 13).kept.health
  · rfl

/-- Health that is evaluated: the conditions, and a fault-log entry for each that begins. -/
theorem State.evaluate_fields (s : State) : ∃ b, Reported ({ s with boot := b, health := { s.health with present := s.conditions, seen := s.health.seen ||| s.conditions, curtainCall := decide (s.conditions ≠ 0) } }) s.evaluate ∧
    (s.conditions &&& ~~~s.health.present = 0 → b = s.boot) := by
  let v : State := s.updHealth fun h => { h with present := s.conditions, seen := h.seen ||| s.conditions, curtainCall := decide (s.conditions ≠ 0) }
  have heval : s.evaluate = v.forAll ((List.range 8).filter fun i => bitAt s.conditions i && !(bitAt s.health.present i)) fun i s' =>
      ({ s' with boot := { s'.boot with faultLog := s'.boot.faultLog ++ [{ cause := BitVec.ofNat 8 (0x10 + i), stamp := s'.now }] } } : State).healthEvent.note 7 0x72 none none (s.conditions.zeroExtend 32) := rfl
  by_cases hnew : s.conditions &&& ~~~s.health.present = 0
  · have hnil : ((List.range 8).filter fun i => bitAt s.conditions i && !(bitAt s.health.present i)) = [] :=
      List.filter_eq_nil_iff.mpr fun i hi => by
        have hbit := congrArg (fun w : Byte => w.getLsbD i) hnew
        have hi8 : i < 8 := List.mem_range.mp hi
        simpa [bitAt, BitVec.getLsbD_and, hi8] using hbit
    refine ⟨s.boot, ?_, fun _ => rfl⟩
    rw [heval, hnil]
    exact (Kept.refl v).reported
  · obtain ⟨b, hb⟩ : ∃ b, Reported { v with boot := b } s.evaluate := by
      rw [heval]
      refine State.forAll_induction (P := fun t => ∃ b, Reported { v with boot := b } t) _ ⟨_, (Kept.refl v).reported⟩ fun i t ht => ?_
      obtain ⟨b, ⟨hk⟩⟩ := ht
      let w : State := { t with boot := { t.boot with faultLog := t.boot.faultLog ++ [{ cause := BitVec.ofNat 8 (0x10 + i), stamp := t.now }] } }
      have hboot : Reported { v with boot := w.boot } w := ⟨{ hk with boot := rfl }⟩
      exact ⟨w.boot, hboot.trans (((w.raiseSm_reported 22).trans (State.raiseHouse_reported _ 6)).trans (State.note_reported ..))⟩
    exact ⟨b, hb, fun h => absurd h hnew⟩

end

/-- Settles O55: each event by the equation of its command; what a deep descent changes is said once. -/
theorem descentAndHealth : Obligations.DescentAndHealth := by
  intro s
  refine ⟨fun h => ?_, fun t hbit htarget hwake hstep hfloor hquiet hfut hrest hperm => ?_, fun h => ?_, fun want h => ?_, fun good h => ?_, fun good h => ?_, fun tj => ⟨fun h => ?_, fun h => ?_⟩,
    fun h => ?_, fun h => ?_, fun h => ?_, fun h => ?_, fun h => ?_, fun hfill hcheck => ?_⟩
  · refine Eq.trans (b := execIdleDescent s) rfl (if_neg fun hand => ?_)
    simp only [Bool.and_eq_true, decide_eq_true_eq, Bool.not_eq_true', Option.isNone_iff_eq_none] at hand
    obtain ⟨⟨⟨⟨⟨⟨⟨⟨hbit, hfloor⟩, htarget⟩, hwake⟩, hstep⟩, hquiet⟩, -⟩, -⟩, -⟩ := hand
    rcases h with h | h | h | h | h | h
    · exact Bool.noConfusion (h.symm.trans hbit)
    · exact h htarget
    · exact Bool.noConfusion (h.symm.trans hwake)
    · exact h hstep
    · omega
    · rw [h] at hquiet
      exact Bool.noConfusion hquiet
  · have hexec : exec .idleDescent s = if due (t + BitVec.ofNat 64 (s.idleTicks s.nextRung)) s.now then .next { s with power := { s.power with target := some s.nextRung } } else .next s := by
      refine Eq.trans (b := execIdleDescent s) rfl ?_
      simp only [execIdleDescent, hbit, hfloor, htarget, hwake, hstep, hquiet, hfut, hrest, hperm, decide_true, Option.isNone_none, Option.isSome_some, Bool.not_false, Bool.and_true, Bool.true_and, if_true]
    exact ⟨fun hd => hexec.trans (if_pos hd), fun hd => hexec.trans (if_neg (Bool.eq_false_iff.mp hd))⟩
  · refine Eq.trans (b := execDescent s) rfl ?_
    rw [execDescent, h]
  · intro p
    have hexec := exec_descent h
    refine ⟨fun h0 => hexec.trans (if_pos h0), fun hp hw hr => ?_, fun hp hw hr => ?_⟩
    · have hno : ¬ (p = s.power.state ∨ s.power.waking = true) := fun h => h.elim hp (fun h => Bool.noConfusion (hw.symm.trans h))
      exact hexec.trans ((if_neg hno).trans (if_pos hr))
    · have hno : ¬ (p = s.power.state ∨ s.power.waking = true) := fun h => h.elim hp (fun h => Bool.noConfusion (hw.symm.trans h))
      have hgo := hexec.trans ((if_neg hno).trans (if_neg (Bool.not_eq_false _ ▸ hr)))
      refine ⟨fun hh => ?_, fun hh hex hback => hgo.trans ((if_neg hh).trans (if_pos ⟨hex, hback⟩)), fun hh hex => ?_⟩
      · refine (hgo.trans (if_pos hh)).trans ?_
        rw [State.sink, show s.permitted want.code = .hush from hh]
      · obtain ⟨x, tr, o, d, hsink, hstate, htarget, hentered⟩ := s.sinkDeep_eq p
        have hno : ¬ (s.exports = true ∧ 8 < s.trace.backlog) := fun h => hex.elim (fun h' => Bool.noConfusion (h'.symm.trans h.1)) (fun h' => absurd h.2 (Nat.not_lt.mpr h'))
        refine ⟨_, (hgo.trans ((if_neg hh).trans (if_neg hno))).trans (congrArg Host.Outcome.next hsink), hstate, htarget, hentered, rfl, fun hp3 => ?_, fun hp3 => ?_, s.dropEntries_entries, ?_, rfl, rfl, rfl⟩
        · dsimp only
          rw [if_pos hp3]
          exact ⟨rfl, rfl⟩
        · dsimp only
          rw [if_neg (Nat.not_le.mpr hp3)]
          exact ⟨rfl, rfl⟩
        · exact (apply_ite TimeBase.time ..).trans (ite_self _)
  · refine Eq.trans (b := execExitToLit good s) rfl (if_pos h)
  · refine ⟨fun hp => ?_, fun hc hclk => ?_, fun hp hclk => ?_, fun hp => ?_, fun hc hclk hp => ?_, fun hp hclk => ?_⟩
    · rw [exec_exitToLit good h, hp]
      rfl
    · have hlit : s.power.state ≠ .lit := fun hp => absurd (hp ▸ hc) (by decide)
      have hhush : s.power.state ≠ .hush := fun hp => absurd (hp ▸ hc) (by decide)
      rw [exec_exitToLit good h, if_neg hlit, if_neg hhush, if_pos ⟨hc, hclk⟩]
    · refine ⟨_, ?_, s.failRestore_fields⟩
      rw [exec_exitToLit false h, hp, hclk]
      rfl
    · rw [exec_exitToLit good h, hp]
      rfl
    · rw [exec_exitToLit true h, hp, hclk]
      rfl
    · rw [exec_exitToLit good h, hp, hclk]
      rfl
  · exact Eq.trans (b := execThermalSample tj s) rfl (if_pos h)
  · have hf := s.sampleTj_fields tj
    refine ⟨_, Eq.trans (b := execThermalSample tj s) rfl (if_neg (Nat.not_lt.mpr h)), ?_⟩
    rw [hf]
    refine ⟨rfl, rfl, ?_, fun harm hhigh => ?_, fun harm hlow => ?_, rfl⟩
    · dsimp only
      split
      · exact ⟨by simp [BitVec.sle], .inl rfl⟩
      · next hle => exact ⟨by simpa [BitVec.sle] using hle, .inr rfl⟩
    · dsimp only
      rw [harm, decide_eq_true hhigh, Bool.and_self, if_pos rfl, Bool.or_true]
      exact ⟨rfl, rfl⟩
    · dsimp only
      rw [harm, decide_eq_true hlow]
      rfl
  · exact Eq.trans (b := execThermalBudgetUpdate s) rfl (if_neg (Bool.eq_false_iff.mp h))
  · refine ⟨_, Eq.trans (b := execThermalBudgetUpdate s) rfl (if_pos h), rfl, ?_, fun hroom => ?_⟩
    · dsimp only [State.updHealth]
      have hw := s.health.lifeThermal.isLt
      rw [satAdd_toNat]
      omega
    · dsimp only [State.updHealth]
      rw [satAdd_toNat]
      rw [Nat.add_assoc] at hroom
      rw [carried_sum _ _ hroom, Nat.add_assoc]
  · exact Eq.trans (b := execLifeWriteback s) rfl (if_pos h)
  · exact Eq.trans (b := execLifeWriteback s) rfl (if_neg (Nat.not_le.mpr h))
  · exact Eq.trans (b := execHealthEvaluation s) rfl (if_pos h)
  · obtain ⟨b, ⟨hk⟩, hb⟩ := s.evaluate_fields
    refine ⟨_, Eq.trans (b := execHealthEvaluation s) rfl (if_neg fun h => h.elim hfill hcheck), ?_, ?_, ?_, hk.chans, hk.dramBytes, fun h => hk.boot.trans (hb h)⟩
    · rw [hk.health]
    · rw [hk.health]
    · rw [hk.health]

end Sys2Proof.Machine
end

section
/-! PROOF. What care of the memories leaves: scrubs, retirement and the summary. -/

namespace Sys2Proof.Machine

/-! ### What care of the memories leaves (R531, R542, R550, R560) -/

/-- Findings, corrections and records change no channel, and neither the range being scrubbed nor the page being retired. -/
structure JobsKept (s t : State) : Prop where
  chans : t.chans = s.chans
  scrubNow : t.guard.scrubNow = s.guard.scrubNow
  retiring : t.guard.retiring = s.guard.retiring

section
variable {s t u : State}

theorem JobsKept.refl (s : State) : JobsKept s s := ⟨rfl, rfl, rfl⟩

theorem JobsKept.trans (h : JobsKept s t) (k : JobsKept t u) : JobsKept s u := ⟨k.chans.trans h.chans, k.scrubNow.trans h.scrubNow, k.retiring.trans h.retiring⟩

theorem Kept.jobsKept (h : Kept s t) : JobsKept s t := ⟨h.chans, by rw [h.guard], by rw [h.guard]⟩

theorem Reported.jobsKept (h : Reported s t) : JobsKept s t := ⟨h.kept.chans, by rw [h.kept.guard], by rw [h.kept.guard]⟩

theorem JobsKept.foldl {α : Type} (f : State → α → State) (hf : ∀ (s : State) (x : α), JobsKept s (f s x)) (l : List α) (s : State) : JobsKept s (l.foldl f s) := by
  induction l generalizing s with
  | nil => exact .refl s
  | cons x l ih => exact (hf s x).trans (ih _)

theorem State.logMem_jobsKept (s : State) (kind memory : Nat) (addr : Addr) (source : Nat) (res : CodeResult) : JobsKept s (s.logMem kind memory addr source res) := by
  unfold State.logMem
  dsimp only
  split
  · refine JobsKept.trans ?_ (State.note_kept ..).jobsKept
    exact ⟨rfl, rfl, rfl⟩
  · exact ⟨rfl, rfl, rfl⟩

theorem State.memUe_reported (s : State) : Reported s s.memUe := (s.raiseSm_reported 19).trans (State.raiseHouse_reported _ 3)

theorem State.reportBad_jobsKept (s : State) (kind memory : Nat) (addr : Addr) (source : Nat) (res : CodeResult) :
    JobsKept s (s.logMem kind memory addr source res).memUe := (s.logMem_jobsKept ..).trans (State.memUe_reported _).jobsKept

theorem State.poisonLine_jobsKept (s : State) (line : Nat) : JobsKept s (s.poisonLine line) := by
  unfold State.poisonLine
  dsimp only
  (repeat' split) <;> exact ⟨rfl, rfl, rfl⟩

theorem State.foundBadLine_jobsKept (s : State) (kind line source : Nat) : JobsKept s (s.foundBadLine kind line source) :=
  (s.reportBad_jobsKept ..).trans (State.poisonLine_jobsKept _ _)

theorem State.takeStored_jobsKept (s : State) (word : Nat) (e : Ecc) : JobsKept s (s.takeStored word e) := by
  unfold State.takeStored
  split
  · refine State.forAll_induction (P := JobsKept s) _ (.refl s) fun i t ht => ht.trans ?_
    dsimp only
    split
    · split
      · exact .refl t
      · exact ⟨rfl, rfl, rfl⟩
    · exact .refl t
  · exact .refl s

theorem State.load_jobsKept (s : State) (a : Addr) (len : Nat) (ecc : Ecc) (source : Nat) : JobsKept s (s.load a len ecc source true).1 := by
  unfold State.load
  simp only [if_true]
  split
  · have hstored := s.takeStored_jobsKept (offOf a / 8) ecc
    split
    · refine hstored.trans (JobsKept.trans ?_ (State.reportBad_jobsKept ..))
      exact ⟨rfl, rfl, rfl⟩
    · split
      · exact hstored.trans (State.reportBad_jobsKept ..)
      · split
        · exact hstored
        · dsimp only
          exact hstored.trans (State.logMem_jobsKept ..)
  · split
    · exact State.reportBad_jobsKept ..
    · split
      · exact .refl s
      · exact State.foundBadLine_jobsKept ..
      · dsimp only
        exact State.logMem_jobsKept ..

theorem State.scrubLine_jobsKept (s : State) (line : Nat) (ecc : Ecc) (source : Nat) : JobsKept s (s.scrubLine line ecc source) := by
  unfold State.scrubLine
  split
  · exact .refl s
  · split
    · exact .refl s
    · exact State.foundBadLine_jobsKept ..
    · exact State.logMem_jobsKept ..

theorem State.scrubWord_jobsKept (s : State) (base : Nat) (ecc : Ecc) : JobsKept s (s.scrubWord false base ecc false) := by
  have hstored := s.takeStored_jobsKept (base / 8) ecc
  refine hstored.trans ?_
  unfold State.scrubWord
  simp only [Bool.false_eq_true, if_false]
  split
  · exact State.reportBad_jobsKept ..
  · split
    · exact .refl _
    · exact (State.reportBad_jobsKept ..).trans ⟨rfl, rfl, rfl⟩
    · simp only [State.scrubFixed, Bool.not_false, if_true]
      exact State.logMem_jobsKept ..

theorem State.scrubFinding_jobsKept (s : State) (a : Addr) (ecc : Ecc) : JobsKept s (s.scrubFinding a ecc) := by
  unfold State.scrubFinding
  split
  · exact State.scrubWord_jobsKept ..
  · exact State.scrubLine_jobsKept ..

theorem State.copyFinding_jobsKept (s : State) (a : Addr) (ecc : Ecc) : JobsKept s (s.copyFinding a ecc) := by
  unfold State.copyFinding
  split
  · exact State.load_jobsKept ..
  · exact State.scrubLine_jobsKept ..

theorem State.remap_jobsKept (s : State) (j : Retirement) : JobsKept s (s.remap j) := by
  unfold State.remap
  dsimp only
  refine JobsKept.trans ?_ (State.logMem_jobsKept ..)
  split <;> exact ⟨rfl, rfl, rfl⟩

theorem LongOnly.jobsKept (h : LongOnly s t) : JobsKept s t := ⟨h.kept.chans, by rw [h.kept.guard], by rw [h.kept.guard]⟩

/-! ### Scrubs (R548 to R550, R912) -/

/-- A line without a finding is left as it is. -/
theorem State.scrubLine_clean (s : State) (line source : Nat) : s.scrubLine line .clean source = s := by
  unfold State.scrubLine
  exact ite_self _

/-- A word without a finding and without a byte known to be bad is left as it is. -/
theorem State.scrubWord_clean {off : Nat} (h : ∀ b ∈ s.guard.wingBad, b / 8 ≠ off / 8) : s.scrubWord false off .clean true = s := by
  have hold : ¬ (s.guard.wingBad.any fun b => decide (b / 8 = off / 8)) = true := by
    rw [List.any_eq_true]
    rintro ⟨b, hb, heq⟩
    exact h b hb (of_decide_eq_true heq)
  exact if_neg hold

theorem State.countPass_more (h : s.guard.dramRead0 < s.dramCapacity false / 64 ∨ s.guard.dramRead1 < s.dramCapacity true / 64) : s.countPass = s :=
  if_neg fun ⟨_, h0, h1⟩ => h.elim (Nat.not_lt.mpr h0) (Nat.not_lt.mpr h1)

theorem State.countWord_more (h : s.guard.sramRead + 1 < wingWords + bankWords + fifoWords) : s.countWord = { s with guard := { s.guard with sramRead := s.guard.sramRead + 1 } } :=
  if_neg (Nat.not_le.mpr h)

theorem State.logMem_maps (s : State) (kind memory : Nat) (addr : Addr) (source : Nat) (res : CodeResult) :
    (s.logMem kind memory addr source res).guard.remaps = s.guard.remaps ∧ (s.logMem kind memory addr source res).guard.spareBank = s.guard.spareBank := by
  unfold State.logMem
  dsimp only
  split
  · exact ⟨by rw [(State.note_kept ..).guard], by rw [(State.note_kept ..).guard]⟩
  · exact ⟨rfl, rfl⟩

/-- The mapping that a retirement leaves (R558, R559). -/
theorem State.remap_fields (s : State) (j : Retirement) : (tagOf j.addr = 1 → (offOf j.addr, j.spare) ∈ (s.remap j).guard.remaps) ∧
    (tagOf j.addr = 0 → (s.remap j).guard.spareBank = some (BitVec.ofNat 5 (offOf j.addr / 262144))) := by
  refine ⟨fun h => ?_, fun h => ?_⟩
  · unfold State.remap
    dsimp only
    rw [(State.logMem_maps ..).1, if_pos h]
    exact List.mem_cons_self
  · unfold State.remap
    dsimp only
    rw [(State.logMem_maps ..).2, if_neg (by omega)]

/-- An event in the summary is in no list any more. -/
theorem State.summarise_fields (s : State) (r : LogRecord) : (s.summarise r).guard.unsummarised = s.guard.unsummarised ∧ (s.summarise r).mem.dram = s.mem.dram ∧ (s.summarise r).chans = s.chans := by
  have hput : ∀ (x : List PageRecord) (p : Prop) [Decidable p], let u : State := { s with guard := { s.guard with summary := x } }
      let t := if p then (u.raiseSm 20).raiseHouse 4 else u
      t.guard.unsummarised = s.guard.unsummarised ∧ t.mem.dram = s.mem.dram ∧ t.chans = s.chans := by
    intro x p _ u t
    by_cases h : p
    · have ht : t = (u.raiseSm 20).raiseHouse 4 := if_pos h
      obtain ⟨hk⟩ : Reported u t := ht ▸ (u.raiseSm_reported 20).trans (State.raiseHouse_reported _ 4)
      exact ⟨by rw [hk.guard], hk.dramBytes, hk.chans⟩
    · have ht : t = u := if_neg h
      rw [ht]
      exact ⟨rfl, rfl, rfl⟩
  unfold State.summarise
  dsimp only
  split
  · exact ⟨rfl, rfl, rfl⟩
  · split
    · exact hput _ _
    · split
      · exact hput _ _
      · split
        · exact hput _ _
        · exact ⟨rfl, rfl, rfl⟩

end

end Sys2Proof.Machine
end

section
/-! PROOF. Care of the memories, units and tests (O56). -/

namespace Sys2Proof.Machine

section
variable {s : State}

/-- A pass that is not over goes on. -/
theorem State.countPass_guard (s : State) (g : MemGuard) (h : g.dramRead0 < s.dramCapacity false / 64 ∨ g.dramRead1 < s.dramCapacity true / 64) :
    ({ s with guard := g } : State).countPass = { s with guard := g } := State.countPass_more h

/-- A line of the memory is read: what its scrub finds, and one more read of its channel (R548, R912). -/
theorem exec_dramScrubRead {dc : Bool} {line : BitVec 30} {ecc : Ecc} (hno : ¬ (s.belowHush = true ∨ s.dram.selfRefresh = true ∨ s.dramCapacity dc ≤ line.toNat * 64)) {u : State}
    (hu : (match s.lineAt dc (line.toNat * 64) with | some l => s.scrubLine l ecc srcScrub | none => s) = u) :
    exec (.dramScrubRead dc line ecc) s = .next (State.countPass { u with guard := { u.guard with
      dramRead0 := (if dc then u.guard.dramRead0 else u.guard.dramRead0 + 1), dramRead1 := (if dc then u.guard.dramRead1 + 1 else u.guard.dramRead1) } }) := by
  refine Eq.trans (b := execDramScrubRead dc line ecc s) rfl ?_
  unfold execDramScrubRead
  dsimp only
  rw [if_neg hno]
  cases h : s.lineAt dc (line.toNat * 64) with
  | none =>
    rw [h] at hu
    subst hu
    rfl
  | some l =>
    rw [h] at hu
    subst hu
    rfl

theorem exec_scrubNowDone {j : ScrubJob} (found : List (Addr × Ecc)) (h : s.guard.scrubNow = some j) :
    let lo := offOf j.first
    let named := found.filter fun f => tagOf f.1 == tagOf j.first && decide (lo ≤ offOf f.1) && decide (offOf f.1 < lo + j.len)
    let own := named ++ (if tagOf j.first = 0 then s.knownBad lo j.len named else [])
    let fixed := own.map fun f => (f.1, match s.findingResult f.1 f.2 with | .corrected _ _ => true | _ => false)
    let bad := own.map fun f => (f.1, s.findingResult f.1 f.2 == .bad)
    let poisoned := if tagOf j.first = 1 then
        ((s.guard.poison0 ++ s.guard.poison1).filter fun l => decide (lo ≤ l) && decide (l < lo + j.len)).map fun l => (dramAddr l, true)
      else []
    let u := own.foldl (fun s f => s.scrubFinding f.1 f.2) { s with guard := { s.guard with scrubNow := none } }
    exec (.scrubNowDone found) s = .next (match s.longRef j.cmd 0x54 with
      | some l => u.finishLong l { dw2 := BitVec.ofNat 32 (findingLines fixed), dw3 := BitVec.ofNat 32 (findingLines (bad ++ poisoned)) } []
      | none => u) := by
  intro lo named own fixed bad poisoned u
  refine Eq.trans (b := execScrubNowDone found s) rfl ?_
  unfold execScrubNowDone
  rw [h]
  dsimp only
  cases s.longRef j.cmd 0x54 <;> rfl

/-- A range scrub that ends is over. -/
theorem scrubNowDone_ends (found : List (Addr × Ecc)) : ∃ t : State, exec (.scrubNowDone found) s = .next t ∧ t.guard.scrubNow = none ∧ t.chans = s.chans := by
  cases h : s.guard.scrubNow with
  | none =>
    refine ⟨s, ?_, h, rfl⟩
    refine Eq.trans (b := execScrubNowDone found s) rfl ?_
    unfold execScrubNowDone
    rw [h]
  | some j =>
    refine ⟨_, exec_scrubNowDone found h, ?_⟩
    have hfold := fun l : List (Addr × Ecc) => JobsKept.foldl (fun s (f : Addr × Ecc) => s.scrubFinding f.1 f.2) (fun s f => s.scrubFinding_jobsKept f.1 f.2) l { s with guard := { s.guard with scrubNow := none } }
    split
    · obtain ⟨hchans, hjob, -⟩ := (hfold _).trans (State.finishLong_longOnly ..).jobsKept
      exact ⟨hjob, hchans⟩
    · obtain ⟨hchans, hjob, -⟩ := hfold _
      exact ⟨hjob, hchans⟩

theorem exec_retirementSwitch {j : Retirement} (found : List (Addr × Ecc)) (h : s.guard.retiring = some j) :
    let own := found.filter fun f => tagOf f.1 == tagOf j.addr && decide (offOf j.addr ≤ offOf f.1) && decide (offOf f.1 < offOf j.addr + (if tagOf j.addr = 1 then 4096 else 262144))
    let v : State := { s with guard := { s.guard with retiring := none } }
    let u := (own.foldl (fun s f => s.copyFinding f.1 f.2) v).remap j
    exec (.retirementSwitch found) s = .next (match s.longRef j.cmd 0x51 with
      | some l => u.finishLong l { dw2 := j.spare.zeroExtend 32, dw3 := BitVec.ofNat 32 (u.guard.spares0 + u.guard.spares1) } []
      | none => v) := by
  intro own v u
  refine Eq.trans (b := execRetirementSwitch found s) rfl ?_
  unfold execRetirementSwitch
  rw [h]
  dsimp only
  cases s.longRef j.cmd 0x51 <;> rfl

/-- A retirement that ends is over. -/
theorem retirementSwitch_ends (found : List (Addr × Ecc)) : ∃ t : State, exec (.retirementSwitch found) s = .next t ∧ t.guard.retiring = none ∧ t.chans = s.chans := by
  cases h : s.guard.retiring with
  | none =>
    refine ⟨s, ?_, h, rfl⟩
    refine Eq.trans (b := execRetirementSwitch found s) rfl ?_
    unfold execRetirementSwitch
    rw [h]
  | some j =>
    refine ⟨_, exec_retirementSwitch found h, ?_⟩
    have hfold := fun l : List (Addr × Ecc) => JobsKept.foldl (fun s (f : Addr × Ecc) => s.copyFinding f.1 f.2) (fun s f => s.copyFinding_jobsKept f.1 f.2) l { s with guard := { s.guard with retiring := none } }
    split
    · obtain ⟨hchans, -, hjob⟩ := ((hfold _).trans (State.remap_jobsKept _ j)).trans (State.finishLong_longOnly ..).jobsKept
      exact ⟨hjob, hchans⟩
    · exact ⟨rfl, rfl⟩

/-- The events of a list go into their records one after another. -/
theorem summarised_fields (l : List LogRecord) (s : State) : let t := l.foldl (fun s r => s.summarise r) s
    t.guard.unsummarised = s.guard.unsummarised ∧ t.mem.dram = s.mem.dram ∧ t.chans = s.chans := by
  induction l generalizing s with
  | nil => exact ⟨rfl, rfl, rfl⟩
  | cons r l ih =>
    obtain ⟨h1, h2, h3⟩ := s.summarise_fields r
    obtain ⟨k1, k2, k3⟩ := ih (s.summarise r)
    exact ⟨k1.trans h1, k2.trans h2, k3.trans h3⟩

/-! ### Units, handovers and tests (R573 to R581) -/

theorem presentMask_bits (a b c d : Bool) : ∀ r : BitVec 2,
    bitAt (BitVec.ofNat 4 (flag a + 2 * flag b + 4 * flag c + 8 * flag d)) r.toNat = (match bitAt r 1, bitAt r 0 with | false, false => a | false, true => b | true, false => c | true, true => d) := by
  cases a <;> cases b <;> cases c <;> cases d <;> decide

/-- A fault of a unit that carries nothing and is on the way to nothing changes nothing. -/
theorem State.faultUnit_idle {u : UnitId} (hnone : s.health.carried u = none) (hover : ∀ j ∈ s.health.handovers, j.unit ≠ u) (bad : List ChanId) :
    (s.faultUnit u).copyFinds (s.stagehandOf u) bad = s := by
  have hfind : (s.health.handovers.find? fun j => j.unit == u) = none := List.find?_eq_none.mpr fun j hj h => hover j hj (beq_iff_eq.mp h)
  have hfault : s.faultUnit u = s := by
    unfold State.faultUnit
    rw [hfind]
    dsimp only
    rw [hnone]
  have hof : s.stagehandOf u = none := by
    unfold State.stagehandOf
    rw [hfind]
    exact hnone
  have hmap : (s.health.handovers.map fun j => if j.sourceFailed && some j.sh == none then { j with stale := bad } else j) = s.health.handovers :=
    (List.map_congr_left fun j _ => if_neg (by cases j.sourceFailed <;> exact Bool.false_ne_true)).trans (List.map_id _)
  rw [hfault, hof, State.copyFinds, State.updHealth, hmap]

/-- A handover that goes through maps its stagehand to the understudy (R576). -/
theorem State.switchOver_map {j : Handover} (h : j.dropped = false) : (s.switchOver j).health.map.look j.sh = some j.unit := by
  have hno : ¬ j.dropped = true := Bool.eq_false_iff.mp h
  have hnote (v : State) (cls e : Nat) (d : Dword) : (v.note cls e none none d).health = v.health := (State.note_kept ..).health
  unfold State.switchOver
  dsimp only
  rw [if_neg hno]
  cases j.test with
  | none => 
    dsimp only
    rw [hnote]
    exact Tbl.look_put_same ..
  | some t =>
    dsimp only [State.beginTest, State.updHealth]
    rw [hnote]
    exact Tbl.look_put_same ..

theorem State.staleStaging_quiet {j : Handover} (u : State) (h : j.sourceFailed = false ∨ j.dropped = true ∨ j.stale = []) : u.staleStaging j = u := by
  unfold State.staleStaging
  split
  · rfl
  · next hgo =>
    rcases h with h | h | h
    · simp [h] at hgo
    · simp [h] at hgo
    · have hnil : ((u.sh.look j.sh).occupants.filter fun c => j.stale.contains c) = [] := List.filter_eq_nil_iff.mpr fun c _ => by simp [h]
      rw [hnil]
      rfl

theorem bitAt_or_ofNat_shiftLeft {w : Nat} (x : BitVec w) {i : Nat} (h : i < w) : bitAt (x ||| BitVec.ofNat w (1 <<< i)) i = true := by
  have hbit : (BitVec.ofNat w (1 <<< i)).getLsbD i = true := by
    rw [BitVec.getLsbD_ofNat, decide_eq_true h, Bool.true_and, Nat.one_shiftLeft, Nat.testBit_two_pow_self]
  rw [bitAt, BitVec.getLsbD_or, hbit, Bool.or_true]

/-- A unit that fails leaves the newest result, and is failed. -/
theorem State.failUnit_last (s : State) (u : UnitId) : (s.failUnit u).health.lastResult = s.health.lastResult := by
  unfold State.failUnit
  split
  · rfl
  · rw [(State.note_kept ..).health]
    rfl

theorem State.failUnit_failed (s : State) {u : UnitId} (hu : u.toNat < 14) : bitAt (s.failUnit u).health.failed u.toNat = true := by
  unfold State.failUnit
  split
  · next h => exact h
  · rw [(State.note_kept ..).health]
    exact bitAt_or_ofNat_shiftLeft _ hu

theorem Health.enlist_fields (h : Health) (u : UnitId) (place : Option Bool) : (h.enlist u place).lastResult = h.lastResult ∧ (h.enlist u place).failed = h.failed := by
  unfold Health.enlist
  (repeat' split) <;> exact ⟨rfl, rfl⟩

theorem State.enterFaulted_health (s : State) (cause : Byte) : (s.enterFaulted cause).health = s.health := by
  obtain ⟨hk⟩ : LongOnly s (s.forAll s.long fun l s => s.finishLong l { status := 0x15, dw3 := 1 } []) :=
    State.forAll_induction (P := LongOnly s) _ (Kept.refl s).longOnly fun l t ht => ht.trans (t.finishLong_longOnly l _ _)
  unfold State.enterFaulted
  dsimp only
  generalize (s.forAll s.long fun l s => s.finishLong l { status := 0x15, dw3 := 1 } []) = v at hk ⊢
  have hdev : ∀ (w : State), (w.enterDev .faulted).health = w.health := fun w => by
    obtain ⟨pw, tr, h⟩ := w.enterDev_eq .faulted
    rw [h]
  have hgo : ∀ (w : State) (p : Prop) [Decidable p], (if p then w.persistTrace 2 else w).health = w.health := fun w p _ => by
    split
    · rfl
    · rfl
  rw [hgo, hdev]
  exact hk.health

theorem State.endUnitTest_fields (s : State) (j : TestJob) (pass : Bool) : (s.endUnitTest j pass).health.lastResult = s.health.lastResult ∧
    (pass = true → (s.endUnitTest j pass).health.failed = s.health.failed) ∧ (pass = false → j.unit.toNat < 14 → bitAt (s.endUnitTest j pass).health.failed j.unit.toNat = true) := by
  obtain ⟨v, hv⟩ : ∃ v, v = (if j.cmd.isNone then s.updHealth fun h => { h with lifeRotTests := satAdd h.lifeRotTests 1 } else s) := ⟨_, rfl⟩
  have hkeep : v.health.lastResult = s.health.lastResult ∧ v.health.failed = s.health.failed := by
    rw [hv]
    split <;> exact ⟨rfl, rfl⟩
  cases pass with
  | true =>
    have hgo : s.endUnitTest j true = if bitAt s.health.failed j.unit.toNat then v else v.updHealth fun h => h.enlist j.unit j.place := by
      rw [hv]
      rfl
    obtain ⟨hlast, hfailed⟩ := v.health.enlist_fields j.unit j.place
    rw [hgo]
    refine ⟨?_, fun _ => ?_, fun h => Bool.noConfusion h⟩
    · split
      · exact hkeep.1
      · exact hlast.trans hkeep.1
    · split
      · exact hkeep.2
      · exact hfailed.trans hkeep.2
  | false =>
    have hgo : (s.endUnitTest j false).health = (v.failUnit j.unit).health := by
      have heq : s.endUnitTest j false = if j.cmd.isNone then (v.failUnit j.unit).healthEvent else v.failUnit j.unit := by
        rw [hv]
        rfl
      rw [heq]
      split
      · exact ((State.raiseSm_reported _ 22).trans (State.raiseHouse_reported _ 6)).kept.health
      · rfl
    rw [hgo]
    exact ⟨(v.failUnit_last _).trans hkeep.1, fun h => Bool.noConfusion h, fun _ hu => v.failUnit_failed hu⟩

theorem State.endOtherTest_last (s : State) (target : Nat) (pass : Bool) (failing : BitVec 12) : (s.endOtherTest target pass failing).health.lastResult = s.health.lastResult := by
  unfold State.endOtherTest
  split
  · rfl
  · split
    · rfl
    · rw [State.enterFaulted_health, (State.raiseAlert_reported _ 3).kept.health]
    · rfl
    · rfl

/-- A test that ends (R570, R573), for the completion of its command `done`. -/
theorem exec_bistTestEnd {target : Byte} {unit : UnitId} {j : TestJob} (seen : Dword) (failing : BitVec 12) (passed : BitVec 14)
    (h : (s.health.tests.find? fun j => j.target == target && j.unit == unit) = some j) :
    let expected := Config.romSignature target unit
    let pass := seen == expected
    let r : BistRecord := { target := target, unit := unit, observed := seen, expected := expected, pass := pass, aborted := false }
    let u := s.updHealth fun h => { h.record r with tests := h.tests.filter fun x => x != j }
    ∃ done : State → State, (∀ v, (done v).health = v.health) ∧ exec (.bistTestEnd target unit seen failing passed) s =
      if target = 0 then .next (u.endFullTest j pass seen expected passed)
      else if target = 1 then .next (done (u.endUnitTest j pass)) else .next ((done u).endOtherTest target.toNat pass failing) := by
  intro expected pass r u
  refine ⟨fun v => match u.bistCommand j with
    | some l => v.finishLong l { status := if pass then 0 else 0x20, dw2 := seen, dw3 := expected } []
    | none => v, fun v => ?_, ?_⟩
  · dsimp only
    split
    · exact (State.finishLong_longOnly ..).kept.health
    · rfl
  · refine Eq.trans (b := execBistTestEnd target unit seen failing passed s) rfl ?_
    unfold execBistTestEnd
    rw [h] <;> rfl

theorem exec_handoverSwitch {j : Handover} (h : (s.health.handovers.find? fun j => due (j.start + BitVec.ofNat 64 handoverTicks) s.coreEdge) = some j) (hb : s.belowHush = false) :
    exec .handoverSwitch s = .next (((s.switchOver j).staleStaging j).go (s.servedBy j.sh)) := by
  refine Eq.trans (b := execHandoverSwitch s) rfl ?_
  unfold execHandoverSwitch
  rw [h]
  exact if_neg (Bool.eq_false_iff.mp hb)

end

/-- Settles O56: each event by the equation of its command. -/
theorem memoryCareAndUnits : Obligations.MemoryCareAndUnits := by
  intro s
  refine ⟨fun dc line ecc => ⟨fun h => ?_, fun hb hsr hline => ?_⟩, fun fifo word ecc => ?_, fun found => ⟨fun h => ?_, fun h => ?_⟩, fun j l hj hl htag hknown => ?_,
    fun found => ⟨scrubNowDone_ends found, retirementSwitch_ends found⟩, fun j l hj hl => ?_, ?_, fun rank late => ?_, fun hot n hn => ?_, fun h => ?_, fun u hen hwin hst hb hdue hnext => ?_,
    fun f hf => Eq.trans (b := execInServiceFault f s) rfl (if_pos hf), fun f hf => ?_, ?_, fun target unit seen failing passed => ?_⟩
  · exact Eq.trans (b := execDramScrubRead dc line ecc s) rfl (if_pos h)
  · intro u g
    have hno : ¬ (s.belowHush = true ∨ s.dram.selfRefresh = true ∨ s.dramCapacity dc ≤ line.toNat * 64) := by
      rw [hb, hsr]
      rintro (h | h | h)
      · exact Bool.noConfusion h
      · exact Bool.noConfusion h
      · omega
    refine ⟨exec_dramScrubRead hno (u := u) (by simp only [u] <;> cases s.lineAt dc (line.toNat * 64) <;> rfl), fun hclean => ?_, fun hmore => u.countPass_guard g hmore⟩
    simp only [u, hclean, State.scrubLine_clean]
    cases s.lineAt dc (line.toNat * 64) <;> rfl
  · intro w out
    have hexec : exec (.sramScrub fifo word ecc) s = if s.belowHush = true ∨ (if fifo then fifoWords else wingWords + bankWords) ≤ w then .next s
        else if fifo then .next (s.scrubWord true (8 * w) ecc true).countWord
        else match s.wingAt w with
          | some off => .next (s.scrubWord false off ecc true).countWord
          | none => .next s.countWord := rfl
    have hout : out ↔ (if fifo then fifoWords else wingWords + bankWords) ≤ w := by
      cases fifo
      · exact Iff.rfl
      · exact Iff.rfl
    refine ⟨fun h => hexec.trans (if_pos (h.imp_right hout.mp)), fun hb hin => ?_⟩
    have hgo := hexec.trans (if_neg fun h => h.elim (fun h => Bool.noConfusion (hb.symm.trans h)) fun h => hin (hout.mpr h))
    refine ⟨fun hf => hgo.trans (if_pos hf), fun off hf hat => ⟨?_, fun hclean hgood => ?_⟩, fun hf hat => ?_, State.countWord_more⟩
    · rw [hgo, if_neg (Bool.eq_false_iff.mp hf), hat]
    · rw [hclean]
      exact State.scrubWord_clean hgood
    · rw [hgo, if_neg (Bool.eq_false_iff.mp hf), hat]
  · refine Eq.trans (b := execScrubNowDone found s) rfl ?_
    unfold execScrubNowDone
    rw [h]
  · refine Eq.trans (b := execRetirementSwitch found s) rfl ?_
    unfold execRetirementSwitch
    rw [h]
  · have hgo := exec_scrubNowDone [] hj
    rw [hgo, hl]
    simp only [List.filter_nil, List.nil_append, List.map_nil, if_pos htag, hknown]
    rw [if_neg (by omega : ¬ tagOf j.first = 1)]
    rfl
  · intro u
    refine ⟨?_, State.remap_fields _ j⟩
    rw [exec_retirementSwitch [] hj, hl]
    rfl
  · obtain ⟨hnone, hmem, hchans⟩ := summarised_fields s.guard.unsummarised { s with guard := { s.guard with unsummarised := [] } }
    refine ⟨_, rfl, hnone, hmem, hchans, fun h => ?_⟩
    rw [h]
    show { s with guard := { s.guard with unsummarised := [] } } = s
    rw [← h]
  · intro present
    have hexec : exec (.refresh rank late) s = if s.dram.selfRefresh = true ∨ present = false then .next s
      else if late && decide (s.dram.postponed.look rank < 8) then .next { s with dram := { s.dram with postponed := s.dram.postponed.put rank (s.dram.postponed.look rank + 1) } }
      else .next { s with dram := { s.dram with postponed := s.dram.postponed.put rank 0 } } := rfl
    refine ⟨fun h => hexec.trans (if_pos h), fun hsr hp => ?_⟩
    intro k
    rw [hexec, if_neg (by rw [hsr, hp]; decide)]
    by_cases h : late = true ∧ k < 8
    · rw [if_pos h, if_pos (by rw [h.1, decide_eq_true h.2]; rfl)]
    · rw [if_neg h, if_neg (by simpa using h)]
  · have hmask : n = hot &&& BitVec.ofNat 4 (flag (s.rankPresent false false) + 2 * flag (s.rankPresent false true) + 4 * flag (s.rankPresent true false) + 8 * flag (s.rankPresent true true)) := by
      refine BitVec.eq_of_getLsbD_eq fun i hi => ?_
      have hr : (BitVec.ofNat 2 i).toNat = i := by
        rw [BitVec.toNat_ofNat]
        omega
      have hpres := presentMask_bits (s.rankPresent false false) (s.rankPresent false true) (s.rankPresent true false) (s.rankPresent true true) (BitVec.ofNat 2 i)
      have hbit := hn (BitVec.ofNat 2 i)
      rw [hr] at hpres hbit
      rw [BitVec.getLsbD_and]
      refine hbit.trans (congrArg (bitAt hot i && ·) (Eq.trans ?_ hpres.symm))
      cases bitAt (BitVec.ofNat 2 i) 1 <;> cases bitAt (BitVec.ofNat 2 i) 0 <;> rfl
    refine ⟨fun h => Eq.trans (b := execDramTemperaturePoll hot s) rfl (if_pos h), fun h => ?_⟩
    intro u
    refine Eq.trans (b := execDramTemperaturePoll hot s) rfl ((if_neg (Bool.eq_false_iff.mp h)).trans ?_)
    dsimp only
    rw [← hmask]
  · refine Eq.trans (b := execRotatingTest s) rfl (if_neg fun hand => ?_)
    simp only [Bool.and_eq_true, Bool.or_eq_true, beq_iff_eq, Bool.not_eq_true'] at hand
    obtain ⟨⟨⟨⟨hen, hserve⟩, hb⟩, -⟩, -⟩ := hand
    rcases h with h | h | ⟨h1, h2⟩
    · exact Bool.noConfusion (h.symm.trans hen)
    · exact Bool.noConfusion (h.symm.trans hb)
    · exact hserve.elim h1 h2
  · have hexec : exec .rotatingTest s = .next (s.rotate u) := by
      refine Eq.trans (b := execRotatingTest s) rfl ?_
      simp [execRotatingTest, State.rotWindow, hen, hwin, hst, hb, hdue, hnext]
    refine ⟨fun h => ?_, fun h _ => hexec⟩
    rw [hexec, State.rotate, h]
    rfl
  · have hexec : exec (.inServiceFault f) s = .next (((s.faultUnit f.unit).copyFinds (s.stagehandOf f.unit) f.stale).go allChans) :=
      Eq.trans (b := execInServiceFault f s) rfl (if_neg (Nat.not_le.mpr hf))
    refine ⟨hexec, fun hnone hover => ?_⟩
    rw [hexec, State.faultUnit_idle hnone hover]
  · intro jo
    refine ⟨fun h => ?_, fun j hj hb => ⟨exec_handoverSwitch hj hb, State.staleStaging_quiet _, State.switchOver_map⟩⟩
    refine Eq.trans (b := execHandoverSwitch s) rfl ?_
    unfold execHandoverSwitch
    cases hjo : s.health.handovers.find? fun j => due (j.start + BitVec.ofNat 64 handoverTicks) s.coreEdge with
    | none => rfl
    | some j => exact if_pos (h.resolve_left fun hn => Option.some_ne_none _ (hjo.symm.trans hn))
  · intro jo
    refine ⟨fun h => ?_, fun j hj => ?_⟩
    · refine Eq.trans (b := execBistTestEnd target unit seen failing passed s) rfl ?_
      unfold execBistTestEnd
      rw [show (s.health.tests.find? fun j => j.target == target && j.unit == unit) = none from h]
    · obtain ⟨done, hdone, hexec⟩ := exec_bistTestEnd seen failing passed hj
      have hj' := List.find?_some hj
      have hunit : j.unit = unit := beq_iff_eq.mp (Bool.and_eq_true_iff.mp hj').2
      subst hunit
      by_cases h0 : target = 0
      · exact ⟨_, hexec.trans (if_pos h0), fun h => absurd h0 h, fun h => absurd (h0.symm.trans h) (by decide), fun h => absurd (h0.symm.trans h) (by decide)⟩
      · by_cases h1 : target = 1
        · refine ⟨_, hexec.trans ((if_neg h0).trans (if_pos h1)), ?_⟩
          rw [hdone]
          obtain ⟨hlast, hpass, hfail⟩ := State.endUnitTest_fields (s.updHealth fun h => { h.record { target := target, unit := j.unit, observed := seen, expected := Config.romSignature target j.unit, pass := seen == Config.romSignature target j.unit, aborted := false } with tests := h.tests.filter fun x => x != j }) j (seen == Config.romSignature target j.unit)
          refine ⟨fun _ => hlast, fun _ hu hne => hfail (beq_eq_false_iff_ne.mpr hne) hu, fun _ heq => hpass (beq_iff_eq.mpr heq)⟩
        · refine ⟨_, hexec.trans ((if_neg h0).trans (if_neg h1)), fun _ => ?_, fun h => absurd h h1, fun h => absurd h h1⟩
          rw [State.endOtherTest_last, hdone]
          rfl

end Sys2Proof.Machine
end

section
/-! PROOF. TRACE_EXPORT and the JTAG port (O57). -/

namespace Sys2Proof.Machine

section
variable {s : State}

/-- A frame is its sequence number, a record and their CRC (R805). -/
theorem frameBytes_length (seq : Nat) (r : TraceRecord) : (frameBytes seq r).length = 20 := by
  have hrecord : r.bytes.length = 16 := dwordBytes_length _
  unfold frameBytes
  dsimp only
  rw [List.length_append, List.length_append, leBytes_length, leBytes_length, hrecord]

theorem exec_traceExport (hex : s.exports = true) (hb : s.belowHush = false) : exec .traceExport s = .next s.flushTrace.exportOne :=
  Eq.trans (b := execTraceExport s) rfl (if_pos ⟨hex, hb⟩)

theorem State.exportOne_none (h : s.trace.ring.length ≤ max s.trace.exported s.trace.oldest - s.trace.oldest) : s.exportOne = s := by
  unfold State.exportOne
  dsimp only
  rw [List.getElem?_eq_none h]

theorem State.exportOne_some {r : TraceRecord} (h : s.trace.ring[max s.trace.exported s.trace.oldest - s.trace.oldest]? = some r) :
    s.exportOne = ({ s with trace := { s.trace with exported := max s.trace.exported s.trace.oldest + 1 } } : State).emit
      (.traceFrame (frameBytes (max s.trace.exported s.trace.oldest) r)) := by
  unfold State.exportOne
  dsimp only
  rw [h]

/-- A boundary cell has the level of its pin (R812). -/
theorem State.boundary_bit (s : State) {p : PinId} (hp : p.toNat < 48) : s.boundary.getLsbD p.toNat = s.ballLevel p := by
  have hbit : (pinWord fun p => s.ballLevel p).getLsbD p.toNat = s.ballLevel p := pinWord_bit _ hp
  rw [State.boundary, BitVec.getLsbD_setWidth, hbit, decide_eq_true hp, Bool.true_and]

end

/-- Settles O57: each command by its equation, the frame by the record it holds, the boundary pin by pin. -/
theorem traceExportAndJtag : Obligations.TraceExportAndJtag := by
  intro s
  refine ⟨fun h => ?_, fun hex hb => ?_, ⟨rfl, rfl, rfl, rfl, rfl⟩, rfl, ⟨_, rfl, rfl, rfl, fun p hp => s.boundary_bit hp⟩, fun p => ⟨rfl, rfl⟩, rfl, rfl⟩
  · refine Eq.trans (b := execTraceExport s) rfl (if_neg fun ⟨hex, hb⟩ => ?_)
    rcases h with h | h
    · exact Bool.noConfusion (h.symm.trans hex)
    · exact Bool.noConfusion (hb.symm.trans h)
  · intro u next
    have hexec := exec_traceExport hex hb
    exact ⟨fun h => hexec.trans (congrArg Host.Outcome.next (State.exportOne_none h)),
      fun r hr => ⟨hexec.trans (congrArg Host.Outcome.next (State.exportOne_some hr)), frameBytes_length next r⟩⟩

end Sys2Proof.Machine
end
